-- ==== Sys2Proof/Word.lean ====
section
/-!
DEFINITION. The machine word, the plain association lists that hold sparse memories, and the
named bit field of a register.
-/

namespace Sys2Proof

/-- A register or memory word: registers are 32 bits wide (R9). -/
abbrev Word := BitVec 32

/-- A sparse store: pairs of a key and a value, keys strictly rising. -/
abbrev Store (α : Type) := List (Nat × α)

/-- A sparse word memory: an address that is not listed reads zero, and no listed word is zero. -/
abbrev WordMap := Store Word

/-- A bit field of a word: the word's address, the field's least significant bit and its width. -/
structure Field where
  addr : Nat
  lo : Nat
  width : Nat
  deriving DecidableEq, Repr

end Sys2Proof
end

