-- ==== Sys2Proof/Config.lean ====
section
/-!
DEFINITION. What an implementation fixes and the spec leaves open. Each constant is opaque:
nothing can evaluate it, so no statement can rest on a value of it.
-/

namespace Sys2Proof.Config

/-- The n-th value that the machine draws where the spec says a value is random or leaves it open
(`SAF_NONCE`, R410; session tokens, R425; results the spec does not state). Log entry 5. -/
opaque freeWord : Nat → Word

/-- Whether a quotient that is not whole, of a numerator and a denominator, is taken up to the next whole
number where the spec gives a formula and no rounding. Log entry 9. -/
opaque roundsUp : Int → Int → Bool

/-- The quotient of a number by zero, where the spec's formula divides by a measured zero. Log entry 9. -/
opaque overZero : Int → Int

/-- Device identity held in fuses (`SAF_DEVID_LO`, `SAF_DEVID_HI`, R413). Log entry 6. -/
opaque deviceId : BitVec 64

/-- USB vendor and product identifiers held in fuses (`SVC_USB_ID`, R355). Log entry 6. -/
opaque usbId : Word

/-- SHA-256 of the first bytes of a list of words, most significant byte first (R421 to R423, R410), and the ECDSA P-256
check of a signature on a hash with a key (R423, R410): standard functions that the model leaves uninterpreted.
Log entry 42. -/
opaque sha256 : List Word → Nat → BitVec 256
opaque ecdsaValid : List Word → BitVec 256 → List Word → Bool

/-- The fused hash of the public key (R423). Log entry 6. -/
opaque keyHash : BitVec 256

/-- The image and the public key that the device was shipped with (R418): word i of the bank, and the 16 words of the key record.
Log entry 41. -/
opaque shippedWord : Nat → Word
opaque shippedKey : List Word

/-- Spare rows of the Beam at manufacture (`BEM_STATUS`). Log entry 6. -/
opaque spareRows : Nat

/-- The `RESET_N` filter threshold of the part, which lies between 200 ns and 1 us (R399). Log entry 43. -/
opaque resetFilter : Nat

end Sys2Proof.Config
end

