-- ==== Sys2Proof/Syntax.lean ====
section
/-!
DEFINITION. The commands of the block: the one inductive `Instr`, one constructor for each row of
spec/opcode_table.json, with the operands a command brings. A command comes from outside: a bus
access, a frame, a pin edge, an analog condition that has held, a tick, or the instruction that a
shuttle has fetched. Measured values are carried in the codes of R7.
-/

namespace Sys2Proof

/-- Masters M0 (SPI host), M1 (I2C host), M2 (service tool), M3 (twin), M4 (internal), glossary of 00_scope.md. -/
abbrev Master := Fin 5

/-- A Loom context, 0 to 127 (R229). -/
abbrev CtxId := Fin 128

/-- A register `g0` to `g15` of a context (R254). -/
abbrev Reg := Fin 16

/-- A phase cell, 0 to 17. -/
abbrev Cell := Fin 18

/-- The second operand Y of format A (R255). -/
inductive Operand where
  | reg (b : Reg)
  | imm (v : BitVec 17)
  deriving DecidableEq, Repr

/-- The conditions of BRC (R262), codes 0 to 5. -/
inductive Cond where
  | eq | ne | lt | ge | ltu | geu
  deriving DecidableEq, Repr

/-- Selectors of SETV (R264), D = 0 to 3. -/
inductive SetvSel where
  | rail | cv | backup | vbus
  deriving DecidableEq, Repr

/-- Selectors of SETI (R264), D = 0 to 2. -/
inductive SetiSel where
  | cc | trickle | vbusI
  deriving DecidableEq, Repr

/-- Selectors of LIMIT (R264), D = 0 to 3. -/
inductive LimitSel where
  | imax | chgMax | disMax | wmax
  deriving DecidableEq, Repr

/-- Selectors of ENABLE (R264), D = 0 to 8. -/
inductive EnableSel where
  | trk | chg | chb | holdup | port | shave | weft | act | rev
  deriving DecidableEq, Repr

/-- The converter blocks (R17): trunk cells 0 to 9, charge cells 10 to 15, port cells 16 and 17. -/
inductive Block where
  | trk | chb | prt
  deriving DecidableEq, Repr

/-- The regions (R17). -/
inductive Region where
  | north | south | control | interface
  deriving DecidableEq, Repr

/-- The sources of the rail (R54); the code is that of `SRC_STATUS`. -/
inductive Source where
  | trk | byp | vbus | pack
  deriving DecidableEq, Repr

/-- Kinds of power data object that the port supports (R324). -/
inductive PdoKind where
  | fixed | pps | epr
  deriving DecidableEq, Repr

/-- A power data object: its object position, highest voltage in 10 mV and current in 10 mA (R336, R338). -/
structure Pdo where
  kind : PdoKind
  pos : Nat
  volt : Nat
  curr : Nat
  deriving DecidableEq, Repr

/-- What a cell's tracking converter gave over 10 us (R213): average and sample of largest magnitude in 10 mA, mean square in
(10 mA)^2, and the higher node voltage of its block in 10 mV. -/
structure CellSample where
  cell : Fin 18
  avg : Int
  peak : Int
  sq : Nat
  vhi : Nat
  deriving DecidableEq, Repr

/-! ### Orders -/

/-- A merge target (R235, R468). `field id f` is the register field `f` reported under target `id`. -/
inductive Target where
  /-- 0x01, rail voltage and rate. -/
  | rail
  /-- One register field, with its target identifier. -/
  | field (id : Nat) (f : Field)
  /-- 0x13, the port contract point. -/
  | contract
  /-- 0x20 to 0x27, the shed state of one class. -/
  | shed (k : Nat)
  deriving DecidableEq, Repr

/-- Where an order came from; the rank of R236 for ties. -/
inductive Origin where
  | ctx (c : Nat)
  | reg
  | pick (slot : Nat)
  | policy
  deriving DecidableEq, Repr

/-- An order waiting for its decision tick, or the rail order whose slew runs (R235, R258). -/
structure Order where
  target : Target
  master : Nat
  /-- The ordered value; for the rail the voltage in 10 mV, for a shed target 1 shed, 0 restore. -/
  val : Int
  /-- The second part: rail rate in 0.1 V/ms, or the current of a contract. -/
  aux : Int := 0
  /-- Marked CLAMPED (R258). -/
  clamped : Bool := false
  origin : Origin := .reg
  /-- `SYSTIME` of arrival. -/
  at_ : Nat := 0
  /-- Decision tick it enters (R33). -/
  tick : Nat := 0
  /-- Number of the commit that released it; 0 for none (R238). -/
  group : Nat := 0
  /-- It arrived at the twin of role B (R367). -/
  fromB : Bool := false
  /-- Operation slot a rail order holds (R259). -/
  slot : Option Nat := none
  /-- Acceptance number of the job that made it; 0 for none. -/
  job : Nat := 0
  deriving DecidableEq, Repr

/-- A job record (R279 to R290). -/
structure Job where
  /-- State code of R283. -/
  state : Nat := 0
  jobId : Word := 0
  entry : Nat := 0
  ctx : Nat := 0
  args : List Word := []
  noAck : Bool := false
  progOut : Bool := false
  asn : Nat := 0
  /-- Cause code of R285. -/
  cause : Nat := 0
  reads : Nat := 0
  progress : Nat := 0
  seq : Nat := 0
  result : List Word := []
  /-- Started by a PICK event (R233). -/
  picked : Bool := false
  /-- The acceptance record is committed locally; the peer has confirmed its copy (R280). -/
  committed : Bool := false
  confirmed : Bool := false
  /-- Accepted on the peer, which posts its END entry (R376). -/
  foreign : Bool := false
  /-- Net charge at the start, for `charge_run` (R471). -/
  chargeAtStart : Int := 0
  deriving DecidableEq, Repr

/-- What a commit record of a context holds (R244, R246). -/
structure Commit where
  words : WordMap := []
  orders : List Order := []
  held : List Order := []
  dm : WordMap := []
  idle : Bool := false
  committed : Bool := false
  entry : Nat := 0
  args : List Word := []
  job : Option (Nat × Nat) := none
  /-- The context's armed pick slots: slot and its four words (R378, R383). -/
  picks : List (Nat × Word × Word × Word × Word) := []
  deriving DecidableEq, Repr

/-! ### Frames of the Selvedge link (R358, R359) -/

/-- What every frame carries: whether it passes the checks of R358, its SEQ, ACK and NAK. -/
structure FrameHdr where
  valid : Bool
  seq : BitVec 16
  ack : BitVec 16
  nak : Bool
  deriving DecidableEq, Repr

/-- HEARTBEAT (R361, R364): the echoed stamps t1 and t2, the send time t3, the reports, and the sources qualified on
the sender. Stamps are `SYSTIME` values. -/
structure Heartbeat where
  t1 : Nat
  t2 : Nat
  t3 : Nat
  pairState : Nat
  service : Nat
  chip : Bool
  region : Nat
  curr : Int
  cap : Nat
  weight : Nat
  intended : Nat
  intendedTick : Nat
  jsnHeld : Nat
  quals : Nat
  deriving DecidableEq, Repr

/-- HELLO (R363). -/
structure Hello where
  roleB : Bool
  feat : Word
  proto : Nat
  fwver : Nat
  pairId : Word
  mode : Nat
  epoch : Nat
  jsnOwn : Nat
  jsnPeer : Nat
  deriving DecidableEq, Repr

/-- One Beam record of a pair-wide resource (R373): a job record, its release, a context's record or its end, a word or a
lock of program memory. -/
inductive BeamRecord where
  | job (m r : Nat) (j : Job)
  | release (m r : Nat)
  | commit (c : Nat) (x : Commit)
  | free (c : Nat)
  | pmWord (i : Nat) (w : Word)
  | pmLock (page : Nat) (on : Bool)
  deriving DecidableEq, Repr

/-- What an ORDER frame carries: an order on a pair-wide target, or a write of `SEL_CTRL` that both twins apply at one
tick (R367, R387). -/
inductive PairWrite where
  | order (o : Order)
  | mode (tick : Nat) (data : Word)
  deriving DecidableEq, Repr

/-- What a HANDOVER frame carries (R383, R384). -/
inductive HandoverItem where
  | ready
  | context (c : Nat) (x : Commit)
  | job (m r : Nat) (j : Job)
  | track (t : Nat) (cfg : Word) (angle num den at_ : Nat)
  | last (contexts picks : Nat) (update : Bool)
  | done (matched : Nat)
  deriving DecidableEq, Repr

/-- What an UPDATE frame carries (R427): the start of a push with the image size, one block of 4,096 bytes, the end, and
the answer of the peer. -/
inductive UpdateItem where
  | start (size : Nat)
  | block (n : Nat) (words : List Word)
  | finish
  | answer (ok : Bool)
  deriving DecidableEq, Repr

/-- A frame (R359). -/
inductive Frame where
  | heartbeat (h : Heartbeat)
  | hello (h : Hello)
  | notice (cause kind : Nat)
  | resetReq (pairId : Word)
  | order (w : PairWrite)
  | stamp (t angle at_ : Nat)
  | commitAck (jsn : Nat) (refused : Bool)
  | mirror (jsn : Nat) (r : BeamRecord)
  | state (m r : Nat) (j : Job)
  | submit (words : List Word)
  | resync (jsn : Nat) (r : BeamRecord) (left : Nat)
  | handover (i : HandoverItem)
  | update (i : UpdateItem)
  deriving DecidableEq, Repr


/-- The word in which an uncorrectable error was found (R35): data memory read by a context, a context record, a page of program
memory, a pick slot, a weft table, a job record, the management SRAM, a Beam record, or a flash bank (0 ACTIVE, 1 STAGING, 2 FALLBACK), read
by a verification or fetched by the management core. -/
inductive EccSite where
  | dataMem (c : CtxId)
  | context (c : CtxId)
  | program (page : Fin 64)
  | pick (slot : BitVec 8)
  | weft (t : Fin 16)
  | job (m : Master) (r : Fin 32)
  | management
  | beamJob (m : Master) (r : Fin 32)
  | beamContext (c : CtxId)
  | beamOther
  | flash (bank : Fin 3)
  | fetch
  deriving DecidableEq, Repr


/-- What a decision tick brings that commands do not: the VSEL pins, whether the merge completed in its tick, and what the units measure
once per tick. Currents are in 10 mA and voltages in 10 mV unless said otherwise. -/
structure TickIn where
  /-- `VSEL2` to `VSEL0` (R117). -/
  vsel : Fin 8
  /-- The merge completes within the tick (R22). -/
  inTime : Bool
  /-- Step of the trunk's droop in uV (R115). -/
  droop : Nat
  /-- Input current that the trunk needs to carry the rail load (R27). -/
  need : Nat
  /-- Measured efficiencies of the trunk and of the charge block, 2^-16 (R70, R77). -/
  effTrk : Nat
  effChb : Nat
  /-- 1 ms averages of the input and pack voltages (R193). -/
  kIn : Nat
  kPack : Nat
  /-- Pack current averaged over 1 s, mA (R153). -/
  i1s : Int
  /-- Pack, `VBUS` and reverse power, mW (R234). -/
  pPack : Nat
  pBus : Nat
  pRev : Nat
  /-- `VBUS` and the port current, positive toward `VBUS` (`PRT_MEAS`). -/
  vbus : Nat
  ibus : Int
  deriving DecidableEq, Repr
/-- The commands, one constructor per row of spec/opcode_table.json, in its order. -/
inductive Instr where
  /-- REGISTER_WRITE (R10). -/
  | registerWrite (m : Master) (a : Nat) (data : Word)
  /-- LOW_WORD_READ (R13). -/
  | lowWordRead (m : Master) (a : Nat)
  /-- DECISION_TICK (R236). -/
  | decisionTick (x : TickIn)
  /-- PORT_WATCHDOG_EXPIRY (R346). -/
  | portWatchdogExpiry
  /-- SHUTTLE_STALL (R228). -/
  | shuttleStall (sh : Fin 8)
  /-- REGULATION_LOSS (R21). -/
  | regulationLoss (b : Block) (v : Int)
  /-- REGION_SAFE_TIMEOUT (R21). -/
  | regionSafeTimeout (r : Region)
  /-- CHIP_SAFE_RESET (R395). -/
  | chipSafeReset
  /-- CLOCK_FAULT (R30). -/
  | clockFault
  /-- BEAM_COMMIT_FAILURE (R22). -/
  | beamCommitFailure
  /-- INTERFACE_TEST_RECORD (R22). -/
  | interfaceTestRecord (ok : Bool)
  /-- MEMORY_UNCORRECTABLE (R35). -/
  | memoryUncorrectable (site : EccSite)
  /-- VIO_LOW (R49). -/
  | vioLow
  /-- VIO_RECOVER (R49). -/
  | vioRecover
  /-- STRAP_COMPARE (R47). -/
  | strapCompare (live : BitVec 5)
  /-- SOURCE_QUALIFIED (R58). -/
  | sourceQualified (src : Source) (v : Nat)
  /-- SRC_MEASURE (R64). -/
  | srcMeasure (v48 : Nat) (i48 : Int) (v12 : Nat) (i12 : Int)
  /-- XFER_PREP_DONE (R60). -/
  | xferPrepDone (rail : Nat)
  /-- XFER_OVERLAP_DONE (R60). -/
  | xferOverlapDone
  /-- XFER_RELEASE_DONE (R60). -/
  | xferReleaseDone
  /-- XFER_ABANDON (R61). -/
  | xferAbandon (rail : Nat)
  /-- XFER_RETRY (R61). -/
  | xferRetry
  /-- HOLDUP_TRANSFER (R63). -/
  | holdupTransfer (v : Nat)
  /-- BYPASS_OVERCURRENT (R63). -/
  | bypassOvercurrent (cur : Nat)
  /-- BACKFEED_TURN_OFF (R56). -/
  | backfeedTurnOff (net12 : Bool) (cur : Int)
  /-- SEARCH_INITIAL (R68). -/
  | searchInitial
  /-- SEARCH_PERIOD (R68). -/
  | searchPeriod
  /-- SEARCH_EVT_SETTLE (R68). -/
  | searchEvtSettle
  /-- START_SEARCH (R68). -/
  | startSearch (m : Master)
  /-- SEARCH_PENDING_RUN (R68). -/
  | searchPendingRun
  /-- SEARCH_STEP (R66). -/
  | searchStep (v cur : Nat)
  /-- SEARCH_COLLAPSE (R66). -/
  | searchCollapse (v : Nat)
  /-- CEILING_DROP (R72). -/
  | ceilingDrop (v cur : Nat)
  /-- KEEPALIVE_GOOD (R73). -/
  | keepaliveGood (inputs : BitVec 5)
  /-- BROWN_OUT (R74). -/
  | brownOut
  /-- IN48_UV_STOP (R75). -/
  | in48UvStop (v : Nat)
  /-- IN48_UV_RELEASE (R75). -/
  | in48UvRelease (v : Nat)
  /-- IN48_OV_LOCKOUT (R75). -/
  | in48OvLockout (v : Nat)
  /-- IN48_OV_RELEASE (R75). -/
  | in48OvRelease (v : Nat)
  /-- IN12_UV_LOCKOUT (R76). -/
  | in12UvLockout (v : Nat)
  /-- IN12_UV_RELEASE (R76). -/
  | in12UvRelease (v : Nat)
  /-- IN12_OV_LOCKOUT (R76). -/
  | in12OvLockout (v : Nat)
  /-- IN12_OV_RELEASE (R76). -/
  | in12OvRelease (v : Nat)
  /-- REVERSE_PRECHARGE (R80). -/
  | reversePrecharge (m : Master)
  /-- REVERSE_SUPPORT (R81). -/
  | reverseSupport (m : Master)
  /-- REVERSE_OFF (R81). -/
  | reverseOff (m : Master)
  /-- PRECHARGE_TARGET_REACHED (R80). -/
  | prechargeTargetReached (v : Nat)
  /-- PRECHARGE_TIMEOUT (R80). -/
  | prechargeTimeout
  /-- PRECHARGE_SHORT_CHECK (R80). -/
  | prechargeShortCheck (v : Nat)
  /-- PRECHARGE_NET_CONNECTED (R80). -/
  | prechargeNetConnected (v : Nat)
  /-- LOOP_COMPARATOR_FIRE (R92). -/
  | loopComparatorFire (b : Block) (vfb iac : Int) (vi vo boot : Nat)
  /-- ON_TIME_END (R93). -/
  | onTimeEnd (cell : Cell)
  /-- FREQ_LOOP_UPDATE (R94). -/
  | freqLoopUpdate (cell : Cell) (fmeas : Nat)
  /-- CBC_LIMIT (R96). -/
  | cbcLimit (cell : Cell) (cur : Int)
  /-- ZERO_CROSS_DETECT (R91). -/
  | zeroCrossDetect (cell : Cell) (cur : Int)
  /-- TRUNCATION (R97). -/
  | truncation (b : Block) (vfb : Int)
  /-- TRUNCATION_RELEASE (R97). -/
  | truncationRelease (b : Block) (vfb : Int)
  /-- BURST_ENTRY (R98). -/
  | burstEntry (b : Block) (avg : Int)
  /-- BURST_PACKET (R98). -/
  | burstPacket (b : Block) (vfb : Int)
  /-- BURST_EXIT (R99). -/
  | burstExit (b : Block) (vfb avg8 : Int)
  /-- SYNC_QUALIFY (R100). -/
  | syncQualify (f : Nat)
  /-- SYNC_GLIDE_STEP (R100). -/
  | syncGlideStep
  /-- SYNC_LOCK (R100). -/
  | syncLock
  /-- SYNC_LOSS (R101). -/
  | syncLoss
  /-- CELL_FAULT_ISOLATE (R106). -/
  | cellFaultIsolate (cell : Cell) (hs ls sense opened : Bool)
  /-- GATE_DRIVE_CHECK (R109). -/
  | gateDriveCheck
  /-- GATE_DRIVE_LIMIT (R109). -/
  | gateDriveLimit
  /-- ACTIVE_SET_WRITE (R112). -/
  | activeSetWrite (m : Master) (b : Block) (data : Word)
  /-- OVERLOAD_BUDGET_EXHAUSTED (R114). -/
  | overloadBudgetExhausted (b : Block)
  /-- CURRENT_LIMIT_EXCEEDED (R115). -/
  | currentLimitExceeded (b : Block)
  /-- CURRENT_LIMIT_RELEASE (R115). -/
  | currentLimitRelease (b : Block)
  /-- DROOP_TIMEOUT (R115). -/
  | droopTimeout
  /-- TRK_CMD (R116). -/
  | trkCmd (m : Master) (volt rate : BitVec 16)
  /-- BALANCE_UPDATE (R120). -/
  | balanceUpdate (b : Block)
  /-- PHASE_SHED (R122). -/
  | phaseShed (b : Block)
  /-- SUBSTITUTION_START (R124). -/
  | substitutionStart (b : Block)
  /-- REENTRY_DONE (R125). -/
  | reentryDone (b : Block)
  /-- REENTRY_ABORT (R126). -/
  | reentryAbort (b : Block) (vfb : Int)
  /-- REENTRY_RETRY (R126). -/
  | reentryRetry (b : Block)
  /-- SHARE_OUT_DONE (R131). -/
  | shareOutDone (b : Block)
  /-- CROWBAR_FIRE (R135). -/
  | crowbarFire (rail : Nat)
  /-- CROWBAR_CAUSE_GONE (R136). -/
  | crowbarCauseGone (rail : Nat)
  /-- CV_LOOP_UPDATE (R142). -/
  | cvLoopUpdate (vpack : Nat)
  /-- PACK_NODE_READY (R144). -/
  | packNodeReady (vnode vpack : Nat)
  /-- PACK_NODE_TIMEOUT (R144). -/
  | packNodeTimeout
  /-- QUALIFY_RETRY (R144). -/
  | qualifyRetry
  /-- HEADROOM_PAUSE (R145). -/
  | headroomPause (vpack rail : Nat)
  /-- HEADROOM_RESUME (R145). -/
  | headroomResume (vpack rail : Nat)
  /-- HEADROOM_DISCONNECT (R145). -/
  | headroomDisconnect (vpack rail : Nat)
  /-- HEADROOM_RECONNECT (R145). -/
  | headroomReconnect (vpack rail : Nat)
  /-- CHEM_WRITE (R147). -/
  | chemWrite (m : Master) (chem : BitVec 3)
  /-- CHG_ARM (R148). -/
  | chgArm (m : Master)
  /-- QUALIFY_COMPLETE (R148). -/
  | qualifyComplete
  /-- TRICKLE_DONE (R148). -/
  | trickleDone
  /-- CHG_PRECHARGE_DONE (R148). -/
  | chgPrechargeDone
  /-- CV_ENTRY (R148). -/
  | cvEntry (vpack : Nat)
  /-- CV_HOLD_ENTRY (R148). -/
  | cvHoldEntry (vpack : Nat)
  /-- CHG_TERMINATION (R149). -/
  | chgTermination (v16 peak : Nat) (dtdt : Int)
  /-- CHG_RECHARGE (R148). -/
  | chgRecharge
  /-- CHG_PAUSE (R148). -/
  | chgPause
  /-- CHG_RESUME (R148). -/
  | chgResume
  /-- PACK_OVERVOLTAGE (R148). -/
  | packOvervoltage (vpack : Nat)
  /-- JEITA_ZONE_CHANGE (R150). -/
  | jeitaZoneChange
  /-- SAFETY_TIMER_EXPIRY (R154). -/
  | safetyTimerExpiry
  /-- CHG_WDG_KICK (R155). -/
  | chgWdgKick (m : Master) (data : Word)
  /-- CHG_WDG_EXPIRY (R156). -/
  | chgWdgExpiry
  /-- CHG_WDG_EXP_CLEAR (R157). -/
  | chgWdgExpClear (m : Master)
  /-- PACK_REMOVAL (R159). -/
  | packRemoval
  /-- PACK_INSERTED (R160). -/
  | packInserted
  /-- ANG_EDGE (R173). -/
  | angEdge (pin : Fin 8) (rising : Bool) (sub : Fin 4) (held : Nat)
  /-- TRACK_TIMEOUT (R176). -/
  | trackTimeout (t : Fin 16)
  /-- FLYWHEEL_END (R176). -/
  | flywheelEnd (t : Fin 16)
  /-- WRP_STAMP_TIME_WRITE (R177). -/
  | wrpStampTimeWrite (m : Master) (data : Word)
  /-- WRP_STAMP (R177). -/
  | wrpStamp (m : Master) (t : Fin 16) (angle : BitVec 16)
  /-- PICK_SLOT_WRITE (R181). -/
  | pickSlotWrite (m : Master) (slot : BitVec 8) (word : Fin 4) (data : Word)
  /-- LOOM_BASE_WRITE (R182). -/
  | loomBaseWrite (m : Master) (data : Word)
  /-- ANGLE_PICK_MATCH (R183). -/
  | anglePickMatch (slot : BitVec 8)
  /-- TIME_PICK_MATCH (R184). -/
  | timePickMatch (slot : BitVec 8)
  /-- SAMPLE_CONVERSION_START (R189). -/
  | sampleConversionStart (quiet : Bool)
  /-- KEEP_OUT_END (R187). -/
  | keepOutEnd (b : Block) (vi vo boot : Nat)
  /-- CHG_REF_ADD_END (R186). -/
  | chgRefAddEnd
  /-- WEFT_TABLE_WRITE (R190). -/
  | weftTableWrite (m : Master) (t : Fin 16) (word : Fin 32) (data : Word)
  /-- WEFT_LEARN_FRESH (R191). -/
  | weftLearnFresh (m : Master) (t : Fin 16)
  /-- WEFT_LEARN_REFINE (R191). -/
  | weftLearnRefine (m : Master) (t : Fin 16)
  /-- WEFT_LEARN_ABORT (R192). -/
  | weftLearnAbort (m : Master) (t : Fin 16)
  /-- WEFT_LEARN_BEGIN (R191). -/
  | weftLearnBegin (t : Fin 16)
  /-- WEFT_LEARN_REVOLUTION (R191). -/
  | weftLearnRevolution (t : Fin 16)
  /-- WEFT_LEARN_COMPLETE (R191). -/
  | weftLearnComplete (t : Fin 16)
  /-- WEFT_FADE_DONE (R194). -/
  | weftFadeDone (t : Fin 16)
  /-- MARK_FIFO_READ (R186). -/
  | markFifoRead (m : Master)
  /-- ADC_CONVERSION_DONE (R201). -/
  | adcConversionDone (adc : Fin 2) (code x : BitVec 16)
  /-- SCHEDULED_CONVERSION (R204). -/
  | scheduledConversion (ch : BitVec 8) (adc : Fin 3)
  /-- SCAN_START (R206). -/
  | scanStart
  /-- CAL_STARVED (R207). -/
  | calStarved (adc : Fin 2)
  /-- AUTO_ZERO (R203). -/
  | autoZero (cell : Cell)
  /-- QCNT_WRITE (R209). -/
  | qcntWrite (m : Master) (data : Word)
  /-- QCLR (R209). -/
  | qclr (m : Master)
  /-- QCNT_SAVE (R210). -/
  | qcntSave
  /-- RESULT_FIFO_READ (R206). -/
  | resultFifoRead (m : Master)
  /-- THERMAL_MODEL_UPDATE (R213). -/
  | thermalModelUpdate (samples : List CellSample)
  /-- DIE_TEMP_CHECK (R217). -/
  | dieTempCheck
  /-- DIE_THROTTLE_STEP (R218). -/
  | dieThrottleStep
  /-- STAGE_THROTTLE_STEP (R219). -/
  | stageThrottleStep (b : Block)
  /-- GATE_DRIVE_CAP_STEP (R220). -/
  | gateDriveCapStep
  /-- CONTEXT_DISPATCH (R226). -/
  | contextDispatch (sh : Fin 8)
  /-- QUANTUM_EXPIRY (R226). -/
  | quantumExpiry (sh : Fin 8)
  /-- SLOT_GRANT (R227). -/
  | slotGrant
  /-- CLAIM (R232). -/
  | claim (m : Master) (c : CtxId)
  /-- CTX_RELEASE (R289). -/
  | ctxRelease (m : Master) (c : CtxId)
  /-- ABORT (R284). -/
  | abort (m : Master) (c : CtxId)
  /-- CTX_EVENT (R232). -/
  | ctxEvent (m : Master) (c : CtxId)
  /-- FREEZE (R247). -/
  | freeze (m : Master) (c : CtxId)
  /-- THAW (R247). -/
  | thaw (m : Master) (c : CtxId)
  /-- CONTEXT_RECORD_WRITE (R232). -/
  | contextRecordWrite (m : Master) (w : Fin 32) (data : Word)
  /-- PICKSTART_RUN (R233). -/
  | pickstartRun (c : CtxId)
  /-- SHED_DEFER_TIMEOUT (R243). -/
  | shedDeferTimeout (c : CtxId)
  /-- FREEZE_DEFER_TIMEOUT (R247). -/
  | freezeDeferTimeout (c : CtxId)
  /-- AUTO_RESTORE (R241). -/
  | autoRestore
  /-- LOM_SHED_ORDER (R239). -/
  | lomShedOrder (m : Master) (k : Fin 8)
  /-- LOM_RESTORE_ORDER (R241). -/
  | lomRestoreOrder (m : Master) (k : Fin 8)
  /-- PROGRAM_MEMORY_WRITE (R248). -/
  | programMemoryWrite (m : Master) (a : Nat) (data : Word)
  /-- PAGE_LOCK (R248). -/
  | pageLock (m : Master) (k : Fin 2) (bits : Word)
  /-- PAGE_UNLOCK (R248). -/
  | pageUnlock (m : Master) (page : Fin 64)
  /-- DM_DATA_ACCESS (R249). -/
  | dmDataAccess (m : Master) (data : Option Word)
  /-- CONTEXT0_RESTART (R251). -/
  | context0Restart
  /-- ILLEGAL_ENCODING (R256). -/
  | illegalEncoding (c : CtxId) (w : Word)
  /-- ADD (R260). -/
  | add (c : CtxId) (d a : Reg) (y : Operand)
  /-- SUB (R260). -/
  | sub (c : CtxId) (d a : Reg) (y : Operand)
  /-- AND (R260). -/
  | and (c : CtxId) (d a : Reg) (y : Operand)
  /-- OR (R260). -/
  | or (c : CtxId) (d a : Reg) (y : Operand)
  /-- XOR (R260). -/
  | xor (c : CtxId) (d a : Reg) (y : Operand)
  /-- SHL (R260). -/
  | shl (c : CtxId) (d a : Reg) (y : Operand)
  /-- SHR (R260). -/
  | shr (c : CtxId) (d a : Reg) (y : Operand)
  /-- MUL (R260). -/
  | mul (c : CtxId) (d a : Reg) (y : Operand)
  /-- MIN (R260). -/
  | min (c : CtxId) (d a : Reg) (y : Operand)
  /-- MAX (R260). -/
  | max (c : CtxId) (d a : Reg) (y : Operand)
  /-- CLAMP (R260). -/
  | clamp (c : CtxId) (d a : Reg) (y : Operand)
  /-- MOVI (R260). -/
  | movi (c : CtxId) (d : Reg) (imm : BitVec 22)
  /-- MOVHI (R260). -/
  | movhi (c : CtxId) (d : Reg) (imm : BitVec 16)
  /-- LD (R261). -/
  | ld (c : CtxId) (d a : Reg) (y : Operand)
  /-- ST (R261). -/
  | st (c : CtxId) (d a : Reg) (y : Operand)
  /-- RDR (R261). -/
  | rdr (c : CtxId) (d a : Reg) (y : Operand)
  /-- BR (R262). -/
  | br (c : CtxId) (a : Reg) (addr : BitVec 14)
  /-- BRC (R262). -/
  | brc (c : CtxId) (cond : Cond) (a b : Reg) (off : BitVec 14)
  /-- CALL (R262). -/
  | call (c : CtxId) (a : Reg) (addr : BitVec 14)
  /-- RET (R262). -/
  | ret (c : CtxId)
  /-- YIELD (R262). -/
  | yield (c : CtxId)
  /-- HALT (R263). -/
  | halt (c : CtxId)
  /-- HALT_COMMIT_DONE (R263). -/
  | haltCommitDone (c : CtxId)
  /-- TRAP (R262). -/
  | trap (c : CtxId) (imm : BitVec 16)
  /-- SETV (R265). -/
  | setv (c : CtxId) (sel : SetvSel) (a : Reg) (y : Operand)
  /-- SETI (R265). -/
  | seti (c : CtxId) (sel : SetiSel) (a : Reg) (y : Operand)
  /-- SLEW (R265). -/
  | slew (c : CtxId) (a : Reg) (y : Operand)
  /-- LIMIT (R265). -/
  | limit (c : CtxId) (sel : LimitSel) (a : Reg) (y : Operand)
  /-- PHASES (R265). -/
  | phases (c : CtxId) (a : Reg) (y : Operand)
  /-- ENABLE (R265). -/
  | enable (c : CtxId) (sel : EnableSel) (a : Reg) (y : Operand)
  /-- SHED (R265). -/
  | shed (c : CtxId) (a : Reg) (y : Operand)
  /-- RESTORE (R265). -/
  | restore (c : CtxId) (a : Reg) (y : Operand)
  /-- WAITT (R266). -/
  | waitt (c : CtxId) (d a : Reg) (y : Operand)
  /-- WAITT_DEADLINE (R266). -/
  | waittDeadline (c : CtxId)
  /-- WAITA (R266). -/
  | waita (c : CtxId) (d a : Reg) (y : Operand)
  /-- WAITA_CROSSING (R266). -/
  | waitaCrossing (c : CtxId)
  /-- WAITE (R266). -/
  | waite (c : CtxId) (d a : Reg) (y : Operand)
  /-- WAIT_TIMEOUT (R266). -/
  | waitTimeout (c : CtxId)
  /-- PICK (R266). -/
  | pick (c : CtxId) (d a : Reg) (y : Operand)
  /-- UNPICK (R266). -/
  | unpick (c : CtxId) (d a : Reg) (y : Operand)
  /-- MEAS (R268). -/
  | meas (c : CtxId) (d a : Reg) (y : Operand)
  /-- GETM (R268). -/
  | getm (c : CtxId) (d a : Reg) (y : Operand)
  /-- TXB (R269). -/
  | txb (c : CtxId)
  /-- TXC (R269). -/
  | txc (c : CtxId) (d : Reg)
  /-- TXC_COMMIT_DONE (R244). -/
  | txcCommitDone (c : CtxId)
  /-- EMIT (R269). -/
  | emit (c : CtxId) (d a : Reg) (y : Operand)
  /-- DONE (R269). -/
  | done (c : CtxId) (a : Reg) (y : Operand)
  /-- SELFTEST (R270). -/
  | selftest (c : CtxId) (d a : Reg) (y : Operand)
  /-- CAL (R270). -/
  | cal (c : CtxId) (d a : Reg) (y : Operand)
  /-- CELL_TEST_DONE (R270). -/
  | cellTestDone (cell : Fin 18) (pass : Bool) (newCal : Word)
  /-- FENCE (R270). -/
  | fence (c : CtxId) (d : Reg)
  /-- FENCE_COMPLETE (R270). -/
  | fenceComplete (c : CtxId)
  /-- JOB_DOORBELL (R277). -/
  | jobDoorbell (m : Fin 4) (tail : BitVec 6)
  /-- CQ_HEAD_WRITE (R277). -/
  | cqHeadWrite (m : Fin 4) (head : BitVec 6)
  /-- DESCRIPTOR_COPY (R279). -/
  | descriptorCopy (m : Fin 4)
  /-- JOB_ACCEPT (R280). -/
  | jobAccept (m : Master) (r : Fin 32)
  /-- COMPLETION_POST (R282). -/
  | completionPost (m : Fin 4)
  /-- JOB_START (R231). -/
  | jobStart (m : Master) (r : Fin 32)
  /-- JOB_STATUS_READ (R286). -/
  | jobStatusRead (reader : Master) (m : Fin 4) (r : Fin 32)
  /-- JOB_RELEASE (R287). -/
  | jobRelease (m : Master) (jobId : Word)
  /-- SPI_READ (R300). -/
  | spiRead (a : BitVec 14) (data : Word) (crc : BitVec 8) (nbits : Nat)
  /-- SPI_WRITE (R301). -/
  | spiWrite (a : BitVec 14) (data : Word) (crc : BitVec 8) (nbits : Nat)
  /-- SPI_NOP (R300). -/
  | spiNop (a : BitVec 14) (data : Word) (crc : BitVec 8) (nbits : Nat)
  /-- SPI_BURST_READ (R302). -/
  | spiBurstRead (a : BitVec 14) (hdr : BitVec 31) (crc : BitVec 8) (nbits : Nat) (ahead : Bool)
  /-- SPI_BURST_WRITE (R302). -/
  | spiBurstWrite (a : BitVec 14) (hdr : BitVec 31) (crc : BitVec 8) (nbits : Nat) (segs : List (Word × BitVec 8))
  /-- I2C_WRITE (R308). -/
  | i2cWrite (reg : BitVec 16) (bytes : List (BitVec 8))
  /-- I2C_READ (R309). -/
  | i2cRead (reg : Option (BitVec 16)) (n : Nat)
  /-- I2C_SCL_TIMEOUT (R312). -/
  | i2cSclTimeout
  /-- I2C_SDA_TIMEOUT (R312). -/
  | i2cSdaTimeout
  /-- I2C_START_IN_ACK (R313). -/
  | i2cStartInAck
  /-- INT_REARM_END (R317). -/
  | intRearmEnd
  /-- AUX_GO (R318). -/
  | auxGo (m : Master) (cmd : Word)
  /-- AUX_TRANSACTION_DONE (R318). -/
  | auxTransactionDone (addrW addrR : Bool) (acked : Nat) (rx : List (BitVec 8))
  /-- AUX_ENABLE (R320). -/
  | auxEnable (m : Master) (cmd : Word)
  /-- AUX_BUS_CLEAR_DONE (R320). -/
  | auxBusClearDone (scl : Bool) (pulses : Nat)
  /-- AUX_TIMEOUT (R319). -/
  | auxTimeout
  /-- AUX_ARB_LOST (R319). -/
  | auxArbLost
  /-- TYPEC_ATTACH (R333). -/
  | typecAttach (level : Fin 4) (cc2 : Bool)
  /-- TYPEC_DETACH (R330). -/
  | typecDetach
  /-- DRP_TOGGLE (R333). -/
  | drpToggle
  /-- VBUS_OVERVOLTAGE (R328). -/
  | vbusOvervoltage (v : Nat)
  /-- PORT_BACKFEED (R328). -/
  | portBackfeed (cur : Int)
  /-- VBUS_LOSS (R330). -/
  | vbusLoss (v : Nat)
  /-- DEAD_BATTERY_SINK (R334). -/
  | deadBatterySink (level : Fin 4)
  /-- PD_SOURCE_CAPABILITIES (R336). -/
  | pdSourceCapabilities (pdos : List Pdo) (epr : Bool)
  /-- PD_REQUEST (R338). -/
  | pdRequest (pos volt curr : Nat)
  /-- PD_ACCEPT (R344). -/
  | pdAccept
  /-- PD_REJECT (R343). -/
  | pdReject
  /-- PD_WAIT (R337). -/
  | pdWait
  /-- PD_PS_RDY (R344). -/
  | pdPsRdy
  /-- PD_PR_SWAP (R343). -/
  | pdPrSwap
  /-- PD_DR_SWAP (R341). -/
  | pdDrSwap
  /-- PD_HARD_RESET (R345). -/
  | pdHardReset
  /-- PD_SOFT_RESET (R335). -/
  | pdSoftReset (sent : Bool)
  /-- PD_EPR_MODE_ENTRY (R340). -/
  | pdEprModeEntry (ok : Bool)
  /-- PD_CABLE_IDENTITY (R340). -/
  | pdCableIdentity (emarked epr : Bool) (cur vmax : Fin 4)
  /-- PD_VCONN_SWAP (R324). -/
  | pdVconnSwap
  /-- PD_UNSUPPORTED (R324). -/
  | pdUnsupported
  /-- SINK_REQUEST_RETRY (R337). -/
  | sinkRequestRetry
  /-- SINK_TX_WAIT_END (R342). -/
  | sinkTxWaitEnd
  /-- SRC_TRANSITION_END (R344). -/
  | srcTransitionEnd
  /-- HARD_RESET_RECOVER (R345). -/
  | hardResetRecover
  /-- PR_SWAP_RETRY (R343). -/
  | prSwapRetry
  /-- SOFT_RESET_WAIT_END (R335). -/
  | softResetWaitEnd
  /-- ERROR_RECOVERY_END (R346). -/
  | errorRecoveryEnd
  /-- PORT_RESUME (R346). -/
  | portResume
  /-- PCAP_UPDATE (R338). -/
  | pcapUpdate (rail : Nat)
  /-- PDO_REDUCE (R339). -/
  | pdoReduce
  /-- PDO_RAISE (R339). -/
  | pdoRaise
  /-- VCONN_OVERCURRENT (R340). -/
  | vconnOvercurrent (cur : Nat)
  /-- DISCHARGE_DONE (R327). -/
  | dischargeDone (v : Nat)
  /-- PACK_PRIMARY_PORT_STOP (R347). -/
  | packPrimaryPortStop
  /-- USB_BUS_RESET (R349). -/
  | usbBusReset
  /-- DFU_DNLOAD (R350). -/
  | dfuDnload (n : BitVec 16) (words : List Word)
  /-- DFU_MANIFEST (R350). -/
  | dfuManifest
  /-- DFU_DETACH (R350). -/
  | dfuDetach
  /-- DFU_GETSTATUS (R351). -/
  | dfuGetstatus
  /-- DFU_CLRSTATUS (R351). -/
  | dfuClrstatus
  /-- DFU_UPLOAD (R351). -/
  | dfuUpload
  /-- VENDOR_READ (R352). -/
  | vendorRead (seq : BitVec 8) (count a : BitVec 16)
  /-- VENDOR_WRITE (R352). -/
  | vendorWrite (seq : BitVec 8) (count a : BitVec 16) (words : List Word)
  /-- LINK_UP (R357). -/
  | linkUp
  /-- HEARTBEAT_SEND (R361). -/
  | heartbeatSend
  /-- HEARTBEAT (R364). -/
  | heartbeat (hdr : FrameHdr) (h : Heartbeat)
  /-- HELLO_SEND (R363). -/
  | helloSend
  /-- HELLO (R363). -/
  | hello (hdr : FrameHdr) (h : Hello)
  /-- NOTICE_RESET (R377). -/
  | noticeReset (hdr : FrameHdr) (kind : Nat)
  /-- NOTICE_SAFE (R377). -/
  | noticeSafe (hdr : FrameHdr)
  /-- NOTICE_LEAVE (R377). -/
  | noticeLeave (hdr : FrameHdr)
  /-- RESET_REQ (R380). -/
  | resetReq (hdr : FrameHdr) (pairId : Word)
  /-- ORDER (R367). -/
  | order (hdr : FrameHdr) (w : PairWrite)
  /-- STAMP (R178). -/
  | stamp (hdr : FrameHdr) (t angle at_ : Nat)
  /-- COMMIT_ACK (R374). -/
  | commitAck (hdr : FrameHdr) (jsn : Nat) (refused : Bool)
  /-- MIRROR (R373). -/
  | mirror (hdr : FrameHdr) (jsn : Nat) (rec : BeamRecord)
  /-- STATE (R376). -/
  | state (hdr : FrameHdr) (m r : Nat) (job : Job)
  /-- SUBMIT (R368). -/
  | submit (hdr : FrameHdr) (words : List Word)
  /-- RESYNC (R381). -/
  | resync (hdr : FrameHdr) (jsn : Nat) (rec : BeamRecord) (left : Nat)
  /-- HANDOVER (R383). -/
  | handover (hdr : FrameHdr) (item : HandoverItem)
  /-- UPDATE (R427). -/
  | update (hdr : FrameHdr) (item : UpdateItem)
  /-- RETRANSMIT_TIMEOUT (R360). -/
  | retransmitTimeout
  /-- SHARE_PROBE_START (R377). -/
  | shareProbeStart
  /-- SHARE_PROBE_END (R377). -/
  | shareProbeEnd (mv : Nat)
  /-- PEER_SILENCE (R377). -/
  | peerSilence
  /-- SHARE_TRIM_ANALOG (R370). -/
  | shareTrimAnalog (vshare : Nat)
  /-- SHARE_TRIM_DIGITAL (R370). -/
  | shareTrimDigital
  /-- STANDBY_TAKE (R371). -/
  | standbyTake (rail : Nat)
  /-- SHARE_RELEASED (R379). -/
  | shareReleased (mv rail : Nat)
  /-- PEER_RESET (R380). -/
  | peerReset (m : Master) (key : BitVec 16)
  /-- RETRAIN (R360). -/
  | retrain (m : Master) (key : BitVec 16)
  /-- PAIR (R363). -/
  | pair (m : Master) (key : BitVec 16)
  /-- SEL_MODE_WRITE (R387). -/
  | selModeWrite (m : Master) (data : Word)
  /-- JOIN_RAMP_DONE (R382). -/
  | joinRampDone
  /-- JOIN_ABORT (R382). -/
  | joinAbort (rail : Nat)
  /-- JOIN_RETRY (R382). -/
  | joinRetry
  /-- HAND_BACK_DONE (R383). -/
  | handBackDone
  /-- WDG_KEY_FIRST (R389). -/
  | wdgKeyFirst (m : Master)
  /-- WDG_KEY_SECOND (R390). -/
  | wdgKeySecond (m : Master)
  /-- WDG_KEY_INVALID (R389). -/
  | wdgKeyInvalid (m : Master) (key : BitVec 16)
  /-- WDG_KEY_TIMEOUT (R389). -/
  | wdgKeyTimeout
  /-- WDG_EXPIRY (R390). -/
  | wdgExpiry
  /-- WDG_LOCK (R391). -/
  | wdgLock (m : Master)
  /-- FAULT_CLEAR (R397). -/
  | faultClear (m : Master) (key code : Nat)
  /-- RESET_CMD (R413). -/
  | resetCmd (m : Master) (key cmd : Nat)
  /-- PWR_RUN (R403). -/
  | pwrRun (m : Master) (key : BitVec 16)
  /-- PWR_LIGHT (R403). -/
  | pwrLight (m : Master) (key : BitVec 16)
  /-- PWR_STANDBY (R403). -/
  | pwrStandby (m : Master) (key : BitVec 16)
  /-- PWR_DEEP_SLEEP (R404). -/
  | pwrDeepSleep (m : Master) (key : BitVec 16)
  /-- PWR_OFF (R404). -/
  | pwrOff (m : Master) (key : BitVec 16)
  /-- WAKE (R405). -/
  | wake (src : Fin 7) (vbus : Bool)
  /-- WAKE_TIMER (R405). -/
  | wakeTimer
  /-- LC_PROVISIONED (R408). -/
  | lcProvisioned (m : Master) (key : BitVec 16)
  /-- LC_FIELD (R408). -/
  | lcField (m : Master) (key : BitVec 16)
  /-- LC_RETURN (R408). -/
  | lcReturn (m : Master) (key : BitVec 16)
  /-- LC_SCRAPPED (R408). -/
  | lcScrapped (m : Master) (key : BitVec 16)
  /-- LC_DEBUG (R411). -/
  | lcDebug (m : Master) (key : BitVec 16)
  /-- TOKEN_VERIFY_DONE (R410). -/
  | tokenVerifyDone
  /-- LC_WIPE_DONE (R409). -/
  | lcWipeDone
  /-- RESET_N_ASSERT (R399). -/
  | resetNAssert (ns : Nat)
  /-- RESET_RELEASE (R400). -/
  | resetRelease (straps : BitVec 5) (records : Option (Nat × List (Nat × Word × Word)))
  /-- NVM_STEP_DONE (R419). -/
  | nvmStepDone (ok erase : Bool)
  /-- REDUCED_SERVICE_START (R414). -/
  | reducedServiceStart (v48 v12 rail : Nat) (pins : Fin 8) (share : Nat)
  /-- FIRMWARE_START (R429). -/
  | firmwareStart
  /-- FULL_SERVICE_START (R417). -/
  | fullServiceStart (defaults : List (Nat × Word × Word)) (records : Option (List (Nat × Word × Word)))
  /-- UPD_SESSION_OPEN (R425). -/
  | updSessionOpen (m : Master) (data : Word)
  /-- UPDATE_BUFFER_WRITE (R426). -/
  | updateBufferWrite (m : Master) (a : Nat) (data : Word)
  /-- UPD_BLOCK (R426). -/
  | updBlock (m : Master) (data : Word)
  /-- SESSION_IDLE_TIMEOUT (R425). -/
  | sessionIdleTimeout
  /-- ACTIVATE_NEXT (R428). -/
  | activateNext (m : Master) (token : BitVec 16)
  /-- ACTIVATE_NOW (R434). -/
  | activateNow (m : Master) (token : BitVec 16)
  /-- HELD_RESTART_RESUME (R434). -/
  | heldRestartResume (records : Option (List (Nat × Word × Word)))
  /-- UPDATE_CONFIRM (R432). -/
  | updateConfirm (m : Master) (token : BitVec 16)
  /-- TRIAL_AUTO_CONFIRM (R431). -/
  | trialAutoConfirm
  /-- DISCARD (R428). -/
  | discard (m : Master) (token : BitVec 16)
  /-- PUSH (R427). -/
  | push (m : Master) (token : BitVec 16)
  /-- CLOSE (R428). -/
  | close (m : Master) (token : BitVec 16)
  /-- COMPLETE (R427). -/
  | complete (m : Master) (token : BitVec 16)
  /-- VDRV_UNDERVOLTAGE (R449). -/
  | vdrvUndervoltage (mv : Nat)
  /-- VDRV_RECOVERY (R449). -/
  | vdrvRecovery (mv : Nat)
  /-- LINK_DOWN (R357). -/
  | linkDown
  /-- VBUS_RESTORED (R344). -/
  | vbusRestored (v : Nat) (level : Fin 4)
  /-- TRY_SNK_TIMEOUT (R348). -/
  | trySnkTimeout (rd : Bool)
  /-- PACK_G_RAMP_DONE (R144). -/
  | packGRampDone
  /-- KEEPALIVE_INPUT_CHANGE (R73). -/
  | keepaliveInputChange (inputs : BitVec 5)
  deriving DecidableEq, Repr

end Sys2Proof
end

