-- ==== Sys2Proof/WellFormed.lean ====
section
/-!
DEFINITION. Which commands the spec admits, where an operand's type alone does not say so.
-/

namespace Sys2Proof

/-- A whole aligned word address of the 16-bit byte address space (R9). -/
def wordAddress (a : Nat) : Bool := decide (a % 4 = 0) && decide (a < 0x10000)

/-- The well-formed commands: word addresses are aligned (R9), a program-window address lies in
0x8000 to 0xBFFF (R443), and GETM names neither g0 nor g15 as destination (R256). -/
def Instr.wf : Instr → Bool
  | .registerWrite _ a _ => wordAddress a
  | .lowWordRead _ a => wordAddress a
  | .programMemoryWrite _ a _ => wordAddress a && decide (0x8000 ≤ a) && decide (a < 0xC000)
  | .getm _ d _ _ => decide (d.val ≠ 0) && decide (d.val ≠ 15)
  | _ => true

end Sys2Proof
end

