-- ==== Sys2Proof/Decode.lean ====
section
/-!
DEFINITION. The decoder of the table's words (no row of spec/opcode_table.json gives bits, so no
word spells a command), and the encoding of the Verk instructions (R254 to R256), which a shuttle
fetches from program memory.
-/

namespace Sys2Proof

/-- The command that a word spells by the table's bits: none, because no row gives bits. -/
def decodeTableWord (_nbits _w : Nat) : Option Instr := none

/-! ### The Verk instruction word -/

/-- Format A of R254: opcode, D, A and Y. -/
def verkA (op d a : Nat) (y : Operand) : Word :=
  match y with
  | .reg b => BitVec.ofNat 32 (op * 2 ^ 26 + d * 2 ^ 22 + a * 2 ^ 18 + b.val * 2 ^ 13)
  | .imm v => BitVec.ofNat 32 (op * 2 ^ 26 + d * 2 ^ 22 + a * 2 ^ 18 + 2 ^ 17 + v.toNat)

/-- Format A with only D used: TXC and FENCE (R269, R270), whose A, I and B are zero. -/
def verkD (op d : Nat) : Word := BitVec.ofNat 32 (op * 2 ^ 26 + d * 2 ^ 22)

/-- Code of a BRC condition (R262). -/
def Cond.code : Cond → Nat
  | .eq => 0 | .ne => 1 | .lt => 2 | .ge => 3 | .ltu => 4 | .geu => 5

/-- Code of a SETV selector (R264). -/
def SetvSel.code : SetvSel → Nat
  | .rail => 0 | .cv => 1 | .backup => 2 | .vbus => 3

/-- Code of a SETI selector (R264). -/
def SetiSel.code : SetiSel → Nat
  | .cc => 0 | .trickle => 1 | .vbusI => 2

/-- Code of a LIMIT selector (R264). -/
def LimitSel.code : LimitSel → Nat
  | .imax => 0 | .chgMax => 1 | .disMax => 2 | .wmax => 3

/-- Code of an ENABLE selector (R264). -/
def EnableSel.code : EnableSel → Nat
  | .trk => 0 | .chg => 1 | .chb => 2 | .holdup => 3 | .port => 4 | .shave => 5 | .weft => 6
  | .act => 7 | .rev => 8

/-- The word of a Verk instruction (R254, R260 to R270); none for the other commands. -/
def verkWord : Instr → Option Word
  | .add _ d a y => some (verkA 0x01 d a y)
  | .sub _ d a y => some (verkA 0x02 d a y)
  | .and _ d a y => some (verkA 0x03 d a y)
  | .or _ d a y => some (verkA 0x04 d a y)
  | .xor _ d a y => some (verkA 0x05 d a y)
  | .shl _ d a y => some (verkA 0x06 d a y)
  | .shr _ d a y => some (verkA 0x07 d a y)
  | .mul _ d a y => some (verkA 0x08 d a y)
  | .min _ d a y => some (verkA 0x09 d a y)
  | .max _ d a y => some (verkA 0x0A d a y)
  | .clamp _ d a y => some (verkA 0x0B d a y)
  | .movi _ d v => some (BitVec.ofNat 32 (0x0C * 2 ^ 26 + d.val * 2 ^ 22 + v.toNat))
  | .movhi _ d v => some (BitVec.ofNat 32 (0x0D * 2 ^ 26 + d.val * 2 ^ 22 + v.toNat))
  | .ld _ d a y => some (verkA 0x0E d a y)
  | .st _ d a y => some (verkA 0x0F d a y)
  | .rdr _ d a y => some (verkA 0x10 d a y)
  | .br _ a v => some (BitVec.ofNat 32 (0x11 * 2 ^ 26 + a.val * 2 ^ 18 + v.toNat))
  | .brc _ k a b v =>
    some (BitVec.ofNat 32 (0x12 * 2 ^ 26 + k.code * 2 ^ 22 + a.val * 2 ^ 18 + b.val * 2 ^ 14 + v.toNat))
  | .call _ a v => some (BitVec.ofNat 32 (0x13 * 2 ^ 26 + a.val * 2 ^ 18 + v.toNat))
  | .ret _ => some (BitVec.ofNat 32 (0x14 * 2 ^ 26))
  | .yield _ => some (BitVec.ofNat 32 (0x15 * 2 ^ 26))
  | .halt _ => some (BitVec.ofNat 32 (0x16 * 2 ^ 26))
  | .trap _ v => some (BitVec.ofNat 32 (0x17 * 2 ^ 26 + v.toNat))
  | .setv _ k a y => some (verkA 0x18 k.code a y)
  | .seti _ k a y => some (verkA 0x19 k.code a y)
  | .slew _ a y => some (verkA 0x1A 0 a y)
  | .limit _ k a y => some (verkA 0x1B k.code a y)
  | .phases _ a y => some (verkA 0x1C 0 a y)
  | .enable _ k a y => some (verkA 0x1D k.code a y)
  | .shed _ a y => some (verkA 0x1E 0 a y)
  | .restore _ a y => some (verkA 0x1F 0 a y)
  | .waitt _ d a y => some (verkA 0x20 d a y)
  | .waita _ d a y => some (verkA 0x21 d a y)
  | .waite _ d a y => some (verkA 0x22 d a y)
  | .pick _ d a y => some (verkA 0x23 d a y)
  | .unpick _ d a y => some (verkA 0x24 d a y)
  | .meas _ d a y => some (verkA 0x25 d a y)
  | .getm _ d a y => some (verkA 0x26 d a y)
  | .txb _ => some (BitVec.ofNat 32 (0x28 * 2 ^ 26))
  | .txc _ d => some (verkD 0x29 d)
  | .emit _ d a y => some (verkA 0x2A d a y)
  | .done _ a y => some (verkA 0x2B 0 a y)
  | .selftest _ d a y => some (verkA 0x2C d a y)
  | .cal _ d a y => some (verkA 0x2D d a y)
  | .fence _ d => some (verkD 0x2E d)
  | _ => none

/-- Bits of a word as a number. -/
def bitsOf (w : Word) (lo width : Nat) : Nat := w.toNat / 2 ^ lo % 2 ^ width

/-- Y of a format A word; none when the bits that I = 0 requires to be zero are not (R254). -/
def decodeY (w : Word) : Option Operand :=
  if bitsOf w 17 1 = 1 then some (.imm (BitVec.ofNat 17 (bitsOf w 0 17)))
  else if bitsOf w 0 13 = 0 then some (.reg ⟨bitsOf w 13 4, by unfold bitsOf; exact Nat.mod_lt _ (by decide)⟩)
  else none

/-- A register field of a word. -/
def decodeReg (w : Word) (lo : Nat) : Reg := ⟨bitsOf w lo 4, by unfold bitsOf; exact Nat.mod_lt _ (by decide)⟩

/-- The condition of a code (R262). -/
def decodeCond (n : Nat) : Option Cond := [Cond.eq, .ne, .lt, .ge, .ltu, .geu][n]?

/-- The Verk instruction of a word for a context; none when the encoding is undefined (R256). -/
def verkDecode (c : CtxId) (w : Word) : Option Instr :=
  let op := bitsOf w 26 6
  let d := decodeReg w 22
  let a := decodeReg w 18
  let y := decodeY w
  let low := bitsOf w 0 26
  if op = 0x01 then y.map (.add c d a)
  else if op = 0x02 then y.map (.sub c d a)
  else if op = 0x03 then y.map (.and c d a)
  else if op = 0x04 then y.map (.or c d a)
  else if op = 0x05 then y.map (.xor c d a)
  else if op = 0x06 then y.map (.shl c d a)
  else if op = 0x07 then y.map (.shr c d a)
  else if op = 0x08 then y.map (.mul c d a)
  else if op = 0x09 then y.map (.min c d a)
  else if op = 0x0A then y.map (.max c d a)
  else if op = 0x0B then y.map (.clamp c d a)
  else if op = 0x0C then some (.movi c d (BitVec.ofNat 22 (bitsOf w 0 22)))
  else if op = 0x0D then if bitsOf w 16 6 = 0 then some (.movhi c d (BitVec.ofNat 16 (bitsOf w 0 16))) else none
  else if op = 0x0E then y.map (.ld c d a)
  else if op = 0x0F then y.map (.st c d a)
  else if op = 0x10 then y.map (.rdr c d a)
  else if op = 0x11 then
    if bitsOf w 22 4 = 0 && bitsOf w 14 4 = 0 then some (.br c a (BitVec.ofNat 14 (bitsOf w 0 14))) else none
  else if op = 0x12 then
    (decodeCond (bitsOf w 22 4)).map (fun k => .brc c k a (decodeReg w 14) (BitVec.ofNat 14 (bitsOf w 0 14)))
  else if op = 0x13 then
    if bitsOf w 22 4 = 0 && bitsOf w 14 4 = 0 then some (.call c a (BitVec.ofNat 14 (bitsOf w 0 14))) else none
  else if op = 0x14 then if low = 0 then some (.ret c) else none
  else if op = 0x15 then if low = 0 then some (.yield c) else none
  else if op = 0x16 then if low = 0 then some (.halt c) else none
  else if op = 0x17 then if bitsOf w 16 10 = 0 then some (.trap c (BitVec.ofNat 16 (bitsOf w 0 16))) else none
  else if op = 0x18 then
    ([SetvSel.rail, .cv, .backup, .vbus][d.val]?).bind (fun k => y.map (.setv c k a))
  else if op = 0x19 then ([SetiSel.cc, .trickle, .vbusI][d.val]?).bind (fun k => y.map (.seti c k a))
  else if op = 0x1A then if d.val = 0 then y.map (.slew c a) else none
  else if op = 0x1B then
    ([LimitSel.imax, .chgMax, .disMax, .wmax][d.val]?).bind (fun k => y.map (.limit c k a))
  else if op = 0x1C then if d.val = 0 then y.map (.phases c a) else none
  else if op = 0x1D then
    ([EnableSel.trk, .chg, .chb, .holdup, .port, .shave, .weft, .act, .rev][d.val]?).bind
      (fun k => y.map (.enable c k a))
  else if op = 0x1E then if d.val = 0 then y.map (.shed c a) else none
  else if op = 0x1F then if d.val = 0 then y.map (.restore c a) else none
  else if op = 0x20 then y.map (.waitt c d a)
  else if op = 0x21 then y.map (.waita c d a)
  else if op = 0x22 then y.map (.waite c d a)
  else if op = 0x23 then y.map (.pick c d a)
  else if op = 0x24 then y.map (.unpick c d a)
  else if op = 0x25 then y.map (.meas c d a)
  else if op = 0x26 then if d.val = 0 || d.val = 15 then none else y.map (.getm c d a)
  else if op = 0x28 then if low = 0 then some (.txb c) else none
  else if op = 0x29 then if bitsOf w 0 22 = 0 then some (.txc c d) else none
  else if op = 0x2A then y.map (.emit c d a)
  else if op = 0x2B then if d.val = 0 then y.map (.done c a) else none
  else if op = 0x2C then y.map (.selftest c d a)
  else if op = 0x2D then y.map (.cal c d a)
  else if op = 0x2E then if bitsOf w 0 22 = 0 then some (.fence c d) else none
  else none

end Sys2Proof
end

