-- ==== Sys2Proof/Machine/PorWords.lean ====
section
/-!
DEFINITION. The words of the register map that are not zero after a power-on reset (POR column,
R14, R441, R104), in address order. Registers held in fuses or calibration: log entries 1 and 4.
-/

namespace Sys2Proof.Machine

/-- POR words from 0x0004 to 0x0354. -/
def porWords0 : WordMap :=
  [(0x0004, 0x0046A607#32), (0x0008, 0x00004800#32), (0x0024, 0x0000001F#32), (0x0100, 0x2100FF00#32),
   (0x0104, 0x00001000#32), (0x0110, 0x07D003E8#32), (0x011C, 0x08000000#32), (0x0138, 0x00150FFF#32),
   (0x013C, 0x0000002B#32), (0x0154, 0x0000004F#32), (0x0160, 0x05280000#32), (0x0200, 0x003C0A63#32),
   (0x0208, 0x00004321#32), (0x0218, 0x03E801F4#32), (0x0220, 0x0A145A00#32), (0x0224, 0x05145A00#32),
   (0x0228, 0x03840A28#32), (0x0230, 0x0FA01F40#32), (0x0234, 0x07D00FA0#32), (0x0240, 0x00000005#32),
   (0x0260, 0x64003200#32), (0x0264, 0x11300FA0#32), (0x0274, 0x000058FF#32), (0x0300, 0x00000006#32),
   (0x0310, 0x00000546#32), (0x0314, 0x000004B0#32), (0x0318, 0x00000514#32), (0x031C, 0x00000578#32),
   (0x0320, 0x000005A0#32), (0x0324, 0x000003E8#32), (0x0328, 0x00000960#32), (0x032C, 0x00000AC8#32),
   (0x0330, 0x000A0000#32), (0x0334, 0x0000000A#32), (0x0338, 0x00005DC0#32), (0x0340, 0x000A0A04#32),
   (0x0344, 0xA10A3024#32), (0x0348, 0x000000FF#32), (0x0350, 0xF0000000#32), (0x0354, 0x000003E8#32)]

/-- POR words from 0x0358 to 0x0588. -/
def porWords1 : WordMap :=
  [(0x0358, 0x0C807800#32), (0x0360, 0x00000003#32), (0x0374, 0x000001DD#32), (0x0380, 0x18282899#32),
   (0x0384, 0x0C1428C8#32), (0x0388, 0x142020D4#32), (0x038C, 0x0C1420C8#32), (0x0390, 0x142020D4#32),
   (0x0394, 0x0C1420C8#32), (0x0398, 0x182828D4#32), (0x039C, 0x0C1420C8#32), (0x03A0, 0x1C3030D9#32),
   (0x03A4, 0x0C1420C8#32), (0x03A8, 0x203838DE#32), (0x03AC, 0x0C1420A0#32), (0x03B0, 0x11083401#32),
   (0x0400, 0x00000006#32), (0x0408, 0x0000001F#32), (0x0414, 0x1F401770#32), (0x041C, 0x1F000000#32),
   (0x0474, 0x000002B9#32), (0x0480, 0x18282899#32), (0x0484, 0x0C1428C8#32), (0x0488, 0x142020D4#32),
   (0x048C, 0x0C1420C8#32), (0x0490, 0x142020D4#32), (0x0494, 0x0C1420C8#32), (0x0498, 0x182828D4#32),
   (0x049C, 0x0C1420C8#32), (0x04A0, 0x1C3030D9#32), (0x04A4, 0x0C1420C8#32), (0x04A8, 0x203838DE#32),
   (0x04AC, 0x0C1420A0#32), (0x04B0, 0x01083401#32), (0x0500, 0x00000006#32), (0x0508, 0x01F412C0#32),
   (0x0574, 0x00000036#32), (0x0580, 0x18282899#32), (0x0584, 0x0C1428C8#32), (0x0588, 0x142020D4#32)]

/-- POR words from 0x058C to 0x070C. -/
def porWords2 : WordMap :=
  [(0x058C, 0x0C1420C8#32), (0x0590, 0x142020D4#32), (0x0594, 0x0C1420C8#32), (0x0598, 0x182828D4#32),
   (0x059C, 0x0C1420C8#32), (0x05A0, 0x1C3030D9#32), (0x05A4, 0x0C1420C8#32), (0x05A8, 0x203838DE#32),
   (0x05AC, 0x0C1420A0#32), (0x05B0, 0x01083401#32), (0x0600, 0x00002000#32), (0x060C, 0x00000190#32),
   (0x0610, 0xEE6C1194#32), (0x0614, 0x00DC03E8#32), (0x0618, 0x00C800C8#32), (0x061C, 0x28C81946#32),
   (0x062C, 0x80000000#32), (0x0640, 0x00002000#32), (0x064C, 0x00000190#32), (0x0650, 0xEE6C1194#32),
   (0x0654, 0x00DC03E8#32), (0x0658, 0x00C800C8#32), (0x065C, 0x28C81946#32), (0x066C, 0x80000000#32),
   (0x0680, 0x00002000#32), (0x068C, 0x00000190#32), (0x0690, 0xEE6C1194#32), (0x0694, 0x00DC03E8#32),
   (0x0698, 0x00C800C8#32), (0x069C, 0x28C81946#32), (0x06AC, 0x80000000#32), (0x06C0, 0x00002000#32),
   (0x06CC, 0x00000190#32), (0x06D0, 0xEE6C1194#32), (0x06D4, 0x00DC03E8#32), (0x06D8, 0x00C800C8#32),
   (0x06DC, 0x28C81946#32), (0x06EC, 0x80000000#32), (0x0700, 0x00002000#32), (0x070C, 0x00000190#32)]

/-- POR words from 0x0710 to 0x086C. -/
def porWords3 : WordMap :=
  [(0x0710, 0xEE6C1194#32), (0x0714, 0x00DC03E8#32), (0x0718, 0x00C800C8#32), (0x071C, 0x28C81946#32),
   (0x072C, 0x80000000#32), (0x0740, 0x00002000#32), (0x074C, 0x00000190#32), (0x0750, 0xEE6C1194#32),
   (0x0754, 0x00DC03E8#32), (0x0758, 0x00C800C8#32), (0x075C, 0x28C81946#32), (0x076C, 0x80000000#32),
   (0x0780, 0x00002000#32), (0x078C, 0x00000190#32), (0x0790, 0xEE6C1194#32), (0x0794, 0x00DC03E8#32),
   (0x0798, 0x00C800C8#32), (0x079C, 0x28C81946#32), (0x07AC, 0x80000000#32), (0x07C0, 0x00002000#32),
   (0x07CC, 0x00000190#32), (0x07D0, 0xEE6C1194#32), (0x07D4, 0x00DC03E8#32), (0x07D8, 0x00C800C8#32),
   (0x07DC, 0x28C81946#32), (0x07EC, 0x80000000#32), (0x0800, 0x00002000#32), (0x080C, 0x00000190#32),
   (0x0810, 0xEE6C1194#32), (0x0814, 0x00DC03E8#32), (0x0818, 0x00C800C8#32), (0x081C, 0x28C81946#32),
   (0x082C, 0x80000000#32), (0x0840, 0x00002000#32), (0x084C, 0x00000190#32), (0x0850, 0xEE6C1194#32),
   (0x0854, 0x00DC03E8#32), (0x0858, 0x00C800C8#32), (0x085C, 0x28C81946#32), (0x086C, 0x80000000#32)]

/-- POR words from 0x0880 to 0x09D8. -/
def porWords4 : WordMap :=
  [(0x0880, 0x00002000#32), (0x088C, 0x0000012C#32), (0x0890, 0xF6A00960#32), (0x0894, 0x01D607D0#32),
   (0x0898, 0x00C800C8#32), (0x089C, 0x28C81946#32), (0x08AC, 0x80000000#32), (0x08C0, 0x00002000#32),
   (0x08CC, 0x0000012C#32), (0x08D0, 0xF6A00960#32), (0x08D4, 0x01D607D0#32), (0x08D8, 0x00C800C8#32),
   (0x08DC, 0x28C81946#32), (0x08EC, 0x80000000#32), (0x0900, 0x00002000#32), (0x090C, 0x0000012C#32),
   (0x0910, 0xF6A00960#32), (0x0914, 0x01D607D0#32), (0x0918, 0x00C800C8#32), (0x091C, 0x28C81946#32),
   (0x092C, 0x80000000#32), (0x0940, 0x00002000#32), (0x094C, 0x0000012C#32), (0x0950, 0xF6A00960#32),
   (0x0954, 0x01D607D0#32), (0x0958, 0x00C800C8#32), (0x095C, 0x28C81946#32), (0x096C, 0x80000000#32),
   (0x0980, 0x00002000#32), (0x098C, 0x0000012C#32), (0x0990, 0xF6A00960#32), (0x0994, 0x01D607D0#32),
   (0x0998, 0x00C800C8#32), (0x099C, 0x28C81946#32), (0x09AC, 0x80000000#32), (0x09C0, 0x00002000#32),
   (0x09CC, 0x0000012C#32), (0x09D0, 0xF6A00960#32), (0x09D4, 0x01D607D0#32), (0x09D8, 0x00C800C8#32)]

/-- POR words from 0x09DC to 0x0C88. -/
def porWords5 : WordMap :=
  [(0x09DC, 0x28C81946#32), (0x09EC, 0x80000000#32), (0x0A00, 0x00002000#32), (0x0A0C, 0x000001F4#32),
   (0x0A10, 0xF83007D0#32), (0x0A14, 0x01D607D0#32), (0x0A18, 0x00C800C8#32), (0x0A1C, 0x28C81946#32),
   (0x0A2C, 0x80000000#32), (0x0A40, 0x00002000#32), (0x0A4C, 0x000001F4#32), (0x0A50, 0xF83007D0#32),
   (0x0A54, 0x01D607D0#32), (0x0A58, 0x00C800C8#32), (0x0A5C, 0x28C81946#32), (0x0A6C, 0x80000000#32),
   (0x0B00, 0x0000000C#32), (0x0B04, 0x00E00080#32), (0x0B08, 0x00C80064#32), (0x0B14, 0x00001E4A#32),
   (0x0B1C, 0x1E12C168#32), (0x0B24, 0x28000FA0#32), (0x0B3C, 0x14FF0000#32), (0x0B54, 0x007100BA#32),
   (0x0C00, 0x00000A00#32), (0x0C08, 0x096008C0#32), (0x0C0C, 0x0A000960#32), (0x0C10, 0x0AC00A00#32),
   (0x0C14, 0x09100870#32), (0x0C18, 0x0A000960#32), (0x0C1C, 0x0AC009D0#32), (0x0C64, 0x66666666#32),
   (0x0C68, 0x66666666#32), (0x0C6C, 0x00000066#32), (0x0C70, 0x96646464#32), (0x0C74, 0x0002060A#32),
   (0x0C7C, 0x000001FB#32), (0x0C80, 0x0FA00096#32), (0x0C84, 0x000001F4#32), (0x0C88, 0x25832032#32)]

/-- POR words from 0x0C8C to 0x0FB0. -/
def porWords6 : WordMap :=
  [(0x0C8C, 0x00C800C8#32), (0x0C90, 0x000000C8#32), (0x0CA0, 0x0FA0012C#32), (0x0CA4, 0x000001F4#32),
   (0x0CA8, 0x25832032#32), (0x0CAC, 0x00C800C8#32), (0x0CB0, 0x000000C8#32), (0x0CC0, 0x0FA001F4#32),
   (0x0CC4, 0x000001F4#32), (0x0CC8, 0x25832032#32), (0x0CCC, 0x00C800C8#32), (0x0CD0, 0x000000C8#32),
   (0x0D00, 0x00000A02#32), (0x0D0C, 0x0000002E#32), (0x0D10, 0x000000FF#32), (0x0D2C, 0x80000000#32),
   (0x0D30, 0x000003E8#32), (0x0D40, 0x03E80000#32), (0x0D60, 0x80000000#32), (0x0D64, 0x80000000#32),
   (0x0E00, 0x00001000#32), (0x0E10, 0x00000002#32), (0x0F00, 0x00008000#32), (0x0F08, 0x75F707D0#32),
   (0x0F14, 0x00000790#32), (0x0F40, 0x00140000#32), (0x0F48, 0x00140000#32), (0x0F50, 0x00140000#32),
   (0x0F58, 0x00140000#32), (0x0F60, 0x00140000#32), (0x0F68, 0x00140000#32), (0x0F70, 0x00140000#32),
   (0x0F78, 0x00140000#32), (0x0F80, 0x00140000#32), (0x0F88, 0x00140000#32), (0x0F90, 0x00140000#32),
   (0x0F98, 0x00140000#32), (0x0FA0, 0x00140000#32), (0x0FA8, 0x00140000#32), (0x0FB0, 0x00140000#32)]

/-- POR words from 0x0FB8 to 0x1E44. -/
def porWords7 : WordMap :=
  [(0x0FB8, 0x00140000#32), (0x1000, 0x0040C000#32), (0x1004, 0xFF000000#32), (0x100C, 0x00000239#32),
   (0x1040, 0x0064FE00#32), (0x1400, 0x0000000F#32), (0x1414, 0x00000393#32), (0x1804, 0x00000004#32),
   (0x1808, 0x00002000#32), (0x180C, 0x000021F1#32), (0x1814, 0x0003FFFF#32), (0x1900, 0x19000000#32),
   (0x1908, 0x0000000C#32), (0x1910, 0x0000003F#32), (0x1A00, 0x00000078#32), (0x1A0C, 0x000017BF#32),
   (0x1A10, 0x01F40000#32), (0x1C00, 0x14400000#32), (0x1C0C, 0x00000A3E#32), (0x1C20, 0x80191004#32),
   (0x1D1C, 0x0000003A#32), (0x1E00, 0x0E000000#32), (0x1E44, 0x000037F4#32)]

/-- Every POR word that is not zero. -/
def porWords : WordMap :=
  porWords0 ++ porWords1 ++ porWords2 ++ porWords3 ++ porWords4 ++ porWords5 ++ porWords6 ++ porWords7

end Sys2Proof.Machine
end

