-- ==== Sys2Proof/Machine/State.lean ====
section
/-!
DEFINITION. The state of the UX4863: every architected register as a word at its address (`regs`),
the memories, and for each unit the state that the spec gives it in words and not as a register.
Every field is plain data. `State.reset` is the machine right after a power-on reset.
-/

namespace Sys2Proof.Machine

/-- What stops the block. No row of the table stops it: the type is closed and empty of reasons the
spec names, and one constructor marks an operand outside the spec's range. -/
inductive Fault where
  /-- Raised by no meaning; kept so that the type is inhabited. Safe. -/
  | unreachable
  deriving DecidableEq, Repr

/-- Why a command has no meaning. -/
inductive Refusal where
  /-- The row of that mnemonic has no meaning in this model yet. Raised by `exec` only. Safe. -/
  | notModelled (mnemonic : String)
  deriving DecidableEq, Repr

/-- The answer of a meaning. -/
abbrev Result (σ : Type) := Host.Outcome σ Fault Refusal

/-! ### The Loom -/

/-- What a context in WAIT waits for (R230, R266, R244, R263, R270). -/
inductive Wait where
  | time (deadline : Nat)
  /-- The angle, the bound track's phase at issue, and the timeout. -/
  | angle (angle seen : Nat) (timeout : Option Nat)
  | event (timeout : Option Nat)
  | fence
  | commit
  | halt
  /-- A ROM program that has made its orders (R471). -/
  | rom
  deriving DecidableEq, Repr

/-- An order buffered inside a transaction (R244). -/
inductive Buffered where
  | power (o : Order)
  | shed (k : Nat) (on : Bool)
  | pick (slot : Nat) (w0 w1 w2 w3 : Word)
  | unpick (slot : Nat)
  | emit (progress : Option Nat) (block : List Word) (final : Bool)
  deriving DecidableEq, Repr

/-- State of a context beside its 32-word record (R229 to R247, R266 to R270). -/
structure Context where
  /-- Number of the moment the context became READY (R226: longest first). -/
  readySeq : Nat := 0
  /-- Pending wait; kept while the context is frozen or shed (R230). -/
  wait : Option Wait := none
  /-- Destination register of the pending wait. -/
  waitReg : Nat := 0
  /-- Buffered orders of the open transaction, oldest first. -/
  txOrders : List Buffered := []
  /-- Logged data words of the open transaction. -/
  txWords : WordMap := []
  /-- Logged addresses of the open transaction. -/
  txAddrs : List Nat := []
  /-- Freeze causes of R247: Control safe, update or handover, owner. -/
  frozenControl : Bool := false
  frozenUpdate : Bool := false
  frozenOwner : Bool := false
  /-- `SYSTIME` at which a deferred freeze or shed of a context in a transaction takes effect. -/
  freezeAt : Option Nat := none
  shedAt : Option Nat := none
  /-- Result store of R268: tag and the two words of its record, newest first, at most 8. -/
  results : List (Nat × Word × Word) := []
  /-- Tags of operations that still run. -/
  tags : List Nat := []
  /-- Tags whose result has been displaced. -/
  displaced : List Nat := []
  /-- Outcome summary of R270. -/
  summary : Word := 0
  /-- Pick slots allocated to the context (R267), and those reserved by the open transaction. -/
  picks : List Nat := []
  txPicks : List Nat := []
  /-- Arguments of the last job, for PICKSTART (R232). -/
  lastArgs : List Word := []
  /-- The running job: master and record. -/
  job : Option (Nat × Nat) := none
  /-- A job has run since the CLAIM (R233). -/
  hasRun : Bool := false
  /-- Energy charged but not yet a whole mJ, in nJ (R234). -/
  nanojoule : Nat := 0
  /-- ROM program that the job runs (R250); none for program memory. -/
  rom : Option Nat := none
  /-- Orders of the ROM program that are still to resolve (R471). -/
  romLeft : Nat := 0
  /-- Cell tests: the last cell done and its old and new `CEL_n_CAL` (R471). -/
  lastCell : Nat := 0xFFFFFFFF
  oldCal : Word := 0
  newCal : Word := 0
  /-- An ABORT waits for the running commit (R252). -/
  aborting : Bool := false
  /-- The running commit's record has gone to the peer (R374). -/
  sentCommit : Bool := false
  deriving DecidableEq, Repr

/-- Use of an operation slot (R227). -/
inductive SlotUse where
  | rail | wait | commit | measure (tag : Nat) | cellTest (tag : Nat) (cal : Bool) (todo pass fail : Nat)
  deriving DecidableEq, Repr

/-- One shuttle (R225, R228). -/
structure Shuttle where
  ctx : Option Nat := none
  /-- Instructions since the dispatch (R226). -/
  count : Nat := 0
  /-- `SYSTIME` of the last stall (R228). -/
  lastStall : Option Nat := none
  /-- Disabled until the next POR-column reset. -/
  off : Bool := false
  deriving DecidableEq, Repr

/-- A request to shed (R240): who asks and the rail-side current in 10 mA. -/
structure ShedRequest where
  who : Nat
  excess : Nat
  deriving DecidableEq, Repr

/-- The Loom (R225 to R253). -/
structure Lom where
  orders : List Order := []
  /-- Targets held by a context: the context whose order put the value in force (R234). -/
  holders : List (Target × Nat) := []
  slots : Store (Nat × SlotUse) := []
  /-- Uses of each slot, for the tag generation of R268. -/
  slotGen : Store Nat := []
  shuttles : List Shuttle := [{}, {}, {}, {}, {}, {}, {}, {}]
  ctxs : Store Context := []
  /-- Running number for READY order, groups and arrivals. -/
  seq : Nat := 1
  requests : List ShedRequest := []
  /-- Spare rail current that the requesters report, 10 mA (R241). -/
  spare : Nat := 0
  /-- `SYSTIME` since which no shed request has been active; of the last restore. -/
  quietSince : Nat := 0
  lastRestore : Nat := 0
  /-- Result and context of each master's last `LOM_CTX_CMD`. -/
  cmdResult : Store (Nat × Nat) := []
  /-- Ticks in a row whose merge did not complete in time (R22). -/
  overruns : Nat := 0
  /-- `SYSTIME` since which the merge has completed in time. -/
  mergeGoodSince : Nat := 0
  /-- `SYSTIME` of the last restart of context 0 (R251). -/
  ctx0Restart : Option Nat := none
  deriving DecidableEq, Repr

/-! ### Jobs -/

/-- An entry of the deduplication window (R288). -/
structure Accepted where
  jobId : Word
  asn : Nat
  record : Nat
  deriving DecidableEq, Repr

/-- The job interface (R272 to R294). Records are keyed master * 32 + record. -/
structure Jobs where
  recs : Store Job := []
  /-- Completion entries due, oldest first: master and the four words (R282). -/
  posts : List (Nat × List Word) := []
  /-- Last release result of each master (R287). -/
  relres : Store Nat := []
  /-- Record numbers with their order of allocation. -/
  queueSeq : Nat := 0
  deriving DecidableEq, Repr

/-! ### The Beam -/

/-- What the Beam keeps across resets (R34, R290, R288, R281, R246, R248, R210, R197, R420). -/
structure Beam where
  /-- Job records, keyed as in `Jobs`. -/
  jobs : Store Job := []
  /-- Commit record of each context, and the data words that committed transactions have written (R246). -/
  commits : Store Commit := []
  dm : WordMap := []
  /-- Deduplication window of each master, newest first, at most 1,024 (R288). -/
  window : Store (List Accepted) := []
  /-- Count of acceptances on this device, bits [46:0] (R281). -/
  asnCount : Nat := 0
  /-- Saved copies of locked program pages: instruction address and word (R248). -/
  pages : WordMap := []
  lockedPages : List Nat := []
  /-- Saved `MEA_QCNT` (R210). -/
  charge : Word := 0
  /-- Saved weft tables: the 32 words of table t (R197). -/
  wefts : Store (List Word) := []
  /-- EPOCH (R378), own journal sequence number, the own one that the peer has confirmed and the peer's held here (R373). -/
  epoch : Nat := 0
  jsn : Nat := 0
  ackedJsn : Nat := 0
  peerJsn : Nat := 0
  /-- Mirror of the peer's records (R373). -/
  mirJobs : Store Job := []
  mirCommits : Store Commit := []
  /-- Journal sequence number of the last record of each job and of each context, its release or end included (R381). -/
  jobJsn : Store Nat := []
  commitJsn : Store Nat := []
  /-- Update state word and staging descriptor (R420): STAGE, TRIAL, BOOTS, CLEANUP, RUN, the last rejection, the manifest
  hash and the map of blocks stored. -/
  stage : Nat := 0
  trial : Bool := false
  boots : Nat := 0
  cleanup : Bool := false
  run : Bool := false
  reject : Nat := 0
  manifest : BitVec 256 := 0
  blocks : List Nat := []
  size : Nat := 0
  /-- Rows retired since manufacture (R35, `BEM_WEAR`). -/
  retired : Nat := 0
  deriving DecidableEq, Repr

/-! ### Measurement -/

/-- Who asked for a conversion (R204, R206, R268). -/
inductive Asker where
  | protect | charge | sample (tag : Nat) (slot : Nat) | ctx (c tag : Nat) | scan (pos : Nat) | calib
  deriving DecidableEq, Repr

/-- A conversion request (R28, R204). -/
structure Conversion where
  /-- Class 1 to 5 of R28, 1 first. -/
  cls : Nat
  /-- Priority inside class 4. -/
  prio : Nat := 0
  ch : Nat
  /-- ADC asked for: 0 either, 1 A, 2 B. -/
  adc : Nat := 0
  /-- `SYSTIME` of the request and its deadline. -/
  made : Nat := 0
  deadline : Option Nat := none
  asker : Asker
  /-- Marked LATE already (R189). -/
  late : Bool := false
  deriving DecidableEq, Repr

/-- The measurement subsystem beside its registers (R201 to R211). -/
structure Mea where
  /-- Requests that wait for an ADC, oldest first. -/
  requests : List Conversion := []
  /-- Last delivered code of each channel (R202). -/
  last : Store Nat := []
  /-- The conversion that each ADC runs, 0 A and 1 B, and its start (R201). -/
  busy : Store (Conversion × Nat) := []
  /-- Calibration of R207: the last zero code of each ADC, bad pairs in a row, and the last served pair. -/
  zero : Store Nat := []
  bad : Store Nat := []
  pairAt : Store Nat := []
  /-- Result FIFO, oldest first: code, tag, channel, start, LATE (R206). -/
  fifo : List (Nat × Nat × Nat × Nat × Bool) := []
  /-- The running scan: positions still to deliver; the next scan is due after it (R206). -/
  scanLeft : List Nat := []
  scanNext : Bool := false
  scanAt : Option Nat := none
  /-- Coulomb sums in nC and the time of the previous pack-current conversion (R209). -/
  qNet : Int := 0
  qIn : Nat := 0
  qOut : Nat := 0
  qLast : Option Nat := none
  qSaveAt : Option Nat := none
  /-- Requests of the running millisecond and its start (R204, `LOAD`). -/
  asked : Nat := 0
  askedFrom : Nat := 0
  deriving DecidableEq, Repr

/-- The thermal unit beside its registers (R213 to R222). -/
structure Thm where
  /-- T_die and each cell's T_n at the last throttle step, 1/16 C. -/
  dieLast : Int := 0
  stageLast : Store Int := []
  dieAt : Nat := 0
  stageAt : Store Nat := []
  capAt : Nat := 0
  /-- Limits in percent that the die steps and the stage steps set (R218, R219): blocks 0 TRK, 1 CHB, 2 PRT. -/
  dieLim : Store Nat := []
  stageLim : Store Nat := []
  /-- Stage shutdowns to park at the end of the cell's period (R217). -/
  toPark : List Nat := []
  deriving DecidableEq, Repr

/-! ### Warp tracks, picks and weft tables (chapter 07) -/

/-- A warp track beside its registers. Times are in 2.5 ns; phases in 2^-48 revolution, counted on over the
revolutions (R170 to R178). -/
structure Track where
  /-- Edge 0 of the acquisition, accepted times newest first (at most 9), and their number. -/
  first : Nat := 0
  times : List Nat := []
  count : Nat := 0
  /-- Angle of the last stamp, and the angle that the last stamp interval covered. -/
  stamp : Nat := 0
  covered : Nat := 65536
  /-- Last edge received, and short intervals or deviating stamps in a row (R175, R177). -/
  seen : Option Nat := none
  short : Nat := 0
  /-- Phase at the `SYSTIME` value `since`, and its increment every 10 ns. -/
  phase : Nat := 0
  since : Nat := 0
  inc : Nat := 0
  /-- Earlier stretches of the last 1 ms, newest first: start, phase there and increment (R177). -/
  past : List (Nat × Nat × Nat) := []
  /-- Speed as revolutions per 2.5 ns. -/
  wNum : Nat := 0
  wDen : Nat := 1
  /-- Time and phase of the last lock entry. -/
  lockAt : Nat := 0
  lockPhase : Nat := 0
  /-- End of FLYWHEEL, `SYSTIME`. -/
  flyEnd : Option Nat := none
  deriving DecidableEq, Repr

/-- A weft table beside its entries (R190 to R195). -/
structure Weft where
  /-- Learning: 0 none, 1 waits for its start, 2 runs. -/
  learn : Nat := 0
  /-- Fade of R194: value at `fadeAt` in 2^-16, the length of the fade (0: it stands) and its direction. -/
  fade : Nat := 0
  fadeAt : Nat := 0
  fadeLen : Nat := 0
  fadeUp : Bool := false
  /-- Learning: start, phase at the start, bins of all complete revolutions and of the running one: sum in
  2^-16 of 10 mA and number of samples. -/
  beganAt : Nat := 0
  revPhase : Nat := 0
  bins : List (Int × Nat) := []
  rev : List (Int × Nat) := []
  revs : Nat := 0
  /-- Phase of each track at the start (R192, ALIASED). -/
  marks : Store Nat := []
  deriving DecidableEq, Repr

/-- An armed pick slot beside its words (R183, R184). -/
structure PickUnit where
  /-- Phase up to which the crossings of an ANGLE pick are done with. -/
  seen : Nat := 0
  /-- Due time of a TIME pick, `SYSTIME`. -/
  due : Nat := 0
  deriving DecidableEq, Repr

/-- A keep-out window of a block (R187). -/
structure KeepOut where
  opened : Nat
  ends : Nat
  /-- It is still open; held pulses; and when the last one was released. -/
  isOpen : Bool := true
  held : Nat := 0
  released : Option Nat := none
  deriving DecidableEq, Repr

/-- A SAMPLE action that waits for its quiet window (R189). -/
structure SampleWait where
  slot : Nat
  adc : Nat
  mask : Nat
  tag : Nat
  ch : Nat
  at_ : Nat
  deriving DecidableEq, Repr

/-- The Warp unit and the Reed beside their registers. -/
structure Red where
  tracks : Store Track := []
  wefts : Store Weft := []
  picks : Store PickUnit := []
  /-- Running CHG_REF_ADD steps: slot, value in 10 mA and end (R186). -/
  steps : List (Nat × Int × Nat) := []
  /-- Mark FIFO, oldest first: time, tag, slot (R186). -/
  marks : List (Nat × Nat × Nat) := []
  /-- Keep-out windows of blocks 0 TRK, 1 CHB, 2 PRT. -/
  keep : Store KeepOut := []
  samples : List SampleWait := []
  /-- Latched stamp time of each master (R177). -/
  stampTimes : Store Nat := []
  /-- End of the DTEST pulse of a MARK action (R186). -/
  dtestUntil : Option Nat := none
  deriving DecidableEq, Repr

/-! ### Cells and blocks (chapters 04 to 06) -/

/-- Why a cell is in SLEEP (R85, R98, R122, R126, R137). -/
inductive Sleep where
  | shed | burst | parked | reverse
  deriving DecidableEq, Repr

/-- What a cell does beside its registers (R85 to R109, R213 to R216). -/
structure CellUnit where
  /-- Start of the on-pulse in progress, `SYSTIME`. -/
  pulse : Option Nat := none
  /-- A low-side refresh pulse of R89 is in progress: its length in 156.25 ps; 0 for none. -/
  refresh : Nat := 0
  /-- The rectifying switch is on (R91, R96). -/
  rect : Bool := false
  /-- `SYSTIME` at which the last pulse ended (R92). -/
  offAt : Option Nat := none
  /-- `CEL_n_ILIM` as latched at the start of the period (R87). -/
  ilim : Word := 0
  /-- High-side pulses skipped in a row (R89, R105). -/
  skips : Nat := 0
  /-- Frequency target in 0.1 Hz; none for the cell's `FSW` (R93, R100). -/
  target : Option Nat := none
  /-- Frequency goal that R109 sets, 0.1 Hz; none for unlimited. -/
  gdGoal : Option Nat := none
  /-- Pulses since the last update of `CF` (R94). -/
  pulses : Nat := 0
  /-- Measured frequency, 0.1 Hz (R94). -/
  fmeas : Nat := 0
  /-- `SYSTIME` at which the cell stopped switching (R89, R203). -/
  quietAt : Option Nat := none
  /-- One refresh pulse is due before the first high-side pulse (R89). -/
  needRefresh : Bool := false
  /-- The tracking converter has auto-zeroed since the cell stopped switching (R203). -/
  zeroed : Bool := false
  /-- Why the cell sleeps; meaningful in SLEEP. -/
  sleep : Sleep := .shed
  /-- State code that the cell was taken into TEST from. -/
  testFrom : Nat := 0
  /-- The low-side switch is latched on by the crowbar (R135). -/
  latched : Bool := false
  /-- The temperature rises of R213 and the filtered anchor, in 2^-32 K. -/
  dT1 : Int := 0
  dT2 : Int := 0
  dT3 : Int := 0
  anchor : Option Int := none
  /-- The band has been placed since release (R216). -/
  placed : Bool := false
  deriving DecidableEq, Repr

/-- A re-entry ramp (R125): the cell, the class of R127 (0 substitution, 1 start-up and active-set
change, 2 thermal rotation or test) and the periods completed. -/
structure Ramp where
  cell : Nat
  cls : Nat
  periods : Nat := 0
  deriving DecidableEq, Repr

/-- Why a cell's share is taken to zero over 64 periods (R129 to R131). -/
inductive Leaving where
  | rotate
  | test (slot : Nat)
  | remove
  deriving DecidableEq, Repr

/-- A converter block beside its registers (R92 to R101, R112 to R131). -/
structure Fleet where
  /-- The cell that fired last (R92). -/
  last : Option Nat := none
  /-- A pulse waits for a cell that becomes eligible (R92). -/
  waits : Bool := false
  /-- Truncation hold-off (R97). -/
  holdOff : Bool := false
  /-- Reference of the loop comparator in uV (R92, R118, R142). -/
  vref : Int := 0
  /-- Burst mode (R98): the packet cell, the pulses left in its packet, whether it has fired one, and the cells
  that were ACTIVE at entry. -/
  packet : Option Nat := none
  packetLeft : Nat := 0
  packetFired : Bool := false
  atEntry : List Nat := []
  /-- The running re-entry ramp and those queued (R125, R127). -/
  ramp : Option Ramp := none
  queue : List Ramp := []
  /-- Isolated cells that await a substitute (R124). -/
  lost : List Nat := []
  /-- Abandoned ramps of each cell, and when to retry in which class (R126). -/
  tries : Store Nat := []
  retryAt : Store (Nat × Nat) := []
  /-- Cells whose share is being taken to zero: the reason and the periods completed. -/
  leaving : Store (Leaving × Nat) := []
  /-- Thermal rotations and tests that wait for their substitute: substitute and the cell to free. -/
  swaps : Store (Nat × Leaving) := []
  /-- `SYSTIME` since which the current lies below the shed level (R122). -/
  lowSince : Option Nat := none
  /-- Overload budget of R114 in 1/9 us. -/
  budget : Nat := 900000
  exhausted : Bool := false
  /-- `SYSTIME` since which each cell's trim lies at a limit (R120). -/
  satSince : Store Nat := []
  /-- `SYSTIME` since which the reference has been held below its target by R115. -/
  droopSince : Option Nat := none
  /-- The reference returns to its target after the limit was released (R115). -/
  returning : Bool := false
  /-- Active set that takes effect at the next tick (R112). -/
  assignNext : Option Nat := none
  /-- Start-up or wake ramps are outstanding (R21, R133). -/
  starting : Bool := false
  /-- Placement set by a SET_INTERLEAVE pick: its slot and its word (R123, R188). -/
  placement : Option (Nat × Word) := none
  /-- Number of switching cells at the last placement. -/
  placedFor : Nat := 0
  deriving DecidableEq, Repr

/-- The modulator core and the trunk (chapters 04 and 05). -/
structure Modulator where
  cells : Store CellUnit := []
  trk : Fleet := {}
  chb : Fleet := {}
  prt : Fleet := {}
  /-- `SYNC_IN` has qualified (R100). -/
  syncOk : Bool := false
  /-- `SYSTIME` since which the gate-drive power exceeds its budget (R109). -/
  overDriveSince : Option Nat := none
  /-- Gate-drive power of the last check, 10^-10 W. -/
  driveUsed : Nat := 0
  /-- `VDRV` is below its threshold: gates off, checks suspended (R449). -/
  vdrvLow : Bool := false
  /-- The rail order whose slew runs (R118, R258). -/
  order : Option Order := none
  /-- The last samples of the VSEL pins, newest first, at most three (R117). -/
  vsel : List Nat := []
  /-- V_ovr of R134 in uV. -/
  vOvr : Int := 0
  /-- `SYSTIME` since which the rail regulates by the ROM path (R132). -/
  romTrunk : Bool := false
  deriving DecidableEq, Repr

/-! ### Source path, charge engine and port (chapters 03, 06 and 13) -/

/-- A running capability search (R65, R66). Voltages in 10 mV, currents in 10 mA. -/
structure Search where
  /-- 1 TRK, 2 BYP. -/
  source : Nat
  vref : Nat
  vth : Nat
  lastGood : Nat
  target : Nat
  /-- Voltage and current of the good steps. -/
  pairs : List (Nat × Nat) := []
  deriving DecidableEq, Repr

/-- The source path beside its registers. -/
structure Src where
  /-- After a hold-up transfer the net must reach its floor plus a margin (R58). -/
  need48 : Bool := false
  need12 : Bool := false
  /-- Voltage at qualification, 10 mV (R65), and whether a search has run since. -/
  ref48 : Nat := 0
  ref12 : Nat := 0
  fresh48 : Bool := true
  fresh12 : Bool := true
  /-- Transfer reference, 10 mV, its cause and its start (R60). -/
  xferRef : Nat := 0
  xferCause : Nat := 0
  /-- Failed attempts toward each source; 3 bars it (R61). -/
  fails : Store Nat := []
  retryAt : Option Nat := none
  retryTo : Nat := 0
  /-- Searched ceilings, 10 mA; none before the first search (R69). -/
  ceil48 : Option Nat := none
  ceil12 : Option Nat := none
  search : Option Search := none
  /-- A search start is held (R68). -/
  pending : Bool := false
  periodAt : Option Nat := none
  initialAt : Option Nat := none
  settleAt : Option Nat := none
  /-- Sources that have been primary (R68). -/
  been : List Nat := []
  /-- Primary-net voltages of the last 10 ms: `SYSTIME` and 10 mV (R68). -/
  hist : List (Nat × Nat) := []
  /-- Extra input current that a search asks for, 10 mA (R66). -/
  draw : Nat := 0
  /-- Start of trunk reverse (R80). -/
  revAt : Option Nat := none
  /-- The lockouts have been evaluated since release (R76). -/
  evaluated48 : Bool := false
  evaluated12 : Bool := false
  /-- Excess rail current handed to the Loom, 10 mA (R27, R70). -/
  excess : Nat := 0
  /-- South Power's share of the ceiling as input current, 10 mA (R27). -/
  southShare : Nat := 0
  /-- The trunk's limit under `HARD_LIMIT` as rail current, 10 mA; none while it does not act (R71). -/
  hard : Option Nat := none
  deriving DecidableEq, Repr

/-- The charge engine and the pack side beside their registers. -/
structure Chg where
  /-- State kept while PAUSED (R148). -/
  kept : Nat := 0
  /-- Start of the 10 ms measurement of QUALIFY. -/
  qualifyAt : Option Nat := none
  /-- State that QUALIFY leads to once `PACK_G` has closed. -/
  goalState : Nat := 0
  /-- Start of the node pre-charge, of the `PACK_G` ramp, and the time of the next try (R144). -/
  nodeAt : Option Nat := none
  rampAt : Option Nat := none
  retryAt : Option Nat := none
  /-- `PACK_G` was opened by the headroom condition (R145). -/
  headOpen : Bool := false
  /-- `SYSTIME` since which presence holds in ABSENT (R160). -/
  presentSince : Option Nat := none
  /-- Failing presence samples in a row, and the last samples in mV and 10 mA (R158). -/
  failing : Nat := 0
  lastV : Int := 0
  lastI : Int := 0
  /-- Safety timers, in 1/65536 us of dilated time (R152, R153). -/
  tPre : Nat := 0
  tFast : Nat := 0
  tTotal : Nat := 0
  /-- Time since the watchdog expiry, us of charging (R156). -/
  tOverlay : Nat := 0
  /-- Charge watchdog: time left in us, and a valid serve since the expiry (R155, R157). -/
  wdgLeft : Nat := 40000000
  served : Bool := false
  /-- Terms of the reference of R143, pack-side, 10 mA. -/
  iPhase : Int := 0
  iSearch : Int := 0
  iShave : Int := 0
  iWeft : Int := 0
  /-- Output of the outer voltage loop (R142). -/
  iLoop : Int := 0
  /-- `SYSTIME` since which the pack current lies below `I_TERM` (R149), of CC entry, and the peak of V_pack. -/
  termSince : Option Nat := none
  ccSince : Option Nat := none
  vPeak : Nat := 0
  /-- `CHEM` written while backup runs, held until it ends (R166). -/
  chemHeld : Option Nat := none
  /-- `SYSTIME` of the last hold-up transfer (R145). -/
  holdupAt : Option Nat := none
  /-- Backup set-point in force, 10 mV (R60, R165), and its reference in uV while it slews. -/
  backupSet : Nat := 0
  /-- Sums of the 1 ms averages: mV, 10 mA and samples, and their start. -/
  sumV : Int := 0
  sumI : Int := 0
  numV : Nat := 0
  numI : Nat := 0
  avgFrom : Nat := 0
  /-- The last `PACK_NTC` conversion was OPEN or SHORT. -/
  ntcBad : Bool := true
  /-- A measured zone has been placed since the last invalid reading (R150). -/
  zonePlaced : Bool := false
  /-- The last `PACK_NTC` pin ratio x of R211, in 1/65536. -/
  ntcX : Nat := 0
  /-- A presence sample has failed since QUALIFY began. -/
  absentSeen : Bool := false
  /-- The headroom pause of R145 (b) holds. -/
  headPause : Bool := false
  deriving DecidableEq, Repr

/-- The messages that the port core sends (R324, R335 to R345). -/
inductive PdMsg where
  | caps | request | accept | reject | wait | psRdy | prSwap | drSwap | hardReset | softReset | notSupported
  | discoverIdentity | eprEnter | eprOk | eprFail
  deriving DecidableEq, Repr

/-- A power role swap (R343, R344). -/
structure Swap where
  job : Option (Nat × Nat) := none
  /-- Target role: 0 sink, 1 source. -/
  goal : Nat
  /-- 0 waits for its turn to send, 1 PR_Swap sent, 2 accepted, 3 waits to retry, 4 waits for SRC to release VBUS. -/
  phase : Nat := 0
  retries : Nat := 0
  /-- End of tPRSwapWait. -/
  at_ : Nat := 0
  /-- PR_Swap messages sent. -/
  sent : Nat := 0
  deriving DecidableEq, Repr

/-- The service port beside its registers (chapter 13). -/
structure Svc where
  /-- Capabilities that the partner sent, and those that the device sent last (R336, R338). -/
  partner : List Pdo := []
  offered : List Pdo := []
  /-- The request sent or accepted that is not yet in force: object, voltage 10 mV, current 10 mA. -/
  request : Option (Pdo × Nat × Nat) := none
  /-- The contract in force: object, voltage, current. -/
  contract : Option (Pdo × Nat × Nat) := none
  swap : Option Swap := none
  /-- EPR mode is active. -/
  epr : Bool := false
  /-- Deadlines: Request retry, tSinkTx, tSrcTransition, recovery, Soft_Reset wait, ErrorRecovery, port core. -/
  retryAt : Option Nat := none
  sinkTxAt : Option Nat := none
  transAt : Option Nat := none
  recoverAt : Option Nat := none
  softAt : Option Nat := none
  recoveryEnd : Option Nat := none
  coreBackAt : Option Nat := none
  tryAt : Option Nat := none
  /-- What DISCHARGE is for: 0 nothing, 1 a swap, 2 a Hard Reset, 3 the end of sourcing. -/
  dischargeFor : Nat := 0
  /-- As sink the port waits for `VBUS` at 4.75 V: 1 after a swap, 2 after a Hard Reset (R344, R345). -/
  awaitVbus : Nat := 0
  /-- The last message sent, and whether the partner offers EPR (R336). -/
  sent : Option PdMsg := none
  partnerEpr : Bool := false
  /-- Rail voltage of the last computation of P_cap, 10 mV (R338). -/
  rail : Nat := 0
  /-- Time of the Hard Reset (R345). -/
  resetAt : Nat := 0
  /-- Sourcing is held off because PACK is primary (R347), and since when. -/
  packSince : Option Nat := none
  packStop : Bool := false
  /-- Deadlines of R339: P_cap below the contract, and at a higher class. -/
  lowSince : Option Nat := none
  highSince : Option Nat := none
  /-- A port stop lasts, and its watchdog cause (R346). -/
  stopped : Bool := false
  watchdog : Bool := false
  /-- The vendor interface's last executed request: SEQ and its response words (R352). -/
  lastSeq : Option Nat := none
  response : List Word := []
  /-- What the last request was answered with. -/
  reply : List Word := []
  /-- Toggle phase of the unattached port: `Rp` presented (R333). -/
  rpPhase : Bool := false
  /-- The attach state that the ROM left (R335). -/
  romSink : Bool := false
  deriving DecidableEq, Repr

/-! ### Safety (chapter 15) -/

/-- The safety unit beside its registers. -/
structure Saf where
  /-- `SYSTIME` of the chip safe state and the fault code that caused it (R395). -/
  chipSafeAt : Option Nat := none
  chipSafeCode : Nat := 0
  /-- `SYSTIME` at which each region entered its safe state, by its fault code (R21). -/
  safeAt : Store Nat := []
  /-- The window watchdog (R388 to R393): AON tick T0 of the window, C and O in force in ticks, AON tick of the first key, and
  k as frozen in DEEP SLEEP. -/
  wdgT0 : Nat := 0
  wdgC : Nat := 0
  wdgO : Nat := 250000
  wdgArmed : Option Nat := none
  wdgFrozen : Option Nat := none
  /-- A valid serve since the last reset. -/
  served : Bool := false
  /-- Last result of each master for `SAF_RST_CMD`, `SAF_FAULT_CLR`, `SAF_PWR_CMD` and `SAF_LC_CMD` (R413). -/
  results : Store Nat := []
  /-- A Warm-column reset that waits for an NVM step: kind and detail (R401). -/
  deferred : Option (Nat × Nat) := none
  /-- The device is held in reset of this kind (R399, R400). -/
  inReset : Option Nat := none
  /-- AON ticks of release and of keep-alive good, and the inputs present as a mask (R73, R414): 0 `IN48`, 1 `IN12`,
  2 `VBUS`, 3 rail, 4 `PACK_P`. -/
  releasedAt : Nat := 0
  keepGoodAt : Option Nat := some 0
  keepInputs : Nat := 1
  /-- A mode request in force at the next tick boundary (R403), and `SYSTIME` of entry to DEEP SLEEP. -/
  modeReq : Option Nat := none
  sleptAt : Nat := 0
  /-- The lifecycle command whose token is being verified: master and target (R410); the state whose wipe runs (R409). -/
  tokenFor : Option (Nat × Nat) := none
  wiping : Option Nat := none
  /-- `SYSTIME` since which every clock is in tolerance; of the last escalation condition of North and South (R395). -/
  clocksGood : Option Nat := some 0
  escalatedAt : Store Nat := []
  /-- A Beam test record has committed since Interface became safe; last uncorrectable errors of the jobs SRAM (R22). -/
  testCommitted : Bool := false
  jobsEcc : Option Nat := none
  /-- Firmware runs (R414 step 5), and the ROM has chosen the image in this boot. -/
  firmware : Bool := false
  chosen : Bool := false
  /-- The trunk has left burst mode in STANDBY (R402). -/
  loadWake : Bool := false
  /-- `VIO` is low (R49). -/
  vioLow : Bool := false

  deriving DecidableEq, Repr

/-! ### The pair (chapter 14) -/

/-- A sequenced frame that the peer has not acknowledged (R360). -/
structure Sent where
  seq : Nat
  at_ : Nat
  frame : Frame
  deriving DecidableEq, Repr

/-- The Redundancy Unit beside its registers. -/
structure Sel where
  /-- `SYSTIME` of the last valid frame (R361). -/
  lastFrame : Option Nat := none
  /-- Sequence numbers: the next to send, the next expected. -/
  txSeq : Nat := 0
  rxSeq : Nat := 0
  /-- Unacknowledged frames, oldest first, at most 32; resends of the oldest; frames that wait for room. -/
  unacked : List Sent := []
  resends : Nat := 0
  waiting : List Frame := []
  /-- The next frame carries NAK. -/
  nak : Bool := false
  /-- The frame queued last. -/
  sent : Option Frame := none
  /-- Stamps of the peer's last HEARTBEAT: its send time and our receive time; theta in ns (R364). -/
  gotT3 : Nat := 0
  gotAt : Nat := 0
  theta : Int := 0
  /-- From the last HELLO and HEARTBEAT: EPOCH, `WEIGHT`, qualified sources, intended primary and its tick. -/
  peerEpoch : Nat := 0
  peerWeight : Nat := 128
  peerQuals : Nat := 0
  peerJsnHeld : Nat := 0
  intended : Nat := 0
  intendedTick : Nat := 0
  /-- `SPLIT` and `PAIR_ID` as in force since the last pairing (R387). -/
  split : Nat := 64
  pairId : Word := 0
  /-- `SEL_CTRL` words due at a tick (R387). -/
  modeAt : List (Nat × Word) := []
  /-- Start of the `SHARE` probe, and what it found: no peer drives the bus (R377). -/
  probeAt : Option Nat := none
  probeLost : Option Bool := none
  /-- Trims of R370, uV, and since when their sum lies at the clamp. -/
  aTrim : Int := 0
  dTrim : Int := 0
  satSince : Option Nat := none
  /-- The trunk was left idle by R379 and waits for the join ramp. -/
  idleTrunk : Bool := false
  /-- This twin returns: the peer's EPOCH is higher (R381). -/
  returning : Bool := false
  /-- The join ramp: its start, the abandoned attempts, and the time of the next (R382). -/
  joinStart : Option Nat := none
  joinTries : Nat := 0
  joinRetryAt : Option Nat := none
  /-- Start of the share-out of R384; `SHARE` is released from its end on. -/
  outStart : Option Nat := none
  released : Bool := false
  /-- Own records that the peer has not confirmed, by journal sequence number (R374). -/
  acks : Store BeamRecord := []
  /-- `update_handover` (R384): its job, what it has sent, and the tracks that the peer matched. -/
  handover : Option (Nat × Nat) := none
  sentCtx : Nat := 0
  sentPicks : Nat := 0
  /-- The peer runs `update_handover`; its work is adopted here. -/
  peerUpdates : Bool := false
  adopted : Bool := false
  /-- The limits that the join ramp and the share-out lead to and from, 10 mA (R382, R384). -/
  joinTo : Nat := 0
  outFrom : Nat := 0
  /-- The hand-back of R383: this twin freezes contexts for it; every frame of it has arrived here. -/
  handBack : Bool := false
  backReady : Bool := false
  matched : Nat := 0
  /-- Everything of the running `update_handover` has been sent (R384). -/
  sentAll : Bool := false
  /-- `SYSTIME` of role B leaves out its next count (R364). -/
  slow : Bool := false
  /-- Last result of each master for `SEL_CMD`. -/
  results : Store Nat := []
  deriving DecidableEq, Repr

/-! ### Flash and update (chapter 16) -/

/-- A flash bank (R418): its words by word index, byte 0 of a word in [31:24]; a bank that holds the image it was
shipped with lists no words (log entry 41). -/
structure Bank where
  words : WordMap := []
  shipped : Bool := false
  /-- An uncorrectable read error waits for the bank's next verification (R419). -/
  bad : Bool := false
  deriving DecidableEq, Repr

/-- A copy into ACTIVE whose journal is open (R430): from FALLBACK or from STAGING, whether ACTIVE is first saved to FALLBACK,
and the markers written. -/
structure ImageCopy where
  fromFallback : Bool
  save : Bool
  markers : Nat := 0
  /-- Parts of the source, and of ACTIVE where it is saved first. -/
  parts : Nat := 0
  saveParts : Nat := 0
  /-- The trial failed: after the copy STAGE is REJECTED. -/
  trialFailed : Bool := false
  deriving DecidableEq, Repr

/-- The Boot, Update and Store unit beside its registers. -/
structure Upd where
  active : Bank := { shipped := true }
  staging : Bank := {}
  fallback : Bank := {}
  /-- Key record and its fused hash once written here (R418, R423); none: those of manufacture. The anti-rollback counter (R424). -/
  keyRec : Option (List Word) := none
  fused : Option (BitVec 256) := none
  arb : Nat := 0
  /-- ACTIVE has been verified in this boot (R429). -/
  activeOk : Bool := false
  /-- The running copy of STAGING or FALLBACK to ACTIVE (R430, R432). -/
  copy : Option ImageCopy := none
  /-- Settings records: register address, word and bits (R433). -/
  settings : List (Nat × Word × Word) := []
  /-- Schema of the records, and the previous generation (R433). -/
  schema : Nat := 1
  oldSettings : Option (Nat × List (Nat × Word × Word)) := none
  /-- Spare sectors and failures since manufacture (R419). -/
  spares : Nat := 8
  fails : Nat := 0
  /-- Token of the open session, the next block to store, the time its idle limit runs out, and the block being programmed: its
  number and words (R425, R426). -/
  token : Nat := 0
  next : Nat := 0
  idleAt : Option Nat := none
  programming : Option (Nat × List Word) := none
  /-- Last result of each master for `UPD_SESSION`, `UPD_CMD` and `UPD_BLOCK` (R440). -/
  results : Store Nat := []
  /-- Flags due at the first full-service tick. -/
  rolledBack : Bool := false
  rejected : Bool := false
  activated : Bool := false
  /-- The held restart (R434) has copied an image. -/
  holdCopied : Bool := false
  /-- Healthy time of R431 in us. -/
  healthy : Nat := 0
  /-- The last block of the DFU download (R350). -/
  dfuBlock : Nat := 0
  /-- The next block to push to the peer (R427). -/
  pushing : Option Nat := none
  /-- STAGING is being erased in the background (R428, R432). -/
  erasing : Bool := false
  deriving DecidableEq, Repr

/-! ### Host buses and the auxiliary bus (chapter 12) -/

/-- What an SPI frame is answered with (R298, R300): its errors, TAG and DATA. -/
structure SpiAnswer where
  frameErr : Bool := false
  accErr : Bool := false
  tag : Nat := 0
  data : Word := 0
  deriving DecidableEq, Repr

/-- The host interface beside its registers. -/
structure Hif where
  /-- HELD and its TAG (R300); the answer due in the next frame; the 56 bits sent in the last one. -/
  held : Word := 0
  heldTag : Nat := 0
  answer : SpiAnswer := {}
  sdo : BitVec 56 := 0
  /-- Words of the last read burst or I2C read, and its PEC byte when one was sent (R302, R309, R310). -/
  words : List Word := []
  pec : Option (BitVec 8) := none
  /-- End of the re-arm gap of `INT_N` (R317). -/
  rearmUntil : Option Nat := none
  deriving DecidableEq, Repr

/-- The auxiliary controller beside its registers: the running command, one held during the bus clear, the start of the bus
clear, and the bus may start again (R318 to R320). -/
structure Aux where
  /-- The running command's word (R318, R319). -/
  cmd : Word := 0
  /-- A command that waits for the end of the bus clear: its master and word (R320). -/
  held : Option (Nat × Word) := none
  /-- `SYSTIME` at which the bus clear began (R320). -/
  clearAt : Nat := 0
  deriving DecidableEq, Repr


/-- The whole machine. -/
structure State where
  /-- `SYSTIME` (R31), 10 ns per count. -/
  time : Nat := 0
  /-- AON ticks, 1 us each (R29). -/
  aon : Nat := 0
  /-- Every architected register, by its address. -/
  regs : WordMap := porWords
  /-- Upper words latched by R13, keyed address * 8 + master. -/
  latches : Store Word := []
  /-- Value the last read answered to its master. -/
  readData : Word := 0
  /-- Program memory (R248), by instruction address. -/
  pm : WordMap := []
  /-- Data memory (R249), by byte address. -/
  dm : WordMap := []
  /-- Context records (R229), word w of context c at 32 * c + w. -/
  ctx : WordMap := []
  /-- Windows from 0x4000 up: rings, snapshots, pick and weft tables, update buffers, by byte address. -/
  win : WordMap := []
  /-- How many free values have been drawn (the model's own; log entry 5). -/
  freeCount : Nat := 0
  lom : Lom := {}
  jobs : Jobs := {}
  beam : Beam := {}
  mea : Mea := {}
  mod : Modulator := {}
  src : Src := {}
  chg : Chg := {}
  svc : Svc := {}
  thm : Thm := {}
  red : Red := {}
  saf : Saf := {}
  /-- Calibration words written by `cell_calibrate`, by register address (R208). -/
  calArea : WordMap := []
  sel : Sel := {}
  upd : Upd := {}
  hif : Hif := {}
  aux : Aux := {}
  /-- The commands that wait, first in, first out. -/
  pending : List Instr := []
  deriving DecidableEq, Repr

/-- The machine right after a power-on reset: every field at its default above, registers at the POR
words of the register map; its release follows by R400. -/
def State.reset : State := { saf := { inReset := some 1 } }

end Sys2Proof.Machine
end

