-- ==== Sys2Proof/Machine/Fields.lean ====
section
/-!
DEFINITION. The named addresses and bit fields of the register map, under the spec's own names:
`SRC_CTRL.EN` is field EN of register `SRC_CTRL`. A group of registers takes its index.
-/

namespace Sys2Proof.Machine

/-- `GLB_FEAT` (SC). -/
def GLB_FEAT.addr : Nat := 0x0004
def GLB_FEAT.VARIANT : Field := ⟨0x0004, 16, 8⟩
def GLB_FEAT.TRK_CELLS : Field := ⟨0x0004, 12, 4⟩
def GLB_FEAT.CHB_CELLS : Field := ⟨0x0004, 8, 4⟩
def GLB_FEAT.PRT_PRESENT : Field := ⟨0x0004, 2, 1⟩
def GLB_FEAT.WRP_PRESENT : Field := ⟨0x0004, 1, 1⟩
def GLB_FEAT.SEL_PRESENT : Field := ⟨0x0004, 0, 1⟩
/-- `GLB_STRAP` (PP). -/
def GLB_STRAP.addr : Nat := 0x0008
def GLB_STRAP.STRAP_DIFF : Field := ⟨0x0008, 15, 1⟩
def GLB_STRAP.I2C_ADDR : Field := ⟨0x0008, 8, 7⟩
def GLB_STRAP.GDMODE : Field := ⟨0x0008, 4, 1⟩
def GLB_STRAP.TWIN_ID : Field := ⟨0x0008, 3, 1⟩
def GLB_STRAP.ADDR1 : Field := ⟨0x0008, 1, 1⟩
def GLB_STRAP.ADDR0 : Field := ⟨0x0008, 0, 1⟩
/-- `GLB_SYSTIME_LO` (AR). -/
def GLB_SYSTIME_LO.addr : Nat := 0x0010
def GLB_SYSTIME_LO.TIME_LO : Field := ⟨0x0010, 0, 32⟩
/-- `GLB_SYSTIME_HI` (AR). -/
def GLB_SYSTIME_HI.addr : Nat := 0x0014
def GLB_SYSTIME_HI.TIME_HI : Field := ⟨0x0014, 0, 32⟩
/-- `GLB_REGION` (AR). -/
def GLB_REGION.addr : Nat := 0x0020
def GLB_REGION.SERVICE : Field := ⟨0x0020, 20, 4⟩
def GLB_REGION.CHIP : Field := ⟨0x0020, 16, 1⟩
def GLB_REGION.INTERFACE : Field := ⟨0x0020, 12, 4⟩
def GLB_REGION.CONTROL : Field := ⟨0x0020, 8, 4⟩
def GLB_REGION.SOUTH : Field := ⟨0x0020, 4, 4⟩
def GLB_REGION.NORTH : Field := ⟨0x0020, 0, 4⟩
/-- `GLB_CLK` (AR). -/
def GLB_CLK.addr : Nat := 0x0024
def GLB_CLK.SYNC_GLIDE : Field := ⟨0x0024, 9, 1⟩
def GLB_CLK.SYNC_LOCK : Field := ⟨0x0024, 8, 1⟩
def GLB_CLK.SELV_LOCK : Field := ⟨0x0024, 7, 1⟩
def GLB_CLK.I2C_OK : Field := ⟨0x0024, 6, 1⟩
def GLB_CLK.USB_LOCK : Field := ⟨0x0024, 5, 1⟩
def GLB_CLK.NVM_LOCK : Field := ⟨0x0024, 4, 1⟩
def GLB_CLK.ADC_LOCK : Field := ⟨0x0024, 3, 1⟩
def GLB_CLK.MOD_LOCK : Field := ⟨0x0024, 2, 1⟩
def GLB_CLK.CORE_LOCK : Field := ⟨0x0024, 1, 1⟩
def GLB_CLK.REF_OK : Field := ⟨0x0024, 0, 1⟩
/-- `GLB_SYNC` (PC). -/
def GLB_SYNC.addr : Nat := 0x0030
def GLB_SYNC.FMEAS : Field := ⟨0x0030, 16, 16⟩
def GLB_SYNC.OUT_SRC : Field := ⟨0x0030, 4, 2⟩
def GLB_SYNC.LOSS : Field := ⟨0x0030, 1, 1⟩
def GLB_SYNC.SYNC_EN : Field := ⟨0x0030, 0, 1⟩
/-- `SAF_STATUS` (SF). -/
def SAF_STATUS.addr : Nat := 0x0100
def SAF_STATUS.LC : Field := ⟨0x0100, 28, 4⟩
def SAF_STATUS.DBG_UNLOCK : Field := ⟨0x0100, 27, 1⟩
def SAF_STATUS.TEST_ACT : Field := ⟨0x0100, 26, 1⟩
def SAF_STATUS.LC_PENDING : Field := ⟨0x0100, 25, 1⟩
def SAF_STATUS.KEY_SET : Field := ⟨0x0100, 24, 1⟩
def SAF_STATUS.MODE : Field := ⟨0x0100, 20, 4⟩
def SAF_STATUS.CHIP_SAFE : Field := ⟨0x0100, 19, 1⟩
def SAF_STATUS.FAULTN : Field := ⟨0x0100, 18, 1⟩
def SAF_STATUS.DEFER : Field := ⟨0x0100, 17, 1⟩
def SAF_STATUS.FIRST_FAULT : Field := ⟨0x0100, 8, 8⟩
/-- `SAF_RST_CAUSE` (SF). -/
def SAF_RST_CAUSE.addr : Nat := 0x0104
def SAF_RST_CAUSE.KIND : Field := ⟨0x0104, 12, 4⟩
def SAF_RST_CAUSE.DETAIL : Field := ⟨0x0104, 8, 4⟩
def SAF_RST_CAUSE.BROWNOUT : Field := ⟨0x0104, 7, 1⟩
/-- `SAF_RST_CNT` (SF). -/
def SAF_RST_CNT.addr : Nat := 0x0108
def SAF_RST_CNT.WDG_CNT : Field := ⟨0x0108, 24, 8⟩
def SAF_RST_CNT.SW_CNT : Field := ⟨0x0108, 16, 8⟩
def SAF_RST_CNT.WARM_CNT : Field := ⟨0x0108, 0, 16⟩
/-- `SAF_RST_CMD` (SF). -/
def SAF_RST_CMD.addr : Nat := 0x010C
def SAF_RST_CMD.KEY : Field := ⟨0x010C, 16, 16⟩
def SAF_RST_CMD.RESULT : Field := ⟨0x010C, 12, 4⟩
def SAF_RST_CMD.CMD : Field := ⟨0x010C, 0, 2⟩
/-- `SAF_WDG_CFG` (SF). -/
def SAF_WDG_CFG.addr : Nat := 0x0110
def SAF_WDG_CFG.OPEN : Field := ⟨0x0110, 16, 16⟩
def SAF_WDG_CFG.CLOSED : Field := ⟨0x0110, 0, 16⟩
/-- `SAF_WDG_CTRL` (SF). -/
def SAF_WDG_CTRL.addr : Nat := 0x0114
def SAF_WDG_CTRL.LOCK : Field := ⟨0x0114, 1, 1⟩
def SAF_WDG_CTRL.DIS : Field := ⟨0x0114, 0, 1⟩
/-- `SAF_WDG_KEY` (SF). -/
def SAF_WDG_KEY.addr : Nat := 0x0118
def SAF_WDG_KEY.SEQ : Field := ⟨0x0118, 16, 2⟩
def SAF_WDG_KEY.KEY : Field := ⟨0x0118, 0, 16⟩
/-- `SAF_WDG_STAT` (SF). -/
def SAF_WDG_STAT.addr : Nat := 0x011C
def SAF_WDG_STAT.FIRST : Field := ⟨0x011C, 27, 1⟩
def SAF_WDG_STAT.DEFERRED : Field := ⟨0x011C, 26, 1⟩
def SAF_WDG_STAT.PAUSED : Field := ⟨0x011C, 25, 1⟩
def SAF_WDG_STAT.LAST : Field := ⟨0x011C, 21, 4⟩
def SAF_WDG_STAT.INDEX : Field := ⟨0x011C, 0, 21⟩
/-- `SAF_WDG_LAST` (SF). -/
def SAF_WDG_LAST.addr : Nat := 0x0120
def SAF_WDG_LAST.LAST_IDX : Field := ⟨0x0120, 0, 21⟩
/-- `SAF_FAULT` (SF). -/
def SAF_FAULT.addr : Nat := 0x0130
def SAF_FAULT.FAULT : Field := ⟨0x0130, 0, 22⟩
/-- `SAF_FAULT_CLR` (SF). -/
def SAF_FAULT_CLR.addr : Nat := 0x0134
def SAF_FAULT_CLR.KEY : Field := ⟨0x0134, 16, 16⟩
def SAF_FAULT_CLR.RESULT : Field := ⟨0x0134, 12, 4⟩
def SAF_FAULT_CLR.CODE : Field := ⟨0x0134, 0, 8⟩
/-- `SAF_FAULTN_EN` (SF). -/
def SAF_FAULTN_EN.addr : Nat := 0x0138
def SAF_FAULTN_EN.EN : Field := ⟨0x0138, 0, 22⟩
/-- `SAF_IRQ_EN` (SF). -/
def SAF_IRQ_EN.addr : Nat := 0x013C
def SAF_IRQ_EN.EN : Field := ⟨0x013C, 0, 6⟩
/-- `SAF_FLAGS` (SF). -/
def SAF_FLAGS.addr : Nat := 0x0140
def SAF_FLAGS.TOKEN_BAD : Field := ⟨0x0140, 5, 1⟩
def SAF_FLAGS.LC_DONE : Field := ⟨0x0140, 4, 1⟩
def SAF_FLAGS.PWR_REFUSED : Field := ⟨0x0140, 3, 1⟩
def SAF_FLAGS.WAKE : Field := ⟨0x0140, 2, 1⟩
def SAF_FLAGS.CLR_REFUSED : Field := ⟨0x0140, 1, 1⟩
def SAF_FLAGS.FAULT_NEW : Field := ⟨0x0140, 0, 1⟩
/-- `SAF_ECC_CNT` (SF). -/
def SAF_ECC_CNT.addr : Nat := 0x0144
def SAF_ECC_CNT.UNCORR : Field := ⟨0x0144, 16, 16⟩
def SAF_ECC_CNT.CORR : Field := ⟨0x0144, 0, 16⟩
/-- `SAF_PWR_CMD` (SF). -/
def SAF_PWR_CMD.addr : Nat := 0x0150
def SAF_PWR_CMD.KEY : Field := ⟨0x0150, 16, 16⟩
def SAF_PWR_CMD.RESULT : Field := ⟨0x0150, 12, 4⟩
def SAF_PWR_CMD.MODE : Field := ⟨0x0150, 0, 3⟩
/-- `SAF_WAKE_EN` (SF). -/
def SAF_WAKE_EN.addr : Nat := 0x0154
def SAF_WAKE_EN.EN : Field := ⟨0x0154, 0, 7⟩
/-- `SAF_WAKE_SRC` (SF). -/
def SAF_WAKE_SRC.addr : Nat := 0x0158
def SAF_WAKE_SRC.SRC : Field := ⟨0x0158, 0, 7⟩
/-- `SAF_AON_TMR` (SF). -/
def SAF_AON_TMR.addr : Nat := 0x015C
def SAF_AON_TMR.MS : Field := ⟨0x015C, 0, 32⟩
/-- `SAF_WAKE_CFG` (SF). -/
def SAF_WAKE_CFG.addr : Nat := 0x0160
def SAF_WAKE_CFG.V12_WAKE : Field := ⟨0x0160, 16, 16⟩
def SAF_WAKE_CFG.STB_TRUNK : Field := ⟨0x0160, 0, 1⟩
/-- `SAF_LC_CMD` (SF). -/
def SAF_LC_CMD.addr : Nat := 0x0180
def SAF_LC_CMD.KEY : Field := ⟨0x0180, 16, 16⟩
def SAF_LC_CMD.RESULT : Field := ⟨0x0180, 12, 4⟩
def SAF_LC_CMD.TARGET : Field := ⟨0x0180, 0, 4⟩
/-- `SAF_NONCE_LO` (SF). -/
def SAF_NONCE_LO.addr : Nat := 0x0184
def SAF_NONCE_LO.NONCE : Field := ⟨0x0184, 0, 32⟩
/-- `SAF_NONCE_HI` (SF). -/
def SAF_NONCE_HI.addr : Nat := 0x0188
def SAF_NONCE_HI.NONCE : Field := ⟨0x0188, 0, 32⟩
/-- `SAF_DEVID_LO` (SF). -/
def SAF_DEVID_LO.addr : Nat := 0x018C
def SAF_DEVID_LO.DEVID : Field := ⟨0x018C, 0, 32⟩
/-- `SAF_DEVID_HI` (SF). -/
def SAF_DEVID_HI.addr : Nat := 0x0190
def SAF_DEVID_HI.DEVID : Field := ⟨0x0190, 0, 32⟩
/-- `SAF_TOKENk` (SF). -/
def SAF_TOKEN.addr (k : Nat) : Nat := 0x01C0 + 4 * k
def SAF_TOKEN.TOKEN (k : Nat) : Field := ⟨0x01C0 + 4 * k, 0, 32⟩
/-- `SRC_CTRL` (SP). -/
def SRC_CTRL.addr : Nat := 0x0200
def SRC_CTRL.PERIOD : Field := ⟨0x0200, 16, 16⟩
def SRC_CTRL.EVT_SETTLE : Field := ⟨0x0200, 8, 8⟩
def SRC_CTRL.HARD_LIMIT : Field := ⟨0x0200, 7, 1⟩
def SRC_CTRL.SHAVE_EN : Field := ⟨0x0200, 6, 1⟩
def SRC_CTRL.SEARCH_EN : Field := ⟨0x0200, 5, 1⟩
def SRC_CTRL.START_SEARCH : Field := ⟨0x0200, 4, 1⟩
def SRC_CTRL.IN12_USED : Field := ⟨0x0200, 1, 1⟩
def SRC_CTRL.IN48_USED : Field := ⟨0x0200, 0, 1⟩
/-- `SRC_STATUS` (SP). -/
def SRC_STATUS.addr : Nat := 0x0204
def SRC_STATUS.PRIMARY : Field := ⟨0x0204, 28, 4⟩
def SRC_STATUS.TARGET : Field := ⟨0x0204, 24, 4⟩
def SRC_STATUS.XFER : Field := ⟨0x0204, 20, 4⟩
def SRC_STATUS.SEARCH : Field := ⟨0x0204, 16, 4⟩
def SRC_STATUS.SHAVING : Field := ⟨0x0204, 15, 1⟩
def SRC_STATUS.OVER_CEIL : Field := ⟨0x0204, 14, 1⟩
def SRC_STATUS.REV_ACTIVE : Field := ⟨0x0204, 13, 1⟩
def SRC_STATUS.G48_ON : Field := ⟨0x0204, 12, 1⟩
def SRC_STATUS.G12_ON : Field := ⟨0x0204, 11, 1⟩
def SRC_STATUS.GBYP_ON : Field := ⟨0x0204, 10, 1⟩
def SRC_STATUS.VBUS_SINK : Field := ⟨0x0204, 9, 1⟩
def SRC_STATUS.PACK_AVAIL : Field := ⟨0x0204, 8, 1⟩
def SRC_STATUS.VBUS_QUAL : Field := ⟨0x0204, 7, 1⟩
def SRC_STATUS.PACK_QUAL : Field := ⟨0x0204, 6, 1⟩
def SRC_STATUS.IN12_QUAL : Field := ⟨0x0204, 5, 1⟩
def SRC_STATUS.IN48_QUAL : Field := ⟨0x0204, 4, 1⟩
def SRC_STATUS.IN12_OVL : Field := ⟨0x0204, 3, 1⟩
def SRC_STATUS.IN12_UVL : Field := ⟨0x0204, 2, 1⟩
def SRC_STATUS.IN48_OVL : Field := ⟨0x0204, 1, 1⟩
def SRC_STATUS.IN48_UVL : Field := ⟨0x0204, 0, 1⟩
/-- `SRC_PRIO` (SP). -/
def SRC_PRIO.addr : Nat := 0x0208
def SRC_PRIO.P3 : Field := ⟨0x0208, 12, 4⟩
def SRC_PRIO.P2 : Field := ⟨0x0208, 8, 4⟩
def SRC_PRIO.P1 : Field := ⟨0x0208, 4, 4⟩
def SRC_PRIO.P0 : Field := ⟨0x0208, 0, 4⟩
/-- `SRC_IN48_MEAS` (SP). -/
def SRC_IN48_MEAS.addr : Nat := 0x0210
def SRC_IN48_MEAS.VOLT : Field := ⟨0x0210, 16, 16⟩
def SRC_IN48_MEAS.CURR : Field := ⟨0x0210, 0, 16⟩
/-- `SRC_IN12_MEAS` (SP). -/
def SRC_IN12_MEAS.addr : Nat := 0x0214
def SRC_IN12_MEAS.VOLT : Field := ⟨0x0214, 16, 16⟩
def SRC_IN12_MEAS.CURR : Field := ⟨0x0214, 0, 16⟩
/-- `SRC_SHUNT` (SP). -/
def SRC_SHUNT.addr : Nat := 0x0218
def SRC_SHUNT.SHUNT12 : Field := ⟨0x0218, 16, 16⟩
def SRC_SHUNT.SHUNT48 : Field := ⟨0x0218, 0, 16⟩
/-- `SRC_SEARCH48` (SP). -/
def SRC_SEARCH48.addr : Nat := 0x0220
def SRC_SEARCH48.STEP : Field := ⟨0x0220, 24, 8⟩
def SRC_SEARCH48.INTERVAL : Field := ⟨0x0220, 16, 8⟩
def SRC_SEARCH48.THRESH : Field := ⟨0x0220, 8, 8⟩
/-- `SRC_SEARCH12` (SP). -/
def SRC_SEARCH12.addr : Nat := 0x0224
def SRC_SEARCH12.STEP : Field := ⟨0x0224, 24, 8⟩
def SRC_SEARCH12.INTERVAL : Field := ⟨0x0224, 16, 8⟩
def SRC_SEARCH12.THRESH : Field := ⟨0x0224, 8, 8⟩
/-- `SRC_FLOOR` (SP). -/
def SRC_FLOOR.addr : Nat := 0x0228
def SRC_FLOOR.FLOOR12 : Field := ⟨0x0228, 16, 16⟩
def SRC_FLOOR.FLOOR48 : Field := ⟨0x0228, 0, 16⟩
/-- `SRC_CEIL48` (SP). -/
def SRC_CEIL48.addr : Nat := 0x0230
def SRC_CEIL48.CEIL : Field := ⟨0x0230, 16, 16⟩
def SRC_CEIL48.MAX : Field := ⟨0x0230, 0, 16⟩
/-- `SRC_CEIL12` (SP). -/
def SRC_CEIL12.addr : Nat := 0x0234
def SRC_CEIL12.CEIL : Field := ⟨0x0234, 16, 16⟩
def SRC_CEIL12.MAX : Field := ⟨0x0234, 0, 16⟩
/-- `SRC_CEIL_VBUS` (SP). -/
def SRC_CEIL_VBUS.addr : Nat := 0x0238
def SRC_CEIL_VBUS.CEIL : Field := ⟨0x0238, 16, 16⟩
def SRC_CEIL_VBUS.VOLT : Field := ⟨0x0238, 0, 16⟩
/-- `SRC_REST` (SP). -/
def SRC_REST.addr : Nat := 0x023C
def SRC_REST.REST12 : Field := ⟨0x023C, 16, 16⟩
def SRC_REST.REST48 : Field := ⟨0x023C, 0, 16⟩
/-- `SRC_SHAVE` (SP). -/
def SRC_SHAVE.addr : Nat := 0x0240
def SRC_SHAVE.SHAVE_I : Field := ⟨0x0240, 16, 16⟩
def SRC_SHAVE.MARGIN : Field := ⟨0x0240, 0, 8⟩
/-- `SRC_KA` (SP). -/
def SRC_KA.addr : Nat := 0x0250
def SRC_KA.CP_ON : Field := ⟨0x0250, 15, 1⟩
def SRC_KA.PACK_OK : Field := ⟨0x0250, 4, 1⟩
def SRC_KA.RAIL_OK : Field := ⟨0x0250, 3, 1⟩
def SRC_KA.VBUS_OK : Field := ⟨0x0250, 2, 1⟩
def SRC_KA.IN12_OK : Field := ⟨0x0250, 1, 1⟩
def SRC_KA.IN48_OK : Field := ⟨0x0250, 0, 1⟩
/-- `SRC_REV` (SP). -/
def SRC_REV.addr : Nat := 0x0260
def SRC_REV.PLIM : Field := ⟨0x0260, 24, 8⟩
def SRC_REV.CAUSE : Field := ⟨0x0260, 20, 4⟩
def SRC_REV.STATE : Field := ⟨0x0260, 16, 4⟩
def SRC_REV.TIMEOUT : Field := ⟨0x0260, 8, 8⟩
def SRC_REV.MODE : Field := ⟨0x0260, 0, 2⟩
/-- `SRC_REV_TGT` (SP). -/
def SRC_REV_TGT.addr : Nat := 0x0264
def SRC_REV_TGT.SUPPORT_V : Field := ⟨0x0264, 16, 16⟩
def SRC_REV_TGT.PRECH_V : Field := ⟨0x0264, 0, 16⟩
/-- `SRC_FLAGS` (SP). -/
def SRC_FLAGS.addr : Nat := 0x0270
def SRC_FLAGS.REV_FAULT : Field := ⟨0x0270, 14, 1⟩
def SRC_FLAGS.REV_DONE : Field := ⟨0x0270, 13, 1⟩
def SRC_FLAGS.OVER_CEIL : Field := ⟨0x0270, 12, 1⟩
def SRC_FLAGS.CEIL_DROP : Field := ⟨0x0270, 11, 1⟩
def SRC_FLAGS.SEARCH_PART : Field := ⟨0x0270, 10, 1⟩
def SRC_FLAGS.SEARCH_DONE : Field := ⟨0x0270, 9, 1⟩
def SRC_FLAGS.XFER_DONE : Field := ⟨0x0270, 8, 1⟩
def SRC_FLAGS.XFER_FAIL : Field := ⟨0x0270, 7, 1⟩
def SRC_FLAGS.BYP_OCP : Field := ⟨0x0270, 6, 1⟩
def SRC_FLAGS.BACKFEED : Field := ⟨0x0270, 5, 1⟩
def SRC_FLAGS.HOLDUP : Field := ⟨0x0270, 4, 1⟩
def SRC_FLAGS.IN12_UV : Field := ⟨0x0270, 3, 1⟩
def SRC_FLAGS.IN12_OV : Field := ⟨0x0270, 2, 1⟩
def SRC_FLAGS.IN48_UV : Field := ⟨0x0270, 1, 1⟩
def SRC_FLAGS.IN48_OV : Field := ⟨0x0270, 0, 1⟩
/-- `SRC_IRQ_EN` (SP). -/
def SRC_IRQ_EN.addr : Nat := 0x0274
def SRC_IRQ_EN.EN : Field := ⟨0x0274, 0, 15⟩
/-- `SRC_XFER` (SP). -/
def SRC_XFER.addr : Nat := 0x0278
def SRC_XFER.FROM : Field := ⟨0x0278, 28, 4⟩
def SRC_XFER.TO : Field := ⟨0x0278, 24, 4⟩
def SRC_XFER.CAUSE : Field := ⟨0x0278, 20, 4⟩
def SRC_XFER.RETRIES : Field := ⟨0x0278, 16, 4⟩
/-- `TRK_CTRL` (TR). -/
def TRK_CTRL.addr : Nat := 0x0300
def TRK_CTRL.SPARE_AUTO : Field := ⟨0x0300, 2, 1⟩
def TRK_CTRL.PIN_EN : Field := ⟨0x0300, 1, 1⟩
def TRK_CTRL.EN : Field := ⟨0x0300, 0, 1⟩
/-- `TRK_STATUS` (TR). -/
def TRK_STATUS.addr : Nat := 0x0304
def TRK_STATUS.N_SW : Field := ⟨0x0304, 28, 4⟩
def TRK_STATUS.N_AVAIL : Field := ⟨0x0304, 24, 4⟩
def TRK_STATUS.N_SET : Field := ⟨0x0304, 20, 4⟩
def TRK_STATUS.SPARES : Field := ⟨0x0304, 16, 4⟩
def TRK_STATUS.ENABLED : Field := ⟨0x0304, 15, 1⟩
def TRK_STATUS.DIR : Field := ⟨0x0304, 14, 1⟩
def TRK_STATUS.SLEWING : Field := ⟨0x0304, 13, 1⟩
def TRK_STATUS.RAMPING : Field := ⟨0x0304, 12, 1⟩
def TRK_STATUS.DERATED : Field := ⟨0x0304, 11, 1⟩
def TRK_STATUS.OVERLOAD : Field := ⟨0x0304, 10, 1⟩
def TRK_STATUS.ILIMIT : Field := ⟨0x0304, 9, 1⟩
def TRK_STATUS.CROWBAR : Field := ⟨0x0304, 8, 1⟩
def TRK_STATUS.BURST : Field := ⟨0x0304, 7, 1⟩
def TRK_STATUS.REDUCED : Field := ⟨0x0304, 6, 1⟩
/-- `TRK_REF` (TR). -/
def TRK_REF.addr : Nat := 0x0308
def TRK_REF.TARGET : Field := ⟨0x0308, 16, 16⟩
def TRK_REF.REF : Field := ⟨0x0308, 0, 16⟩
/-- `TRK_CMD` (TR). -/
def TRK_CMD.addr : Nat := 0x030C
def TRK_CMD.RATE : Field := ⟨0x030C, 16, 16⟩
def TRK_CMD.VOLT : Field := ⟨0x030C, 0, 16⟩
/-- `TRK_VSETk` (TR). -/
def TRK_VSET.addr (k : Nat) : Nat := 0x0310 + 4 * k
def TRK_VSET.VOLT (k : Nat) : Field := ⟨0x0310 + 4 * k, 0, 16⟩
/-- `TRK_PIN` (TR). -/
def TRK_PIN.addr : Nat := 0x0330
def TRK_PIN.PIN_RATE : Field := ⟨0x0330, 16, 16⟩
def TRK_PIN.SEL : Field := ⟨0x0330, 8, 3⟩
def TRK_PIN.LIVE : Field := ⟨0x0330, 0, 3⟩
/-- `TRK_RATE` (TR). -/
def TRK_RATE.addr : Nat := 0x0334
def TRK_RATE.ACT_RATE : Field := ⟨0x0334, 16, 16⟩
def TRK_RATE.DEF_RATE : Field := ⟨0x0334, 0, 16⟩
/-- `TRK_LIMIT` (TR). -/
def TRK_LIMIT.addr : Nat := 0x0338
def TRK_LIMIT.EFF : Field := ⟨0x0338, 16, 16⟩
def TRK_LIMIT.IMAX : Field := ⟨0x0338, 0, 16⟩
/-- `TRK_CAP` (TR). -/
def TRK_CAP.addr : Nat := 0x033C
def TRK_CAP.CONT : Field := ⟨0x033C, 16, 16⟩
def TRK_CAP.SHORT : Field := ⟨0x033C, 0, 16⟩
/-- `TRK_BAL` (TR). -/
def TRK_BAL.addr : Nat := 0x0340
def TRK_BAL.TW_GAIN : Field := ⟨0x0340, 16, 8⟩
def TRK_BAL.TW_SPAN : Field := ⟨0x0340, 8, 8⟩
def TRK_BAL.THERM_ROT : Field := ⟨0x0340, 5, 1⟩
def TRK_BAL.MODE : Field := ⟨0x0340, 4, 1⟩
def TRK_BAL.BAL_GAIN : Field := ⟨0x0340, 0, 4⟩
/-- `TRK_SHED` (TR). -/
def TRK_SHED.addr : Nat := 0x0344
def TRK_SHED.NMAX : Field := ⟨0x0344, 28, 4⟩
def TRK_SHED.SHED_EN : Field := ⟨0x0344, 24, 1⟩
def TRK_SHED.SHED_DLY : Field := ⟨0x0344, 16, 8⟩
def TRK_SHED.RESTORE_I : Field := ⟨0x0344, 8, 8⟩
def TRK_SHED.SHED_I : Field := ⟨0x0344, 0, 8⟩
/-- `TRK_ASSIGN` (TR). -/
def TRK_ASSIGN.addr : Nat := 0x0348
def TRK_ASSIGN.DEF_ACTIVE : Field := ⟨0x0348, 0, 10⟩
/-- `TRK_MAP` (TR). -/
def TRK_MAP.addr : Nat := 0x034C
def TRK_MAP.PARKED : Field := ⟨0x034C, 20, 10⟩
def TRK_MAP.SPARE : Field := ⟨0x034C, 10, 10⟩
def TRK_MAP.SERVING : Field := ⟨0x034C, 0, 10⟩
/-- `TRK_REENTRY` (TR). -/
def TRK_REENTRY.addr : Nat := 0x0350
def TRK_REENTRY.CELL : Field := ⟨0x0350, 28, 4⟩
def TRK_REENTRY.RETRY : Field := ⟨0x0350, 24, 4⟩
def TRK_REENTRY.PERIODS : Field := ⟨0x0350, 16, 8⟩
/-- `TRK_OVLD` (TR). -/
def TRK_OVLD.addr : Nat := 0x0354
def TRK_OVLD.BUDGET : Field := ⟨0x0354, 0, 16⟩
/-- `TRK_OVP` (TR). -/
def TRK_OVP.addr : Nat := 0x0358
def TRK_OVP.ABS : Field := ⟨0x0358, 16, 16⟩
def TRK_OVP.PCT : Field := ⟨0x0358, 8, 8⟩
def TRK_OVP.CAUSE_GONE : Field := ⟨0x0358, 1, 1⟩
def TRK_OVP.CROWBAR : Field := ⟨0x0358, 0, 1⟩
/-- `TRK_REV` (TR). -/
def TRK_REV.addr : Nat := 0x0360
def TRK_REV.REV_MASK : Field := ⟨0x0360, 4, 10⟩
def TRK_REV.REV_CELLS : Field := ⟨0x0360, 0, 4⟩
/-- `TRK_FLAGS` (TR). -/
def TRK_FLAGS.addr : Nat := 0x0370
def TRK_FLAGS.PIN_CHG : Field := ⟨0x0370, 10, 1⟩
def TRK_FLAGS.SLEW_DONE : Field := ⟨0x0370, 9, 1⟩
def TRK_FLAGS.CROWBAR : Field := ⟨0x0370, 8, 1⟩
def TRK_FLAGS.ILIMIT : Field := ⟨0x0370, 7, 1⟩
def TRK_FLAGS.OVLD : Field := ⟨0x0370, 6, 1⟩
def TRK_FLAGS.BAL_SAT : Field := ⟨0x0370, 5, 1⟩
def TRK_FLAGS.DERATED : Field := ⟨0x0370, 4, 1⟩
def TRK_FLAGS.REENTRY_FAIL : Field := ⟨0x0370, 3, 1⟩
def TRK_FLAGS.REENTRY_ABORT : Field := ⟨0x0370, 2, 1⟩
def TRK_FLAGS.REENTRY_DONE : Field := ⟨0x0370, 1, 1⟩
def TRK_FLAGS.SUBST : Field := ⟨0x0370, 0, 1⟩
/-- `TRK_IRQ_EN` (TR). -/
def TRK_IRQ_EN.addr : Nat := 0x0374
def TRK_IRQ_EN.EN : Field := ⟨0x0374, 0, 11⟩
/-- `TRK_BANDk_T` (PC). -/
def TRK_BAND_T.addr (k : Nat) : Nat := 0x0380 + 8 * k
def TRK_BAND_T.BLANK (k : Nat) : Field := ⟨0x0380 + 8 * k, 24, 8⟩
def TRK_BAND_T.DT_F (k : Nat) : Field := ⟨0x0380 + 8 * k, 16, 8⟩
def TRK_BAND_T.DT_R (k : Nat) : Field := ⟨0x0380 + 8 * k, 8, 8⟩
def TRK_BAND_T.DRV (k : Nat) : Field := ⟨0x0380 + 8 * k, 6, 2⟩
def TRK_BAND_T.SETTLE (k : Nat) : Field := ⟨0x0380 + 8 * k, 0, 6⟩
/-- `TRK_BANDk_L` (PC). -/
def TRK_BAND_L.addr (k : Nat) : Nat := 0x0384 + 8 * k
def TRK_BAND_L.BURST_ENT (k : Nat) : Field := ⟨0x0384 + 8 * k, 24, 8⟩
def TRK_BAND_L.BURST_EXIT (k : Nat) : Field := ⟨0x0384 + 8 * k, 16, 8⟩
def TRK_BAND_L.TON_MIN (k : Nat) : Field := ⟨0x0384 + 8 * k, 8, 8⟩
def TRK_BAND_L.TON_MAX (k : Nat) : Field := ⟨0x0384 + 8 * k, 0, 8⟩
/-- `TRK_MODCFG` (PC). -/
def TRK_MODCFG.addr : Nat := 0x03B0
def TRK_MODCFG.SYNC_MUL : Field := ⟨0x03B0, 28, 4⟩
def TRK_MODCFG.SYNC_DIV : Field := ⟨0x03B0, 24, 4⟩
def TRK_MODCFG.TRUNC : Field := ⟨0x03B0, 16, 8⟩
def TRK_MODCFG.BURST_N : Field := ⟨0x03B0, 12, 4⟩
def TRK_MODCFG.BURST_LOW : Field := ⟨0x03B0, 8, 4⟩
def TRK_MODCFG.BURST_EN : Field := ⟨0x03B0, 0, 1⟩
/-- `CHB_CTRL` (CB). -/
def CHB_CTRL.addr : Nat := 0x0400
def CHB_CTRL.HOLDUP_EN : Field := ⟨0x0400, 2, 1⟩
def CHB_CTRL.SPARE_AUTO : Field := ⟨0x0400, 1, 1⟩
def CHB_CTRL.EN : Field := ⟨0x0400, 0, 1⟩
/-- `CHB_STATUS` (CB). -/
def CHB_STATUS.addr : Nat := 0x0404
def CHB_STATUS.N_SW : Field := ⟨0x0404, 28, 4⟩
def CHB_STATUS.N_AVAIL : Field := ⟨0x0404, 24, 4⟩
def CHB_STATUS.N_SET : Field := ⟨0x0404, 20, 4⟩
def CHB_STATUS.SPARES : Field := ⟨0x0404, 16, 4⟩
def CHB_STATUS.MODE : Field := ⟨0x0404, 12, 4⟩
def CHB_STATUS.ENABLED : Field := ⟨0x0404, 11, 1⟩
def CHB_STATUS.DIR : Field := ⟨0x0404, 10, 1⟩
def CHB_STATUS.RAMPING : Field := ⟨0x0404, 9, 1⟩
def CHB_STATUS.DERATED : Field := ⟨0x0404, 8, 1⟩
def CHB_STATUS.OVERLOAD : Field := ⟨0x0404, 7, 1⟩
def CHB_STATUS.ILIMIT : Field := ⟨0x0404, 6, 1⟩
def CHB_STATUS.BURST : Field := ⟨0x0404, 5, 1⟩
def CHB_STATUS.PACK_G_ON : Field := ⟨0x0404, 4, 1⟩
/-- `CHB_ASSIGN` (CB). -/
def CHB_ASSIGN.addr : Nat := 0x0408
def CHB_ASSIGN.DEF_ACTIVE : Field := ⟨0x0408, 0, 6⟩
/-- `CHB_REF` (CB). -/
def CHB_REF.addr : Nat := 0x040C
def CHB_REF.IREF : Field := ⟨0x040C, 16, 16⟩
def CHB_REF.WEFT : Field := ⟨0x040C, 0, 16⟩
/-- `CHB_BACKUP` (CB). -/
def CHB_BACKUP.addr : Nat := 0x0410
def CHB_BACKUP.ACT_V : Field := ⟨0x0410, 16, 16⟩
def CHB_BACKUP.BACKUP_V : Field := ⟨0x0410, 0, 16⟩
/-- `CHB_LIMIT` (CB). -/
def CHB_LIMIT.addr : Nat := 0x0414
def CHB_LIMIT.DIS_MAX : Field := ⟨0x0414, 16, 16⟩
def CHB_LIMIT.CHG_MAX : Field := ⟨0x0414, 0, 16⟩
/-- `CHB_CAP` (CB). -/
def CHB_CAP.addr : Nat := 0x0418
def CHB_CAP.CONT : Field := ⟨0x0418, 16, 16⟩
def CHB_CAP.SHORT : Field := ⟨0x0418, 0, 16⟩
/-- `CHB_MAP` (CB). -/
def CHB_MAP.addr : Nat := 0x041C
def CHB_MAP.RAMP_CELL : Field := ⟨0x041C, 24, 5⟩
def CHB_MAP.PARKED : Field := ⟨0x041C, 16, 6⟩
def CHB_MAP.SPARE : Field := ⟨0x041C, 8, 6⟩
def CHB_MAP.SERVING : Field := ⟨0x041C, 0, 6⟩
/-- `CHB_FLAGS` (CB). -/
def CHB_FLAGS.addr : Nat := 0x0470
def CHB_FLAGS.PACK_G_OPEN : Field := ⟨0x0470, 9, 1⟩
def CHB_FLAGS.HOLDUP : Field := ⟨0x0470, 7, 1⟩
def CHB_FLAGS.ILIMIT : Field := ⟨0x0470, 6, 1⟩
def CHB_FLAGS.OVLD : Field := ⟨0x0470, 5, 1⟩
def CHB_FLAGS.DERATED : Field := ⟨0x0470, 4, 1⟩
def CHB_FLAGS.REENTRY_FAIL : Field := ⟨0x0470, 3, 1⟩
def CHB_FLAGS.REENTRY_ABORT : Field := ⟨0x0470, 2, 1⟩
def CHB_FLAGS.REENTRY_DONE : Field := ⟨0x0470, 1, 1⟩
def CHB_FLAGS.SUBST : Field := ⟨0x0470, 0, 1⟩
/-- `CHB_IRQ_EN` (CB). -/
def CHB_IRQ_EN.addr : Nat := 0x0474
def CHB_IRQ_EN.EN : Field := ⟨0x0474, 0, 10⟩
/-- `CHB_BANDk_T` (PC). -/
def CHB_BAND_T.addr (k : Nat) : Nat := 0x0480 + 8 * k
def CHB_BAND_T.BLANK (k : Nat) : Field := ⟨0x0480 + 8 * k, 24, 8⟩
def CHB_BAND_T.DT_F (k : Nat) : Field := ⟨0x0480 + 8 * k, 16, 8⟩
def CHB_BAND_T.DT_R (k : Nat) : Field := ⟨0x0480 + 8 * k, 8, 8⟩
def CHB_BAND_T.DRV (k : Nat) : Field := ⟨0x0480 + 8 * k, 6, 2⟩
def CHB_BAND_T.SETTLE (k : Nat) : Field := ⟨0x0480 + 8 * k, 0, 6⟩
/-- `CHB_BANDk_L` (PC). -/
def CHB_BAND_L.addr (k : Nat) : Nat := 0x0484 + 8 * k
def CHB_BAND_L.BURST_ENT (k : Nat) : Field := ⟨0x0484 + 8 * k, 24, 8⟩
def CHB_BAND_L.BURST_EXIT (k : Nat) : Field := ⟨0x0484 + 8 * k, 16, 8⟩
def CHB_BAND_L.TON_MIN (k : Nat) : Field := ⟨0x0484 + 8 * k, 8, 8⟩
def CHB_BAND_L.TON_MAX (k : Nat) : Field := ⟨0x0484 + 8 * k, 0, 8⟩
/-- `CHB_MODCFG` (PC). -/
def CHB_MODCFG.addr : Nat := 0x04B0
def CHB_MODCFG.SYNC_MUL : Field := ⟨0x04B0, 28, 4⟩
def CHB_MODCFG.SYNC_DIV : Field := ⟨0x04B0, 24, 4⟩
def CHB_MODCFG.TRUNC : Field := ⟨0x04B0, 16, 8⟩
def CHB_MODCFG.BURST_N : Field := ⟨0x04B0, 12, 4⟩
def CHB_MODCFG.BURST_LOW : Field := ⟨0x04B0, 8, 4⟩
def CHB_MODCFG.BURST_EN : Field := ⟨0x04B0, 0, 1⟩
/-- `PRT_CTRL` (SV). -/
def PRT_CTRL.addr : Nat := 0x0500
def PRT_CTRL.SINK_ADD : Field := ⟨0x0500, 2, 1⟩
def PRT_CTRL.ACC_PACK : Field := ⟨0x0500, 1, 1⟩
def PRT_CTRL.EN : Field := ⟨0x0500, 0, 1⟩
/-- `PRT_STATUS` (SV). -/
def PRT_STATUS.addr : Nat := 0x0504
def PRT_STATUS.MODE : Field := ⟨0x0504, 28, 4⟩
def PRT_STATUS.ZONE : Field := ⟨0x0504, 26, 2⟩
def PRT_STATUS.DIR : Field := ⟨0x0504, 25, 1⟩
def PRT_STATUS.VBUS_G_ON : Field := ⟨0x0504, 24, 1⟩
def PRT_STATUS.ILIMIT : Field := ⟨0x0504, 23, 1⟩
def PRT_STATUS.THROTTLED : Field := ⟨0x0504, 22, 1⟩
def PRT_STATUS.BURST : Field := ⟨0x0504, 21, 1⟩
/-- `PRT_LIM` (SV). -/
def PRT_LIM.addr : Nat := 0x0508
def PRT_LIM.IMAX : Field := ⟨0x0508, 16, 16⟩
def PRT_LIM.VMAX : Field := ⟨0x0508, 0, 16⟩
/-- `PRT_CONTRACT` (SV). -/
def PRT_CONTRACT.addr : Nat := 0x050C
def PRT_CONTRACT.CURR : Field := ⟨0x050C, 16, 16⟩
def PRT_CONTRACT.VOLT : Field := ⟨0x050C, 0, 16⟩
/-- `PRT_MEAS` (SV). -/
def PRT_MEAS.addr : Nat := 0x0510
def PRT_MEAS.VBUS : Field := ⟨0x0510, 16, 16⟩
def PRT_MEAS.CURR : Field := ⟨0x0510, 0, 16⟩
/-- `PRT_FLAGS` (SV). -/
def PRT_FLAGS.addr : Nat := 0x0570
def PRT_FLAGS.DB_SINK : Field := ⟨0x0570, 6, 1⟩
def PRT_FLAGS.THROTTLE : Field := ⟨0x0570, 5, 1⟩
def PRT_FLAGS.STOPPED : Field := ⟨0x0570, 4, 1⟩
def PRT_FLAGS.DISCHARGED : Field := ⟨0x0570, 3, 1⟩
def PRT_FLAGS.BACKFEED : Field := ⟨0x0570, 2, 1⟩
def PRT_FLAGS.VBUS_OV : Field := ⟨0x0570, 1, 1⟩
def PRT_FLAGS.ILIMIT : Field := ⟨0x0570, 0, 1⟩
/-- `PRT_IRQ_EN` (SV). -/
def PRT_IRQ_EN.addr : Nat := 0x0574
def PRT_IRQ_EN.EN : Field := ⟨0x0574, 0, 7⟩
/-- `PRT_BANDk_T` (PC). -/
def PRT_BAND_T.addr (k : Nat) : Nat := 0x0580 + 8 * k
def PRT_BAND_T.BLANK (k : Nat) : Field := ⟨0x0580 + 8 * k, 24, 8⟩
def PRT_BAND_T.DT_F (k : Nat) : Field := ⟨0x0580 + 8 * k, 16, 8⟩
def PRT_BAND_T.DT_R (k : Nat) : Field := ⟨0x0580 + 8 * k, 8, 8⟩
def PRT_BAND_T.DRV (k : Nat) : Field := ⟨0x0580 + 8 * k, 6, 2⟩
def PRT_BAND_T.SETTLE (k : Nat) : Field := ⟨0x0580 + 8 * k, 0, 6⟩
/-- `PRT_BANDk_L` (PC). -/
def PRT_BAND_L.addr (k : Nat) : Nat := 0x0584 + 8 * k
def PRT_BAND_L.BURST_ENT (k : Nat) : Field := ⟨0x0584 + 8 * k, 24, 8⟩
def PRT_BAND_L.BURST_EXIT (k : Nat) : Field := ⟨0x0584 + 8 * k, 16, 8⟩
def PRT_BAND_L.TON_MIN (k : Nat) : Field := ⟨0x0584 + 8 * k, 8, 8⟩
def PRT_BAND_L.TON_MAX (k : Nat) : Field := ⟨0x0584 + 8 * k, 0, 8⟩
/-- `PRT_MODCFG` (PC). -/
def PRT_MODCFG.addr : Nat := 0x05B0
def PRT_MODCFG.SYNC_MUL : Field := ⟨0x05B0, 28, 4⟩
def PRT_MODCFG.SYNC_DIV : Field := ⟨0x05B0, 24, 4⟩
def PRT_MODCFG.TRUNC : Field := ⟨0x05B0, 16, 8⟩
def PRT_MODCFG.BURST_N : Field := ⟨0x05B0, 12, 4⟩
def PRT_MODCFG.BURST_LOW : Field := ⟨0x05B0, 8, 4⟩
def PRT_MODCFG.BURST_EN : Field := ⟨0x05B0, 0, 1⟩
/-- `CEL_n_CFG` (PC). -/
def CEL_CFG.addr (k : Nat) : Nat := 0x0600 + 64 * k
def CEL_CFG.RIPGAIN (k : Nat) : Field := ⟨0x0600 + 64 * k, 12, 4⟩
def CEL_CFG.ZCD_EN (k : Nat) : Field := ⟨0x0600 + 64 * k, 9, 1⟩
def CEL_CFG.RIPSRC (k : Nat) : Field := ⟨0x0600 + 64 * k, 8, 1⟩
def CEL_CFG.DRVMODE (k : Nat) : Field := ⟨0x0600 + 64 * k, 1, 1⟩
def CEL_CFG.FITTED (k : Nat) : Field := ⟨0x0600 + 64 * k, 0, 1⟩
/-- `CEL_n_STATUS` (PC). -/
def CEL_STATUS.addr (k : Nat) : Nat := 0x0604 + 64 * k
def CEL_STATUS.STATE (k : Nat) : Field := ⟨0x0604 + 64 * k, 28, 4⟩
def CEL_STATUS.CAUSE (k : Nat) : Field := ⟨0x0604 + 64 * k, 24, 4⟩
def CEL_STATUS.BAND (k : Nat) : Field := ⟨0x0604 + 64 * k, 21, 3⟩
def CEL_STATUS.DIR (k : Nat) : Field := ⟨0x0604 + 64 * k, 20, 1⟩
def CEL_STATUS.CBC (k : Nat) : Field := ⟨0x0604 + 64 * k, 19, 1⟩
def CEL_STATUS.TRUNC (k : Nat) : Field := ⟨0x0604 + 64 * k, 18, 1⟩
def CEL_STATUS.BURST (k : Nat) : Field := ⟨0x0604 + 64 * k, 17, 1⟩
def CEL_STATUS.SYNC (k : Nat) : Field := ⟨0x0604 + 64 * k, 16, 1⟩
def CEL_STATUS.FLIM (k : Nat) : Field := ⟨0x0604 + 64 * k, 15, 1⟩
/-- `CEL_n_FAULT` (PC). -/
def CEL_FAULT.addr (k : Nat) : Nat := 0x0608 + 64 * k
def CEL_FAULT.BOOT_UV (k : Nat) : Field := ⟨0x0608 + 64 * k, 5, 1⟩
def CEL_FAULT.DESAT_LS (k : Nat) : Field := ⟨0x0608 + 64 * k, 4, 1⟩
def CEL_FAULT.DESAT_HS (k : Nat) : Field := ⟨0x0608 + 64 * k, 3, 1⟩
def CEL_FAULT.SENSE_FAIL (k : Nat) : Field := ⟨0x0608 + 64 * k, 2, 1⟩
def CEL_FAULT.OPEN_PHASE (k : Nat) : Field := ⟨0x0608 + 64 * k, 1, 1⟩
def CEL_FAULT.ISO (k : Nat) : Field := ⟨0x0608 + 64 * k, 0, 1⟩
/-- `CEL_n_FSW` (PC). -/
def CEL_FSW.addr (k : Nat) : Nat := 0x060C + 64 * k
def CEL_FSW.PHASE (k : Nat) : Field := ⟨0x060C + 64 * k, 16, 16⟩
def CEL_FSW.FSW (k : Nat) : Field := ⟨0x060C + 64 * k, 0, 10⟩
/-- `CEL_n_ILIM` (PC). -/
def CEL_ILIM.addr (k : Nat) : Nat := 0x0610 + 64 * k
def CEL_ILIM.ILIM_NEG (k : Nat) : Field := ⟨0x0610 + 64 * k, 16, 16⟩
def CEL_ILIM.ILIM_POS (k : Nat) : Field := ⟨0x0610 + 64 * k, 0, 16⟩
/-- `CEL_n_STAGE` (PC). -/
def CEL_STAGE.addr (k : Nat) : Nat := 0x0614 + 64 * k
def CEL_STAGE.IND (k : Nat) : Field := ⟨0x0614 + 64 * k, 16, 16⟩
def CEL_STAGE.SHUNT (k : Nat) : Field := ⟨0x0614 + 64 * k, 0, 16⟩
/-- `CEL_n_QG` (PC). -/
def CEL_QG.addr (k : Nat) : Nat := 0x0618 + 64 * k
def CEL_QG.QG_LS (k : Nat) : Field := ⟨0x0618 + 64 * k, 16, 16⟩
def CEL_QG.QG_HS (k : Nat) : Field := ⟨0x0618 + 64 * k, 0, 16⟩
/-- `CEL_n_PLAUS` (PC). -/
def CEL_PLAUS.addr (k : Nat) : Nat := 0x061C + 64 * k
def CEL_PLAUS.DESAT_V (k : Nat) : Field := ⟨0x061C + 64 * k, 24, 8⟩
def CEL_PLAUS.SENSE_HI (k : Nat) : Field := ⟨0x061C + 64 * k, 16, 8⟩
def CEL_PLAUS.OPEN_LO (k : Nat) : Field := ⟨0x061C + 64 * k, 8, 8⟩
def CEL_PLAUS.BOOT_UV (k : Nat) : Field := ⟨0x061C + 64 * k, 0, 8⟩
/-- `CEL_n_TON` (PC). -/
def CEL_TON.addr (k : Nat) : Nat := 0x0620 + 64 * k
def CEL_TON.TRIM (k : Nat) : Field := ⟨0x0620 + 64 * k, 24, 8⟩
def CEL_TON.CF (k : Nat) : Field := ⟨0x0620 + 64 * k, 16, 8⟩
def CEL_TON.TON (k : Nat) : Field := ⟨0x0620 + 64 * k, 0, 16⟩
/-- `CEL_n_IMEAS` (PC). -/
def CEL_IMEAS.addr (k : Nat) : Nat := 0x0624 + 64 * k
def CEL_IMEAS.PEAK (k : Nat) : Field := ⟨0x0624 + 64 * k, 16, 16⟩
def CEL_IMEAS.AVG (k : Nat) : Field := ⟨0x0624 + 64 * k, 0, 16⟩
/-- `CEL_n_CNT` (PC). -/
def CEL_CNT.addr (k : Nat) : Nat := 0x0628 + 64 * k
def CEL_CNT.TRUNC_CNT (k : Nat) : Field := ⟨0x0628 + 64 * k, 16, 16⟩
def CEL_CNT.CBC_CNT (k : Nat) : Field := ⟨0x0628 + 64 * k, 0, 16⟩
/-- `CEL_n_CAL` (PC). -/
def CEL_CAL.addr (k : Nat) : Nat := 0x062C + 64 * k
def CEL_CAL.GAIN (k : Nat) : Field := ⟨0x062C + 64 * k, 16, 16⟩
def CEL_CAL.OFFSET (k : Nat) : Field := ⟨0x062C + 64 * k, 0, 16⟩
/-- `CHG_CTRL` (CB). -/
def CHG_CTRL.addr : Nat := 0x0B00
def CHG_CTRL.CELLS : Field := ⟨0x0B00, 16, 5⟩
def CHG_CTRL.CHEM : Field := ⟨0x0B00, 8, 3⟩
def CHG_CTRL.ID_CHK : Field := ⟨0x0B00, 4, 1⟩
def CHG_CTRL.NTC_CHK : Field := ⟨0x0B00, 3, 1⟩
def CHG_CTRL.TERM_EN : Field := ⟨0x0B00, 2, 1⟩
def CHG_CTRL.ARM : Field := ⟨0x0B00, 1, 1⟩
def CHG_CTRL.EN : Field := ⟨0x0B00, 0, 1⟩
/-- `CHG_STATUS` (CB). -/
def CHG_STATUS.addr : Nat := 0x0B04
def CHG_STATUS.STATE : Field := ⟨0x0B04, 28, 4⟩
def CHG_STATUS.PAUSE : Field := ⟨0x0B04, 24, 4⟩
def CHG_STATUS.JEITA : Field := ⟨0x0B04, 21, 3⟩
def CHG_STATUS.TERM : Field := ⟨0x0B04, 18, 3⟩
def CHG_STATUS.THERMAL_LIMITED_AT_EXPIRY : Field := ⟨0x0B04, 17, 1⟩
def CHG_STATUS.WDG_SAFE : Field := ⟨0x0B04, 16, 1⟩
def CHG_STATUS.PACK_PRESENT : Field := ⟨0x0B04, 15, 1⟩
def CHG_STATUS.PACK_ABSENT : Field := ⟨0x0B04, 14, 1⟩
def CHG_STATUS.REV_AVAIL : Field := ⟨0x0B04, 13, 1⟩
def CHG_STATUS.SHAVE_AVAIL : Field := ⟨0x0B04, 12, 1⟩
def CHG_STATUS.LIMITED : Field := ⟨0x0B04, 11, 1⟩
def CHG_STATUS.HEADROOM : Field := ⟨0x0B04, 10, 1⟩
def CHG_STATUS.LIM_CAUSE : Field := ⟨0x0B04, 8, 2⟩
def CHG_STATUS.DIL : Field := ⟨0x0B04, 0, 8⟩
/-- `CHG_CC` (CB). -/
def CHG_CC.addr : Nat := 0x0B08
def CHG_CC.CC : Field := ⟨0x0B08, 16, 16⟩
def CHG_CC.TRICKLE : Field := ⟨0x0B08, 0, 16⟩
/-- `CHG_CV` (CB). -/
def CHG_CV.addr : Nat := 0x0B0C
def CHG_CV.RECHG : Field := ⟨0x0B0C, 16, 16⟩
def CHG_CV.CV : Field := ⟨0x0B0C, 0, 16⟩
/-- `CHG_THRESH` (CB). -/
def CHG_THRESH.addr : Nat := 0x0B10
def CHG_THRESH.V_PRE : Field := ⟨0x0B10, 16, 16⟩
def CHG_THRESH.V_DEEP : Field := ⟨0x0B10, 0, 16⟩
/-- `CHG_TERM` (CB). -/
def CHG_TERM.addr : Nat := 0x0B14
def CHG_TERM.I_TERM : Field := ⟨0x0B14, 16, 16⟩
def CHG_TERM.TERM_T : Field := ⟨0x0B14, 8, 8⟩
def CHG_TERM.NDV : Field := ⟨0x0B14, 4, 4⟩
def CHG_TERM.DTDT : Field := ⟨0x0B14, 0, 4⟩
/-- `CHG_AVAIL` (CB). -/
def CHG_AVAIL.addr : Nat := 0x0B18
def CHG_AVAIL.SHAVE_MIN : Field := ⟨0x0B18, 16, 16⟩
def CHG_AVAIL.REV_MIN : Field := ⟨0x0B18, 0, 16⟩
/-- `CHG_TIMER` (CB). -/
def CHG_TIMER.addr : Nat := 0x0B1C
def CHG_TIMER.T_PRE : Field := ⟨0x0B1C, 24, 8⟩
def CHG_TIMER.T_FAST : Field := ⟨0x0B1C, 12, 12⟩
def CHG_TIMER.T_TOTAL : Field := ⟨0x0B1C, 0, 12⟩
/-- `CHG_ELAPSED` (CB). -/
def CHG_ELAPSED.addr : Nat := 0x0B20
def CHG_ELAPSED.PHASE : Field := ⟨0x0B20, 16, 16⟩
def CHG_ELAPSED.TOTAL : Field := ⟨0x0B20, 0, 16⟩
/-- `CHG_WDG` (CB). -/
def CHG_WDG.addr : Nat := 0x0B24
def CHG_WDG.PERIOD : Field := ⟨0x0B24, 24, 8⟩
def CHG_WDG.KICK_ERR : Field := ⟨0x0B24, 16, 8⟩
def CHG_WDG.REMAIN : Field := ⟨0x0B24, 0, 16⟩
/-- `CHG_WDG_KICK` (CB). -/
def CHG_WDG_KICK.addr : Nat := 0x0B28
def CHG_WDG_KICK.KEY : Field := ⟨0x0B28, 0, 16⟩
/-- `CHG_PACK` (CB). -/
def CHG_PACK.addr : Nat := 0x0B30
def CHG_PACK.VPACK : Field := ⟨0x0B30, 16, 16⟩
def CHG_PACK.VCELL : Field := ⟨0x0B30, 0, 16⟩
/-- `CHG_IPACK` (CB). -/
def CHG_IPACK.addr : Nat := 0x0B34
def CHG_IPACK.IPACK : Field := ⟨0x0B34, 0, 32⟩
/-- `CHG_TEMP` (CB). -/
def CHG_TEMP.addr : Nat := 0x0B38
def CHG_TEMP.TPACK : Field := ⟨0x0B38, 16, 16⟩
def CHG_TEMP.DTDT : Field := ⟨0x0B38, 0, 16⟩
/-- `CHG_PRES` (CB). -/
def CHG_PRES.addr : Nat := 0x0B3C
def CHG_PRES.VSTEP : Field := ⟨0x0B3C, 24, 8⟩
def CHG_PRES.ID_MAX : Field := ⟨0x0B3C, 16, 8⟩
def CHG_PRES.ID_MIN : Field := ⟨0x0B3C, 8, 8⟩
def CHG_PRES.ID_MEAS : Field := ⟨0x0B3C, 0, 8⟩
/-- `CHG_FLT` (CB). -/
def CHG_FLT.addr : Nat := 0x0B48
def CHG_FLT.ID_MISMATCH : Field := ⟨0x0B48, 6, 1⟩
def CHG_FLT.CFG_ERR : Field := ⟨0x0B48, 5, 1⟩
def CHG_FLT.PACK_OV : Field := ⟨0x0B48, 4, 1⟩
def CHG_FLT.TIMER_SRC : Field := ⟨0x0B48, 1, 2⟩
def CHG_FLT.TIMER : Field := ⟨0x0B48, 0, 1⟩
/-- `CHG_FLAGS` (CB). -/
def CHG_FLAGS.addr : Nat := 0x0B50
def CHG_FLAGS.HEADROOM : Field := ⟨0x0B50, 7, 1⟩
def CHG_FLAGS.JEITA_CHG : Field := ⟨0x0B50, 6, 1⟩
def CHG_FLAGS.WDG_EXP : Field := ⟨0x0B50, 5, 1⟩
def CHG_FLAGS.PACK_INSERTED : Field := ⟨0x0B50, 4, 1⟩
def CHG_FLAGS.PACK_REMOVED : Field := ⟨0x0B50, 3, 1⟩
def CHG_FLAGS.RECHARGE : Field := ⟨0x0B50, 2, 1⟩
def CHG_FLAGS.DONE : Field := ⟨0x0B50, 1, 1⟩
def CHG_FLAGS.PHASE_CHG : Field := ⟨0x0B50, 0, 1⟩
/-- `CHG_IRQ_EN` (CB). -/
def CHG_IRQ_EN.addr : Nat := 0x0B54
def CHG_IRQ_EN.FLT_EN : Field := ⟨0x0B54, 16, 16⟩
def CHG_IRQ_EN.FLAG_EN : Field := ⟨0x0B54, 0, 16⟩
/-- `THM_CTRL` (MT). -/
def THM_CTRL.addr : Nat := 0x0C00
def THM_CTRL.ANCH_TAU : Field := ⟨0x0C00, 8, 8⟩
/-- `THM_STATUS` (MT). -/
def THM_STATUS.addr : Nat := 0x0C04
def THM_STATUS.TDIE_MAX : Field := ⟨0x0C04, 16, 16⟩
def THM_STATUS.DIE_WARN : Field := ⟨0x0C04, 7, 1⟩
def THM_STATUS.DIE_THR : Field := ⟨0x0C04, 6, 1⟩
def THM_STATUS.STG_WARN : Field := ⟨0x0C04, 5, 1⟩
def THM_STATUS.STG_THR : Field := ⟨0x0C04, 4, 1⟩
def THM_STATUS.GD_CAP : Field := ⟨0x0C04, 3, 1⟩
def THM_STATUS.ANCH_FALLBACK : Field := ⟨0x0C04, 2, 1⟩
/-- `THM_DIE_WARN` (MT). -/
def THM_DIE_WARN.addr : Nat := 0x0C08
def THM_DIE_WARN.RISE : Field := ⟨0x0C08, 16, 16⟩
def THM_DIE_WARN.FALL : Field := ⟨0x0C08, 0, 16⟩
/-- `THM_DIE_THR` (MT). -/
def THM_DIE_THR.addr : Nat := 0x0C0C
def THM_DIE_THR.RISE : Field := ⟨0x0C0C, 16, 16⟩
def THM_DIE_THR.FALL : Field := ⟨0x0C0C, 0, 16⟩
/-- `THM_DIE_SHUT` (MT). -/
def THM_DIE_SHUT.addr : Nat := 0x0C10
def THM_DIE_SHUT.RISE : Field := ⟨0x0C10, 16, 16⟩
def THM_DIE_SHUT.FALL : Field := ⟨0x0C10, 0, 16⟩
/-- `THM_STG_WARN` (MT). -/
def THM_STG_WARN.addr : Nat := 0x0C14
def THM_STG_WARN.RISE : Field := ⟨0x0C14, 16, 16⟩
def THM_STG_WARN.FALL : Field := ⟨0x0C14, 0, 16⟩
/-- `THM_STG_THR` (MT). -/
def THM_STG_THR.addr : Nat := 0x0C18
def THM_STG_THR.RISE : Field := ⟨0x0C18, 16, 16⟩
def THM_STG_THR.FALL : Field := ⟨0x0C18, 0, 16⟩
/-- `THM_STG_SHUT` (MT). -/
def THM_STG_SHUT.addr : Nat := 0x0C1C
def THM_STG_SHUT.RISE : Field := ⟨0x0C1C, 16, 16⟩
def THM_STG_SHUT.FALL : Field := ⟨0x0C1C, 0, 16⟩
/-- `THM_DIEk` (MT). -/
def THM_DIE.addr (k : Nat) : Nat := 0x0C20 + 4 * k
def THM_DIE.ODD (k : Nat) : Field := ⟨0x0C20 + 4 * k, 16, 16⟩
def THM_DIE.EVEN (k : Nat) : Field := ⟨0x0C20 + 4 * k, 0, 16⟩
/-- `THM_NTCk` (MT). -/
def THM_NTC.addr (k : Nat) : Nat := 0x0C30 + 4 * k
def THM_NTC.ODD (k : Nat) : Field := ⟨0x0C30 + 4 * k, 16, 16⟩
def THM_NTC.EVEN (k : Nat) : Field := ⟨0x0C30 + 4 * k, 0, 16⟩
/-- `THM_NTC_CFG` (MT). -/
def THM_NTC_CFG.addr : Nat := 0x0C3C
def THM_NTC_CFG.SHORT : Field := ⟨0x0C3C, 24, 7⟩
def THM_NTC_CFG.OPEN : Field := ⟨0x0C3C, 16, 7⟩
def THM_NTC_CFG.TYPE : Field := ⟨0x0C3C, 0, 14⟩
/-- `THM_STGk` (MT). -/
def THM_STG.addr (k : Nat) : Nat := 0x0C40 + 4 * k
def THM_STG.ODD (k : Nat) : Field := ⟨0x0C40 + 4 * k, 16, 16⟩
def THM_STG.EVEN (k : Nat) : Field := ⟨0x0C40 + 4 * k, 0, 16⟩
/-- `THM_ANCH0` (MT). -/
def THM_ANCH0.addr : Nat := 0x0C64
def THM_ANCH0.ANCH : Field := ⟨0x0C64, 0, 32⟩
/-- `THM_ANCH1` (MT). -/
def THM_ANCH1.addr : Nat := 0x0C68
def THM_ANCH1.ANCH : Field := ⟨0x0C68, 0, 32⟩
/-- `THM_ANCH2` (MT). -/
def THM_ANCH2.addr : Nat := 0x0C6C
def THM_ANCH2.ANCH : Field := ⟨0x0C6C, 0, 32⟩
/-- `THM_LIM` (MT). -/
def THM_LIM.addr : Nat := 0x0C70
def THM_LIM.PDRV : Field := ⟨0x0C70, 24, 8⟩
def THM_LIM.PRT : Field := ⟨0x0C70, 16, 8⟩
def THM_LIM.CHB : Field := ⟨0x0C70, 8, 8⟩
def THM_LIM.TRK : Field := ⟨0x0C70, 0, 8⟩
/-- `THM_NCAP` (MT). -/
def THM_NCAP.addr : Nat := 0x0C74
def THM_NCAP.PRT : Field := ⟨0x0C74, 16, 4⟩
def THM_NCAP.CHB : Field := ⟨0x0C74, 8, 4⟩
def THM_NCAP.TRK : Field := ⟨0x0C74, 0, 4⟩
/-- `THM_FLAGS` (MT). -/
def THM_FLAGS.addr : Nat := 0x0C78
def THM_FLAGS.BAND_CHG : Field := ⟨0x0C78, 9, 1⟩
def THM_FLAGS.NTC_SHORT : Field := ⟨0x0C78, 8, 1⟩
def THM_FLAGS.NTC_OPEN : Field := ⟨0x0C78, 7, 1⟩
def THM_FLAGS.ANCH_FALLBACK : Field := ⟨0x0C78, 6, 1⟩
def THM_FLAGS.GD_CAP : Field := ⟨0x0C78, 5, 1⟩
def THM_FLAGS.STG_SHUT : Field := ⟨0x0C78, 4, 1⟩
def THM_FLAGS.STG_THR : Field := ⟨0x0C78, 3, 1⟩
def THM_FLAGS.STG_WARN : Field := ⟨0x0C78, 2, 1⟩
def THM_FLAGS.DIE_THR : Field := ⟨0x0C78, 1, 1⟩
def THM_FLAGS.DIE_WARN : Field := ⟨0x0C78, 0, 1⟩
/-- `THM_IRQ_EN` (MT). -/
def THM_IRQ_EN.addr : Nat := 0x0C7C
def THM_IRQ_EN.EN : Field := ⟨0x0C7C, 0, 10⟩
/-- `TRK_RDS` (MT). -/
def TRK_RDS.addr : Nat := 0x0C80
def TRK_RDS.ALPHA : Field := ⟨0x0C80, 16, 16⟩
def TRK_RDS.RDS25 : Field := ⟨0x0C80, 0, 16⟩
/-- `TRK_ESW` (MT). -/
def TRK_ESW.addr : Nat := 0x0C84
def TRK_ESW.ESW : Field := ⟨0x0C84, 0, 16⟩
/-- `TRK_FRTH` (MT). -/
def TRK_FRTH.addr : Nat := 0x0C88
def TRK_FRTH.RTH3 : Field := ⟨0x0C88, 20, 10⟩
def TRK_FRTH.RTH2 : Field := ⟨0x0C88, 10, 10⟩
def TRK_FRTH.RTH1 : Field := ⟨0x0C88, 0, 10⟩
/-- `TRK_FTAU12` (MT). -/
def TRK_FTAU12.addr : Nat := 0x0C8C
def TRK_FTAU12.TAU2 : Field := ⟨0x0C8C, 16, 16⟩
def TRK_FTAU12.TAU1 : Field := ⟨0x0C8C, 0, 16⟩
/-- `TRK_FTAU3` (MT). -/
def TRK_FTAU3.addr : Nat := 0x0C90
def TRK_FTAU3.TAU3 : Field := ⟨0x0C90, 0, 16⟩
/-- `CHB_RDS` (MT). -/
def CHB_RDS.addr : Nat := 0x0CA0
def CHB_RDS.ALPHA : Field := ⟨0x0CA0, 16, 16⟩
def CHB_RDS.RDS25 : Field := ⟨0x0CA0, 0, 16⟩
/-- `CHB_ESW` (MT). -/
def CHB_ESW.addr : Nat := 0x0CA4
def CHB_ESW.ESW : Field := ⟨0x0CA4, 0, 16⟩
/-- `CHB_FRTH` (MT). -/
def CHB_FRTH.addr : Nat := 0x0CA8
def CHB_FRTH.RTH3 : Field := ⟨0x0CA8, 20, 10⟩
def CHB_FRTH.RTH2 : Field := ⟨0x0CA8, 10, 10⟩
def CHB_FRTH.RTH1 : Field := ⟨0x0CA8, 0, 10⟩
/-- `CHB_FTAU12` (MT). -/
def CHB_FTAU12.addr : Nat := 0x0CAC
def CHB_FTAU12.TAU2 : Field := ⟨0x0CAC, 16, 16⟩
def CHB_FTAU12.TAU1 : Field := ⟨0x0CAC, 0, 16⟩
/-- `CHB_FTAU3` (MT). -/
def CHB_FTAU3.addr : Nat := 0x0CB0
def CHB_FTAU3.TAU3 : Field := ⟨0x0CB0, 0, 16⟩
/-- `PRT_RDS` (MT). -/
def PRT_RDS.addr : Nat := 0x0CC0
def PRT_RDS.ALPHA : Field := ⟨0x0CC0, 16, 16⟩
def PRT_RDS.RDS25 : Field := ⟨0x0CC0, 0, 16⟩
/-- `PRT_ESW` (MT). -/
def PRT_ESW.addr : Nat := 0x0CC4
def PRT_ESW.ESW : Field := ⟨0x0CC4, 0, 16⟩
/-- `PRT_FRTH` (MT). -/
def PRT_FRTH.addr : Nat := 0x0CC8
def PRT_FRTH.RTH3 : Field := ⟨0x0CC8, 20, 10⟩
def PRT_FRTH.RTH2 : Field := ⟨0x0CC8, 10, 10⟩
def PRT_FRTH.RTH1 : Field := ⟨0x0CC8, 0, 10⟩
/-- `PRT_FTAU12` (MT). -/
def PRT_FTAU12.addr : Nat := 0x0CCC
def PRT_FTAU12.TAU2 : Field := ⟨0x0CCC, 16, 16⟩
def PRT_FTAU12.TAU1 : Field := ⟨0x0CCC, 0, 16⟩
/-- `PRT_FTAU3` (MT). -/
def PRT_FTAU3.addr : Nat := 0x0CD0
def PRT_FTAU3.TAU3 : Field := ⟨0x0CD0, 0, 16⟩
/-- `THM_CELL_WARN` (MT). -/
def THM_CELL_WARN.addr : Nat := 0x0CE0
def THM_CELL_WARN.CELLS : Field := ⟨0x0CE0, 0, 18⟩
/-- `THM_CELL_THR` (MT). -/
def THM_CELL_THR.addr : Nat := 0x0CE4
def THM_CELL_THR.CELLS : Field := ⟨0x0CE4, 0, 18⟩
/-- `THM_CELL_SHUT` (MT). -/
def THM_CELL_SHUT.addr : Nat := 0x0CE8
def THM_CELL_SHUT.CELLS : Field := ⟨0x0CE8, 0, 18⟩
/-- `MEA_CTRL` (MT). -/
def MEA_CTRL.addr : Nat := 0x0D00
def MEA_CTRL.CAL_INT : Field := ⟨0x0D00, 8, 8⟩
def MEA_CTRL.QCLR : Field := ⟨0x0D00, 2, 1⟩
def MEA_CTRL.BGCAL_EN : Field := ⟨0x0D00, 1, 1⟩
/-- `MEA_STATUS` (MT). -/
def MEA_STATUS.addr : Nat := 0x0D04
def MEA_STATUS.LOAD : Field := ⟨0x0D04, 24, 8⟩
def MEA_STATUS.RES_LEFT : Field := ⟨0x0D04, 8, 8⟩
def MEA_STATUS.FAIL_B : Field := ⟨0x0D04, 3, 1⟩
def MEA_STATUS.FAIL_A : Field := ⟨0x0D04, 2, 1⟩
def MEA_STATUS.BUSY_B : Field := ⟨0x0D04, 1, 1⟩
def MEA_STATUS.BUSY_A : Field := ⟨0x0D04, 0, 1⟩
/-- `MEA_FLAGS` (MT). -/
def MEA_FLAGS.addr : Nat := 0x0D08
def MEA_FLAGS.SCAN_LATE : Field := ⟨0x0D08, 6, 1⟩
def MEA_FLAGS.COUNT_GAP : Field := ⟨0x0D08, 5, 1⟩
def MEA_FLAGS.CH_BAD : Field := ⟨0x0D08, 4, 1⟩
def MEA_FLAGS.ADC_FAIL : Field := ⟨0x0D08, 3, 1⟩
def MEA_FLAGS.CAL_STARVED : Field := ⟨0x0D08, 2, 1⟩
def MEA_FLAGS.RES_OVF : Field := ⟨0x0D08, 1, 1⟩
def MEA_FLAGS.LATE : Field := ⟨0x0D08, 0, 1⟩
/-- `MEA_IRQ_EN` (MT). -/
def MEA_IRQ_EN.addr : Nat := 0x0D0C
def MEA_IRQ_EN.EN : Field := ⟨0x0D0C, 0, 7⟩
/-- `MEA_RES_LO` (MT). -/
def MEA_RES_LO.addr : Nat := 0x0D10
def MEA_RES_LO.CODE : Field := ⟨0x0D10, 16, 16⟩
def MEA_RES_LO.TAG : Field := ⟨0x0D10, 8, 8⟩
def MEA_RES_LO.CH : Field := ⟨0x0D10, 0, 8⟩
/-- `MEA_RES_HI` (MT). -/
def MEA_RES_HI.addr : Nat := 0x0D14
def MEA_RES_HI.TIME : Field := ⟨0x0D14, 1, 31⟩
def MEA_RES_HI.LATE : Field := ⟨0x0D14, 0, 1⟩
/-- `MEA_QCNT` (MT). -/
def MEA_QCNT.addr : Nat := 0x0D20
def MEA_QCNT.QCNT : Field := ⟨0x0D20, 0, 32⟩
/-- `MEA_QIN` (MT). -/
def MEA_QIN.addr : Nat := 0x0D24
def MEA_QIN.Q : Field := ⟨0x0D24, 0, 32⟩
/-- `MEA_QOUT` (MT). -/
def MEA_QOUT.addr : Nat := 0x0D28
def MEA_QOUT.Q : Field := ⟨0x0D28, 0, 32⟩
/-- `MEA_QCAL` (MT). -/
def MEA_QCAL.addr : Nat := 0x0D2C
def MEA_QCAL.GAIN : Field := ⟨0x0D2C, 16, 16⟩
def MEA_QCAL.OFFSET : Field := ⟨0x0D2C, 0, 16⟩
/-- `MEA_IPK` (MT). -/
def MEA_IPK.addr : Nat := 0x0D30
def MEA_IPK.SHUNT : Field := ⟨0x0D30, 0, 16⟩
/-- `MEA_SCAN_CFG` (MT). -/
def MEA_SCAN_CFG.addr : Nat := 0x0D40
def MEA_SCAN_CFG.PERIOD : Field := ⟨0x0D40, 16, 16⟩
def MEA_SCAN_CFG.PRIO : Field := ⟨0x0D40, 12, 4⟩
def MEA_SCAN_CFG.LEN : Field := ⟨0x0D40, 4, 4⟩
def MEA_SCAN_CFG.EN : Field := ⟨0x0D40, 0, 1⟩
/-- `MEA_SCANk` (MT). -/
def MEA_SCAN.addr (k : Nat) : Nat := 0x0D44 + 4 * k
def MEA_SCAN.CH3 (k : Nat) : Field := ⟨0x0D44 + 4 * k, 24, 8⟩
def MEA_SCAN.CH2 (k : Nat) : Field := ⟨0x0D44 + 4 * k, 16, 8⟩
def MEA_SCAN.CH1 (k : Nat) : Field := ⟨0x0D44 + 4 * k, 8, 8⟩
def MEA_SCAN.CH0 (k : Nat) : Field := ⟨0x0D44 + 4 * k, 0, 8⟩
/-- `MEA_ADCA_CAL` (MT). -/
def MEA_ADCA_CAL.addr : Nat := 0x0D60
def MEA_ADCA_CAL.GAIN : Field := ⟨0x0D60, 16, 16⟩
def MEA_ADCA_CAL.OFFSET : Field := ⟨0x0D60, 0, 16⟩
/-- `MEA_ADCB_CAL` (MT). -/
def MEA_ADCB_CAL.addr : Nat := 0x0D64
def MEA_ADCB_CAL.GAIN : Field := ⟨0x0D64, 16, 16⟩
def MEA_ADCB_CAL.OFFSET : Field := ⟨0x0D64, 0, 16⟩
/-- `MEA_SCAN_RESk` (MT). -/
def MEA_SCAN_RES.addr (k : Nat) : Nat := 0x0D80 + 4 * k
def MEA_SCAN_RES.CODE (k : Nat) : Field := ⟨0x0D80 + 4 * k, 16, 16⟩
def MEA_SCAN_RES.LATE (k : Nat) : Field := ⟨0x0D80 + 4 * k, 15, 1⟩
def MEA_SCAN_RES.CH (k : Nat) : Field := ⟨0x0D80 + 4 * k, 0, 8⟩
/-- `WRP_CTRL` (AT). -/
def WRP_CTRL.addr : Nat := 0x0E00
def WRP_CTRL.FILT : Field := ⟨0x0E00, 8, 8⟩
def WRP_CTRL.EN : Field := ⟨0x0E00, 0, 1⟩
/-- `WRP_LOCK` (AT). -/
def WRP_LOCK.addr : Nat := 0x0E04
def WRP_LOCK.LOCKED : Field := ⟨0x0E04, 16, 16⟩
def WRP_LOCK.ACTIVE : Field := ⟨0x0E04, 0, 16⟩
/-- `WRP_FLAGS` (AT). -/
def WRP_FLAGS.addr : Nat := 0x0E08
def WRP_FLAGS.LOST : Field := ⟨0x0E08, 16, 16⟩
def WRP_FLAGS.LOCK : Field := ⟨0x0E08, 0, 16⟩
/-- `WRP_ERR` (AT). -/
def WRP_ERR.addr : Nat := 0x0E0C
def WRP_ERR.STAMP_BAD : Field := ⟨0x0E0C, 16, 16⟩
def WRP_ERR.SLIP : Field := ⟨0x0E0C, 0, 16⟩
/-- `WRP_IRQ_EN` (AT). -/
def WRP_IRQ_EN.addr : Nat := 0x0E10
def WRP_IRQ_EN.SLIP : Field := ⟨0x0E10, 3, 1⟩
def WRP_IRQ_EN.STAMP_BAD : Field := ⟨0x0E10, 2, 1⟩
def WRP_IRQ_EN.LOST : Field := ⟨0x0E10, 1, 1⟩
def WRP_IRQ_EN.LOCK : Field := ⟨0x0E10, 0, 1⟩
/-- `WRP_STAMP_TIME` (AT). -/
def WRP_STAMP_TIME.addr : Nat := 0x0E14
def WRP_STAMP_TIME.TIME : Field := ⟨0x0E14, 0, 32⟩
/-- `WRP_STAMP` (AT). -/
def WRP_STAMP.addr : Nat := 0x0E18
def WRP_STAMP.TRACK : Field := ⟨0x0E18, 28, 4⟩
def WRP_STAMP.ANGLE : Field := ⟨0x0E18, 0, 16⟩
/-- `WRP_FWD` (AT). -/
def WRP_FWD.addr : Nat := 0x0E1C
def WRP_FWD.FWD : Field := ⟨0x0E1C, 0, 16⟩
/-- `WRP_Tt_CFG` (AT). -/
def WRP_T_CFG.addr (k : Nat) : Nat := 0x0E40 + 12 * k
def WRP_T_CFG.OFFSET (k : Nat) : Field := ⟨0x0E40 + 12 * k, 16, 16⟩
def WRP_T_CFG.SRC (k : Nat) : Field := ⟨0x0E40 + 12 * k, 14, 2⟩
def WRP_T_CFG.INSEL (k : Nat) : Field := ⟨0x0E40 + 12 * k, 9, 5⟩
def WRP_T_CFG.NM1 (k : Nat) : Field := ⟨0x0E40 + 12 * k, 3, 6⟩
def WRP_T_CFG.AGE (k : Nat) : Field := ⟨0x0E40 + 12 * k, 0, 3⟩
/-- `WRP_Tt_STATE` (AT). -/
def WRP_T_STATE.addr (k : Nat) : Nat := 0x0E44 + 12 * k
def WRP_T_STATE.LOCK (k : Nat) : Field := ⟨0x0E44 + 12 * k, 30, 2⟩
def WRP_T_STATE.EDGE (k : Nat) : Field := ⟨0x0E44 + 12 * k, 24, 6⟩
def WRP_T_STATE.PERR (k : Nat) : Field := ⟨0x0E44 + 12 * k, 16, 8⟩
def WRP_T_STATE.ANGLE (k : Nat) : Field := ⟨0x0E44 + 12 * k, 0, 16⟩
/-- `WRP_Tt_SPEED` (AT). -/
def WRP_T_SPEED.addr (k : Nat) : Nat := 0x0E48 + 12 * k
def WRP_T_SPEED.SPEED (k : Nat) : Field := ⟨0x0E48 + 12 * k, 0, 32⟩
/-- `RED_CTRL` (AT). -/
def RED_CTRL.addr : Nat := 0x0F00
def RED_CTRL.LOOM_BASE : Field := ⟨0x0F00, 8, 8⟩
def RED_CTRL.WEFT_EN : Field := ⟨0x0F00, 1, 1⟩
def RED_CTRL.EN : Field := ⟨0x0F00, 0, 1⟩
/-- `RED_STATUS` (AT). -/
def RED_STATUS.addr : Nat := 0x0F04
def RED_STATUS.PICKS : Field := ⟨0x0F04, 23, 9⟩
def RED_STATUS.WEFT_N : Field := ⟨0x0F04, 16, 4⟩
def RED_STATUS.WEFT_MASK : Field := ⟨0x0F04, 0, 16⟩
/-- `RED_WEFT` (AT). -/
def RED_WEFT.addr : Nat := 0x0F08
def RED_WEFT.GAIN : Field := ⟨0x0F08, 16, 16⟩
def RED_WEFT.WMAX : Field := ⟨0x0F08, 0, 16⟩
/-- `RED_FLAGS` (AT). -/
def RED_FLAGS.addr : Nat := 0x0F10
def RED_FLAGS.WEFT_CUT : Field := ⟨0x0F10, 11, 1⟩
def RED_FLAGS.PICK_ECC : Field := ⟨0x0F10, 10, 1⟩
def RED_FLAGS.STALE : Field := ⟨0x0F10, 9, 1⟩
def RED_FLAGS.LEARN_ABORT : Field := ⟨0x0F10, 8, 1⟩
def RED_FLAGS.LEARN_DONE : Field := ⟨0x0F10, 7, 1⟩
def RED_FLAGS.WEFT_BUSY : Field := ⟨0x0F10, 6, 1⟩
def RED_FLAGS.WEFT_FULL : Field := ⟨0x0F10, 5, 1⟩
def RED_FLAGS.MARK_OVF : Field := ⟨0x0F10, 4, 1⟩
def RED_FLAGS.SLOT_BUSY : Field := ⟨0x0F10, 3, 1⟩
def RED_FLAGS.DENIED : Field := ⟨0x0F10, 2, 1⟩
def RED_FLAGS.KEEP_DROP : Field := ⟨0x0F10, 1, 1⟩
def RED_FLAGS.LATE : Field := ⟨0x0F10, 0, 1⟩
/-- `RED_IRQ_EN` (AT). -/
def RED_IRQ_EN.addr : Nat := 0x0F14
def RED_IRQ_EN.EN : Field := ⟨0x0F14, 0, 12⟩
/-- `RED_MARK_LO` (AT). -/
def RED_MARK_LO.addr : Nat := 0x0F18
def RED_MARK_LO.TIME : Field := ⟨0x0F18, 0, 32⟩
/-- `RED_MARK_HI` (AT). -/
def RED_MARK_HI.addr : Nat := 0x0F1C
def RED_MARK_HI.TAG : Field := ⟨0x0F1C, 24, 8⟩
def RED_MARK_HI.SLOT : Field := ⟨0x0F1C, 16, 8⟩
def RED_MARK_HI.LEFT : Field := ⟨0x0F1C, 8, 8⟩
/-- `RED_CNT` (AT). -/
def RED_CNT.addr : Nat := 0x0F20
def RED_CNT.LATE_CNT : Field := ⟨0x0F20, 16, 16⟩
def RED_CNT.FIRE_CNT : Field := ⟨0x0F20, 0, 16⟩
/-- `RED_Wt_CFG` (AT). -/
def RED_W_CFG.addr (k : Nat) : Nat := 0x0F40 + 8 * k
def RED_W_CFG.ACT (k : Nat) : Field := ⟨0x0F40 + 8 * k, 31, 1⟩
def RED_W_CFG.LEARN (k : Nat) : Field := ⟨0x0F40 + 8 * k, 29, 2⟩
def RED_W_CFG.RELEARN (k : Nat) : Field := ⟨0x0F40 + 8 * k, 28, 1⟩
def RED_W_CFG.SAVE (k : Nat) : Field := ⟨0x0F40 + 8 * k, 27, 1⟩
def RED_W_CFG.LEAD (k : Nat) : Field := ⟨0x0F40 + 8 * k, 16, 8⟩
/-- `RED_Wt_STATUS` (AT). -/
def RED_W_STATUS.addr (k : Nat) : Nat := 0x0F44 + 8 * k
def RED_W_STATUS.LSTATE (k : Nat) : Field := ⟨0x0F44 + 8 * k, 28, 4⟩
def RED_W_STATUS.REVS (k : Nat) : Field := ⟨0x0F44 + 8 * k, 20, 8⟩
def RED_W_STATUS.ACAUSE (k : Nat) : Field := ⟨0x0F44 + 8 * k, 16, 4⟩
def RED_W_STATUS.FADE (k : Nat) : Field := ⟨0x0F44 + 8 * k, 8, 8⟩
def RED_W_STATUS.PEAK (k : Nat) : Field := ⟨0x0F44 + 8 * k, 0, 8⟩
/-- `LOM_CTRL` (LE). -/
def LOM_CTRL.addr : Nat := 0x1000
def LOM_CTRL.QUANTUM : Field := ⟨0x1000, 16, 8⟩
def LOM_CTRL.PROT : Field := ⟨0x1000, 12, 4⟩
def LOM_CTRL.EN : Field := ⟨0x1000, 0, 1⟩
/-- `LOM_STATUS` (LE). -/
def LOM_STATUS.addr : Nat := 0x1004
def LOM_STATUS.SH_EN : Field := ⟨0x1004, 24, 8⟩
def LOM_STATUS.SH_RUN : Field := ⟨0x1004, 16, 8⟩
def LOM_STATUS.SLOTS : Field := ⟨0x1004, 8, 8⟩
def LOM_STATUS.READY : Field := ⟨0x1004, 0, 7⟩
/-- `LOM_FLAGS` (LE). -/
def LOM_FLAGS.addr : Nat := 0x1008
def LOM_FLAGS.SLOT_WAIT : Field := ⟨0x1008, 10, 1⟩
def LOM_FLAGS.RESUMED : Field := ⟨0x1008, 9, 1⟩
def LOM_FLAGS.CTX_DENIED : Field := ⟨0x1008, 8, 1⟩
def LOM_FLAGS.PM_BUSY : Field := ⟨0x1008, 7, 1⟩
def LOM_FLAGS.PM_DENIED : Field := ⟨0x1008, 6, 1⟩
def LOM_FLAGS.SHUTTLE_OFF : Field := ⟨0x1008, 5, 1⟩
def LOM_FLAGS.SHED_CHG : Field := ⟨0x1008, 4, 1⟩
def LOM_FLAGS.SHED_SHORT : Field := ⟨0x1008, 3, 1⟩
def LOM_FLAGS.CONFLICT : Field := ⟨0x1008, 2, 1⟩
def LOM_FLAGS.TICK_SPILL : Field := ⟨0x1008, 1, 1⟩
def LOM_FLAGS.CTX_TRAP : Field := ⟨0x1008, 0, 1⟩
/-- `LOM_IRQ_EN` (LE). -/
def LOM_IRQ_EN.addr : Nat := 0x100C
def LOM_IRQ_EN.EN : Field := ⟨0x100C, 0, 11⟩
/-- `LOM_CTXSEL` (LE). -/
def LOM_CTXSEL.addr : Nat := 0x1010
def LOM_CTXSEL.CTX : Field := ⟨0x1010, 0, 7⟩
/-- `LOM_CTX_CMD` (LE). -/
def LOM_CTX_CMD.addr : Nat := 0x1014
def LOM_CTX_CMD.CMD : Field := ⟨0x1014, 28, 4⟩
def LOM_CTX_CMD.RESULT : Field := ⟨0x1014, 24, 4⟩
def LOM_CTX_CMD.LAST_CTX : Field := ⟨0x1014, 8, 7⟩
def LOM_CTX_CMD.CTX : Field := ⟨0x1014, 0, 7⟩
/-- `LOM_PMPAGE` (LE). -/
def LOM_PMPAGE.addr : Nat := 0x1018
def LOM_PMPAGE.PAGE : Field := ⟨0x1018, 0, 2⟩
/-- `LOM_DMADDR` (LE). -/
def LOM_DMADDR.addr : Nat := 0x101C
def LOM_DMADDR.ADDR : Field := ⟨0x101C, 2, 12⟩
/-- `LOM_DMDATA` (LE). -/
def LOM_DMDATA.addr : Nat := 0x1020
def LOM_DMDATA.DATA : Field := ⟨0x1020, 0, 32⟩
/-- `LOM_PMLOCK0` (LE). -/
def LOM_PMLOCK0.addr : Nat := 0x1024
def LOM_PMLOCK0.LOCK : Field := ⟨0x1024, 0, 32⟩
/-- `LOM_PMLOCK1` (LE). -/
def LOM_PMLOCK1.addr : Nat := 0x1028
def LOM_PMLOCK1.LOCK : Field := ⟨0x1028, 0, 32⟩
/-- `LOM_PMUNLOCK` (LE). -/
def LOM_PMUNLOCK.addr : Nat := 0x102C
def LOM_PMUNLOCK.PAGE : Field := ⟨0x102C, 0, 6⟩
/-- `LOM_MERGE` (LE). -/
def LOM_MERGE.addr : Nat := 0x1030
def LOM_MERGE.ORDERS : Field := ⟨0x1030, 24, 8⟩
def LOM_MERGE.SPILLED : Field := ⟨0x1030, 16, 8⟩
def LOM_MERGE.CONFLICTS : Field := ⟨0x1030, 0, 16⟩
/-- `LOM_LASTCONF` (LE). -/
def LOM_LASTCONF.addr : Nat := 0x1034
def LOM_LASTCONF.TARGET : Field := ⟨0x1034, 24, 8⟩
def LOM_LASTCONF.WINNER : Field := ⟨0x1034, 20, 4⟩
def LOM_LASTCONF.LOSER : Field := ⟨0x1034, 16, 4⟩
def LOM_LASTCONF.RAISING : Field := ⟨0x1034, 15, 1⟩
def LOM_LASTCONF.LOCKED : Field := ⟨0x1034, 14, 1⟩
/-- `LOM_LASTCONF_TICK` (LE). -/
def LOM_LASTCONF_TICK.addr : Nat := 0x1038
def LOM_LASTCONF_TICK.TICK : Field := ⟨0x1038, 0, 32⟩
/-- `LOM_SHED_CFG` (LE). -/
def LOM_SHED_CFG.addr : Nat := 0x1040
def LOM_SHED_CFG.RESTORE_DLY : Field := ⟨0x1040, 16, 16⟩
def LOM_SHED_CFG.AUTO : Field := ⟨0x1040, 8, 8⟩
/-- `LOM_SHED_STATE` (LE). -/
def LOM_SHED_STATE.addr : Nat := 0x1044
def LOM_SHED_STATE.BY_ORDER : Field := ⟨0x1044, 16, 8⟩
def LOM_SHED_STATE.BY_AUTO : Field := ⟨0x1044, 8, 8⟩
def LOM_SHED_STATE.SHED : Field := ⟨0x1044, 0, 8⟩
/-- `LOM_SHED_CMD` (LE). -/
def LOM_SHED_CMD.addr : Nat := 0x1048
def LOM_SHED_CMD.RESTORE : Field := ⟨0x1048, 8, 8⟩
def LOM_SHED_CMD.SHED : Field := ⟨0x1048, 0, 8⟩
/-- `LOM_SLOTS0` (LE). -/
def LOM_SLOTS0.addr : Nat := 0x1050
def LOM_SLOTS0.BUSY : Field := ⟨0x1050, 0, 32⟩
/-- `LOM_SLOTS1` (LE). -/
def LOM_SLOTS1.addr : Nat := 0x1054
def LOM_SLOTS1.BUSY : Field := ⟨0x1054, 0, 32⟩
/-- `LOM_SHEDk` (LE). -/
def LOM_SHED.addr (k : Nat) : Nat := 0x1060 + 4 * k
def LOM_SHED.ACT (k : Nat) : Field := ⟨0x1060 + 4 * k, 28, 4⟩
def LOM_SHED.DECL_I (k : Nat) : Field := ⟨0x1060 + 4 * k, 0, 16⟩
/-- `LOM_CTXW` (LE). -/
def LOM_CTXW.addr (k : Nat) : Nat := 0x1100 + 4 * k
def LOM_CTXW.WORD (k : Nat) : Field := ⟨0x1100 + 4 * k, 0, 32⟩
/-- `JOB_CTRL` (JB). -/
def JOB_CTRL.addr : Nat := 0x1400
def JOB_CTRL.ACK_EN : Field := ⟨0x1400, 0, 4⟩
/-- `JOB_STATUS` (JB). -/
def JOB_STATUS.addr : Nat := 0x1404
def JOB_STATUS.PAIRED : Field := ⟨0x1404, 8, 1⟩
def JOB_STATUS.QUEUED : Field := ⟨0x1404, 0, 8⟩
/-- `JOB_ASN_LO` (JB). -/
def JOB_ASN_LO.addr : Nat := 0x1408
def JOB_ASN_LO.ASN : Field := ⟨0x1408, 0, 32⟩
/-- `JOB_ASN_HI` (JB). -/
def JOB_ASN_HI.addr : Nat := 0x140C
def JOB_ASN_HI.ASN : Field := ⟨0x140C, 0, 16⟩
/-- `JOB_FLAGS` (JB). -/
def JOB_FLAGS.addr : Nat := 0x1410
def JOB_FLAGS.RESTORED : Field := ⟨0x1410, 9, 1⟩
def JOB_FLAGS.DB_REFUSED : Field := ⟨0x1410, 8, 1⟩
def JOB_FLAGS.REL_BAD : Field := ⟨0x1410, 7, 1⟩
def JOB_FLAGS.CQ_BAD : Field := ⟨0x1410, 6, 1⟩
def JOB_FLAGS.SQ_BAD : Field := ⟨0x1410, 5, 1⟩
def JOB_FLAGS.CQ_FULL : Field := ⟨0x1410, 4, 1⟩
def JOB_FLAGS.CQ_POST : Field := ⟨0x1410, 0, 4⟩
/-- `JOB_IRQ_EN` (JB). -/
def JOB_IRQ_EN.addr : Nat := 0x1414
def JOB_IRQ_EN.EN : Field := ⟨0x1414, 0, 10⟩
/-- `JOB_RELEASE` (JB). -/
def JOB_RELEASE.addr : Nat := 0x1418
def JOB_RELEASE.JOBID : Field := ⟨0x1418, 0, 32⟩
/-- `JOB_RELRES` (JB). -/
def JOB_RELRES.addr : Nat := 0x141C
def JOB_RELRES.RESULT : Field := ⟨0x141C, 0, 2⟩
/-- `JOB_Mm_SQ` (JB). -/
def JOB_SQ.addr (k : Nat) : Nat := 0x1420 + 8 * k
def JOB_SQ.HEAD (k : Nat) : Field := ⟨0x1420 + 8 * k, 16, 6⟩
def JOB_SQ.TAIL (k : Nat) : Field := ⟨0x1420 + 8 * k, 0, 6⟩
/-- `JOB_Mm_CQ` (JB). -/
def JOB_CQ.addr (k : Nat) : Nat := 0x1424 + 8 * k
def JOB_CQ.TAIL (k : Nat) : Field := ⟨0x1424 + 8 * k, 16, 6⟩
def JOB_CQ.HEAD (k : Nat) : Field := ⟨0x1424 + 8 * k, 0, 6⟩
/-- `JOB_Mm_INFO0` (JB). -/
def JOB_INFO0.addr (k : Nat) : Nat := 0x1440 + 8 * k
def JOB_INFO0.ASN_LO (k : Nat) : Field := ⟨0x1440 + 8 * k, 0, 32⟩
/-- `JOB_Mm_INFO1` (JB). -/
def JOB_INFO1.addr (k : Nat) : Nat := 0x1444 + 8 * k
def JOB_INFO1.ASN_HI (k : Nat) : Field := ⟨0x1444 + 8 * k, 16, 16⟩
def JOB_INFO1.CAUSE (k : Nat) : Field := ⟨0x1444 + 8 * k, 8, 8⟩
def JOB_INFO1.CTX (k : Nat) : Field := ⟨0x1444 + 8 * k, 0, 7⟩
/-- `JOB_Mm_REC` (JB). -/
def JOB_REC.addr (k : Nat) : Nat := 0x1460 + 4 * k
def JOB_REC.REC (k : Nat) : Field := ⟨0x1460 + 4 * k, 0, 32⟩
/-- `JOB_Mm_STATr` (JB). -/
def JOB_STAT.addr (k : Nat) : Nat := 0x1600 + 4 * k
def JOB_STAT.STATE (k : Nat) : Field := ⟨0x1600 + 4 * k, 28, 4⟩
def JOB_STAT.READS (k : Nat) : Field := ⟨0x1600 + 4 * k, 24, 4⟩
def JOB_STAT.PROGRESS (k : Nat) : Field := ⟨0x1600 + 4 * k, 16, 8⟩
def JOB_STAT.RESULT_SEQ (k : Nat) : Field := ⟨0x1600 + 4 * k, 0, 16⟩
/-- `HIF_CTRL` (HB). -/
def HIF_CTRL.addr : Nat := 0x1800
def HIF_CTRL.PEC_EN : Field := ⟨0x1800, 8, 1⟩
def HIF_CTRL.INT_MODE : Field := ⟨0x1800, 4, 1⟩
def HIF_CTRL.I2C_EN : Field := ⟨0x1800, 0, 1⟩
/-- `HIF_STATUS` (HB). -/
def HIF_STATUS.addr : Nat := 0x1804
def HIF_STATUS.I2C_BUSY : Field := ⟨0x1804, 15, 1⟩
def HIF_STATUS.I2C_STATE : Field := ⟨0x1804, 12, 3⟩
def HIF_STATUS.SPI_STATUS : Field := ⟨0x1804, 0, 8⟩
/-- `HIF_FLAGS` (HB). -/
def HIF_FLAGS.addr : Nat := 0x1808
def HIF_FLAGS.RST_SEEN : Field := ⟨0x1808, 13, 1⟩
def HIF_FLAGS.I2C_ACC : Field := ⟨0x1808, 12, 1⟩
def HIF_FLAGS.I2C_BUSY_NACK : Field := ⟨0x1808, 11, 1⟩
def HIF_FLAGS.I2C_ALIGN : Field := ⟨0x1808, 10, 1⟩
def HIF_FLAGS.I2C_PARTIAL : Field := ⟨0x1808, 9, 1⟩
def HIF_FLAGS.I2C_PEC : Field := ⟨0x1808, 8, 1⟩
def HIF_FLAGS.I2C_SR_IN_ACK : Field := ⟨0x1808, 7, 1⟩
def HIF_FLAGS.I2C_TO_SDA : Field := ⟨0x1808, 6, 1⟩
def HIF_FLAGS.I2C_TO_SCL : Field := ⟨0x1808, 5, 1⟩
def HIF_FLAGS.BURST_ABORT : Field := ⟨0x1808, 4, 1⟩
def HIF_FLAGS.SPI_ACC : Field := ⟨0x1808, 3, 1⟩
def HIF_FLAGS.SPI_CMD : Field := ⟨0x1808, 2, 1⟩
def HIF_FLAGS.SPI_LEN : Field := ⟨0x1808, 1, 1⟩
def HIF_FLAGS.SPI_CRC : Field := ⟨0x1808, 0, 1⟩
/-- `HIF_IRQ_EN` (HB). -/
def HIF_IRQ_EN.addr : Nat := 0x180C
def HIF_IRQ_EN.EN : Field := ⟨0x180C, 0, 14⟩
/-- `HIF_INT_SRC` (HB). -/
def HIF_INT_SRC.addr : Nat := 0x1810
def HIF_INT_SRC.SRC : Field := ⟨0x1810, 0, 18⟩
/-- `HIF_INT_EN` (HB). -/
def HIF_INT_EN.addr : Nat := 0x1814
def HIF_INT_EN.EN : Field := ⟨0x1814, 0, 18⟩
/-- `HIF_SPI_CNT` (HB). -/
def HIF_SPI_CNT.addr : Nat := 0x1818
def HIF_SPI_CNT.ERR_CNT : Field := ⟨0x1818, 16, 16⟩
def HIF_SPI_CNT.FRAMES : Field := ⟨0x1818, 0, 16⟩
/-- `HIF_I2C_CNT` (HB). -/
def HIF_I2C_CNT.addr : Nat := 0x181C
def HIF_I2C_CNT.ERR_CNT : Field := ⟨0x181C, 16, 16⟩
def HIF_I2C_CNT.WORDS : Field := ⟨0x181C, 0, 16⟩
/-- `HIF_BURST` (HB). -/
def HIF_BURST.addr : Nat := 0x1820
def HIF_BURST.DIR : Field := ⟨0x1820, 31, 1⟩
def HIF_BURST.DONE : Field := ⟨0x1820, 16, 9⟩
def HIF_BURST.COUNT : Field := ⟨0x1820, 0, 9⟩
/-- `HIF_I2C_PTR` (HB). -/
def HIF_I2C_PTR.addr : Nat := 0x1824
def HIF_I2C_PTR.PTR : Field := ⟨0x1824, 0, 16⟩
/-- `AUX_CTRL` (HB). -/
def AUX_CTRL.addr : Nat := 0x1900
def AUX_CTRL.TO : Field := ⟨0x1900, 24, 8⟩
def AUX_CTRL.SPEED : Field := ⟨0x1900, 8, 2⟩
def AUX_CTRL.EN : Field := ⟨0x1900, 0, 1⟩
/-- `AUX_CMD` (HB). -/
def AUX_CMD.addr : Nat := 0x1904
def AUX_CMD.GO : Field := ⟨0x1904, 31, 1⟩
def AUX_CMD.ADDR : Field := ⟨0x1904, 24, 7⟩
def AUX_CMD.RLEN : Field := ⟨0x1904, 16, 5⟩
def AUX_CMD.WLEN : Field := ⟨0x1904, 8, 5⟩
/-- `AUX_STATUS` (HB). -/
def AUX_STATUS.addr : Nat := 0x1908
def AUX_STATUS.STATE : Field := ⟨0x1908, 28, 4⟩
def AUX_STATUS.OWNER : Field := ⟨0x1908, 24, 3⟩
def AUX_STATUS.RX_CNT : Field := ⟨0x1908, 16, 5⟩
def AUX_STATUS.TX_CNT : Field := ⟨0x1908, 8, 5⟩
def AUX_STATUS.SDA_LVL : Field := ⟨0x1908, 3, 1⟩
def AUX_STATUS.SCL_LVL : Field := ⟨0x1908, 2, 1⟩
def AUX_STATUS.STUCK : Field := ⟨0x1908, 1, 1⟩
def AUX_STATUS.BUSY : Field := ⟨0x1908, 0, 1⟩
/-- `AUX_FLAGS` (HB). -/
def AUX_FLAGS.addr : Nat := 0x190C
def AUX_FLAGS.CLEARED : Field := ⟨0x190C, 8, 1⟩
def AUX_FLAGS.BAD_CMD : Field := ⟨0x190C, 7, 1⟩
def AUX_FLAGS.BUSY_REJ : Field := ⟨0x190C, 6, 1⟩
def AUX_FLAGS.ARB_LOST : Field := ⟨0x190C, 5, 1⟩
def AUX_FLAGS.STUCK : Field := ⟨0x190C, 4, 1⟩
def AUX_FLAGS.TIMEOUT : Field := ⟨0x190C, 3, 1⟩
def AUX_FLAGS.NACK_DATA : Field := ⟨0x190C, 2, 1⟩
def AUX_FLAGS.NACK_ADDR : Field := ⟨0x190C, 1, 1⟩
def AUX_FLAGS.DONE : Field := ⟨0x190C, 0, 1⟩
/-- `AUX_IRQ_EN` (HB). -/
def AUX_IRQ_EN.addr : Nat := 0x1910
def AUX_IRQ_EN.EN : Field := ⟨0x1910, 0, 9⟩
/-- `AUX_TXk` (HB). -/
def AUX_TX.addr (k : Nat) : Nat := 0x1920 + 4 * k
def AUX_TX.DATA (k : Nat) : Field := ⟨0x1920 + 4 * k, 0, 32⟩
/-- `AUX_RXk` (HB). -/
def AUX_RX.addr (k : Nat) : Nat := 0x1930 + 4 * k
def AUX_RX.DATA (k : Nat) : Field := ⟨0x1930 + 4 * k, 0, 32⟩
/-- `SVC_CTRL` (SV). -/
def SVC_CTRL.addr : Nat := 0x1A00
def SVC_CTRL.USB_EN : Field := ⟨0x1A00, 6, 1⟩
def SVC_CTRL.PPS_EN : Field := ⟨0x1A00, 5, 1⟩
def SVC_CTRL.EPR_EN : Field := ⟨0x1A00, 4, 1⟩
def SVC_CTRL.PD_EN : Field := ⟨0x1A00, 3, 1⟩
def SVC_CTRL.ROLE : Field := ⟨0x1A00, 1, 2⟩
def SVC_CTRL.EN : Field := ⟨0x1A00, 0, 1⟩
/-- `SVC_STATUS` (SV). -/
def SVC_STATUS.addr : Nat := 0x1A04
def SVC_STATUS.TC_STATE : Field := ⟨0x1A04, 28, 4⟩
def SVC_STATUS.POWER_ROLE : Field := ⟨0x1A04, 27, 1⟩
def SVC_STATUS.DATA_ROLE : Field := ⟨0x1A04, 26, 1⟩
def SVC_STATUS.ORIENT : Field := ⟨0x1A04, 25, 1⟩
def SVC_STATUS.VCONN_ON : Field := ⟨0x1A04, 24, 1⟩
def SVC_STATUS.RP_LEVEL : Field := ⟨0x1A04, 22, 2⟩
def SVC_STATUS.CONTRACT : Field := ⟨0x1A04, 20, 2⟩
def SVC_STATUS.PD_STATE : Field := ⟨0x1A04, 16, 4⟩
def SVC_STATUS.EPR_CABLE : Field := ⟨0x1A04, 15, 1⟩
def SVC_STATUS.PARTNER_PD : Field := ⟨0x1A04, 14, 1⟩
def SVC_STATUS.USB_CONF : Field := ⟨0x1A04, 13, 1⟩
def SVC_STATUS.DFU_MODE : Field := ⟨0x1A04, 12, 1⟩
def SVC_STATUS.PDO : Field := ⟨0x1A04, 8, 4⟩
/-- `SVC_FLAGS` (SV). -/
def SVC_FLAGS.addr : Nat := 0x1A08
def SVC_FLAGS.PD_PROTO : Field := ⟨0x1A08, 13, 1⟩
def SVC_FLAGS.DFU_SESSION : Field := ⟨0x1A08, 12, 1⟩
def SVC_FLAGS.USB_RESET : Field := ⟨0x1A08, 11, 1⟩
def SVC_FLAGS.PDO_REDUCED : Field := ⟨0x1A08, 10, 1⟩
def SVC_FLAGS.PORT_WDG : Field := ⟨0x1A08, 9, 1⟩
def SVC_FLAGS.VCONN_OC : Field := ⟨0x1A08, 8, 1⟩
def SVC_FLAGS.CABLE_NOT_EPR : Field := ⟨0x1A08, 7, 1⟩
def SVC_FLAGS.WAIT_RX : Field := ⟨0x1A08, 6, 1⟩
def SVC_FLAGS.SWAP_FAIL : Field := ⟨0x1A08, 5, 1⟩
def SVC_FLAGS.SWAP_DONE : Field := ⟨0x1A08, 4, 1⟩
def SVC_FLAGS.HARD_RESET : Field := ⟨0x1A08, 3, 1⟩
def SVC_FLAGS.CONTRACT : Field := ⟨0x1A08, 2, 1⟩
def SVC_FLAGS.DETACH : Field := ⟨0x1A08, 1, 1⟩
def SVC_FLAGS.ATTACH : Field := ⟨0x1A08, 0, 1⟩
/-- `SVC_IRQ_EN` (SV). -/
def SVC_IRQ_EN.addr : Nat := 0x1A0C
def SVC_IRQ_EN.EN : Field := ⟨0x1A0C, 0, 14⟩
/-- `SVC_SNK_PREF` (SV). -/
def SVC_SNK_PREF.addr : Nat := 0x1A10
def SVC_SNK_PREF.VMIN : Field := ⟨0x1A10, 16, 16⟩
def SVC_SNK_PREF.PPS_REQ : Field := ⟨0x1A10, 0, 1⟩
/-- `SVC_PDP` (SV). -/
def SVC_PDP.addr : Nat := 0x1A14
def SVC_PDP.PDP : Field := ⟨0x1A14, 16, 8⟩
def SVC_PDP.PCAP : Field := ⟨0x1A14, 0, 16⟩
/-- `SVC_CABLE` (SV). -/
def SVC_CABLE.addr : Nat := 0x1A18
def SVC_CABLE.VMAX : Field := ⟨0x1A18, 4, 4⟩
def SVC_CABLE.CUR : Field := ⟨0x1A18, 2, 2⟩
def SVC_CABLE.EPR : Field := ⟨0x1A18, 1, 1⟩
def SVC_CABLE.EMARKED : Field := ⟨0x1A18, 0, 1⟩
/-- `SVC_USB_ID` (SV). -/
def SVC_USB_ID.addr : Nat := 0x1A20
def SVC_USB_ID.PID : Field := ⟨0x1A20, 16, 16⟩
def SVC_USB_ID.VID : Field := ⟨0x1A20, 0, 16⟩
/-- `SVC_DFU` (SV). -/
def SVC_DFU.addr : Nat := 0x1A24
def SVC_DFU.STATE : Field := ⟨0x1A24, 24, 8⟩
def SVC_DFU.STATUS : Field := ⟨0x1A24, 16, 8⟩
def SVC_DFU.BLOCKS : Field := ⟨0x1A24, 0, 16⟩
/-- `SVC_CNT` (SV). -/
def SVC_CNT.addr : Nat := 0x1A28
def SVC_CNT.HRESET_CNT : Field := ⟨0x1A28, 16, 16⟩
def SVC_CNT.RETRY_CNT : Field := ⟨0x1A28, 0, 16⟩
/-- `SEL_CTRL` (TW). -/
def SEL_CTRL.addr : Nat := 0x1C00
def SEL_CTRL.SB_OFFSET : Field := ⟨0x1C00, 24, 8⟩
def SEL_CTRL.SPLIT : Field := ⟨0x1C00, 16, 8⟩
def SEL_CTRL.PEER_RST_EN : Field := ⟨0x1C00, 7, 1⟩
def SEL_CTRL.ACTIVE_PREF : Field := ⟨0x1C00, 4, 1⟩
def SEL_CTRL.MODE : Field := ⟨0x1C00, 0, 2⟩
/-- `SEL_STATUS` (TW). -/
def SEL_STATUS.addr : Nat := 0x1C04
def SEL_STATUS.PAIR_STATE : Field := ⟨0x1C04, 28, 4⟩
def SEL_STATUS.LINK : Field := ⟨0x1C04, 26, 2⟩
def SEL_STATUS.PEER_LIVE : Field := ⟨0x1C04, 25, 1⟩
def SEL_STATUS.TIME_MASTER : Field := ⟨0x1C04, 24, 1⟩
def SEL_STATUS.PAIR_ERR : Field := ⟨0x1C04, 20, 4⟩
def SEL_STATUS.PEER_STATE : Field := ⟨0x1C04, 16, 4⟩
def SEL_STATUS.LOSS : Field := ⟨0x1C04, 12, 4⟩
def SEL_STATUS.PEER_SERVICE : Field := ⟨0x1C04, 10, 2⟩
def SEL_STATUS.PEER_CHIP : Field := ⟨0x1C04, 9, 1⟩
/-- `SEL_FLAGS` (TW). -/
def SEL_FLAGS.addr : Nat := 0x1C08
def SEL_FLAGS.STANDBY_TAKE : Field := ⟨0x1C08, 11, 1⟩
def SEL_FLAGS.SHARE_SAT : Field := ⟨0x1C08, 10, 1⟩
def SEL_FLAGS.TRACK_MISMATCH : Field := ⟨0x1C08, 9, 1⟩
def SEL_FLAGS.TIME_STEP : Field := ⟨0x1C08, 8, 1⟩
def SEL_FLAGS.RETRAIN : Field := ⟨0x1C08, 7, 1⟩
def SEL_FLAGS.ORDER_LATE : Field := ⟨0x1C08, 6, 1⟩
def SEL_FLAGS.HANDOVER_DONE : Field := ⟨0x1C08, 5, 1⟩
def SEL_FLAGS.JOIN_ABORT : Field := ⟨0x1C08, 4, 1⟩
def SEL_FLAGS.REJOINED : Field := ⟨0x1C08, 3, 1⟩
def SEL_FLAGS.PEER_LOST : Field := ⟨0x1C08, 2, 1⟩
def SEL_FLAGS.PAIR_FAIL : Field := ⟨0x1C08, 1, 1⟩
def SEL_FLAGS.PAIRED : Field := ⟨0x1C08, 0, 1⟩
/-- `SEL_IRQ_EN` (TW). -/
def SEL_IRQ_EN.addr : Nat := 0x1C0C
def SEL_IRQ_EN.EN : Field := ⟨0x1C0C, 0, 12⟩
/-- `SEL_PAIR_ID` (TW). -/
def SEL_PAIR_ID.addr : Nat := 0x1C10
def SEL_PAIR_ID.PAIR_ID : Field := ⟨0x1C10, 0, 32⟩
/-- `SEL_PEER` (TW). -/
def SEL_PEER.addr : Nat := 0x1C14
def SEL_PEER.VARIANT : Field := ⟨0x1C14, 24, 8⟩
def SEL_PEER.PROTO : Field := ⟨0x1C14, 16, 8⟩
def SEL_PEER.FWVER : Field := ⟨0x1C14, 0, 16⟩
/-- `SEL_VER` (TW). -/
def SEL_VER.addr : Nat := 0x1C18
def SEL_VER.PROTO : Field := ⟨0x1C18, 24, 8⟩
def SEL_VER.FWVER : Field := ⟨0x1C18, 0, 16⟩
/-- `SEL_SHARE` (TW). -/
def SEL_SHARE.addr : Nat := 0x1C20
def SEL_SHARE.WEIGHT : Field := ⟨0x1C20, 24, 8⟩
def SEL_SHARE.TRIM_SPAN : Field := ⟨0x1C20, 16, 8⟩
def SEL_SHARE.AGAIN : Field := ⟨0x1C20, 8, 8⟩
def SEL_SHARE.DGAIN : Field := ⟨0x1C20, 0, 8⟩
/-- `SEL_SHARE_ST` (TW). -/
def SEL_SHARE_ST.addr : Nat := 0x1C24
def SEL_SHARE_ST.VSHARE : Field := ⟨0x1C24, 16, 16⟩
def SEL_SHARE_ST.ATRIM : Field := ⟨0x1C24, 8, 8⟩
def SEL_SHARE_ST.DTRIM : Field := ⟨0x1C24, 0, 8⟩
/-- `SEL_PEER_I` (TW). -/
def SEL_PEER_I.addr : Nat := 0x1C28
def SEL_PEER_I.CURR : Field := ⟨0x1C28, 16, 16⟩
def SEL_PEER_I.CAP : Field := ⟨0x1C28, 0, 16⟩
/-- `SEL_TIME` (TW). -/
def SEL_TIME.addr : Nat := 0x1C30
def SEL_TIME.RTT : Field := ⟨0x1C30, 16, 16⟩
def SEL_TIME.OFFSET : Field := ⟨0x1C30, 0, 16⟩
/-- `SEL_LINK_CNT` (TW). -/
def SEL_LINK_CNT.addr : Nat := 0x1C34
def SEL_LINK_CNT.CRC_ERR : Field := ⟨0x1C34, 16, 16⟩
def SEL_LINK_CNT.RETX : Field := ⟨0x1C34, 0, 16⟩
/-- `SEL_CMD` (TW). -/
def SEL_CMD.addr : Nat := 0x1C38
def SEL_CMD.KEY : Field := ⟨0x1C38, 16, 16⟩
def SEL_CMD.RESULT : Field := ⟨0x1C38, 4, 2⟩
def SEL_CMD.CMD : Field := ⟨0x1C38, 0, 4⟩
/-- `SEL_LOSS_TIME` (TW). -/
def SEL_LOSS_TIME.addr : Nat := 0x1C3C
def SEL_LOSS_TIME.TIME : Field := ⟨0x1C3C, 0, 32⟩
/-- `BEM_STATUS` (TW). -/
def BEM_STATUS.addr : Nat := 0x1D00
def BEM_STATUS.MIRROR : Field := ⟨0x1D00, 28, 4⟩
def BEM_STATUS.SPARE_ROWS : Field := ⟨0x1D00, 16, 8⟩
def BEM_STATUS.USED : Field := ⟨0x1D00, 0, 9⟩
/-- `BEM_JSN_LO` (TW). -/
def BEM_JSN_LO.addr : Nat := 0x1D04
def BEM_JSN_LO.JSN : Field := ⟨0x1D04, 0, 32⟩
/-- `BEM_JSN_HI` (TW). -/
def BEM_JSN_HI.addr : Nat := 0x1D08
def BEM_JSN_HI.JSN : Field := ⟨0x1D08, 0, 16⟩
/-- `BEM_ACKED_LO` (TW). -/
def BEM_ACKED_LO.addr : Nat := 0x1D0C
def BEM_ACKED_LO.JSN : Field := ⟨0x1D0C, 0, 32⟩
/-- `BEM_PEER_LO` (TW). -/
def BEM_PEER_LO.addr : Nat := 0x1D10
def BEM_PEER_LO.JSN : Field := ⟨0x1D10, 0, 32⟩
/-- `BEM_RESYNC` (TW). -/
def BEM_RESYNC.addr : Nat := 0x1D14
def BEM_RESYNC.LEFT : Field := ⟨0x1D14, 16, 16⟩
def BEM_RESYNC.DONE : Field := ⟨0x1D14, 0, 16⟩
/-- `BEM_FLAGS` (TW). -/
def BEM_FLAGS.addr : Nat := 0x1D18
def BEM_FLAGS.DUP_RACE : Field := ⟨0x1D18, 6, 1⟩
def BEM_FLAGS.SPARE_LOW : Field := ⟨0x1D18, 5, 1⟩
def BEM_FLAGS.DISCARDED : Field := ⟨0x1D18, 4, 1⟩
def BEM_FLAGS.RESYNC_DONE : Field := ⟨0x1D18, 3, 1⟩
def BEM_FLAGS.REC_REBUILT : Field := ⟨0x1D18, 2, 1⟩
def BEM_FLAGS.REC_LOST : Field := ⟨0x1D18, 1, 1⟩
def BEM_FLAGS.ROW_RETIRED : Field := ⟨0x1D18, 0, 1⟩
/-- `BEM_IRQ_EN` (TW). -/
def BEM_IRQ_EN.addr : Nat := 0x1D1C
def BEM_IRQ_EN.EN : Field := ⟨0x1D1C, 0, 7⟩
/-- `BEM_WEAR` (TW). -/
def BEM_WEAR.addr : Nat := 0x1D20
def BEM_WEAR.MAXWR : Field := ⟨0x1D20, 16, 16⟩
def BEM_WEAR.RETIRED : Field := ⟨0x1D20, 0, 16⟩
/-- `UPD_STATUS` (BU). -/
def UPD_STATUS.addr : Nat := 0x1E00
def UPD_STATUS.STAGE : Field := ⟨0x1E00, 28, 4⟩
def UPD_STATUS.OWNER : Field := ⟨0x1E00, 25, 3⟩
def UPD_STATUS.SESSION : Field := ⟨0x1E00, 24, 1⟩
def UPD_STATUS.HOLD : Field := ⟨0x1E00, 23, 1⟩
def UPD_STATUS.TRIAL : Field := ⟨0x1E00, 22, 1⟩
def UPD_STATUS.BOOTS : Field := ⟨0x1E00, 20, 2⟩
def UPD_STATUS.PREP : Field := ⟨0x1E00, 19, 1⟩
def UPD_STATUS.NVM_BUSY : Field := ⟨0x1E00, 18, 1⟩
def UPD_STATUS.REJECT : Field := ⟨0x1E00, 8, 8⟩
/-- `UPD_SESSION` (BU). -/
def UPD_SESSION.addr : Nat := 0x1E04
def UPD_SESSION.KEY : Field := ⟨0x1E04, 16, 16⟩
def UPD_SESSION.RESULT : Field := ⟨0x1E04, 12, 4⟩
def UPD_SESSION.CMD : Field := ⟨0x1E04, 0, 2⟩
/-- `UPD_CMD` (BU). -/
def UPD_CMD.addr : Nat := 0x1E08
def UPD_CMD.RESULT : Field := ⟨0x1E08, 12, 4⟩
def UPD_CMD.TOKEN : Field := ⟨0x1E08, 16, 16⟩
def UPD_CMD.CMD : Field := ⟨0x1E08, 0, 4⟩
/-- `UPD_BLOCK` (BU). -/
def UPD_BLOCK.addr : Nat := 0x1E0C
def UPD_BLOCK.RESULT : Field := ⟨0x1E0C, 12, 4⟩
def UPD_BLOCK.TOKEN : Field := ⟨0x1E0C, 16, 16⟩
def UPD_BLOCK.BUF : Field := ⟨0x1E0C, 8, 1⟩
def UPD_BLOCK.BLOCK : Field := ⟨0x1E0C, 0, 7⟩
/-- `UPD_NEXT` (BU). -/
def UPD_NEXT.addr : Nat := 0x1E10
def UPD_NEXT.NEXT : Field := ⟨0x1E10, 16, 7⟩
def UPD_NEXT.TOTAL : Field := ⟨0x1E10, 0, 7⟩
/-- `UPD_VER_ACT` (BU). -/
def UPD_VER_ACT.addr : Nat := 0x1E14
def UPD_VER_ACT.VERSION : Field := ⟨0x1E14, 0, 32⟩
/-- `UPD_VER_STG` (BU). -/
def UPD_VER_STG.addr : Nat := 0x1E18
def UPD_VER_STG.VERSION : Field := ⟨0x1E18, 0, 32⟩
/-- `UPD_VER_FB` (BU). -/
def UPD_VER_FB.addr : Nat := 0x1E1C
def UPD_VER_FB.VERSION : Field := ⟨0x1E1C, 0, 32⟩
/-- `UPD_SCHEMA` (BU). -/
def UPD_SCHEMA.addr : Nat := 0x1E20
def UPD_SCHEMA.IMAGE : Field := ⟨0x1E20, 16, 16⟩
def UPD_SCHEMA.STORED : Field := ⟨0x1E20, 0, 16⟩
/-- `UPD_ARB` (BU). -/
def UPD_ARB.addr : Nat := 0x1E24
def UPD_ARB.COUNTER : Field := ⟨0x1E24, 16, 7⟩
def UPD_ARB.ACT_LEVEL : Field := ⟨0x1E24, 8, 7⟩
def UPD_ARB.STG_LEVEL : Field := ⟨0x1E24, 0, 7⟩
/-- `UPD_ACTJ` (BU). -/
def UPD_ACTJ.addr : Nat := 0x1E28
def UPD_ACTJ.PHASE : Field := ⟨0x1E28, 28, 4⟩
def UPD_ACTJ.PART : Field := ⟨0x1E28, 24, 4⟩
def UPD_ACTJ.MARKERS : Field := ⟨0x1E28, 0, 16⟩
/-- `UPD_TRIAL` (BU). -/
def UPD_TRIAL.addr : Nat := 0x1E2C
def UPD_TRIAL.HEALTHY : Field := ⟨0x1E2C, 0, 16⟩
/-- `UPD_FLASH` (BU). -/
def UPD_FLASH.addr : Nat := 0x1E30
def UPD_FLASH.SPARE : Field := ⟨0x1E30, 24, 8⟩
def UPD_FLASH.FAILS : Field := ⟨0x1E30, 0, 16⟩
/-- `UPD_FLAGS` (BU). -/
def UPD_FLAGS.addr : Nat := 0x1E40
def UPD_FLAGS.HOLD_DONE : Field := ⟨0x1E40, 13, 1⟩
def UPD_FLAGS.PUSH_FAIL : Field := ⟨0x1E40, 12, 1⟩
def UPD_FLAGS.PUSH_DONE : Field := ⟨0x1E40, 11, 1⟩
def UPD_FLAGS.FLASH_FAIL : Field := ⟨0x1E40, 10, 1⟩
def UPD_FLAGS.FLASH_SPARE : Field := ⟨0x1E40, 9, 1⟩
def UPD_FLAGS.MIGRATE_FAIL : Field := ⟨0x1E40, 8, 1⟩
def UPD_FLAGS.REJECTED : Field := ⟨0x1E40, 7, 1⟩
def UPD_FLAGS.ROLLED_BACK : Field := ⟨0x1E40, 6, 1⟩
def UPD_FLAGS.CONFIRMED : Field := ⟨0x1E40, 5, 1⟩
def UPD_FLAGS.ACTIVATED : Field := ⟨0x1E40, 4, 1⟩
def UPD_FLAGS.BUSY_REJ : Field := ⟨0x1E40, 3, 1⟩
def UPD_FLAGS.LOCK_LOST : Field := ⟨0x1E40, 2, 1⟩
def UPD_FLAGS.COMPLETE_OK : Field := ⟨0x1E40, 1, 1⟩
def UPD_FLAGS.BLOCK_DONE : Field := ⟨0x1E40, 0, 1⟩
/-- `UPD_IRQ_EN` (BU). -/
def UPD_IRQ_EN.addr : Nat := 0x1E44
def UPD_IRQ_EN.EN : Field := ⟨0x1E44, 0, 14⟩
/-- `TST_AMUX` (AP). -/
def TST_AMUX.addr : Nat := 0x1F00
def TST_AMUX.CELL : Field := ⟨0x1F00, 16, 5⟩
def TST_AMUX.EN1 : Field := ⟨0x1F00, 15, 1⟩
def TST_AMUX.SEL1 : Field := ⟨0x1F00, 8, 5⟩
def TST_AMUX.EN0 : Field := ⟨0x1F00, 7, 1⟩
def TST_AMUX.SEL0 : Field := ⟨0x1F00, 0, 5⟩
/-- `TST_DMUX` (AP). -/
def TST_DMUX.addr : Nat := 0x1F04
def TST_DMUX.EN3 : Field := ⟨0x1F04, 31, 1⟩
def TST_DMUX.SEL3 : Field := ⟨0x1F04, 24, 6⟩
def TST_DMUX.EN2 : Field := ⟨0x1F04, 23, 1⟩
def TST_DMUX.SEL2 : Field := ⟨0x1F04, 16, 6⟩
def TST_DMUX.EN1 : Field := ⟨0x1F04, 15, 1⟩
def TST_DMUX.SEL1 : Field := ⟨0x1F04, 8, 6⟩
def TST_DMUX.EN0 : Field := ⟨0x1F04, 7, 1⟩
def TST_DMUX.SEL0 : Field := ⟨0x1F04, 0, 6⟩

end Sys2Proof.Machine
end

