-- ==== Sys2Proof/Machine/RegMap.lean ====
section
/-!
DEFINITION. The register map (R441): for each register or group of registers of one layout its
address, how many, which bits each access code of R10 covers, and its reset words of R14.
A register that no master's write stores as it stands (the keyed commands, the tokens, the queue
and data windows, the system time) has no writable bits here: Machine/Writes.lean says what a
write of it does; there too the bits that are orders are taken out of a plain store.
-/

namespace Sys2Proof.Machine

/-- One row of the register map. -/
structure RegSpec where
  base : Nat
  stride : Nat
  count : Nat
  /-- Bits stored by a write (RW, RWS), cleared by 1 (W1C), set by 1 (W1S). -/
  rw : Nat
  w1c : Nat
  w1s : Nat
  /-- Word after a POR-column reset; after a Warm-column reset with the kept bits (R14). -/
  por : Nat
  warm : Nat
  kept : Nat
  deriving DecidableEq, Repr

/-- Registers `GLB_FEAT` to `SRC_SEARCH48`. -/
def regTable0 : List RegSpec :=
  [⟨0x0004, 0, 1, 0, 0, 0, 0x46A607, 0x46A607, 0⟩ /- GLB_FEAT -/,
   ⟨0x0008, 0, 1, 0, 0, 0, 0x4800, 0x4800, 0⟩ /- GLB_STRAP -/,
   ⟨0x0010, 0, 1, 0, 0, 0, 0, 0, 0xFFFFFFFF⟩ /- GLB_SYSTIME_LO -/,
   ⟨0x0014, 0, 1, 0, 0, 0, 0, 0, 0xFFFFFFFF⟩ /- GLB_SYSTIME_HI -/,
   ⟨0x0020, 0, 1, 0, 0, 0, 0, 0, 0⟩ /- GLB_REGION -/,
   ⟨0x0024, 0, 1, 0, 0, 0, 0x1F, 0x1F, 0⟩ /- GLB_CLK -/,
   ⟨0x0030, 0, 1, 0x31, 0x2, 0, 0, 0, 0⟩ /- GLB_SYNC -/,
   ⟨0x0100, 0, 1, 0, 0, 0, 0x2100FF00, 0, 0xFF00⟩ /- SAF_STATUS -/,
   ⟨0x0104, 0, 1, 0, 0, 0, 0x1000, 0, 0⟩ /- SAF_RST_CAUSE -/,
   ⟨0x0108, 0, 1, 0, 0, 0, 0, 0, 0xFFFFFFFF⟩ /- SAF_RST_CNT -/,
   ⟨0x010C, 0, 1, 0, 0, 0, 0, 0, 0⟩ /- SAF_RST_CMD -/,
   ⟨0x0110, 0, 1, 0xFFFFFFFF, 0, 0, 0x7D003E8, 0x7D003E8, 0⟩ /- SAF_WDG_CFG -/,
   ⟨0x0114, 0, 1, 0x1, 0, 0x2, 0, 0, 0⟩ /- SAF_WDG_CTRL -/,
   ⟨0x0118, 0, 1, 0, 0, 0, 0, 0, 0⟩ /- SAF_WDG_KEY -/,
   ⟨0x011C, 0, 1, 0, 0, 0, 0x8000000, 0x8000000, 0x5E00000⟩ /- SAF_WDG_STAT -/,
   ⟨0x0120, 0, 1, 0, 0, 0, 0, 0, 0⟩ /- SAF_WDG_LAST -/,
   ⟨0x0130, 0, 1, 0, 0, 0, 0, 0, 0x3FFFFF⟩ /- SAF_FAULT -/,
   ⟨0x0134, 0, 1, 0, 0, 0, 0, 0, 0⟩ /- SAF_FAULT_CLR -/,
   ⟨0x0138, 0, 1, 0x3FFFFF, 0, 0, 0x150FFF, 0, 0x3FFFFF⟩ /- SAF_FAULTN_EN -/,
   ⟨0x013C, 0, 1, 0x3F, 0, 0, 0x2B, 0x2B, 0⟩ /- SAF_IRQ_EN -/,
   ⟨0x0140, 0, 1, 0, 0x3F, 0, 0, 0, 0⟩ /- SAF_FLAGS -/,
   ⟨0x0144, 0, 1, 0, 0, 0, 0, 0, 0xFFFFFFFF⟩ /- SAF_ECC_CNT -/,
   ⟨0x0150, 0, 1, 0, 0, 0, 0, 0, 0⟩ /- SAF_PWR_CMD -/,
   ⟨0x0154, 0, 1, 0x7F, 0, 0, 0x4F, 0, 0x7F⟩ /- SAF_WAKE_EN -/,
   ⟨0x0158, 0, 1, 0, 0x7F, 0, 0, 0, 0⟩ /- SAF_WAKE_SRC -/,
   ⟨0x015C, 0, 1, 0xFFFFFFFF, 0, 0, 0, 0, 0xFFFFFFFF⟩ /- SAF_AON_TMR -/,
   ⟨0x0160, 0, 1, 0xFFFF0001, 0, 0, 0x5280000, 0, 0xFFFF0001⟩ /- SAF_WAKE_CFG -/,
   ⟨0x0180, 0, 1, 0, 0, 0, 0, 0, 0⟩ /- SAF_LC_CMD -/,
   ⟨0x0184, 0, 1, 0, 0, 0, 0, 0, 0⟩ /- SAF_NONCE_LO -/,
   ⟨0x0188, 0, 1, 0, 0, 0, 0, 0, 0⟩ /- SAF_NONCE_HI -/,
   ⟨0x018C, 0, 1, 0, 0, 0, 0, 0, 0⟩ /- SAF_DEVID_LO -/,
   ⟨0x0190, 0, 1, 0, 0, 0, 0, 0, 0⟩ /- SAF_DEVID_HI -/,
   ⟨0x01C0, 4, 16, 0, 0, 0, 0, 0, 0⟩ /- SAF_TOKENk -/,
   ⟨0x0200, 0, 1, 0xFFFFFFE3, 0, 0x10, 0x3C0A63, 0x3C0A63, 0⟩ /- SRC_CTRL -/,
   ⟨0x0204, 0, 1, 0, 0, 0, 0, 0, 0⟩ /- SRC_STATUS -/,
   ⟨0x0208, 0, 1, 0xFFFF, 0, 0, 0x4321, 0x4321, 0⟩ /- SRC_PRIO -/,
   ⟨0x0210, 0, 1, 0, 0, 0, 0, 0, 0⟩ /- SRC_IN48_MEAS -/,
   ⟨0x0214, 0, 1, 0, 0, 0, 0, 0, 0⟩ /- SRC_IN12_MEAS -/,
   ⟨0x0218, 0, 1, 0xFFFFFFFF, 0, 0, 0x3E801F4, 0x3E801F4, 0⟩ /- SRC_SHUNT -/,
   ⟨0x0220, 0, 1, 0xFFFFFF00, 0, 0, 0xA145A00, 0xA145A00, 0⟩ /- SRC_SEARCH48 -/]

/-- Registers `SRC_SEARCH12` to `TRK_BANDk_T`. -/
def regTable1 : List RegSpec :=
  [⟨0x0224, 0, 1, 0xFFFFFF00, 0, 0, 0x5145A00, 0x5145A00, 0⟩ /- SRC_SEARCH12 -/,
   ⟨0x0228, 0, 1, 0xFFFFFFFF, 0, 0, 0x3840A28, 0x3840A28, 0⟩ /- SRC_FLOOR -/,
   ⟨0x0230, 0, 1, 0xFFFF, 0, 0, 0xFA01F40, 0xFA01F40, 0⟩ /- SRC_CEIL48 -/,
   ⟨0x0234, 0, 1, 0xFFFF, 0, 0, 0x7D00FA0, 0x7D00FA0, 0⟩ /- SRC_CEIL12 -/,
   ⟨0x0238, 0, 1, 0, 0, 0, 0, 0, 0⟩ /- SRC_CEIL_VBUS -/,
   ⟨0x023C, 0, 1, 0, 0, 0, 0, 0, 0⟩ /- SRC_REST -/,
   ⟨0x0240, 0, 1, 0xFF, 0, 0, 0x5, 0x5, 0⟩ /- SRC_SHAVE -/,
   ⟨0x0250, 0, 1, 0, 0, 0, 0, 0, 0⟩ /- SRC_KA -/,
   ⟨0x0260, 0, 1, 0xFF00FF03, 0, 0, 0x64003200, 0x64003200, 0⟩ /- SRC_REV -/,
   ⟨0x0264, 0, 1, 0xFFFFFFFF, 0, 0, 0x11300FA0, 0x11300FA0, 0⟩ /- SRC_REV_TGT -/,
   ⟨0x0270, 0, 1, 0, 0x7FFF, 0, 0, 0, 0⟩ /- SRC_FLAGS -/,
   ⟨0x0274, 0, 1, 0x7FFF, 0, 0, 0x58FF, 0x58FF, 0⟩ /- SRC_IRQ_EN -/,
   ⟨0x0278, 0, 1, 0, 0, 0, 0, 0, 0⟩ /- SRC_XFER -/,
   ⟨0x0300, 0, 1, 0x7, 0, 0, 0x6, 0x6, 0⟩ /- TRK_CTRL -/,
   ⟨0x0304, 0, 1, 0, 0, 0, 0, 0, 0x100⟩ /- TRK_STATUS -/,
   ⟨0x0308, 0, 1, 0, 0, 0, 0, 0, 0⟩ /- TRK_REF -/,
   ⟨0x030C, 0, 1, 0, 0, 0, 0, 0, 0⟩ /- TRK_CMD -/,
   ⟨0x0310, 4, 1, 0xFFFF, 0, 0, 0x546, 0x546, 0⟩ /- TRK_VSETk -/,
   ⟨0x0314, 4, 1, 0xFFFF, 0, 0, 0x4B0, 0x4B0, 0⟩ /- TRK_VSETk -/,
   ⟨0x0318, 4, 1, 0xFFFF, 0, 0, 0x514, 0x514, 0⟩ /- TRK_VSETk -/,
   ⟨0x031C, 4, 1, 0xFFFF, 0, 0, 0x578, 0x578, 0⟩ /- TRK_VSETk -/,
   ⟨0x0320, 4, 1, 0xFFFF, 0, 0, 0x5A0, 0x5A0, 0⟩ /- TRK_VSETk -/,
   ⟨0x0324, 4, 1, 0xFFFF, 0, 0, 0x3E8, 0x3E8, 0⟩ /- TRK_VSETk -/,
   ⟨0x0328, 4, 1, 0xFFFF, 0, 0, 0x960, 0x960, 0⟩ /- TRK_VSETk -/,
   ⟨0x032C, 4, 1, 0xFFFF, 0, 0, 0xAC8, 0xAC8, 0⟩ /- TRK_VSETk -/,
   ⟨0x0330, 0, 1, 0xFFFF0000, 0, 0, 0xA0000, 0, 0⟩ /- TRK_PIN -/,
   ⟨0x0334, 0, 1, 0xFFFF, 0, 0, 0xA, 0xA, 0⟩ /- TRK_RATE -/,
   ⟨0x0338, 0, 1, 0xFFFF, 0, 0, 0x5DC0, 0x5DC0, 0⟩ /- TRK_LIMIT -/,
   ⟨0x033C, 0, 1, 0, 0, 0, 0, 0, 0⟩ /- TRK_CAP -/,
   ⟨0x0340, 0, 1, 0xFFFF3F, 0, 0, 0xA0A04, 0xA0A04, 0⟩ /- TRK_BAL -/,
   ⟨0x0344, 0, 1, 0xF1FFFFFF, 0, 0, 0xA10A3024, 0xA10A3024, 0⟩ /- TRK_SHED -/,
   ⟨0x0348, 0, 1, 0x3FF, 0, 0, 0xFF, 0xFF, 0⟩ /- TRK_ASSIGN -/,
   ⟨0x034C, 0, 1, 0, 0, 0, 0, 0, 0⟩ /- TRK_MAP -/,
   ⟨0x0350, 0, 1, 0, 0, 0, 0xF0000000, 0xF0000000, 0⟩ /- TRK_REENTRY -/,
   ⟨0x0354, 0, 1, 0, 0, 0, 0x3E8, 0, 0xFFFF⟩ /- TRK_OVLD -/,
   ⟨0x0358, 0, 1, 0xFFFFFF00, 0, 0, 0xC807800, 0xC807800, 0x3⟩ /- TRK_OVP -/,
   ⟨0x0360, 0, 1, 0xF, 0, 0, 0x3, 0x3, 0⟩ /- TRK_REV -/,
   ⟨0x0370, 0, 1, 0, 0x7FF, 0, 0, 0, 0x100⟩ /- TRK_FLAGS -/,
   ⟨0x0374, 0, 1, 0x7FF, 0, 0, 0x1DD, 0x1DD, 0⟩ /- TRK_IRQ_EN -/,
   ⟨0x0380, 8, 1, 0xFFFFFFFF, 0, 0, 0x18282899, 0x18282899, 0⟩ /- TRK_BANDk_T -/]

/-- Registers `TRK_BANDk_T` to `PRT_BANDk_L`. -/
def regTable2 : List RegSpec :=
  [⟨0x0388, 8, 2, 0xFFFFFFFF, 0, 0, 0x142020D4, 0x142020D4, 0⟩ /- TRK_BANDk_T -/,
   ⟨0x0398, 8, 1, 0xFFFFFFFF, 0, 0, 0x182828D4, 0x182828D4, 0⟩ /- TRK_BANDk_T -/,
   ⟨0x03A0, 8, 1, 0xFFFFFFFF, 0, 0, 0x1C3030D9, 0x1C3030D9, 0⟩ /- TRK_BANDk_T -/,
   ⟨0x03A8, 8, 1, 0xFFFFFFFF, 0, 0, 0x203838DE, 0x203838DE, 0⟩ /- TRK_BANDk_T -/,
   ⟨0x0384, 8, 1, 0xFFFFFFFF, 0, 0, 0xC1428C8, 0xC1428C8, 0⟩ /- TRK_BANDk_L -/,
   ⟨0x038C, 8, 4, 0xFFFFFFFF, 0, 0, 0xC1420C8, 0xC1420C8, 0⟩ /- TRK_BANDk_L -/,
   ⟨0x03AC, 8, 1, 0xFFFFFFFF, 0, 0, 0xC1420A0, 0xC1420A0, 0⟩ /- TRK_BANDk_L -/,
   ⟨0x03B0, 0, 1, 0xFFFFFF01, 0, 0, 0x11083401, 0x11083401, 0⟩ /- TRK_MODCFG -/,
   ⟨0x0400, 0, 1, 0x7, 0, 0, 0x6, 0x6, 0⟩ /- CHB_CTRL -/,
   ⟨0x0404, 0, 1, 0, 0, 0, 0, 0, 0⟩ /- CHB_STATUS -/,
   ⟨0x0408, 0, 1, 0x3F, 0, 0, 0x1F, 0x1F, 0⟩ /- CHB_ASSIGN -/,
   ⟨0x040C, 0, 1, 0, 0, 0, 0, 0, 0⟩ /- CHB_REF -/,
   ⟨0x0410, 0, 1, 0xFFFF, 0, 0, 0, 0, 0⟩ /- CHB_BACKUP -/,
   ⟨0x0414, 0, 1, 0xFFFFFFFF, 0, 0, 0x1F401770, 0x1F401770, 0⟩ /- CHB_LIMIT -/,
   ⟨0x0418, 0, 1, 0, 0, 0, 0, 0, 0⟩ /- CHB_CAP -/,
   ⟨0x041C, 0, 1, 0, 0, 0, 0x1F000000, 0x1F000000, 0⟩ /- CHB_MAP -/,
   ⟨0x0470, 0, 1, 0, 0x2FF, 0, 0, 0, 0⟩ /- CHB_FLAGS -/,
   ⟨0x0474, 0, 1, 0x3FF, 0, 0, 0x2B9, 0x2B9, 0⟩ /- CHB_IRQ_EN -/,
   ⟨0x0480, 8, 1, 0xFFFFFFFF, 0, 0, 0x18282899, 0x18282899, 0⟩ /- CHB_BANDk_T -/,
   ⟨0x0488, 8, 2, 0xFFFFFFFF, 0, 0, 0x142020D4, 0x142020D4, 0⟩ /- CHB_BANDk_T -/,
   ⟨0x0498, 8, 1, 0xFFFFFFFF, 0, 0, 0x182828D4, 0x182828D4, 0⟩ /- CHB_BANDk_T -/,
   ⟨0x04A0, 8, 1, 0xFFFFFFFF, 0, 0, 0x1C3030D9, 0x1C3030D9, 0⟩ /- CHB_BANDk_T -/,
   ⟨0x04A8, 8, 1, 0xFFFFFFFF, 0, 0, 0x203838DE, 0x203838DE, 0⟩ /- CHB_BANDk_T -/,
   ⟨0x0484, 8, 1, 0xFFFFFFFF, 0, 0, 0xC1428C8, 0xC1428C8, 0⟩ /- CHB_BANDk_L -/,
   ⟨0x048C, 8, 4, 0xFFFFFFFF, 0, 0, 0xC1420C8, 0xC1420C8, 0⟩ /- CHB_BANDk_L -/,
   ⟨0x04AC, 8, 1, 0xFFFFFFFF, 0, 0, 0xC1420A0, 0xC1420A0, 0⟩ /- CHB_BANDk_L -/,
   ⟨0x04B0, 0, 1, 0xFFFFFF01, 0, 0, 0x1083401, 0x1083401, 0⟩ /- CHB_MODCFG -/,
   ⟨0x0500, 0, 1, 0x7, 0, 0, 0x6, 0x6, 0⟩ /- PRT_CTRL -/,
   ⟨0x0504, 0, 1, 0, 0, 0, 0, 0, 0⟩ /- PRT_STATUS -/,
   ⟨0x0508, 0, 1, 0xFFFFFFFF, 0, 0, 0x1F412C0, 0x1F412C0, 0⟩ /- PRT_LIM -/,
   ⟨0x050C, 0, 1, 0, 0, 0, 0, 0, 0⟩ /- PRT_CONTRACT -/,
   ⟨0x0510, 0, 1, 0, 0, 0, 0, 0, 0⟩ /- PRT_MEAS -/,
   ⟨0x0570, 0, 1, 0, 0x7F, 0, 0, 0, 0⟩ /- PRT_FLAGS -/,
   ⟨0x0574, 0, 1, 0x7F, 0, 0, 0x36, 0x36, 0⟩ /- PRT_IRQ_EN -/,
   ⟨0x0580, 8, 1, 0xFFFFFFFF, 0, 0, 0x18282899, 0x18282899, 0⟩ /- PRT_BANDk_T -/,
   ⟨0x0588, 8, 2, 0xFFFFFFFF, 0, 0, 0x142020D4, 0x142020D4, 0⟩ /- PRT_BANDk_T -/,
   ⟨0x0598, 8, 1, 0xFFFFFFFF, 0, 0, 0x182828D4, 0x182828D4, 0⟩ /- PRT_BANDk_T -/,
   ⟨0x05A0, 8, 1, 0xFFFFFFFF, 0, 0, 0x1C3030D9, 0x1C3030D9, 0⟩ /- PRT_BANDk_T -/,
   ⟨0x05A8, 8, 1, 0xFFFFFFFF, 0, 0, 0x203838DE, 0x203838DE, 0⟩ /- PRT_BANDk_T -/,
   ⟨0x0584, 8, 1, 0xFFFFFFFF, 0, 0, 0xC1428C8, 0xC1428C8, 0⟩ /- PRT_BANDk_L -/]

/-- Registers `PRT_BANDk_L` to `THM_STATUS`. -/
def regTable3 : List RegSpec :=
  [⟨0x058C, 8, 4, 0xFFFFFFFF, 0, 0, 0xC1420C8, 0xC1420C8, 0⟩ /- PRT_BANDk_L -/,
   ⟨0x05AC, 8, 1, 0xFFFFFFFF, 0, 0, 0xC1420A0, 0xC1420A0, 0⟩ /- PRT_BANDk_L -/,
   ⟨0x05B0, 0, 1, 0xFFFFFF01, 0, 0, 0x1083401, 0x1083401, 0⟩ /- PRT_MODCFG -/,
   ⟨0x0600, 64, 18, 0xF303, 0, 0, 0x2000, 0x2000, 0⟩ /- CEL_n_CFG -/,
   ⟨0x0604, 64, 18, 0, 0, 0, 0, 0, 0⟩ /- CEL_n_STATUS -/,
   ⟨0x0608, 64, 18, 0, 0x3F, 0, 0, 0, 0x3F⟩ /- CEL_n_FAULT -/,
   ⟨0x060C, 64, 10, 0x3FF, 0, 0, 0x190, 0x190, 0⟩ /- CEL_n_FSW -/,
   ⟨0x088C, 64, 6, 0x3FF, 0, 0, 0x12C, 0x12C, 0⟩ /- CEL_n_FSW -/,
   ⟨0x0A0C, 64, 2, 0x3FF, 0, 0, 0x1F4, 0x1F4, 0⟩ /- CEL_n_FSW -/,
   ⟨0x0610, 64, 10, 0xFFFFFFFF, 0, 0, 0xEE6C1194, 0xEE6C1194, 0⟩ /- CEL_n_ILIM -/,
   ⟨0x0890, 64, 6, 0xFFFFFFFF, 0, 0, 0xF6A00960, 0xF6A00960, 0⟩ /- CEL_n_ILIM -/,
   ⟨0x0A10, 64, 2, 0xFFFFFFFF, 0, 0, 0xF83007D0, 0xF83007D0, 0⟩ /- CEL_n_ILIM -/,
   ⟨0x0614, 64, 10, 0xFFFFFFFF, 0, 0, 0xDC03E8, 0xDC03E8, 0⟩ /- CEL_n_STAGE -/,
   ⟨0x0894, 64, 8, 0xFFFFFFFF, 0, 0, 0x1D607D0, 0x1D607D0, 0⟩ /- CEL_n_STAGE -/,
   ⟨0x0618, 64, 18, 0xFFFFFFFF, 0, 0, 0xC800C8, 0xC800C8, 0⟩ /- CEL_n_QG -/,
   ⟨0x061C, 64, 18, 0xFFFFFFFF, 0, 0, 0x28C81946, 0x28C81946, 0⟩ /- CEL_n_PLAUS -/,
   ⟨0x0620, 64, 18, 0, 0, 0, 0, 0, 0⟩ /- CEL_n_TON -/,
   ⟨0x0624, 64, 18, 0, 0, 0, 0, 0, 0⟩ /- CEL_n_IMEAS -/,
   ⟨0x0628, 64, 18, 0, 0, 0, 0, 0, 0⟩ /- CEL_n_CNT -/,
   ⟨0x062C, 64, 18, 0xFFFFFFFF, 0, 0, 0x80000000, 0x80000000, 0⟩ /- CEL_n_CAL -/,
   ⟨0x0B00, 0, 1, 0x1F071D, 0, 0x2, 0xC, 0xC, 0⟩ /- CHG_CTRL -/,
   ⟨0x0B04, 0, 1, 0, 0, 0, 0xE00080, 0xE00080, 0⟩ /- CHG_STATUS -/,
   ⟨0x0B08, 0, 1, 0xFFFFFFFF, 0, 0, 0xC80064, 0xC80064, 0⟩ /- CHG_CC -/,
   ⟨0x0B0C, 0, 1, 0xFFFFFFFF, 0, 0, 0, 0, 0⟩ /- CHG_CV -/,
   ⟨0x0B10, 0, 1, 0xFFFFFFFF, 0, 0, 0, 0, 0⟩ /- CHG_THRESH -/,
   ⟨0x0B14, 0, 1, 0xFFFFFFFF, 0, 0, 0x1E4A, 0x1E4A, 0⟩ /- CHG_TERM -/,
   ⟨0x0B18, 0, 1, 0xFFFFFFFF, 0, 0, 0, 0, 0⟩ /- CHG_AVAIL -/,
   ⟨0x0B1C, 0, 1, 0xFFFFFFFF, 0, 0, 0x1E12C168, 0x1E12C168, 0⟩ /- CHG_TIMER -/,
   ⟨0x0B20, 0, 1, 0, 0, 0, 0, 0, 0⟩ /- CHG_ELAPSED -/,
   ⟨0x0B24, 0, 1, 0xFF000000, 0, 0, 0x28000FA0, 0x28000FA0, 0⟩ /- CHG_WDG -/,
   ⟨0x0B28, 0, 1, 0, 0, 0, 0, 0, 0⟩ /- CHG_WDG_KICK -/,
   ⟨0x0B30, 0, 1, 0, 0, 0, 0, 0, 0⟩ /- CHG_PACK -/,
   ⟨0x0B34, 0, 1, 0, 0, 0, 0, 0, 0⟩ /- CHG_IPACK -/,
   ⟨0x0B38, 0, 1, 0, 0, 0, 0, 0, 0⟩ /- CHG_TEMP -/,
   ⟨0x0B3C, 0, 1, 0xFFFFFF00, 0, 0, 0x14FF0000, 0x14FF0000, 0⟩ /- CHG_PRES -/,
   ⟨0x0B48, 0, 1, 0, 0x71, 0, 0, 0, 0⟩ /- CHG_FLT -/,
   ⟨0x0B50, 0, 1, 0, 0xFF, 0, 0, 0, 0⟩ /- CHG_FLAGS -/,
   ⟨0x0B54, 0, 1, 0xFFFFFFFF, 0, 0, 0x7100BA, 0x7100BA, 0⟩ /- CHG_IRQ_EN -/,
   ⟨0x0C00, 0, 1, 0xFF00, 0, 0, 0xA00, 0xA00, 0⟩ /- THM_CTRL -/,
   ⟨0x0C04, 0, 1, 0, 0, 0, 0, 0, 0⟩ /- THM_STATUS -/]

/-- Registers `THM_DIE_WARN` to `MEA_RES_LO`. -/
def regTable4 : List RegSpec :=
  [⟨0x0C08, 0, 1, 0xFFFFFFFF, 0, 0, 0x96008C0, 0x96008C0, 0⟩ /- THM_DIE_WARN -/,
   ⟨0x0C0C, 0, 1, 0xFFFFFFFF, 0, 0, 0xA000960, 0xA000960, 0⟩ /- THM_DIE_THR -/,
   ⟨0x0C10, 0, 1, 0, 0, 0, 0xAC00A00, 0xAC00A00, 0⟩ /- THM_DIE_SHUT -/,
   ⟨0x0C14, 0, 1, 0xFFFFFFFF, 0, 0, 0x9100870, 0x9100870, 0⟩ /- THM_STG_WARN -/,
   ⟨0x0C18, 0, 1, 0xFFFFFFFF, 0, 0, 0xA000960, 0xA000960, 0⟩ /- THM_STG_THR -/,
   ⟨0x0C1C, 0, 1, 0xFFFFFFFF, 0, 0, 0xAC009D0, 0xAC009D0, 0⟩ /- THM_STG_SHUT -/,
   ⟨0x0C20, 4, 4, 0, 0, 0, 0, 0, 0⟩ /- THM_DIEk -/,
   ⟨0x0C30, 4, 3, 0, 0, 0, 0, 0, 0⟩ /- THM_NTCk -/,
   ⟨0x0C3C, 0, 1, 0x3FFF, 0, 0, 0, 0, 0x3FFF⟩ /- THM_NTC_CFG -/,
   ⟨0x0C40, 4, 9, 0, 0, 0, 0, 0, 0⟩ /- THM_STGk -/,
   ⟨0x0C64, 0, 1, 0xFFFFFFFF, 0, 0, 0x66666666, 0, 0xFFFFFFFF⟩ /- THM_ANCH0 -/,
   ⟨0x0C68, 0, 1, 0xFFFFFFFF, 0, 0, 0x66666666, 0, 0xFFFFFFFF⟩ /- THM_ANCH1 -/,
   ⟨0x0C6C, 0, 1, 0xFF, 0, 0, 0x66, 0, 0xFFFFFFFF⟩ /- THM_ANCH2 -/,
   ⟨0x0C70, 0, 1, 0, 0, 0, 0x96646464, 0x96646464, 0⟩ /- THM_LIM -/,
   ⟨0x0C74, 0, 1, 0, 0, 0, 0x2060A, 0x2060A, 0⟩ /- THM_NCAP -/,
   ⟨0x0C78, 0, 1, 0, 0x3FF, 0, 0, 0, 0⟩ /- THM_FLAGS -/,
   ⟨0x0C7C, 0, 1, 0x3FF, 0, 0, 0x1FB, 0x1FB, 0⟩ /- THM_IRQ_EN -/,
   ⟨0x0C80, 0, 1, 0xFFFFFFFF, 0, 0, 0xFA00096, 0, 0xFFFFFFFF⟩ /- TRK_RDS -/,
   ⟨0x0C84, 0, 1, 0xFFFF, 0, 0, 0x1F4, 0, 0xFFFF⟩ /- TRK_ESW -/,
   ⟨0x0C88, 0, 1, 0x3FFFFFFF, 0, 0, 0x25832032, 0, 0x3FFFFFFF⟩ /- TRK_FRTH -/,
   ⟨0x0C8C, 0, 1, 0xFFFFFFFF, 0, 0, 0xC800C8, 0, 0xFFFFFFFF⟩ /- TRK_FTAU12 -/,
   ⟨0x0C90, 0, 1, 0xFFFF, 0, 0, 0xC8, 0, 0xFFFF⟩ /- TRK_FTAU3 -/,
   ⟨0x0CA0, 0, 1, 0xFFFFFFFF, 0, 0, 0xFA0012C, 0, 0xFFFFFFFF⟩ /- CHB_RDS -/,
   ⟨0x0CA4, 0, 1, 0xFFFF, 0, 0, 0x1F4, 0, 0xFFFF⟩ /- CHB_ESW -/,
   ⟨0x0CA8, 0, 1, 0x3FFFFFFF, 0, 0, 0x25832032, 0, 0x3FFFFFFF⟩ /- CHB_FRTH -/,
   ⟨0x0CAC, 0, 1, 0xFFFFFFFF, 0, 0, 0xC800C8, 0, 0xFFFFFFFF⟩ /- CHB_FTAU12 -/,
   ⟨0x0CB0, 0, 1, 0xFFFF, 0, 0, 0xC8, 0, 0xFFFF⟩ /- CHB_FTAU3 -/,
   ⟨0x0CC0, 0, 1, 0xFFFFFFFF, 0, 0, 0xFA001F4, 0, 0xFFFFFFFF⟩ /- PRT_RDS -/,
   ⟨0x0CC4, 0, 1, 0xFFFF, 0, 0, 0x1F4, 0, 0xFFFF⟩ /- PRT_ESW -/,
   ⟨0x0CC8, 0, 1, 0x3FFFFFFF, 0, 0, 0x25832032, 0, 0x3FFFFFFF⟩ /- PRT_FRTH -/,
   ⟨0x0CCC, 0, 1, 0xFFFFFFFF, 0, 0, 0xC800C8, 0, 0xFFFFFFFF⟩ /- PRT_FTAU12 -/,
   ⟨0x0CD0, 0, 1, 0xFFFF, 0, 0, 0xC8, 0, 0xFFFF⟩ /- PRT_FTAU3 -/,
   ⟨0x0CE0, 0, 1, 0, 0, 0, 0, 0, 0⟩ /- THM_CELL_WARN -/,
   ⟨0x0CE4, 0, 1, 0, 0, 0, 0, 0, 0⟩ /- THM_CELL_THR -/,
   ⟨0x0CE8, 0, 1, 0, 0, 0, 0, 0, 0⟩ /- THM_CELL_SHUT -/,
   ⟨0x0D00, 0, 1, 0xFF02, 0, 0x4, 0xA02, 0xA02, 0⟩ /- MEA_CTRL -/,
   ⟨0x0D04, 0, 1, 0, 0, 0, 0, 0, 0⟩ /- MEA_STATUS -/,
   ⟨0x0D08, 0, 1, 0, 0x7F, 0, 0, 0, 0⟩ /- MEA_FLAGS -/,
   ⟨0x0D0C, 0, 1, 0x7F, 0, 0, 0x2E, 0x2E, 0⟩ /- MEA_IRQ_EN -/,
   ⟨0x0D10, 0, 1, 0, 0, 0, 0xFF, 0xFF, 0⟩ /- MEA_RES_LO -/]

/-- Registers `MEA_RES_HI` to `LOM_DMADDR`. -/
def regTable5 : List RegSpec :=
  [⟨0x0D14, 0, 1, 0, 0, 0, 0, 0, 0⟩ /- MEA_RES_HI -/,
   ⟨0x0D20, 0, 1, 0, 0, 0, 0, 0, 0xFFFFFFFF⟩ /- MEA_QCNT -/,
   ⟨0x0D24, 0, 1, 0, 0, 0, 0, 0, 0xFFFFFFFF⟩ /- MEA_QIN -/,
   ⟨0x0D28, 0, 1, 0, 0, 0, 0, 0, 0xFFFFFFFF⟩ /- MEA_QOUT -/,
   ⟨0x0D2C, 0, 1, 0, 0, 0, 0x80000000, 0x80000000, 0⟩ /- MEA_QCAL -/,
   ⟨0x0D30, 0, 1, 0xFFFF, 0, 0, 0x3E8, 0x3E8, 0⟩ /- MEA_IPK -/,
   ⟨0x0D40, 0, 1, 0xFFFFF0F1, 0, 0, 0x3E80000, 0x3E80000, 0⟩ /- MEA_SCAN_CFG -/,
   ⟨0x0D44, 4, 4, 0xFFFFFFFF, 0, 0, 0, 0, 0⟩ /- MEA_SCANk -/,
   ⟨0x0D60, 0, 1, 0, 0, 0, 0x80000000, 0x80000000, 0⟩ /- MEA_ADCA_CAL -/,
   ⟨0x0D64, 0, 1, 0, 0, 0, 0x80000000, 0x80000000, 0⟩ /- MEA_ADCB_CAL -/,
   ⟨0x0D80, 4, 16, 0, 0, 0, 0, 0, 0⟩ /- MEA_SCAN_RESk -/,
   ⟨0x0E00, 0, 1, 0xFF01, 0, 0, 0x1000, 0x1000, 0⟩ /- WRP_CTRL -/,
   ⟨0x0E04, 0, 1, 0, 0, 0, 0, 0, 0⟩ /- WRP_LOCK -/,
   ⟨0x0E08, 0, 1, 0, 0xFFFFFFFF, 0, 0, 0, 0⟩ /- WRP_FLAGS -/,
   ⟨0x0E0C, 0, 1, 0, 0xFFFFFFFF, 0, 0, 0, 0⟩ /- WRP_ERR -/,
   ⟨0x0E10, 0, 1, 0xF, 0, 0, 0x2, 0x2, 0⟩ /- WRP_IRQ_EN -/,
   ⟨0x0E14, 0, 1, 0, 0, 0, 0, 0, 0⟩ /- WRP_STAMP_TIME -/,
   ⟨0x0E18, 0, 1, 0, 0, 0, 0, 0, 0⟩ /- WRP_STAMP -/,
   ⟨0x0E1C, 0, 1, 0xFFFF, 0, 0, 0, 0, 0⟩ /- WRP_FWD -/,
   ⟨0x0E40, 12, 16, 0xFFFFFFFF, 0, 0, 0, 0, 0⟩ /- WRP_Tt_CFG -/,
   ⟨0x0E44, 12, 16, 0, 0, 0, 0, 0, 0⟩ /- WRP_Tt_STATE -/,
   ⟨0x0E48, 12, 16, 0, 0, 0, 0, 0, 0⟩ /- WRP_Tt_SPEED -/,
   ⟨0x0F00, 0, 1, 0xFF03, 0, 0, 0x8000, 0x8000, 0⟩ /- RED_CTRL -/,
   ⟨0x0F04, 0, 1, 0, 0, 0, 0, 0, 0⟩ /- RED_STATUS -/,
   ⟨0x0F08, 0, 1, 0xFFFFFFFF, 0, 0, 0x75F707D0, 0x75F707D0, 0⟩ /- RED_WEFT -/,
   ⟨0x0F10, 0, 1, 0, 0xFFF, 0, 0, 0, 0⟩ /- RED_FLAGS -/,
   ⟨0x0F14, 0, 1, 0xFFF, 0, 0, 0x790, 0x790, 0⟩ /- RED_IRQ_EN -/,
   ⟨0x0F18, 0, 1, 0, 0, 0, 0, 0, 0⟩ /- RED_MARK_LO -/,
   ⟨0x0F1C, 0, 1, 0, 0, 0, 0, 0, 0⟩ /- RED_MARK_HI -/,
   ⟨0x0F20, 0, 1, 0, 0, 0, 0, 0, 0⟩ /- RED_CNT -/,
   ⟨0x0F40, 8, 16, 0xF8FF0000, 0, 0, 0x140000, 0x140000, 0⟩ /- RED_Wt_CFG -/,
   ⟨0x0F44, 8, 16, 0, 0, 0, 0, 0, 0⟩ /- RED_Wt_STATUS -/,
   ⟨0x1000, 0, 1, 0xFFF001, 0, 0, 0x40C000, 0x40C000, 0⟩ /- LOM_CTRL -/,
   ⟨0x1004, 0, 1, 0, 0, 0, 0xFF000000, 0, 0xFF000000⟩ /- LOM_STATUS -/,
   ⟨0x1008, 0, 1, 0, 0x7FF, 0, 0, 0, 0⟩ /- LOM_FLAGS -/,
   ⟨0x100C, 0, 1, 0x7FF, 0, 0, 0x239, 0x239, 0⟩ /- LOM_IRQ_EN -/,
   ⟨0x1010, 0, 1, 0x7F, 0, 0, 0, 0, 0⟩ /- LOM_CTXSEL -/,
   ⟨0x1014, 0, 1, 0, 0, 0, 0, 0, 0⟩ /- LOM_CTX_CMD -/,
   ⟨0x1018, 0, 1, 0x3, 0, 0, 0, 0, 0⟩ /- LOM_PMPAGE -/,
   ⟨0x101C, 0, 1, 0x3FFC, 0, 0, 0, 0, 0⟩ /- LOM_DMADDR -/]

/-- Registers `LOM_DMDATA` to `AUX_CMD`. -/
def regTable6 : List RegSpec :=
  [⟨0x1020, 0, 1, 0, 0, 0, 0, 0, 0⟩ /- LOM_DMDATA -/,
   ⟨0x1024, 0, 1, 0, 0, 0, 0, 0, 0⟩ /- LOM_PMLOCK0 -/,
   ⟨0x1028, 0, 1, 0, 0, 0, 0, 0, 0⟩ /- LOM_PMLOCK1 -/,
   ⟨0x102C, 0, 1, 0, 0, 0, 0, 0, 0⟩ /- LOM_PMUNLOCK -/,
   ⟨0x1030, 0, 1, 0, 0, 0, 0, 0, 0⟩ /- LOM_MERGE -/,
   ⟨0x1034, 0, 1, 0, 0, 0, 0, 0, 0⟩ /- LOM_LASTCONF -/,
   ⟨0x1038, 0, 1, 0, 0, 0, 0, 0, 0⟩ /- LOM_LASTCONF_TICK -/,
   ⟨0x1040, 0, 1, 0xFFFFFF00, 0, 0, 0x64FE00, 0x64FE00, 0⟩ /- LOM_SHED_CFG -/,
   ⟨0x1044, 0, 1, 0, 0, 0, 0, 0, 0⟩ /- LOM_SHED_STATE -/,
   ⟨0x1048, 0, 1, 0, 0, 0, 0, 0, 0⟩ /- LOM_SHED_CMD -/,
   ⟨0x1050, 0, 1, 0, 0, 0, 0, 0, 0⟩ /- LOM_SLOTS0 -/,
   ⟨0x1054, 0, 1, 0, 0, 0, 0, 0, 0⟩ /- LOM_SLOTS1 -/,
   ⟨0x1060, 4, 8, 0xF000FFFF, 0, 0, 0, 0, 0⟩ /- LOM_SHEDk -/,
   ⟨0x1100, 4, 32, 0, 0, 0, 0, 0, 0⟩ /- LOM_CTXW -/,
   ⟨0x1400, 0, 1, 0xF, 0, 0, 0xF, 0xF, 0⟩ /- JOB_CTRL -/,
   ⟨0x1404, 0, 1, 0, 0, 0, 0, 0, 0⟩ /- JOB_STATUS -/,
   ⟨0x1408, 0, 1, 0, 0, 0, 0, 0, 0⟩ /- JOB_ASN_LO -/,
   ⟨0x140C, 0, 1, 0, 0, 0, 0, 0, 0⟩ /- JOB_ASN_HI -/,
   ⟨0x1410, 0, 1, 0, 0x3FF, 0, 0, 0, 0⟩ /- JOB_FLAGS -/,
   ⟨0x1414, 0, 1, 0x3FF, 0, 0, 0x393, 0x393, 0⟩ /- JOB_IRQ_EN -/,
   ⟨0x1418, 0, 1, 0, 0, 0, 0, 0, 0⟩ /- JOB_RELEASE -/,
   ⟨0x141C, 0, 1, 0, 0, 0, 0, 0, 0⟩ /- JOB_RELRES -/,
   ⟨0x1420, 8, 4, 0, 0, 0, 0, 0, 0⟩ /- JOB_Mm_SQ -/,
   ⟨0x1424, 8, 4, 0, 0, 0, 0, 0, 0⟩ /- JOB_Mm_CQ -/,
   ⟨0x1440, 8, 4, 0, 0, 0, 0, 0, 0⟩ /- JOB_Mm_INFO0 -/,
   ⟨0x1444, 8, 4, 0, 0, 0, 0, 0, 0⟩ /- JOB_Mm_INFO1 -/,
   ⟨0x1460, 4, 4, 0, 0, 0, 0, 0, 0⟩ /- JOB_Mm_REC -/,
   ⟨0x1600, 4, 128, 0, 0, 0, 0, 0, 0⟩ /- JOB_Mm_STATr -/,
   ⟨0x1800, 0, 1, 0x111, 0, 0, 0, 0, 0⟩ /- HIF_CTRL -/,
   ⟨0x1804, 0, 1, 0, 0, 0, 0x4, 0x4, 0⟩ /- HIF_STATUS -/,
   ⟨0x1808, 0, 1, 0, 0x3FFF, 0, 0x2000, 0x2000, 0⟩ /- HIF_FLAGS -/,
   ⟨0x180C, 0, 1, 0x3FFF, 0, 0, 0x21F1, 0x21F1, 0⟩ /- HIF_IRQ_EN -/,
   ⟨0x1810, 0, 1, 0, 0, 0, 0, 0, 0⟩ /- HIF_INT_SRC -/,
   ⟨0x1814, 0, 1, 0x3FFFF, 0, 0, 0x3FFFF, 0x3FFFF, 0⟩ /- HIF_INT_EN -/,
   ⟨0x1818, 0, 1, 0, 0, 0, 0, 0, 0⟩ /- HIF_SPI_CNT -/,
   ⟨0x181C, 0, 1, 0, 0, 0, 0, 0, 0⟩ /- HIF_I2C_CNT -/,
   ⟨0x1820, 0, 1, 0, 0, 0, 0, 0, 0⟩ /- HIF_BURST -/,
   ⟨0x1824, 0, 1, 0, 0, 0, 0, 0, 0⟩ /- HIF_I2C_PTR -/,
   ⟨0x1900, 0, 1, 0xFF000301, 0, 0, 0x19000000, 0x19000000, 0⟩ /- AUX_CTRL -/,
   ⟨0x1904, 0, 1, 0, 0, 0, 0, 0, 0⟩ /- AUX_CMD -/]

/-- Registers `AUX_STATUS` to `UPD_SESSION`. -/
def regTable7 : List RegSpec :=
  [⟨0x1908, 0, 1, 0, 0, 0, 0xC, 0xC, 0⟩ /- AUX_STATUS -/,
   ⟨0x190C, 0, 1, 0, 0x1FF, 0, 0, 0, 0⟩ /- AUX_FLAGS -/,
   ⟨0x1910, 0, 1, 0x1FF, 0, 0, 0x3F, 0x3F, 0⟩ /- AUX_IRQ_EN -/,
   ⟨0x1920, 4, 4, 0xFFFFFFFF, 0, 0, 0, 0, 0⟩ /- AUX_TXk -/,
   ⟨0x1930, 4, 4, 0, 0, 0, 0, 0, 0⟩ /- AUX_RXk -/,
   ⟨0x1A00, 0, 1, 0x7F, 0, 0, 0x78, 0x78, 0⟩ /- SVC_CTRL -/,
   ⟨0x1A04, 0, 1, 0, 0, 0, 0, 0, 0⟩ /- SVC_STATUS -/,
   ⟨0x1A08, 0, 1, 0, 0x3FFF, 0, 0, 0, 0⟩ /- SVC_FLAGS -/,
   ⟨0x1A0C, 0, 1, 0x3FFF, 0, 0, 0x17BF, 0x17BF, 0⟩ /- SVC_IRQ_EN -/,
   ⟨0x1A10, 0, 1, 0xFFFF0001, 0, 0, 0x1F40000, 0x1F40000, 0⟩ /- SVC_SNK_PREF -/,
   ⟨0x1A14, 0, 1, 0, 0, 0, 0, 0, 0⟩ /- SVC_PDP -/,
   ⟨0x1A18, 0, 1, 0, 0, 0, 0, 0, 0⟩ /- SVC_CABLE -/,
   ⟨0x1A20, 0, 1, 0, 0, 0, 0, 0, 0⟩ /- SVC_USB_ID -/,
   ⟨0x1A24, 0, 1, 0, 0, 0, 0, 0, 0⟩ /- SVC_DFU -/,
   ⟨0x1A28, 0, 1, 0, 0, 0, 0, 0, 0⟩ /- SVC_CNT -/,
   ⟨0x1C00, 0, 1, 0xFFFF0093, 0, 0, 0x14400000, 0x14400000, 0⟩ /- SEL_CTRL -/,
   ⟨0x1C04, 0, 1, 0, 0, 0, 0, 0, 0⟩ /- SEL_STATUS -/,
   ⟨0x1C08, 0, 1, 0, 0xFFF, 0, 0, 0, 0⟩ /- SEL_FLAGS -/,
   ⟨0x1C0C, 0, 1, 0xFFF, 0, 0, 0xA3E, 0xA3E, 0⟩ /- SEL_IRQ_EN -/,
   ⟨0x1C10, 0, 1, 0xFFFFFFFF, 0, 0, 0, 0, 0⟩ /- SEL_PAIR_ID -/,
   ⟨0x1C14, 0, 1, 0, 0, 0, 0, 0, 0⟩ /- SEL_PEER -/,
   ⟨0x1C18, 0, 1, 0, 0, 0, 0, 0, 0⟩ /- SEL_VER -/,
   ⟨0x1C20, 0, 1, 0xFFFFFFFF, 0, 0, 0x80191004, 0x80191004, 0⟩ /- SEL_SHARE -/,
   ⟨0x1C24, 0, 1, 0, 0, 0, 0, 0, 0⟩ /- SEL_SHARE_ST -/,
   ⟨0x1C28, 0, 1, 0, 0, 0, 0, 0, 0⟩ /- SEL_PEER_I -/,
   ⟨0x1C30, 0, 1, 0, 0, 0, 0, 0, 0⟩ /- SEL_TIME -/,
   ⟨0x1C34, 0, 1, 0, 0, 0, 0, 0, 0⟩ /- SEL_LINK_CNT -/,
   ⟨0x1C38, 0, 1, 0, 0, 0, 0, 0, 0⟩ /- SEL_CMD -/,
   ⟨0x1C3C, 0, 1, 0, 0, 0, 0, 0, 0xFFFFFFFF⟩ /- SEL_LOSS_TIME -/,
   ⟨0x1D00, 0, 1, 0, 0, 0, 0, 0, 0⟩ /- BEM_STATUS -/,
   ⟨0x1D04, 0, 1, 0, 0, 0, 0, 0, 0⟩ /- BEM_JSN_LO -/,
   ⟨0x1D08, 0, 1, 0, 0, 0, 0, 0, 0⟩ /- BEM_JSN_HI -/,
   ⟨0x1D0C, 0, 1, 0, 0, 0, 0, 0, 0⟩ /- BEM_ACKED_LO -/,
   ⟨0x1D10, 0, 1, 0, 0, 0, 0, 0, 0⟩ /- BEM_PEER_LO -/,
   ⟨0x1D14, 0, 1, 0, 0, 0, 0, 0, 0⟩ /- BEM_RESYNC -/,
   ⟨0x1D18, 0, 1, 0, 0x7F, 0, 0, 0, 0⟩ /- BEM_FLAGS -/,
   ⟨0x1D1C, 0, 1, 0x7F, 0, 0, 0x3A, 0x3A, 0⟩ /- BEM_IRQ_EN -/,
   ⟨0x1D20, 0, 1, 0, 0, 0, 0, 0, 0⟩ /- BEM_WEAR -/,
   ⟨0x1E00, 0, 1, 0, 0, 0, 0xE000000, 0xE000000, 0⟩ /- UPD_STATUS -/,
   ⟨0x1E04, 0, 1, 0, 0, 0, 0, 0, 0⟩ /- UPD_SESSION -/]

/-- Registers `UPD_CMD` to `TST_DMUX`. -/
def regTable8 : List RegSpec :=
  [⟨0x1E08, 0, 1, 0, 0, 0, 0, 0, 0⟩ /- UPD_CMD -/,
   ⟨0x1E0C, 0, 1, 0, 0, 0, 0, 0, 0⟩ /- UPD_BLOCK -/,
   ⟨0x1E10, 0, 1, 0, 0, 0, 0, 0, 0⟩ /- UPD_NEXT -/,
   ⟨0x1E14, 0, 1, 0, 0, 0, 0, 0, 0⟩ /- UPD_VER_ACT -/,
   ⟨0x1E18, 0, 1, 0, 0, 0, 0, 0, 0⟩ /- UPD_VER_STG -/,
   ⟨0x1E1C, 0, 1, 0, 0, 0, 0, 0, 0⟩ /- UPD_VER_FB -/,
   ⟨0x1E20, 0, 1, 0, 0, 0, 0, 0, 0⟩ /- UPD_SCHEMA -/,
   ⟨0x1E24, 0, 1, 0, 0, 0, 0, 0, 0⟩ /- UPD_ARB -/,
   ⟨0x1E28, 0, 1, 0, 0, 0, 0, 0, 0⟩ /- UPD_ACTJ -/,
   ⟨0x1E2C, 0, 1, 0, 0, 0, 0, 0, 0⟩ /- UPD_TRIAL -/,
   ⟨0x1E30, 0, 1, 0, 0, 0, 0, 0, 0⟩ /- UPD_FLASH -/,
   ⟨0x1E40, 0, 1, 0, 0x3FFF, 0, 0, 0, 0⟩ /- UPD_FLAGS -/,
   ⟨0x1E44, 0, 1, 0x3FFF, 0, 0, 0x37F4, 0x37F4, 0⟩ /- UPD_IRQ_EN -/,
   ⟨0x1F00, 0, 1, 0x1F9F9F, 0, 0, 0, 0, 0⟩ /- TST_AMUX -/,
   ⟨0x1F04, 0, 1, 0xBFBFBFBF, 0, 0, 0, 0, 0⟩ /- TST_DMUX -/]

/-- The whole register map. -/
def regTable : List RegSpec :=
  regTable0 ++ regTable1 ++ regTable2 ++ regTable3 ++ regTable4 ++ regTable5 ++ regTable6 ++ regTable7 ++ regTable8

end Sys2Proof.Machine
end

