-- ==== Sys2Proof/Machine/Ops.lean ====
section
/-!
DEFINITION. The named operations over stores, registers, bit fields and time that every meaning
uses, and the register reset of R14.
-/

namespace Sys2Proof

/-- The value under a key, if listed. -/
def Store.find {α : Type} : Store α → Nat → Option α
  | [], _ => none
  | (b, v) :: t, a => if b = a then some v else Store.find t a

/-- The store without a key. -/
def Store.erase {α : Type} : Store α → Nat → Store α
  | [], _ => []
  | (b, v) :: t, a => if b = a then Store.erase t a else (b, v) :: Store.erase t a

/-- Puts a pair before the first larger key. -/
def Store.insert {α : Type} : Store α → Nat → α → Store α
  | [], a, v => [(a, v)]
  | (b, w) :: t, a, v => if a < b then (a, v) :: (b, w) :: t else (b, w) :: Store.insert t a v

/-- The store with the key's value replaced. -/
def Store.put {α : Type} (m : Store α) (a : Nat) (v : α) : Store α :=
  Store.insert (Store.erase m a) a v

/-- The word at an address; an address that is not listed reads zero. -/
def WordMap.get (m : WordMap) (a : Nat) : Word := (Store.find m a).getD 0

/-- The memory with one word replaced; writing zero removes the entry. -/
def WordMap.set (m : WordMap) (a : Nat) (v : Word) : WordMap :=
  if v = 0 then Store.erase m a else Store.put m a v

/-- Keys strictly rise. -/
def Store.rising {α : Type} : Store α → Bool
  | [] => true
  | (a, _) :: t =>
    (match t with
      | [] => true
      | (b, _) :: _ => decide (a < b)) && Store.rising t

/-- The canonical form: keys rise and no listed word is zero. -/
def WordMap.wf (m : WordMap) : Bool := Store.rising m && m.all (fun p => decide (p.2 ≠ 0))

/-- The bits of a field as a mask. -/
def Field.mask (f : Field) : Word := BitVec.ofNat 32 (2 ^ f.width - 1) <<< f.lo

/-- A field's value in a word. -/
def Field.of (f : Field) (w : Word) : Nat := (w.extractLsb' f.lo f.width).toNat

/-- A word with a field replaced; the value is cut to the field's width. -/
def Field.put (f : Field) (n : Nat) (w : Word) : Word :=
  (w &&& ~~~f.mask) ||| ((BitVec.ofNat 32 n <<< f.lo) &&& f.mask)

/-- Two's complement value of an n-bit code (R7). -/
def signed (width n : Nat) : Int :=
  if n % 2 ^ width < 2 ^ (width - 1) then (n % 2 ^ width : Nat) else (n % 2 ^ width : Nat) - (2 ^ width : Nat)

/-- The n-bit code of a signed value (R7), wrapped. -/
def unsigned (width : Nat) (v : Int) : Nat := (v % (2 ^ width : Nat)).toNat

/-- A value held within bounds. -/
def clampN (lo hi v : Nat) : Nat := min (max v lo) hi

/-- A signed value held within bounds. -/
def clampZ (lo hi v : Int) : Int := min (max v lo) hi

/-- A quotient where the spec states a formula and no rounding: whole when it divides, else one of the two
neighbours, which of them left open (log entry 9). -/
def quot (num den : Int) : Int :=
  if den = 0 then Config.overZero num
  else if num % den = 0 then num / den
  else if Config.roundsUp num den then num / den + 1 else num / den

/-- A quotient that the spec rounds to the nearest whole number; an exact half goes either way. -/
def nearest (num den : Int) : Int :=
  if den = 0 then Config.overZero num
  else
    let q := (2 * num + den) / (2 * den)
    if (2 * num + den) % (2 * den) = 0 && !Config.roundsUp num den then q - 1 else q

/-- The smallest whole number not below a quotient. -/
def ceilDiv (num den : Nat) : Nat := (num + den - 1) / den

/-- Bit k of a number. -/
def bitOf (n k : Nat) : Bool := n.testBit k

/-- A number with bit k given. -/
def setBitTo (n k : Nat) (b : Bool) : Nat :=
  if b then n ||| 2 ^ k else if n.testBit k then n - 2 ^ k else n

/-- How many of the low `w` bits are set. -/
def popCount (w n : Nat) : Nat := ((List.range w).filter (fun k => n.testBit k)).length

end Sys2Proof

namespace Sys2Proof.Machine

/-! ### Registers and fields -/

/-- A register's word. -/
def State.rd (s : State) (a : Nat) : Word := s.regs.get a

/-- The machine with a register's word replaced. -/
def State.wr (s : State) (a : Nat) (v : Word) : State := { s with regs := s.regs.set a v }

/-- A field's value. -/
def State.get (s : State) (f : Field) : Nat := f.of (s.regs.get f.addr)

/-- The machine with a field replaced. -/
def State.set (s : State) (f : Field) (n : Nat) : State := s.wr f.addr (f.put n (s.regs.get f.addr))

/-- A field's signed value. -/
def State.getZ (s : State) (f : Field) : Int := signed f.width (s.get f)

/-- The machine with a field replaced by a signed value. -/
def State.setZ (s : State) (f : Field) (v : Int) : State := s.set f (unsigned f.width v)

/-- A one-bit field as a truth value. -/
def State.is (s : State) (f : Field) : Bool := s.get f != 0

/-- The machine with a one-bit field given by a truth value. -/
def State.mark (s : State) (f : Field) (b : Bool) : State := s.set f (if b then 1 else 0)

/-- Sets an event flag (a W1C bit set by hardware, R10). -/
def State.raise (s : State) (f : Field) : State := s.set f 1

/-- Sets bit k of a field of many flags. -/
def State.raiseBit (s : State) (f : Field) (k : Nat) : State := s.set f (setBitTo (s.get f) k true)

/-- Counts a field up modulo its width. -/
def State.count (s : State) (f : Field) : State := s.set f (s.get f + 1)

/-- Counts a field up and stops at its greatest value. -/
def State.countSat (s : State) (f : Field) : State :=
  s.set f (min (s.get f + 1) (2 ^ f.width - 1))

/-- Applies a change where a condition holds. -/
def State.onlyIf (s : State) (b : Bool) (g : State → State) : State := if b then g s else s

/-- Applies a change for each element of a list, in order. -/
def State.each {α : Type} (s : State) (l : List α) (g : α → State → State) : State :=
  l.foldl (fun t x => g x t) s

/-- Draws the next free value (log entry 5). -/
def State.draw (s : State) : Word × State :=
  (Config.freeWord s.freeCount, { s with freeCount := s.freeCount + 1 })

/-- The state that a meaning leaves. -/
def stateAfter (r : Result State) (s : State) : State :=
  match r with
  | .next t => t
  | _ => s

/-! ### The register map -/

/-- Whether a row of the map covers an address. -/
def RegSpec.covers (r : RegSpec) (a : Nat) : Bool :=
  decide (r.base ≤ a) &&
    (if r.stride = 0 then decide (a = r.base)
     else decide ((a - r.base) % r.stride = 0) && decide ((a - r.base) / r.stride < r.count))

/-- The row of the map for an address. -/
def findSpec (a : Nat) : Option RegSpec := regTable.find? (fun r => r.covers a)

/-- A write applied by the access codes of R10: RW bits stored, W1C bits cleared by 1, W1S bits set
by 1, every other bit unchanged. -/
def RegSpec.apply (r : RegSpec) (old data : Word) : Word :=
  let rw := BitVec.ofNat 32 r.rw
  let w1c := BitVec.ofNat 32 r.w1c
  let w1s := BitVec.ofNat 32 r.w1s
  (((old &&& ~~~rw) ||| (data &&& rw)) &&& ~~~(data &&& w1c)) ||| (data &&& w1s)

/-- The words of one row of the map after a reset of the given column. -/
def RegSpec.afterReset (warmColumn : Bool) (m old : WordMap) (r : RegSpec) : WordMap :=
  (List.range r.count).foldl (fun acc k =>
    let a := r.base + r.stride * k
    let v : Word :=
      if warmColumn then
        BitVec.ofNat 32 r.warm ||| (old.get a &&& BitVec.ofNat 32 r.kept)
      else BitVec.ofNat 32 r.por
    acc.set a v) m

/-- Every register after a reset of the given column (R14). -/
def resetWords (warmColumn : Bool) (old : WordMap) : WordMap :=
  regTable.foldl (fun m r => r.afterReset warmColumn m old) []

/-! ### Time -/

/-- The decision tick that a `SYSTIME` value lies in (R33). -/
def State.tickNow (s : State) : Nat := s.time / 100

/-- The decision tick that a write reaching the CORE domain now enters (R33). -/
def State.tickFor (s : State) : Nat :=
  if s.time % 100 ≤ 79 then s.time / 100 + 1 else s.time / 100 + 2

/-- A number of microseconds in counts of `SYSTIME`. -/
def us (n : Nat) : Nat := 100 * n

/-- A number of milliseconds in counts of `SYSTIME`. -/
def ms (n : Nat) : Nat := 100000 * n

/-- Whether a deadline is set and has come. -/
def State.due (s : State) (d : Option Nat) : Bool :=
  match d with
  | some t => decide (t ≤ s.time)
  | none => false

/-- The next running number. -/
def State.nextSeq (s : State) : Nat × State :=
  (s.lom.seq, { s with lom := { s.lom with seq := s.lom.seq + 1 } })

/-! ### Variants and service level -/

/-- Whether the Selvedge unit is present (R2, R3). -/
def State.hasSel (s : State) : Bool := s.is GLB_FEAT.SEL_PRESENT

/-- Whether the Warp unit, Reed and weft tables are present (R2, R3). -/
def State.hasWrp (s : State) : Bool := s.is GLB_FEAT.WRP_PRESENT

/-- Number of trunk cells present (R3). -/
def State.trunkCells (s : State) : Nat := s.get GLB_FEAT.TRK_CELLS

/-- Whether a cell exists on this variant (R5). -/
def State.cellPresent (s : State) (n : Nat) : Bool :=
  if n < 10 then decide (n < s.trunkCells) else decide (n < 18)

/-- Whether an address belongs to a unit that this variant lacks (R4, R5). -/
def State.absentAddr (s : State) (a : Nat) : Bool :=
  (!s.hasSel && decide (0x1C00 ≤ a ∧ a < 0x1D00)) ||
  (!s.hasWrp && (decide (0x0E00 ≤ a ∧ a < 0x1000) || decide (0xC000 ≤ a ∧ a < 0xE000))) ||
  (decide (0x0600 ≤ a ∧ a < 0x0880) && !s.cellPresent ((a - 0x0600) / 0x40))

/-- Full service (R17, `GLB_REGION.SERVICE` 2). -/
def State.fullService (s : State) : Bool := s.get GLB_REGION.SERVICE == 2

/-- Chip safe state (R23). -/
def State.chipSafe (s : State) : Bool := s.is GLB_REGION.CHIP

/-- The state field of a region. -/
def regionField : Region → Field
  | .north => GLB_REGION.NORTH
  | .south => GLB_REGION.SOUTH
  | .control => GLB_REGION.CONTROL
  | .interface => GLB_REGION.INTERFACE

/-- Region safe state (R22, R23): code 3. -/
def State.regionSafe (s : State) (r : Region) : Bool := s.get (regionField r) == 3

/-- Whether a register write of a master is served: full service, not in the chip safe state, and for the host masters M0 to
M2 Interface not safe and no held restart (R23, R305, R434). -/
def State.mayWrite (s : State) (m : Master) : Bool :=
  s.fullService && !s.chipSafe && !(decide (m.val < 3) && (s.regionSafe .interface || s.is UPD_STATUS.HOLD))

/-- Power mode of R402. -/
def State.mode (s : State) : Nat := s.get SAF_STATUS.MODE

end Sys2Proof.Machine
end

