-- ==== Sys2Proof/Machine/Flags.lean ====
section
/-!
DEFINITION. Event flags and the interrupt and fault pins (R11, R317, R396).
-/

namespace Sys2Proof.Machine

/-- A flag register and an enable register share a set bit. -/
def State.pends (s : State) (flags enable : Nat) : Bool := (s.rd flags &&& s.rd enable) != 0

/-- Block b has a flag set that its enable register routes to `INT_N` (R317): 0 SAF, 1 SRC, 2 TRK, 3 CHB, 4 CHG, 5 THM, 6 MEA,
7 WRP, 8 RED, 9 LOM, 10 JOB, 11 HIF, 12 AUX, 13 SVC, 14 SEL, 15 BEM, 16 UPD, 17 GLB. -/
def State.blockPends (s : State) (b : Nat) : Bool :=
  match b with
  | 0 => s.pends SAF_FLAGS.addr SAF_IRQ_EN.addr
  | 1 => s.pends SRC_FLAGS.addr SRC_IRQ_EN.addr
  | 2 => s.pends TRK_FLAGS.addr TRK_IRQ_EN.addr
  | 3 => s.pends CHB_FLAGS.addr CHB_IRQ_EN.addr
  | 4 => ((s.rd CHG_FLT.addr).toNat &&& 0x71 &&& s.get CHG_IRQ_EN.FLT_EN) != 0 ||
      ((s.rd CHG_FLAGS.addr).toNat &&& s.get CHG_IRQ_EN.FLAG_EN) != 0
  | 5 => s.pends THM_FLAGS.addr THM_IRQ_EN.addr
  | 6 => s.pends MEA_FLAGS.addr MEA_IRQ_EN.addr
  | 7 => (s.is WRP_IRQ_EN.SLIP && s.is WRP_ERR.SLIP) || (s.is WRP_IRQ_EN.STAMP_BAD && s.is WRP_ERR.STAMP_BAD) ||
      (s.is WRP_IRQ_EN.LOST && s.is WRP_FLAGS.LOST) || (s.is WRP_IRQ_EN.LOCK && s.is WRP_FLAGS.LOCK)
  | 8 => s.pends RED_FLAGS.addr RED_IRQ_EN.addr
  | 9 => s.pends LOM_FLAGS.addr LOM_IRQ_EN.addr
  | 10 => s.pends JOB_FLAGS.addr JOB_IRQ_EN.addr
  | 11 => s.pends HIF_FLAGS.addr HIF_IRQ_EN.addr
  | 12 => s.pends AUX_FLAGS.addr AUX_IRQ_EN.addr
  | 13 => s.pends PRT_FLAGS.addr PRT_IRQ_EN.addr || s.pends SVC_FLAGS.addr SVC_IRQ_EN.addr
  | 14 => s.pends SEL_FLAGS.addr SEL_IRQ_EN.addr
  | 15 => s.pends BEM_FLAGS.addr BEM_IRQ_EN.addr
  | 16 => s.pends UPD_FLAGS.addr UPD_IRQ_EN.addr
  | 17 => s.is GLB_SYNC.LOSS
  | _ => false

/-- `HIF_INT_SRC` (R317). -/
def State.intSrc (s : State) : Nat := (List.range 18).foldl (fun acc b => if s.blockPends b then acc + 2 ^ b else acc) 0

/-- A flag drives `INT_N` (R317). -/
def State.intDue (s : State) : Bool := (s.intSrc &&& s.get HIF_INT_EN.EN) != 0

/-- `INT_N` is low (R317): in full service, with a routed flag set, outside the re-arm gap; the pin is Z while `VIO` is low. -/
def State.intLow (s : State) : Bool := s.fullService && !s.saf.vioLow && s.intDue && s.hif.rearmUntil.isNone

/-- `FAULT_N` is low (R396): a reset or its deferral, the chip safe state, or an enabled fault; bits 0 to 7 are always
enabled. -/
def State.faultLow (s : State) : Bool :=
  s.saf.inReset.isSome || s.is SAF_STATUS.DEFER || s.chipSafe ||
    (s.get SAF_FAULT.FAULT &&& (s.get SAF_FAULTN_EN.EN ||| 0xFF)) != 0

/-- The status byte of R299 as it would be sent now, for the answer of a frame. -/
def State.spiStatus (s : State) (frameErr accErr : Bool) : Nat :=
  (if frameErr then 128 else 0) + (if accErr then 64 else 0) + (if s.intLow then 32 else 0) + (if s.faultLow then 16 else 0) +
    (if s.regionSafe .interface then 8 else 0) + (if s.is HIF_FLAGS.RST_SEEN then 4 else 0) + s.get GLB_REGION.SERVICE

/-- A write of 1s to event flags by M0 or M1 that leaves a routed flag set opens the re-arm gap with `INT_MODE` 1 (R317). -/
def State.rearm (s : State) (m : Nat) : State :=
  if m < 2 && s.is HIF_CTRL.INT_MODE && s.intDue then { s with hif := { s.hif with rearmUntil := some (s.time + us 1) } } else s

end Sys2Proof.Machine
end

