-- ==== Sys2Proof/Machine/Auxiliary.lean ====
section
/-!
DEFINITION. The commands of the auxiliary I2C controller (R318 to R321).
-/

namespace Sys2Proof.Machine

/-- A transaction starts (R318): OWNER, the command and its lengths; the controller is busy. -/
def State.auxStart (s : State) (m : Nat) (cmd : Word) : State :=
  let t := { s with aux := { s.aux with cmd := cmd, held := none } }
  let t := ((t.set AUX_STATUS.STATE 2).set AUX_STATUS.BUSY 1).set AUX_STATUS.OWNER m
  (t.set AUX_STATUS.RX_CNT 0).set AUX_STATUS.TX_CNT 0

/-- A write of `AUX_CMD` with GO at 1 (R318, R321): refused while a transaction runs, while `EN` is 0 or the bus is stuck, or
with a length above 16; held during the bus clear. -/
def State.auxGo (s : State) (m : Nat) (cmd : Word) : State :=
  if !s.is AUX_CTRL.EN || s.is AUX_STATUS.STUCK then s.raise AUX_FLAGS.BUSY_REJ
  else if 16 < AUX_CMD.RLEN.of cmd || 16 < AUX_CMD.WLEN.of cmd then s.raise AUX_FLAGS.BAD_CMD
  else if s.get AUX_STATUS.STATE = 1 && s.aux.held.isNone then { s with aux := { s.aux with held := some (m, cmd) } }
  else if s.is AUX_STATUS.BUSY then s.raise AUX_FLAGS.BUSY_REJ
  else s.auxStart m cmd

/-- AUX_GO (R318). -/
def execAuxGo (m : Master) (cmd : Word) (s : State) : Result State :=
  if s.mayWrite m && AUX_CMD.GO.of cmd = 1 then .next (s.auxGo m.val cmd) else .next s

/-- Byte k of a list in the place it takes in `AUX_RX` words: byte 4k in [31:24]. -/
def packBytes (l : List (BitVec 8)) (k : Nat) : Word :=
  BitVec.ofNat 32 ((List.range 4).foldl (fun acc i => acc * 256 + (l.getD (4 * k + i) 0).toNat) 0)

/-- AUX_TRANSACTION_DONE (R318): the target acknowledged the address with W (`addrW`), `acked` data bytes and the address with R
(`addrR`), and sent the bytes `rx`. The transaction ends with STOP and DONE, or with STOP and a NACK flag. -/
def execAuxTransactionDone (addrW addrR : Bool) (acked : Nat) (rx : List (BitVec 8)) (s : State) : Result State :=
  if !s.is AUX_STATUS.BUSY || s.get AUX_STATUS.STATE = 1 then .next s
  else
    let wlen := AUX_CMD.WLEN.of s.aux.cmd
    let rlen := AUX_CMD.RLEN.of s.aux.cmd
    let first := decide (wlen ≠ 0) || decide (rlen = 0)
    let t := (s.set AUX_STATUS.BUSY 0).set AUX_STATUS.STATE 0
    if first && !addrW then .next (t.raise AUX_FLAGS.NACK_ADDR)
    else
      let t := t.set AUX_STATUS.TX_CNT (min acked wlen)
      if acked < wlen then .next (t.raise AUX_FLAGS.NACK_DATA)
      else if rlen ≠ 0 && !addrR then .next (t.raise AUX_FLAGS.NACK_ADDR)
      else
        let got := rx.take rlen
        let t := if rlen = 0 then t else t.each (List.range 4) (fun k u => u.wr (AUX_RX.addr k) (packBytes got k))
        .next ((t.set AUX_STATUS.RX_CNT got.length).raise AUX_FLAGS.DONE)

/-- The bus clear starts (R320); a running transaction ends. -/
def State.auxClear (s : State) : State :=
  let t := ((s.set AUX_STATUS.STATE 1).set AUX_STATUS.BUSY 1).set AUX_STATUS.STUCK 0
  { t with aux := { t.aux with held := none, clearAt := t.time } }

/-- A write of `AUX_CTRL` (R320): `EN` from 0 to 1 runs the bus clear; `EN` at 0 releases the bus. -/
def State.auxCtrl (s : State) (data : Word) : State :=
  let was := s.is AUX_CTRL.EN
  let t := s.wr AUX_CTRL.addr (data &&& 0xFF000301#32)
  let now := t.is AUX_CTRL.EN
  if !was && now then t.auxClear
  else if !now then
    ({ t with aux := { t.aux with held := none } } : State).each [(AUX_STATUS.STATE, 0), (AUX_STATUS.BUSY, 0), (AUX_STATUS.STUCK, 0)] (fun p u => u.set p.1 p.2)
  else t

/-- AUX_ENABLE (R320): `EN` written from 0 to 1. -/
def execAuxEnable (m : Master) (data : Word) (s : State) : Result State :=
  if s.mayWrite m && !s.is AUX_CTRL.EN && AUX_CTRL.EN.of data = 1 then .next (s.auxCtrl data) else .next s

/-- AUX_BUS_CLEAR_DONE (R320): `scl` low for `TO`, or `SDA_A` released after a number of clock pulses; more than 9 leave the bus
stuck. A held GO starts, or is refused on a stuck bus (R322). -/
def execAuxBusClearDone (scl : Bool) (pulses : Nat) (s : State) : Result State :=
  if s.get AUX_STATUS.STATE ≠ 1 || s.time < s.aux.clearAt + us 10 then .next s
  else
    let stuck := scl || decide (9 < pulses)
    let t := ((s.mark AUX_STATUS.SCL_LVL (!scl)).mark AUX_STATUS.SDA_LVL (decide (pulses ≤ 9))).set AUX_STATUS.BUSY 0
    let held := s.aux.held
    let t := { t with aux := { t.aux with held := none } }
    if stuck then
      let t := ((t.set AUX_STATUS.STATE 6).set AUX_STATUS.STUCK 1).raise AUX_FLAGS.STUCK
      .next (if held.isSome then t.raise AUX_FLAGS.BUSY_REJ else t)
    else
      let t := (t.set AUX_STATUS.STATE 0).onlyIf (decide (0 < pulses)) (fun u => u.raise AUX_FLAGS.CLEARED)
      match held with
      | some (m, cmd) => .next (t.auxStart m cmd)
      | none => .next t

/-- AUX_TIMEOUT (R319): `SCL_A` low for longer than `TO`; the controller releases the bus and clears it. -/
def execAuxTimeout (s : State) : Result State :=
  if s.is AUX_STATUS.BUSY && s.get AUX_STATUS.STATE ≠ 1 then .next ((s.raise AUX_FLAGS.TIMEOUT).auxClear) else .next s

/-- AUX_ARB_LOST (R319): `SDA_A` low while the controller releases it. -/
def execAuxArbLost (s : State) : Result State :=
  if s.is AUX_STATUS.BUSY && s.get AUX_STATUS.STATE ≠ 1 then .next ((s.raise AUX_FLAGS.ARB_LOST).auxClear) else .next s

end Sys2Proof.Machine
end

