-- ==== Sys2Proof/Machine/Link.lean ====
section
/-!
DEFINITION. The Selvedge link: sending and receiving frames, the journal, and who runs what in a pair
(R357 to R362, R366, R373).
-/

namespace Sys2Proof.Machine

/-- This twin has role B (`TWIN_ID`). -/
def State.roleB (s : State) : Bool := s.is GLB_STRAP.TWIN_ID

/-- `PAIR_STATE` (R365): 0 SOLO, 1 PAIRING, 2 SHARED, 3 STANDBY_ACTIVE, 4 STANDBY_IDLE, 5 JOINING, 6 HANDOVER, 7 ALONE,
8 DETACHED. -/
def State.pairState (s : State) : Nat := s.get SEL_STATUS.PAIR_STATE

/-- The link is up (R357). -/
def State.linkUp (s : State) : Bool := s.get SEL_STATUS.LINK == 2

/-- The link may run (R357): full service in RUN, LIGHT or STANDBY, on a variant that has it. -/
def State.linkRuns (s : State) : Bool := s.hasSel && s.fullService && decide (s.mode < 3)

/-- `MODE` is SOLO; 3 acts as 0 (`SEL_CTRL`). -/
def State.soloMode (s : State) : Bool := s.get SEL_CTRL.MODE == 0 || s.get SEL_CTRL.MODE == 3

/-- The link starts to train (R357, R365): with full service and after a wake. -/
def State.linkStart (s : State) : State :=
  if !s.linkRuns then s
  else
    let t := s.set SEL_STATUS.LINK 1
    if s.soloMode then (t.set SEL_STATUS.PAIR_STATE 0).set BEM_STATUS.MIRROR 0
    else ((t.set SEL_STATUS.PAIR_STATE 7).set BEM_STATUS.MIRROR 3).mark SEL_STATUS.TIME_MASTER false

/-- The peer is live (R361). -/
def State.peerLive (s : State) : Bool := s.is SEL_STATUS.PEER_LIVE

/-- Paired operation (R374): a live peer, and resynchronization done. -/
def State.paired (s : State) : Bool := s.peerLive && decide (2 ≤ s.pairState) && decide (s.pairState ≤ 6)

/-- Context c is homed on the peer (R366). -/
def State.homedAway (s : State) (c : Nat) : Bool :=
  decide (c ≠ 0) && (if s.roleB then decide (c < s.sel.split) else decide (s.sel.split ≤ c))

/-- Commands and job starts of context c belong to the peer (R366). -/
def State.away (s : State) (c : Nat) : Bool := s.paired && s.homedAway c

/-- Whether this twin may allocate a job record or a Loom pick slot number (R366). -/
def State.ownNumber (s : State) (n : Nat) : Bool := !s.paired || decide (n % 2 = if s.roleB then 1 else 0)

/-- Queues a sequenced frame (R360): at most 32 are unacknowledged. -/
def State.transmit (s : State) (f : Frame) : State :=
  let e := s.sel
  if e.unacked.length < 32 then
    { s with sel := { e with unacked := e.unacked ++ [Sent.mk e.txSeq s.time f], txSeq := (e.txSeq + 1) % 65536, sent := some f } }
  else { s with sel := { e with waiting := e.waiting ++ [f] } }

/-- Queues a frame that is not sequenced; it carries the NAK that is due. -/
def State.transmitNow (s : State) (f : Frame) : State :=
  { s with sel := { s.sel with sent := some f, nak := false } }

/-- A twin that is paired sends NOTICE (R377): cause 1 RESET with its kind, 2 SAFE, 3 LEAVE. -/
def State.notify (s : State) (cause kind : Nat) : State :=
  if s.peerLive && s.linkUp then s.transmitNow (.notice cause kind) else s

/-- Retraining (R360): both sequence spaces restart at 0 and every unacknowledged frame is resent. -/
def State.retrainLink (s : State) : State :=
  let e := s.sel
  let n := e.unacked.length
  let again := (List.range n).filterMap (fun i => e.unacked[i]?.map (fun (u : Sent) => ({ u with seq := i, at_ := s.time } : Sent)))
  let t := { s with sel := { e with unacked := again, txSeq := n, rxSeq := 0, resends := 0, nak := false } }
  let t := (t.set SEL_STATUS.LINK 1).raise SEL_FLAGS.RETRAIN
  t.set SEL_LINK_CNT.RETX (t.get SEL_LINK_CNT.RETX + n)

/-- Resends every unacknowledged frame; the eighth resend without progress retrains the link (R360). -/
def State.resendAll (s : State) : State :=
  let e := s.sel
  if e.unacked.isEmpty then s
  else if 8 ≤ e.resends then s.retrainLink
  else
    let t := { s with sel := { e with resends := e.resends + 1, unacked := e.unacked.map (fun (u : Sent) => { u with at_ := s.time }) } }
    t.set SEL_LINK_CNT.RETX (t.get SEL_LINK_CNT.RETX + e.unacked.length)

/-- Frames acknowledged by an ACK field leave the window, and those that wait follow (R358, R360). -/
def State.acknowledge (s : State) (ack : Nat) : State :=
  let e := s.sel
  let left := e.unacked.filter (fun u => !(decide (0 < (ack + 65536 - u.seq) % 65536) && decide ((ack + 65536 - u.seq) % 65536 ≤ 32)))
  let t := { s with sel := { e with unacked := left, resends := if left.length = e.unacked.length then e.resends else 0, waiting := [] } }
  e.waiting.foldl (fun u f => u.transmit f) t

/-- A received frame (R358 to R361): a bad one is counted; ACK and NAK act; a sequenced one takes effect only in its
order, else NAK is due. -/
def State.receive (s : State) (h : FrameHdr) (sequenced : Bool) (eff : State → State) : State :=
  if !s.linkUp then s
  else if !h.valid then s.set SEL_LINK_CNT.CRC_ERR (s.get SEL_LINK_CNT.CRC_ERR + 1)
  else
    let t := { s with sel := { s.sel with lastFrame := some s.time, probeAt := none, probeLost := none } }
    let t := t.acknowledge h.ack.toNat
    let t := if h.nak then t.resendAll else t
    if !sequenced then eff t
    else if h.seq.toNat = t.sel.rxSeq then
      eff { t with sel := { t.sel with rxSeq := (t.sel.rxSeq + 1) % 65536 } }
    else { t with sel := { t.sel with nak := true } }

/-! ### The journal (R373) -/

/-- Reports the journal sequence numbers (`BEM_JSN_LO`, `BEM_ACKED_LO`, `BEM_PEER_LO`). -/
def State.jsnReport (s : State) : State :=
  let t := s.wr BEM_JSN_LO.addr (BitVec.ofNat 32 s.beam.jsn)
  let t := t.wr BEM_JSN_HI.addr (BitVec.ofNat 32 (s.beam.jsn / 2 ^ 32))
  (t.wr BEM_ACKED_LO.addr (BitVec.ofNat 32 s.beam.ackedJsn)).wr BEM_PEER_LO.addr (BitVec.ofNat 32 s.beam.peerJsn)

/-- Numbers a committed record and, with a live peer, sends it as a MIRROR frame. -/
def State.journal (s : State) (r : BeamRecord) : State :=
  if !s.hasSel then s
  else
    let n := (s.beam.jsn + 1) % 2 ^ 48
    let b := { s.beam with jsn := n }
    let b := match r with
      | .job m k _ => { b with jobJsn := b.jobJsn.put (32 * m + k) n }
      | .release m k => { b with jobJsn := b.jobJsn.put (32 * m + k) n }
      | .commit c _ => { b with commitJsn := b.commitJsn.put c n }
      | .free c => { b with commitJsn := b.commitJsn.put c n }
      | _ => b
    let t := ({ s with beam := b } : State).jsnReport
    if t.peerLive then
      ({ t with sel := { t.sel with acks := t.sel.acks.put n r } } : State).transmit (.mirror n r)
    else t

/-- The peer has not confirmed the commit record of a context (R374). -/
def State.commitWaitsPeer (s : State) (c : Nat) : Bool :=
  s.paired && s.sel.acks.any (fun p => match p.2 with
    | .commit d _ => d == c
    | _ => false)

/-- Forwards a stamp of a track to the peer where `WRP_FWD` names it (R178). -/
def State.sendStamp (s : State) (t angle at_ : Nat) : State :=
  if s.peerLive && bitOf (s.rd WRP_FWD.addr).toNat t then s.transmit (.stamp t angle at_) else s

end Sys2Proof.Machine
end

