-- ==== Sys2Proof/Machine/Orders.lean ====
section
/-!
DEFINITION. Orders of the decision tick: entering one, and their classification as reducing or
raising (R235, R468, R84, R116, R140, R169, R200, R331).
-/

namespace Sys2Proof.Machine

/-- The targets that a pair shares (R356): 0x01, 0x14 to 0x16 and 0x20 to 0x27. -/
def pairWide : Target → Bool
  | .rail => true
  | .shed _ => true
  | .contract => false
  | .field n _ => decide (0x14 ≤ n) && decide (n ≤ 0x16)

/-- Adds an order to those that wait for their tick. -/
def State.queueOrder (s : State) (o : Order) : State :=
  { s with lom := { s.lom with orders := s.lom.orders ++ [o] } }

/-- Enters an order; it takes its arrival time and its tick (R33, R235). With a live peer an order on a pair-wide target
is entered four ticks later on both twins (R367). -/
def State.enter (s : State) (o : Order) : State :=
  if pairWide o.target && s.peerLive then
    let p := { o with at_ := s.time, tick := s.tickFor + 4, fromB := s.roleB }
    (s.queueOrder p).transmit (.order (.order { p with slot := none, job := 0 }))
  else s.queueOrder { o with at_ := s.time, tick := s.tickFor, fromB := s.roleB }

end Sys2Proof.Machine

namespace Sys2Proof

/-- The target identifier of a merge target (R235). -/
def Target.id : Target → Nat
  | .rail => 0x01
  | .field n _ => n
  | .contract => 0x13
  | .shed k => 0x20 + k

/-- The region whose safe state bars raising orders on a target (R17, R25). -/
def Target.region : Target → Region
  | .rail => .north
  | .field n _ =>
    if n < 0x08 then .north else if n < 0x14 then .south else if n < 0x18 then .north else .control
  | .contract => .south
  | .shed _ => .control

end Sys2Proof

namespace Sys2Proof.Machine

/-- Fields of which a lower value is reducing (R122, R140, R169, R200, R331). -/
def lowerReduces : List Field :=
  [TRK_LIMIT.IMAX, TRK_SHED.NMAX, CHG_CC.CC, CHG_CC.TRICKLE, CHG_CV.CV, CHG_CV.RECHG,
   CHB_LIMIT.CHG_MAX, CHB_LIMIT.DIS_MAX, CHB_BACKUP.BACKUP_V, RED_WEFT.GAIN, RED_WEFT.WMAX,
   PRT_LIM.VMAX, PRT_LIM.IMAX]

/-- Fields of which the value 0 is reducing (R84, R140, R169, R200, R331). -/
def zeroReduces : List Field :=
  [TRK_CTRL.EN, CHB_CTRL.EN, CHB_CTRL.HOLDUP_EN, CHG_CTRL.EN, PRT_CTRL.EN, SRC_CTRL.SHAVE_EN,
   SRC_REV.MODE, RED_CTRL.WEFT_EN] ++ (List.range 16).map RED_W_CFG.ACT

/-- Fields of which the value 1 is reducing (R169: setting a charge check). -/
def oneReduces : List Field := [CHG_CTRL.ID_CHK, CHG_CTRL.NTC_CHK, CHG_CTRL.TERM_EN]

/-- A chemistry code that is NONE or acts as NONE (R146, R169). -/
def chemNone (c : Nat) : Bool := decide (c = 0) || decide (4 < c)

/-- Whether an order is reducing against the value in force (R235). -/
def State.reducing (s : State) (o : Order) : Bool :=
  match o.target with
  | .rail =>
    let old : Int := s.get TRK_REF.TARGET
    decide (o.val < old) || (decide (o.val = old) && decide (o.aux ≤ (s.get TRK_RATE.ACT_RATE : Int)))
  | .field _ f =>
    let old : Int := s.get f
    if lowerReduces.contains f then decide (o.val < old)
    else if zeroReduces.contains f then decide (o.val = 0)
    else if oneReduces.contains f then decide (o.val = 1)
    else if f = CHG_CTRL.CHEM then chemNone o.val.toNat
    else if f = CHB_ASSIGN.DEF_ACTIVE then
      decide (o.val.toNat &&& s.get f = o.val.toNat)
    else false
  | .contract =>
    let dirOld := s.get PRT_STATUS.DIR
    decide (o.val / 0x10000 = dirOld) && decide (o.val % 0x10000 ≤ (s.get PRT_CONTRACT.VOLT : Int)) &&
      decide (o.aux ≤ (s.get PRT_CONTRACT.CURR : Int))
  | .shed _ => decide (o.val = 1)

/-- Enters one order of a master for each order field whose written value differs from the value in
force (R469). -/
def State.enterFields (s : State) (m : Nat) (data : Word) (fs : List (Nat × Field)) : State :=
  s.each fs (fun p t =>
    if p.2.of data = t.get p.2 then t
    else t.enter { target := .field p.1 p.2, master := m, val := p.2.of data })

end Sys2Proof.Machine
end

