-- ==== Sys2Proof/Machine/JobOps.lean ====
section
/-!
DEFINITION. Operations on job records and completion entries that several families use
(R276, R282 to R285, R290).
-/

namespace Sys2Proof.Machine

/-- The key of record r of master m. -/
def jobKey (m r : Nat) : Nat := 32 * m + r

/-- A job record; a record that holds no job is FREE. -/
def State.job (s : State) (m r : Nat) : Job := (s.jobs.recs.find (jobKey m r)).getD {}

/-- The machine with a job record replaced; a FREE record is not listed. -/
def State.setJob (s : State) (m r : Nat) (j : Job) : State :=
  let recs := if j.state = 0 then s.jobs.recs.erase (jobKey m r) else s.jobs.recs.put (jobKey m r) j
  { s with jobs := { s.jobs with recs := recs } }

/-- Writes a job's record to this twin's Beam. -/
def State.keepJob (s : State) (m r : Nat) : State :=
  let recs := if (s.job m r).state = 0 then s.beam.jobs.erase (jobKey m r)
    else s.beam.jobs.put (jobKey m r) (s.job m r)
  { s with beam := { s.beam with jobs := recs } }

/-- Writes a job's record to the Beam and numbers it in the journal (R236, R280, R287, R290, R373). -/
def State.saveJob (s : State) (m r : Nat) : State :=
  (s.keepJob m r).journal (if (s.job m r).state = 0 then .release m r else .job m r (s.job m r))

/-- A job that the peer accepted reports its state there in a STATE frame (R376). -/
def State.tellPeer (s : State) (m r : Nat) : State :=
  if (s.job m r).foreign && s.peerLive then s.transmit (.state m r (s.job m r)) else s

/-- The terminal states of R283. -/
def terminalState (c : Nat) : Bool := decide (5 ≤ c) && decide (c ≤ 11)

end Sys2Proof.Machine

namespace Sys2Proof

/-- The status word of a record (R283). -/
def Job.status (j : Job) : Word :=
  if j.state = 0 then 0
  else BitVec.ofNat 32 (j.state * 2 ^ 28 + j.reads * 2 ^ 24 + j.progress * 2 ^ 16 + j.seq % 65536)

end Sys2Proof

namespace Sys2Proof.Machine

/-- The four words of a completion entry (R276). -/
def completionEntry (j : Job) (kindEnd : Bool) (record : Nat) : List Word :=
  [j.jobId, ({ j with reads := 0 } : Job).status, BitVec.ofNat 32 (j.asn % 2 ^ 32),
   BitVec.ofNat 32 (j.asn / 2 ^ 32 * 65536 + j.cause * 256 + (if kindEnd then 128 else 0) + record)]

/-- Adds a completion entry to those due (R282); M4 posts none (R272). -/
def State.post (s : State) (m : Nat) (e : List Word) : State :=
  if m < 4 then { s with jobs := { s.jobs with posts := s.jobs.posts ++ [(m, e)] } } else s

/-- Ends a job in a terminal state with its cause: the record, its END entry, and what `save` writes to the Beam (R236, R282,
R283, R285). A job that is already terminal does not change (R285). -/
def State.endJobAs (s : State) (m r code cause : Nat) (save : State → State) : State :=
  let j := s.job m r
  if j.state = 0 || terminalState j.state then s
  else
    let j' := { j with state := code, cause := cause }
    let t := s.setJob m r j'
    -- R376: the twin that accepted the job posts its END entry
    save (if j.foreign && s.peerLive then t.tellPeer m r else t.post m (completionEntry j' true r))

/-- Ends a job with its record in the Beam. -/
def State.endJob (s : State) (m r code cause : Nat) : State := s.endJobAs m r code cause (fun t => t.saveJob m r)

/-- The lowest FREE record of a master that this twin may allocate, if any (R233, R279, R366). -/
def State.freeRecord (s : State) (m : Nat) : Option Nat :=
  (List.range 32).find? (fun r => (s.job m r).state == 0 && s.ownNumber r)

/-- The next acceptance number (R281): bit 47 the twin identity, bits [46:0] the count. -/
def State.nextAsn (s : State) : Nat :=
  s.get GLB_STRAP.TWIN_ID * 2 ^ 47 + (s.beam.asnCount + 1) % 2 ^ 47

/-- The deduplication window of a master (R288). -/
def State.windowOf (s : State) (m : Nat) : List Accepted := (s.beam.window.find m).getD []

/-- Gives a QUEUED or PICK-started job its ASN and its place in the window (R280, R281, R288). -/
def State.accept (s : State) (m r : Nat) (intoWindow : Bool) : State :=
  let j := s.job m r
  -- a job mirrored before its acceptance has its number already
  let asn := if j.asn = 0 then s.nextAsn else j.asn
  let s := if j.asn = 0 then { s with beam := { s.beam with asnCount := (s.beam.asnCount + 1) % 2 ^ 47 } } else s
  let s := s.setJob m r { j with state := 2, asn := asn, committed := true, confirmed := true }
  let win := s.beam.window.put m ((Accepted.mk j.jobId asn r :: s.windowOf m).take 1024)
  let s := s.onlyIf intoWindow (fun t => { t with beam := { t.beam with window := win } })
  let s := s.wr JOB_ASN_LO.addr (BitVec.ofNat 32 asn)
  let s := s.wr JOB_ASN_HI.addr (BitVec.ofNat 32 (asn / 2 ^ 32))
  s.saveJob m r

/-- In paired operation the acceptance record of a QUEUED job goes to the peer with its number (R280, R373, R374). -/
def State.mirrorJob (s : State) (m r : Nat) : State :=
  if !s.paired then s
  else
    let asn := s.nextAsn
    let t := { s with beam := { s.beam with asnCount := (s.beam.asnCount + 1) % 2 ^ 47 } }
    let j := { t.job m r with asn := asn, confirmed := false }
    (t.setJob m r j).journal (.job m r { j with state := 2 })

/-- A new partial or final result of a running job (R269, R283, R286). -/
def State.putResult (s : State) (m r : Nat) (block : List Word) (progress : Option Nat)
    (save : Bool) : State :=
  let j := s.job m r
  if j.state = 3 || j.state = 4 then
    let j' := { j with state := 4, result := block, seq := (j.seq + 1) % 65536, progress := progress.getD j.progress }
    let t := s.setJob m r j'
    (t.onlyIf save (fun u => u.saveJob m r)).tellPeer m r
  else s

/-- A job's DONE order takes effect: the final result, the state DONE and the END entry; the program runs
on (R269, R283). A DONE outside a transaction is not recorded (R245, R290). -/
def State.finalResult (s : State) (m r : Nat) (block : List Word) (progress : Nat) (save : Bool) : State :=
  (s.putResult m r block (some progress) false).endJobAs m r 5 0 (fun t => t.onlyIf save (fun u => u.saveJob m r))

end Sys2Proof.Machine
end

