-- ==== Sys2Proof/Machine/Contexts.lean ====
section
/-!
DEFINITION. Operations on Loom contexts, shuttles and operation slots that several families use
(R225 to R234, R243, R244, R247, R251, R267, R268, R284).
-/

namespace Sys2Proof.Machine

/-! ### The context record (R229) -/

/-- The fields of record word 0 and the other words of the record of context c. -/
def CTX.STATE (c : Nat) : Field := ⟨32 * c, 28, 4⟩
def CTX.SHUTTLE (c : Nat) : Field := ⟨32 * c, 24, 4⟩
def CTX.OPS (c : Nat) : Field := ⟨32 * c, 20, 4⟩
def CTX.DEPTH (c : Nat) : Field := ⟨32 * c, 16, 4⟩
def CTX.TX (c : Nat) : Field := ⟨32 * c, 15, 1⟩
def CTX.RESUMED (c : Nat) : Field := ⟨32 * c, 14, 1⟩
def CTX.HELD (c : Nat) : Field := ⟨32 * c, 13, 1⟩
def CTX.CAUSE (c : Nat) : Field := ⟨32 * c, 0, 8⟩
def CTX.PC (c : Nat) : Field := ⟨32 * c + 1, 0, 16⟩
def CTX.PRIO (c : Nat) : Field := ⟨32 * c + 2, 28, 4⟩
def CTX.SHED (c : Nat) : Field := ⟨32 * c + 2, 25, 3⟩
def CTX.LOCKEN (c : Nat) : Field := ⟨32 * c + 2, 24, 1⟩
def CTX.WARP (c : Nat) : Field := ⟨32 * c + 2, 20, 4⟩
def CTX.WBIND (c : Nat) : Field := ⟨32 * c + 2, 19, 1⟩
def CTX.OWNER (c : Nat) : Field := ⟨32 * c + 2, 16, 3⟩
def CTX.PICKSTART (c : Nat) : Field := ⟨32 * c + 2, 15, 1⟩
def CTX.ENTRY (c : Nat) : Field := ⟨32 * c + 3, 0, 16⟩
def CTX.BUDGET (c : Nat) : Field := ⟨32 * c + 4, 0, 32⟩
def CTX.USED (c : Nat) : Field := ⟨32 * c + 5, 0, 32⟩
def CTX.JOBID (c : Nat) : Field := ⟨32 * c + 6, 0, 32⟩
def CTX.EVMASK (c : Nat) : Field := ⟨32 * c + 7, 8, 8⟩
def CTX.EVPEND (c : Nat) : Field := ⟨32 * c + 7, 0, 8⟩
def CTX.TXSEQ (c : Nat) : Field := ⟨32 * c + 23, 16, 16⟩
def CTX.TXORD (c : Nat) : Field := ⟨32 * c + 23, 8, 8⟩
def CTX.TXWORDS (c : Nat) : Field := ⟨32 * c + 23, 0, 8⟩
def CTX.TRAPARG (c : Nat) : Field := ⟨32 * c + 28, 16, 16⟩
def CTX.TRAPPC (c : Nat) : Field := ⟨32 * c + 28, 0, 16⟩

/-- Entry i of the return stack of context c, two entries a word from word 24 (R229). -/
def CTX.RET (c i : Nat) : Field := ⟨32 * c + 24 + i / 2, 16 * (i % 2), 16⟩

/-- A field of a context record. -/
def State.cget (s : State) (f : Field) : Nat := f.of (s.ctx.get f.addr)

/-- The machine with a field of a context record replaced. -/
def State.cset (s : State) (f : Field) (n : Nat) : State :=
  { s with ctx := s.ctx.set f.addr (f.put n (s.ctx.get f.addr)) }

/-- General register i of context c; `g0` reads zero (R255). -/
def State.g (s : State) (c i : Nat) : Word := if i = 0 then 0 else s.ctx.get (32 * c + 7 + i)

/-- The machine with general register i written; a write to `g0` is discarded (R255). -/
def State.setG (s : State) (c i : Nat) (v : Word) : State :=
  if i = 0 then s else { s with ctx := s.ctx.set (32 * c + 7 + i) v }

/-- The state code of a context (R230). -/
def State.cstate (s : State) (c : Nat) : Nat := s.cget (CTX.STATE c)

/-- A context's state beside its record. -/
def State.context (s : State) (c : Nat) : Context := (s.lom.ctxs.find c).getD {}

/-- The machine with a context's state beside its record changed. -/
def State.setContext (s : State) (c : Nat) (g : Context → Context) : State :=
  { s with lom := { s.lom with ctxs := s.lom.ctxs.put c (g (s.context c)) } }

/-! ### Shuttles and states -/

/-- Takes a context off its shuttle (R225). -/
def State.offShuttle (s : State) (c : Nat) : State :=
  let t := { s with lom := { s.lom with shuttles := s.lom.shuttles.map (fun (h : Shuttle) => if h.ctx = some c then { h with ctx := none, count := 0 } else h) } }
  t.cset (CTX.SHUTTLE c) 0xF

/-- Puts a context in a state in which no shuttle runs it. -/
def State.park (s : State) (c code : Nat) : State := (s.offShuttle c).cset (CTX.STATE c) code

/-- Makes a context READY behind the contexts that are READY already (R226). -/
def State.makeReady (s : State) (c : Nat) : State :=
  let (n, t) := s.nextSeq
  (t.park c 2).setContext c (fun x => { x with readySeq := n })

/-- A freeze cause holds on a context (R247). -/
def Context.frozen (x : Context) : Bool := x.frozenControl || x.frozenUpdate || x.frozenOwner

/-- Whether a class is shed (R239). -/
def State.classShed (s : State) (k : Nat) : Bool := bitOf (s.get LOM_SHED_STATE.SHED) k

/-- Whether shedding suspends a context: its class is shed and its priority is below PROT (R243);
context 0 cannot be shed (R232). -/
def State.shedHolds (s : State) (c : Nat) : Bool :=
  s.classShed (s.cget (CTX.SHED c)) && decide (s.cget (CTX.PRIO c) < s.get LOM_CTRL.PROT) && decide (c ≠ 0)

/-- A context whose wait has completed or that leaves FROZEN or SHED: back to WAIT while its wait
is pending, else READY; it stays suspended while a freeze or shed holds (R230, R247). -/
def State.unsuspend (s : State) (c : Nat) : State :=
  let x := s.context c
  let code := s.cstate c
  if code = 6 || code = 7 then
    if x.frozen then s.park c 6
    else if code = 7 && s.shedHolds c then s
    else if code = 6 && s.shedHolds c then s.park c 7
    else if x.wait.isSome then s.park c 4
    else s.makeReady c
  else s

/-- Ends the wait of a context: its destination register takes the result; a context in WAIT becomes
READY, a suspended one becomes READY when its suspension ends (R247, R252). -/
def State.endWait (s : State) (c : Nat) (v : Option Word) : State :=
  let x := s.context c
  let t := match v with
    | some w => s.setG c x.waitReg w
    | none => s
  let t := t.setContext c (fun y => { y with wait := none })
  if t.cstate c = 4 then t.makeReady c else t

/-! ### Operation slots (R227) -/

/-- The slots held by a context. -/
def State.slotsOf (s : State) (c : Nat) : List Nat :=
  (s.lom.slots.filter (fun p => p.2.1 == c)).map (fun p => p.1)

/-- The lowest slot open to a context, if it holds fewer than 8: slots 60 to 63 only from
priority PROT up (R227). -/
def State.openSlot (s : State) (c : Nat) : Option Nat :=
  if 8 ≤ (s.slotsOf c).length then none
  else (List.range 64).find? (fun i =>
    (s.lom.slots.find i).isNone && (decide (i < 60) || decide (s.get LOM_CTRL.PROT ≤ s.cget (CTX.PRIO c))))

/-- How many slots are open to a context. -/
def State.openSlots (s : State) (c : Nat) : Nat :=
  min (8 - (s.slotsOf c).length)
    ((List.range 64).filter (fun i => (s.lom.slots.find i).isNone &&
      (decide (i < 60) || decide (s.get LOM_CTRL.PROT ≤ s.cget (CTX.PRIO c))))).length

/-- Gives slot i to a context. -/
def State.takeSlot (s : State) (c i : Nat) (u : SlotUse) : State :=
  let t := { s with lom := { s.lom with slots := s.lom.slots.put i (c, u), slotGen := s.lom.slotGen.put i ((s.lom.slotGen.find i).getD 0 + 1) } }
  t.cset (CTX.OPS c) (t.slotsOf c).length

/-- Frees slot i. -/
def State.freeSlot (s : State) (i : Nat) : State :=
  match s.lom.slots.find i with
  | none => s
  | some (c, _) =>
    let t := { s with lom := { s.lom with slots := s.lom.slots.erase i } }
    t.cset (CTX.OPS c) (t.slotsOf c).length

/-- An order of a context that no longer holds a slot. -/
def unslot (c : Nat) (o : Order) : Order := if o.origin == .ctx c then { o with slot := none } else o

/-- Frees every slot of a context; its orders in force stay, without their slots (R251, R284). -/
def State.freeSlots (s : State) (c : Nat) : State :=
  let t := { s with lom := { s.lom with slots := s.lom.slots.filter (fun p => !(p.2.1 == c)), orders := s.lom.orders.map (unslot c) }, mod := { s.mod with order := s.mod.order.map (unslot c) } }
  t.cset (CTX.OPS c) 0

/-- The tag of a slot: use count modulo 4 above the slot number (R268). -/
def State.tagOf (s : State) (i : Nat) : Nat := ((s.lom.slotGen.find i).getD 0 % 4) * 64 + i

/-- The context enters WAIT_SLOT without executing the instruction (R227). -/
def State.waitSlot (s : State) (c : Nat) : State := (s.park c 5).raise LOM_FLAGS.SLOT_WAIT

/-- Places a result in a context's store, displacing the ninth (R268). -/
def State.storeResult (s : State) (c tag : Nat) (w0 w1 : Word) : State :=
  s.setContext c (fun x =>
    let all := (tag, w0, w1) :: x.results
    { x with results := all.take 8, tags := x.tags.filter (fun y => y != tag), displaced := ((all.drop 8).map (fun p => p.1) ++ x.displaced).eraseDups })

/-! ### Transactions, stops and traps -/

/-- Discards the open transaction: buffered orders, logged words and reserved pick slots
(R251, R267, R284). -/
def State.dropTx (s : State) (c : Nat) : State :=
  let t := s.setContext c (fun x => { x with txOrders := [], txWords := [], txAddrs := [], picks := x.picks.filter (fun p => !(x.txPicks.contains p)), txPicks := [] })
  ((t.cset (CTX.TX c) 0).cset (CTX.TXORD c) 0).cset (CTX.TXWORDS c) 0

/-- Cancels waits and tagged operations of a context and frees its slots. -/
def State.cancelWork (s : State) (c : Nat) : State :=
  (s.freeSlots c).setContext c (fun x => { x with wait := none, tags := [], freezeAt := none, shedAt := none, sentCommit := false })

/-- Stops a context as ABORT does: transaction discarded, slots freed, context IDLE; orders in
force stay (R284). A pending PICK event is discarded (R252). -/
def State.stopContext (s : State) (c : Nat) : State :=
  let t := ((s.dropTx c).cancelWork c).park c 1
  let t := t.setContext c (fun x => { x with job := none, results := [], displaced := [], rom := none, aborting := false })
  (t.cset (CTX.HELD c) 0).cset (CTX.EVPEND c) (setBitTo (t.cget (CTX.EVPEND c)) 0 false)

/-- Ends a job and stops the context that runs it (R284). -/
def State.endJobStop (s : State) (m r code cause : Nat) : State :=
  let c := (s.job m r).ctx
  let running := (s.context c).job == some (m, r)
  let t := s.endJob m r code cause
  if running then t.stopContext c else t

/-- Sets a fault of the collector: its bit, FAULT_NEW, and FIRST_FAULT when `SAF_FAULT` was clear
(R395, R397). -/
def State.setFault (s : State) (code : Nat) : State :=
  if bitOf (s.get SAF_FAULT.FAULT) code then s
  else
    let t := s.onlyIf (s.get SAF_FAULT.FAULT == 0) (fun u => u.set SAF_STATUS.FIRST_FAULT code)
    (t.raiseBit SAF_FAULT.FAULT code).raise SAF_FLAGS.FAULT_NEW

/-- The fault codes of a region: its SAFE fault; its DEG fault is four higher (R395). -/
def regionFault : Region → Nat
  | .north => 8
  | .south => 9
  | .control => 10
  | .interface => 11

/-- Reports a contained fault of a region: a NORMAL region becomes DEGRADED, and its DEG fault sets
(R36, R395). -/
def State.degrade (s : State) (r : Region) : State :=
  (s.onlyIf (s.get (regionField r) == 1) (fun t => t.set (regionField r) 2)).setFault (regionFault r + 4)

/-- A trap (R251): TRAPPED with its cause, transaction discarded, waits and slots gone, the job
FAILED; a trap of context 0 goes to the fault collector. -/
def State.trapContext (s : State) (c cause arg : Nat) : State :=
  let pc := s.cget (CTX.PC c)
  let jobOf := (s.context c).job
  let t := ((s.dropTx c).cancelWork c).park c 8
  let t := ((t.cset (CTX.CAUSE c) cause).cset (CTX.TRAPARG c) arg).cset (CTX.TRAPPC c) pc
  let t := (t.cset (CTX.HELD c) 0).raise LOM_FLAGS.CTX_TRAP
  let t := match jobOf with
    | some (m, r) => t.endJob m r 6 0x01
    | none => t
  let t := t.setContext c (fun x => { x with job := none, rom := none })
  t.onlyIf (c == 0) (fun u => (u.degrade .control).setFault 18)

/-! ### Events (R232) -/

/-- Raises an event of a context; a WAITE that shares a bit completes and the wait clears the
shared bits (R232). Event bits: 0 PICK, 1 SHED, 2 RESTORE, 3 HOST, 4 TWIN. -/
def State.event (s : State) (c bit : Nat) : State :=
  let t := s.cset (CTX.EVPEND c) (setBitTo (s.cget (CTX.EVPEND c)) bit true)
  match (t.context c).wait with
  | some (.event _) =>
    let shared := t.cget (CTX.EVPEND c) &&& t.cget (CTX.EVMASK c)
    if shared = 0 then t
    else
      let u := t.cset (CTX.EVPEND c) (t.cget (CTX.EVPEND c) - shared)
      let u := u.each (((u.lom.slots.filter (fun p => p.2.1 == c && p.2.2 == .wait)).map (·.1)).take 1)
        (fun i v => v.freeSlot i)
      u.endWait c (some (BitVec.ofNat 32 shared))
  | _ => t

/-! ### Jobs on contexts (R231, R246, R471) -/

/-- A job begins on its IDLE context (R231): arguments in `g1` to `g4`, the other registers zero, and PC, ENTRY and JOBID of
the job; the Beam notes that it has started (R290). -/
def State.beginJob (s : State) (m r : Nat) : State :=
  let j := s.job m r
  let c := j.ctx
  let rom := if 0xFF00 ≤ j.entry then some j.entry else none
  let t := (List.range 15).foldl (fun u k => u.setG c (k + 1) (if k < 4 then j.args.getD k 0 else 0)) s
  let t := ((t.cset (CTX.PC c) j.entry).cset (CTX.ENTRY c) j.entry).cset (CTX.JOBID c) j.jobId.toNat
  let t := ((t.cset (CTX.USED c) 0).cset (CTX.TXSEQ c) 0).cset (CTX.DEPTH c) 0
  let t := (t.cset (CTX.CAUSE c) 0).cset (CTX.RESUMED c) 0
  let t := t.setContext c (fun x => { x with job := some (m, r), hasRun := true, lastArgs := j.args, summary := 0, rom := rom, romLeft := 0, nanojoule := 0, lastCell := 0xFFFFFFFF, oldCal := 0, newCal := 0 })
  let old := (t.beam.commits.find c).getD {}
  let words := (old.words.set 3 (t.ctx.get (32 * c + 3))).set 6 j.jobId
  let rec' : Commit := { old with words := words, orders := [], idle := false, committed := false, entry := j.entry, args := j.args, job := some (m, r) }
  let t := ({ t with beam := { t.beam with commits := t.beam.commits.put c rec' } } : State).journal (.commit c rec')
  let t := t.setJob m r { j with state := 3, progOut := j.progOut && rom.isNone, chargeAtStart := (t.rd MEA_QCNT.addr).toInt }
  ((t.saveJob m r).tellPeer m r).makeReady c

/-- The net charge into the pack since a job's start, 1 mC (R471). -/
def State.jobCharge (s : State) (j : Job) : Word :=
  BitVec.ofInt 32 ((s.rd MEA_QCNT.addr).toInt - j.chargeAtStart)

/-- The result block of `charge_run` (R471). -/
def State.chargeBlock (s : State) (j : Job) : List Word :=
  [s.rd CHG_STATUS.addr, s.rd CHG_FLT.addr, s.jobCharge j]

/-- The result block of a ROM program whose job ends by its orders (R471). -/
def State.romBlock (s : State) (c : Nat) (j : Job) : List Word :=
  let x := s.context c
  if x.rom = some 0xFF00 then [BitVec.ofNat 32 (s.get TRK_REF.TARGET), BitVec.ofNat 32 (s.get TRK_REF.REF), x.summary]
  else if x.rom = some 0xFF01 then s.chargeBlock j
  else if x.rom = some 0xFF02 then [s.rd CHB_BACKUP.addr, BitVec.ofNat 32 (s.get CHG_STATUS.REV_AVAIL)]
  else []

/-! ### Outcomes of orders (R258, R270, R284) -/

/-- Adds an outcome to the summary of R270. -/
def addOutcome (summary : Word) (code : Nat) (clamped : Bool) : Word :=
  let n := summary.toNat
  let cnt := min (n / 65536 + 1) 65535
  let low := setBitTo (n % 65536) code true
  BitVec.ofNat 32 (cnt * 65536 + if clamped then setBitTo low 4 true else low)

end Sys2Proof.Machine

namespace Sys2Proof

/-- Whether another waiting or running order belongs to a job that is still to end by outcomes. -/
def Job.live (j : Job) : Bool := decide (j.state = 3) || decide (j.state = 4)

end Sys2Proof

namespace Sys2Proof.Machine

/-- Resolves a power order with its outcome (R258): 0 APPLIED, 1 SUPERSEDED, 2 CONFLICT,
3 REGION_SAFE. The slot of a rail order is freed (R259), the program's summary counts it, and the
job ends by R284; `own` says that a later order of the same job superseded it. -/
def State.resolve (s : State) (o : Order) (code : Nat) (own : Bool) : State :=
  let t := match o.slot with
    | some i => s.freeSlot i
    | none => s
  match o.origin with
  | .ctx c =>
    match (t.context c).job with
    | some (m, r) =>
      let j := t.job m r
      if o.job = j.asn && j.live then
        let t := t.setContext c (fun x => { x with summary := addOutcome x.summary code o.clamped })
        let left := (t.context c).romLeft - 1
        let ends := (t.context c).rom.isSome && (code != 0 || ((t.context c).romLeft != 0 && left == 0))
        let t := t.setContext c (fun x => { x with romLeft := if code = 0 then left else x.romLeft })
        let t := if ends then t.putResult m r (t.romBlock c j) (if code = 0 then some 255 else none) false else t
        if ends && code == 0 then t.endJobStop m r 5 0
        else if code = 3 then t.endJobStop m r 6 0x02
        else if code = 2 && !j.progOut then t.endJobStop m r 8 0
        else if code = 1 && !j.progOut && !own then t.endJobStop m r 10 0
        else t
      else t
    | none => t
  | _ => t

/-- The number of the job that a context runs; 0 for none. -/
def State.jobOfCtx (s : State) (c : Nat) : Nat :=
  match (s.context c).job with
  | some (m, r) => (s.job m r).asn
  | none => 0

/-! ### Boundaries at which shed and freeze take effect (R243, R247) -/

/-- At an instruction boundary outside a transaction a pending freeze or shed takes effect. -/
def State.boundary (s : State) (c : Nat) (atFence : Bool) : State :=
  let code := s.cstate c
  let inTx := s.cget (CTX.TX c) == 1
  if (code == 2 || code == 3 || code == 4 || code == 5) && (!inTx || atFence) then
    if (s.context c).frozen then
      (s.park c 6).setContext c (fun x => { x with freezeAt := none })
    else if s.shedHolds c then
      (s.park c 7).setContext c (fun x => { x with shedAt := none })
    else s
  else s

/-- A freeze cause has been set: at the next boundary, or 100 us later inside a transaction
(R247). -/
def State.freezeSoon (s : State) (c : Nat) : State :=
  if s.cget (CTX.TX c) == 1 then
    s.setContext c (fun x => { x with freezeAt := some (x.freezeAt.getD (s.time + us 100)) })
  else s.boundary c false

end Sys2Proof.Machine
end

