-- ==== Sys2Proof/Machine/Fleet.lean ====
section
/-!
DEFINITION. Cells and blocks: the state of a cell, the working values of a block and the registers that report
them (R85 to R93, R112 to R114, R122, R123, R141), shared by the families of chapters 04 to 06 and 13.
-/

namespace Sys2Proof.Machine

/-! ### Blocks -/

/-- The cells of a block (R17). -/
def blockCells : Block → List Nat
  | .trk => List.range 10
  | .chb => [10, 11, 12, 13, 14, 15]
  | .prt => [16, 17]

/-- The block of a cell. -/
def blockOf (n : Nat) : Block := if n < 10 then .trk else if n < 16 then .chb else .prt

/-- The region of a block (R17). -/
def blockRegion : Block → Region
  | .trk => .north
  | .chb => .south
  | .prt => .south

/-- A modulator field of a block: the word of the trunk 0x100 further per block (chapter 04). -/
def blockField (b : Block) (f : Field) : Field :=
  match b with
  | .trk => f
  | .chb => { f with addr := f.addr + 0x100 }
  | .prt => { f with addr := f.addr + 0x200 }

/-- A block beside its registers. -/
def State.fleet (s : State) (b : Block) : Fleet :=
  match b with
  | .trk => s.mod.trk
  | .chb => s.mod.chb
  | .prt => s.mod.prt

/-- The machine with a block's working values changed. -/
def State.setFleet (s : State) (b : Block) (g : Fleet → Fleet) : State :=
  match b with
  | .trk => { s with mod := { s.mod with trk := g s.mod.trk } }
  | .chb => { s with mod := { s.mod with chb := g s.mod.chb } }
  | .prt => { s with mod := { s.mod with prt := g s.mod.prt } }

/-- A block is enabled by its `EN` (R140, R169); before full service firmware has not set it. -/
def State.blockEnabled (s : State) (b : Block) : Bool :=
  match b with
  | .trk => !s.fullService || s.is TRK_CTRL.EN
  | .chb => s.fullService && s.is CHB_CTRL.EN
  | .prt => true

/-- A block runs in reverse direction. -/
def State.reverse (s : State) (b : Block) : Bool :=
  match b with
  | .trk => s.is TRK_STATUS.DIR
  | .chb => s.is CHB_STATUS.DIR
  | .prt => s.is PRT_STATUS.DIR

/-- A block is in burst mode. -/
def State.burst (s : State) (b : Block) : Bool := (s.fleet b).packet.isSome

/-- Registers that report a block with an active set (R112, R141). -/
structure FleetRegs where
  assign : Field
  nSw : Field
  nAvail : Field
  nSet : Field
  spares : Field
  ramping : Field
  overload : Field
  parked : Field
  spare : Field
  serving : Field
  cont : Field
  short : Field
  ilimit : Field
  derated : Field
  burst : Field
  spareAuto : Field
  enabled : Field
  flagSubst : Field
  flagDone : Field
  flagAbort : Field
  flagFail : Field
  flagDerated : Field
  flagOvld : Field
  flagIlimit : Field
  /-- Continuous and short-term rating of one cell, 10 mA. -/
  perCont : Nat
  perShort : Nat
  /-- Number of the first cell. -/
  base : Nat
  deriving DecidableEq, Repr

/-- The registers of the trunk. -/
def trkRegs : FleetRegs :=
  { assign := TRK_ASSIGN.DEF_ACTIVE, nSw := TRK_STATUS.N_SW, nAvail := TRK_STATUS.N_AVAIL, nSet := TRK_STATUS.N_SET, spares := TRK_STATUS.SPARES, ramping := TRK_STATUS.RAMPING, overload := TRK_STATUS.OVERLOAD, parked := TRK_MAP.PARKED, spare := TRK_MAP.SPARE, serving := TRK_MAP.SERVING, cont := TRK_CAP.CONT, short := TRK_CAP.SHORT, ilimit := TRK_STATUS.ILIMIT, derated := TRK_STATUS.DERATED, burst := TRK_STATUS.BURST, spareAuto := TRK_CTRL.SPARE_AUTO, enabled := TRK_STATUS.ENABLED, flagSubst := TRK_FLAGS.SUBST, flagDone := TRK_FLAGS.REENTRY_DONE, flagAbort := TRK_FLAGS.REENTRY_ABORT, flagFail := TRK_FLAGS.REENTRY_FAIL, flagDerated := TRK_FLAGS.DERATED, flagOvld := TRK_FLAGS.OVLD, flagIlimit := TRK_FLAGS.ILIMIT, perCont := 3000, perShort := 3500, base := 0 }

/-- The registers of the charge block. -/
def chbRegs : FleetRegs :=
  { assign := CHB_ASSIGN.DEF_ACTIVE, nSw := CHB_STATUS.N_SW, nAvail := CHB_STATUS.N_AVAIL, nSet := CHB_STATUS.N_SET, spares := CHB_STATUS.SPARES, ramping := CHB_STATUS.RAMPING, overload := CHB_STATUS.OVERLOAD, parked := CHB_MAP.PARKED, spare := CHB_MAP.SPARE, serving := CHB_MAP.SERVING, cont := CHB_CAP.CONT, short := CHB_CAP.SHORT, ilimit := CHB_STATUS.ILIMIT, derated := CHB_STATUS.DERATED, burst := CHB_STATUS.BURST, spareAuto := CHB_CTRL.SPARE_AUTO, enabled := CHB_STATUS.ENABLED, flagSubst := CHB_FLAGS.SUBST, flagDone := CHB_FLAGS.REENTRY_DONE, flagAbort := CHB_FLAGS.REENTRY_ABORT, flagFail := CHB_FLAGS.REENTRY_FAIL, flagDerated := CHB_FLAGS.DERATED, flagOvld := CHB_FLAGS.OVLD, flagIlimit := CHB_FLAGS.ILIMIT, perCont := 1600, perShort := 2000, base := 10 }

/-- The registers of a block that has an active set; the port converter has none. -/
def fleetRegs : Block → Option FleetRegs
  | .trk => some trkRegs
  | .chb => some chbRegs
  | .prt => none

/-! ### Cells -/

/-- A cell beside its registers. -/
def State.cell (s : State) (n : Nat) : CellUnit := (s.mod.cells.find n).getD {}

/-- The machine with a cell's working values changed. -/
def State.setCell (s : State) (n : Nat) (g : CellUnit → CellUnit) : State :=
  { s with mod := { s.mod with cells := s.mod.cells.put n (g (s.cell n)) } }

/-- State code of a cell (R85): 0 OFF, 1 SPARE, 2 RAMP, 3 ACTIVE, 4 SLEEP, 5 ISOLATED, 6 TEST. -/
def State.cellState (s : State) (n : Nat) : Nat := s.get (CEL_STATUS.STATE n)

/-- The cell exists and lies in the fitted-cell mask, which is not used before full service (R5, R86). -/
def State.fitted (s : State) (n : Nat) : Bool := s.cellPresent n && (!s.fullService || s.is (CEL_CFG.FITTED n))

/-- The cause bits of `CEL_n_FAULT` (R107). -/
def State.causes (s : State) (n : Nat) : Nat := (s.rd (CEL_FAULT.addr n)).toNat / 2 % 32

/-- A cell is in DIRECT mode (R42, R88): `GDMODE` 1 forces BUFFERED. -/
def State.direct (s : State) (n : Nat) : Bool := !s.is (CEL_CFG.DRVMODE n) && !s.is GLB_STRAP.GDMODE

/-- A cell switches: ACTIVE or RAMP. -/
def State.switching (s : State) (n : Nat) : Bool := s.cellState n == 3 || s.cellState n == 2

/-- A cell is parked (R85): in SLEEP, placed there by its block. -/
def State.isParked (s : State) (n : Nat) : Bool := s.cellState n == 4 && (s.cell n).sleep == .parked

/-- A cell serves (R112): ACTIVE, RAMP, or in SLEEP without being parked (log entry 10). -/
def State.serves (s : State) (n : Nat) : Bool :=
  s.switching n || (s.cellState n == 4 && (s.cell n).sleep != .parked)

/-- Moves a cell to another state (R85). Both gates are off in every state that does not switch; a cell that
starts to switch after more than 50 us is due a refresh pulse (R89). -/
def State.moveCell (s : State) (n code : Nat) : State :=
  let old := s.cellState n
  let t := s.set (CEL_STATUS.STATE n) code
  let on := code == 3 || code == 2
  let wasOn := old == 3 || old == 2
  if on && !wasOn then
    t.setCell n (fun c => { c with needRefresh := (match c.quietAt with | some q => decide (q + us 50 < s.time) | none => true), quietAt := none })
  else if on then t
  else
    t.setCell n (fun c => { c with pulse := none, refresh := 0, rect := false, quietAt := if wasOn || c.quietAt.isNone then some s.time else c.quietAt, zeroed := if wasOn then false else c.zeroed })

/-- Puts a cell to SLEEP for a reason. -/
def State.sleepCell (s : State) (n : Nat) (why : Sleep) : State :=
  (s.moveCell n 4).setCell n (fun c => { c with sleep := why })

/-- The cells of a block that pass a test. -/
def State.cellsWhere (s : State) (b : Block) (p : Nat → Bool) : List Nat :=
  (blockCells b).filter (fun n => s.cellPresent n && p n)

/-- Bits of a list of cells, the first cell of the block at bit 0. -/
def cellBits (base : Nat) (l : List Nat) : Nat := l.foldl (fun acc n => setBitTo acc (n - base) true) 0

/-- Modelled stage junction of a cell, signed 1/16 C (`THM_STGk`, R213). -/
def State.stageTemp (s : State) (n : Nat) : Int :=
  s.getZ (if n % 2 = 0 then THM_STG.EVEN (n / 2) else THM_STG.ODD (n / 2))

/-- Whether a cell's stage is below the warning threshold less its hysteresis (R124, R217). -/
def State.stageCool (s : State) (n : Nat) : Bool := decide (s.stageTemp n < s.getZ THM_STG_WARN.FALL)

/-- The block shares by temperature (R121); the charge block shares equally (R141). -/
def State.thermalShare (s : State) (b : Block) : Bool :=
  match b with
  | .trk => s.is TRK_BAL.MODE
  | _ => false

/-- The cells of a block's active set. -/
def State.activeSet (s : State) (b : Block) : List Nat :=
  match fleetRegs b with
  | some r => s.cellsWhere b (fun n => bitOf (s.get r.assign) (n - r.base))
  | none => blockCells b

/-- The ramping cell of a block, if any. -/
def State.rampCell (s : State) (b : Block) : Option Nat := (s.fleet b).ramp.map (fun r => r.cell)

/-- N_avail of R112: serving cells without those that still ramp. -/
def State.availCells (s : State) (b : Block) : List Nat :=
  s.cellsWhere b (fun n => s.serves n && s.cellState n != 2 && s.rampCell b != some n)

/-- Substitutes of R124: cool cells in SPARE and cool parked cells, not already in a ramp. -/
def State.candidates (s : State) (b : Block) : List Nat :=
  s.cellsWhere b (fun n => (s.cellState n == 1 || s.isParked n) && s.fitted n && s.stageCool n &&
    s.rampCell b != some n && decide ((s.fleet b).tries.find n ≠ some 3) &&
    !((s.fleet b).queue.any (fun q => q.cell == n)))

/-- The first cell of a list by a preference. -/
def bestCell (better : Nat → Nat → Bool) : List Nat → Option Nat
  | [] => none
  | n :: t =>
    match bestCell better t with
    | none => some n
    | some m => if better m n then some m else some n

/-- The substitute that R124 takes: the lowest-numbered, or the coolest under thermal-weighted sharing. -/
def State.pickSubstitute (s : State) (b : Block) : Option Nat :=
  bestCell (fun x y => s.thermalShare b && decide (s.stageTemp x < s.stageTemp y)) (s.candidates b)

/-- Block current in 10 mA: the sum of `AVG` over the serving cells (R113, R141). -/
def State.blockCurrent (s : State) (b : Block) : Int :=
  (s.cellsWhere b s.serves).foldl (fun acc n => acc + s.getZ (CEL_IMEAS.AVG n)) 0

/-- Continuous and short-term rating for a number of available cells (R113, R141), 10 mA. -/
def State.ratingFor (s : State) (b : Block) (n : Nat) : Nat × Nat :=
  match b with
  | .trk => if s.trunkCells = 10 then (min (3000 * n) 24000, min (3500 * n) 28000) else (min (3000 * n) 15000, min (3500 * n) 17500)
  | .chb => (min (1600 * n) 8000, min (2000 * n) 10000)
  | .prt => (500, 500)

/-- The continuous rating of a block in force (R113, R141, R326). -/
def State.contRating (s : State) (b : Block) : Nat := (s.ratingFor b (s.availCells b).length).1

/-- `FSW` of a cell, clamped to 150 kHz to 1 MHz, in 0.1 Hz; both port legs use cell 16 (R325). -/
def State.fswOf (s : State) (n : Nat) : Nat :=
  10000 * clampN 150 1000 (s.get (CEL_FSW.FSW (if n = 17 then 16 else n)))

/-- 64 switching periods of the trunk at `FSW`, in 10 ns (R382, R384). -/
def State.rampPeriod (s : State) : Nat := 64000000000 / s.fswOf 0

/-- The trunk limit of the join ramp and of the share-out of `update_handover` (R382, R384), 10 mA; none without one. -/
def State.pairLimit (s : State) : Option Nat :=
  let e := s.sel
  let part := fun (t0 : Nat) => min (s.time - t0) s.rampPeriod
  match e.joinStart, e.outStart with
  | some t0, _ => some (e.joinTo * part t0 / s.rampPeriod)
  | none, some t0 => some (e.outFrom - e.outFrom * part t0 / s.rampPeriod)
  | none, none => if e.released then some 0 else none

/-- The effective limit of R114 with the bounds of R71 and R221 for the trunk, 10 mA. -/
def State.effLimit (s : State) (b : Block) : Nat :=
  let r := s.ratingFor b (s.availCells b).length
  let byBudget := if (s.fleet b).exhausted then r.1 else r.2
  match b with
  | .trk =>
    let fwd := min (min (clampN 100 28000 (s.get TRK_LIMIT.IMAX)) byBudget) (s.get THM_LIM.TRK * r.1 / 100)
    let fwd := min fwd (s.src.hard.getD fwd)
    if !s.reverse .trk then min fwd (s.pairLimit.getD fwd)
    else
      -- R80, R81, R137: the input limits, on the rail side
      let v := max 1 (s.get SRC_IN48_MEAS.VOLT)
      let watts := 100000 * clampN 1 100 (s.get SRC_REV.PLIM)
      let side := if s.get SRC_REV.MODE = 1 then min (2500 * v) watts else watts
      min fwd (quot side ((s.mea.last.find 0x04).getD 0)).toNat
  | _ => byBudget

/-- Placement of the switching cells (R123): even spacing in ascending cell number, unless a pick has placed them
and their number has not changed. -/
def State.place (s : State) (b : Block) : State :=
  let l := s.cellsWhere b s.switching
  let k := l.length
  if (s.fleet b).placement.isSome && (s.fleet b).placedFor = k then s
  else
    let t := s.setFleet b (fun f => { f with placement := none, placedFor := k })
    t.each (List.range k) (fun i u =>
      match l[i]? with
      | some n => u.set (CEL_FSW.PHASE n) (quot (i * 65536) k).toNat
      | none => u)

/-- Reports a block's cells and ratings in its registers (R112, R113, R123). -/
def State.report (s : State) (b : Block) : State :=
  let s := s.place b
  match fleetRegs b with
  | none => s.mark PRT_STATUS.BURST (s.burst b)
  | some r =>
    let rating := s.ratingFor b (s.availCells b).length
    let s := s.set r.nSw (s.cellsWhere b s.switching).length
    let s := s.set r.nAvail (s.availCells b).length
    let s := s.set r.nSet (s.activeSet b).length
    let s := s.set r.spares (s.candidates b).length
    let s := s.mark r.ramping (s.fleet b).ramp.isSome
    let s := s.set r.parked (cellBits r.base (s.cellsWhere b s.isParked))
    let s := s.set r.spare (cellBits r.base (s.cellsWhere b (fun n => s.cellState n == 1)))
    let s := s.set r.serving (cellBits r.base (s.cellsWhere b s.serves))
    let s := s.set r.cont rating.1
    let s := s.set r.short rating.2
    let s := s.mark r.overload (decide ((rating.1 : Int) < s.blockCurrent b))
    let s := s.mark r.burst (s.burst b)
    match b with
    | .trk =>
      let s := s.set TRK_LIMIT.EFF (s.effLimit .trk)
      let f := s.fleet .trk
      match f.ramp with
      | some p => ((s.set TRK_REENTRY.CELL p.cell).set TRK_REENTRY.RETRY ((f.tries.find p.cell).getD 0)).set TRK_REENTRY.PERIODS p.periods
      | none => ((s.set TRK_REENTRY.CELL 0xF).set TRK_REENTRY.RETRY 0).set TRK_REENTRY.PERIODS 0
    | _ => s.set CHB_MAP.RAMP_CELL ((s.rampCell .chb).getD 0x1F)

/-- The reference that the block regulates at, uV: v_ref with the trims of load sharing (R370), or the standby offset
(R371), on the block that regulates the rail. -/
def State.refOf (s : State) (b : Block) : Int :=
  let v := (s.fleet b).vref
  let p := s.get SRC_STATUS.PRIMARY
  let mine := match b with
    | .trk => p == 1 && !s.reverse .trk
    | .chb => p == 3
    | .prt => false
  let ps := s.pairState
  let span : Int := 1000 * (clampN 0 100 (s.get SEL_SHARE.TRIM_SPAN))
  if !s.hasSel || !mine || ps = 0 || ps = 3 then v
  else if ps = 4 then quot (v * (1000 - (clampN 5 50 (s.get SEL_CTRL.SB_OFFSET) : Int))) 1000
  else v + clampZ (-span) span (s.sel.aTrim + s.sel.dTrim)

/-! ### Frequency -/

/-- The frequency target of a cell, 0.1 Hz (R93). -/
def State.target (s : State) (n : Nat) : Nat := (s.cell n).target.getD (s.fswOf n)

/-- The synchronized target of a block, if it is used (R100): 150 kHz to 1 MHz, 0.1 Hz. -/
def State.syncGoal (s : State) (b : Block) : Option Nat :=
  let mul := s.get (blockField b TRK_MODCFG.SYNC_MUL)
  let div := max 1 (s.get (blockField b TRK_MODCFG.SYNC_DIV))
  let f := s.get GLB_SYNC.FMEAS * 10000 * mul / div
  if s.mod.syncOk && s.is GLB_SYNC.SYNC_EN && decide (mul ≠ 0) && decide (1500000 ≤ f) && decide (f ≤ 10000000) then some f
  else none

/-- What a cell's target moves to (R100, R109). -/
def State.goal (s : State) (n : Nat) : Nat :=
  let free := (s.syncGoal (blockOf n)).getD (s.fswOf n)
  match (s.cell n).gdGoal with
  | some g => min free g
  | none => free

/-- Turns a block off: every cell of it goes OFF (R85), its ramps and its burst end. -/
def State.blockOff (s : State) (b : Block) : State :=
  let t := s.each (s.cellsWhere b (fun _ => true)) (fun n u => (u.moveCell n 0).setCell n (fun c => { c with latched := if b == .trk then c.latched else false }))
  let t := t.setFleet b (fun f => { f with last := none, waits := false, holdOff := false, packet := none, packetLeft := 0, packetFired := false, atEntry := [], ramp := none, queue := [], lost := [], leaving := [], swaps := [], lowSince := none, satSince := [], droopSince := none, returning := false, starting := false })
  let t := t.each (blockCells b) (fun n u => ((u.mark (CEL_STATUS.BURST n) false).mark (CEL_STATUS.TRUNC n) false).mark (CEL_STATUS.CBC n) false)
  let t := match fleetRegs b with
    | some r => (t.mark r.enabled false).mark r.ilimit false
    | none => t
  t.report b

end Sys2Proof.Machine
end

