-- ==== Sys2Proof/Machine/Weft.lean ====
section
/-!
DEFINITION. Warp tracks, picks and weft tables: the shared operations of chapter 07 (R170 to R197).
-/

namespace Sys2Proof.Machine

/-! ### Tracks (R170 to R178) -/

/-- The Warp unit runs (R179). -/
def State.warpRuns (s : State) : Bool := s.hasWrp && s.fullService && s.is WRP_CTRL.EN && decide (s.mode < 2)

/-- The Reed runs (R179). -/
def State.reedRuns (s : State) : Bool := s.hasWrp && s.fullService && s.is RED_CTRL.EN && decide (s.mode < 2)

/-- A track beside its registers. -/
def State.track (s : State) (t : Nat) : Track := (s.red.tracks.find t).getD {}

/-- The machine with a track changed. -/
def State.setTrack (s : State) (t : Nat) (g : Track → Track) : State :=
  { s with red := { s.red with tracks := s.red.tracks.put t (g (s.track t)) } }

/-- State code of a track: 0 OFF, 1 ACQUIRING, 2 LOCKED, 3 FLYWHEEL. -/
def State.trackState (s : State) (t : Nat) : Nat := s.get (WRP_T_STATE.LOCK t)

/-- Sets a track's state, with the live bits of `WRP_LOCK`. -/
def State.setTrackState (s : State) (t code : Nat) : State :=
  let u := s.set (WRP_T_STATE.LOCK t) code
  let u := u.set WRP_LOCK.LOCKED (setBitTo (u.get WRP_LOCK.LOCKED) t (code == 2))
  u.set WRP_LOCK.ACTIVE (setBitTo (u.get WRP_LOCK.ACTIVE) t (code != 0))

/-- Edges per revolution of a track: N (R170); 1 for a track of stamps. -/
def State.edges (s : State) (t : Nat) : Nat := if s.get (WRP_T_CFG.SRC t) = 1 then s.get (WRP_T_CFG.NM1 t) + 1 else 1

/-- Phase of a track at a `SYSTIME` value (R172). -/
def Track.phaseAt (x : Track) (time : Nat) : Nat := x.phase + x.inc * (time - x.since)

/-- Phase at a time not later than now, which may lie before the last correction (R175, R177). -/
def Track.phaseThen (x : Track) (time : Nat) : Nat :=
  if x.since ≤ time then x.phaseAt time
  else
    match x.past.find? (fun p => decide (p.1 ≤ time)) with
    | some (t0, p, i) => p + i * (time - t0)
    | none => x.phase - x.inc * (x.since - time)

/-- The accumulator runs on from now with a new increment (R172, R175). -/
def Track.setInc (x : Track) (now inc : Nat) : Track :=
  { x with phase := x.phaseAt now, since := now, inc := inc, past := (x.since, x.phase, x.inc) :: x.past.filter (fun p => decide (now < p.1 + 200000)) }

/-- Angle of a phase, turn units (R172). -/
def angleOf (phase : Nat) : Nat := phase / 2 ^ 32 % 65536

/-- The track's angle now. -/
def State.trackAngle (s : State) (t : Nat) : Nat := angleOf ((s.track t).phaseAt s.time)

/-- A speed lies within 0.5 to 2,000 rev/s (R174); it is given in revolutions per 2.5 ns. -/
def speedOk (num den : Nat) : Bool := decide (den ≤ 800000000 * num) && decide (400000000 * num ≤ 2000 * den)

/-- Increment per 10 ns for a speed and a factor in 1/65536 (R172, R175). -/
def incOf (num den factor : Nat) : Nat := (quot (2 ^ 50 * num * factor) (den * 65536)).toNat

/-- The reported speed, 0.001 rev/s. -/
def speedCode (num den : Nat) : Nat := (quot (num * 400000000000) den).toNat

/-- Duration of a whole revolution in counts of `SYSTIME`. -/
def Track.revolution (x : Track) : Nat := ceilDiv x.wDen (4 * max 1 x.wNum)

/-- Expected interval in 2.5 ns (R175, R176). -/
def State.expected (s : State) (t : Nat) : Nat :=
  let x := s.track t
  let part := if s.get (WRP_T_CFG.SRC t) = 1 then 65536 / (s.edges t) else x.covered
  x.wDen * part / (max 1 x.wNum * 65536)

/-! ### Weft tables (R190 to R196) -/

/-- A weft table beside its entries. -/
def State.weft (s : State) (t : Nat) : Weft := (s.red.wefts.find t).getD {}

/-- The machine with a weft table changed. -/
def State.setWeft (s : State) (t : Nat) (g : Weft → Weft) : State :=
  { s with red := { s.red with wefts := s.red.wefts.put t (g (s.weft t)) } }

/-- F_t at a time, in 2^-16 (R194; log entry 20). -/
def Weft.value (x : Weft) (time : Nat) : Nat :=
  if x.fadeLen = 0 then x.fade
  else
    let d := min (time - x.fadeAt) x.fadeLen
    if x.fadeUp then min 65536 (x.fade + 65536 * d / x.fadeLen)
    else x.fade - x.fade * d / x.fadeLen

/-- A table's state: 0 EMPTY, 1 LEARNING, 2 LEARNED, 3 LOADED, 4 STALE, 5 ABORTED. -/
def State.lstate (s : State) (t : Nat) : Nat := s.get (RED_W_STATUS.LSTATE t)

/-- A table contributes (R193): active with contents, or still fading out after an abort (R198). -/
def State.contributes (s : State) (t : Nat) : Bool :=
  let l := s.lstate t
  let x := s.weft t
  let holds := l == 1 || l == 2 || l == 3 || (l == 5 && x.fadeLen != 0 && !x.fadeUp)
  holds && (s.is (RED_W_CFG.ACT t) || (x.fadeLen != 0 && !x.fadeUp))

/-- Reports the fades and the contributing tables (`RED_STATUS`, R193, R194). -/
def State.weftReport (s : State) : State :=
  let u := s.each (List.range 16) (fun t v => v.set (RED_W_STATUS.FADE t) ((v.weft t).value v.time * 255 / 65536))
  let on := (List.range 16).filter (fun t => u.contributes t && decide (0 < (u.weft t).value u.time))
  (u.set RED_STATUS.WEFT_MASK (cellBits 0 on)).set RED_STATUS.WEFT_N on.length

/-- Starts a fade of a table over one revolution of its track (R194). -/
def State.fadeWeft (s : State) (t : Nat) (up : Bool) : State :=
  let now := (s.weft t).value s.time
  if !up && now = 0 then s.setWeft t (fun x => { x with fade := 0, fadeLen := 0, fadeUp := false })
  else
    let len := max 1 (s.track t).revolution
    (s.setWeft t (fun x => { x with fade := if up then 0 else now, fadeAt := s.time, fadeLen := len, fadeUp := up })).weftReport

/-- Fades a table in when it is to contribute: `ACT` set on a LOCKED track with contents (R194, R195). -/
def State.fadeIn (s : State) (t : Nat) : State :=
  if s.is (RED_W_CFG.ACT t) && s.trackState t == 2 && (s.lstate t == 2 || s.lstate t == 3) then s.fadeWeft t true else s

/-- Ends a learning without changing its table (R192). -/
def State.abortTable (s : State) (t cause : Nat) : State :=
  if (s.weft t).learn = 0 then s
  else
    let u := s.setWeft t (fun x => { x with learn := 0, bins := [], rev := [], revs := 0, marks := [] })
    let u := ((u.set (RED_W_CFG.LEARN t) 0).set (RED_W_STATUS.LSTATE t) 5).set (RED_W_STATUS.ACAUSE t) cause
    (u.set (RED_W_STATUS.REVS t) 0).raise RED_FLAGS.LEARN_ABORT

/-- Ends every running learning: causes 1 LOCK to 6 SAMPLES of R192; SOURCE ends only those that have begun. -/
def State.abortLearn (s : State) (cause : Nat) : State :=
  s.each (List.range 16) (fun t u => if cause = 2 && (u.weft t).learn ≠ 2 then u else u.abortTable t cause)

/-- Requests a learning of a table (R191): 1 FRESH, 2 REFINE. An active table fades out before FRESH. -/
def State.requestLearn (s : State) (t mode : Nat) : State :=
  if (s.weft t).learn ≠ 0 then s
  else
    let u := s.setWeft t (fun x => { x with learn := 1, revPhase := (s.track t).phaseAt s.time })
    let u := ((u.set (RED_W_CFG.LEARN t) mode).set (RED_W_STATUS.LSTATE t) 1).set (RED_W_STATUS.ACAUSE t) 0
    if mode = 1 && u.is (RED_W_CFG.ACT t) then u.fadeWeft t false else u

/-- Entry e of table t at a window base: signed, 10 mA (R190). -/
def State.entry (s : State) (base t e : Nat) : Int :=
  signed 16 ((s.win.get (base + 128 * t + 4 * (e / 2))).toNat / 2 ^ (16 * (e % 2)))

/-- w_t at an angle, in 10 mA times 1024 (R193). -/
def State.weftAt (s : State) (t angle : Nat) : Int :=
  let e := angle / 1024 % 64
  let f : Int := angle % 1024
  s.entry 0xD000 t e * (1024 - f) + s.entry 0xD000 t ((e + 1) % 64) * f

/-- Sum of the running CHG_REF_ADD steps, 10 mA (R193). -/
def State.stepSum (s : State) : Int := s.red.steps.foldl (fun acc p => acc + p.2.1) 0

/-- The weft term of R143 before the cuts of R196, 10 mA: `vin` and `vpack` are the 1 ms averages in 10 mV. -/
def State.weftTerm (s : State) (vin vpack : Nat) : Int :=
  let p := s.get SRC_STATUS.PRIMARY
  if !s.is RED_CTRL.WEFT_EN || !s.reedRuns || (p != 1 && p != 2) then 0
  else
    let sum := ((List.range 16).filter s.contributes).foldl (fun (acc : Int) t =>
      let x := s.track t
      let lead := (quot (x.wNum * s.get (RED_W_CFG.LEAD t) * 400 * 65536) x.wDen).toNat
      acc + (s.weft t).value s.time * s.weftAt t ((s.trackAngle t + lead) % 65536)) 0
    let g := max 0 (s.getZ RED_WEFT.GAIN)
    let wmax : Int := clampN 10 6000 (s.get RED_WEFT.WMAX)
    clampZ (-wmax) wmax (quot (-(g * vin * sum)) (vpack * (2 ^ 15 * 1024 * 65536)) + s.stepSum)

/-! ### Loss of a track (R176) -/

/-- A LOCKED track is lost: FLYWHEEL for one revolution at the last speed; its table fades and, with several
edges per revolution, becomes STALE; a learning ends (R176, R192, R194, R195). -/
def State.loseTrack (s : State) (t : Nat) (slip : Bool) : State :=
  if s.trackState t ≠ 2 then s
  else
    let u := s.abortTable t 1
    let u := (u.setTrackState t 3).raiseBit WRP_FLAGS.LOST t
    let u := u.onlyIf slip (fun v => v.raiseBit WRP_ERR.SLIP t)
    let u := u.setTrack t (fun x => { x.setInc s.time (incOf x.wNum x.wDen 65536) with flyEnd := some (s.time + x.revolution), times := [], count := 0, short := 0, seen := none })
    let u := u.fadeWeft t false
    if s.edges t > 1 && u.lstate t ≠ 5 then (u.set (RED_W_STATUS.LSTATE t) 4).raise RED_FLAGS.STALE else u

/-- A track is switched OFF or starts to acquire anew (R170, R179). -/
def State.restartTrack (s : State) (t : Nat) : State :=
  let on := s.warpRuns && s.get (WRP_T_CFG.SRC t) != 0
  let u := s.setTrackState t (if on then 1 else 0)
  let u := u.setTrack t (fun x => { x with times := [], count := 0, short := 0, seen := none, flyEnd := none, phase := x.phaseAt s.time, since := s.time, inc := 0 })
  (u.wr (WRP_T_SPEED.addr t) 0)

/-- Every track OFF: the Warp unit stops (R179). -/
def State.stopWarp (s : State) : State :=
  s.each (List.range 16) (fun t u => ((u.loseTrack t false).setTrackState t 0).wr (WRP_T_SPEED.addr t) 0)

/-- Every track with a source starts to acquire: the Warp unit starts (R179). -/
def State.startWarp (s : State) : State := s.each (List.range 16) (fun t u => u.restartTrack t)

/-! ### Picks (R180 to R188) -/

/-- Window address of a word of a pick slot (R180). -/
def pickAddr (slot w : Nat) : Nat := 0xC000 + 16 * slot + 4 * w

/-- Word w of a pick slot. -/
def State.pickWord (s : State) (slot w : Nat) : Nat := (s.win.get (pickAddr slot w)).toNat

/-- A slot is armed. -/
def State.armed (s : State) (slot : Nat) : Bool := bitOf (s.pickWord slot 0) 31

/-- A slot is allocated to a context by PICK (R266, R267). -/
def State.allocated (s : State) (slot : Nat) : Bool := s.lom.ctxs.any (fun e => e.2.picks.contains slot)

/-- Stores a word of a window. -/
def State.putWin (s : State) (a : Nat) (v : Word) : State := { s with win := s.win.set a v }

/-- Counts the armed slots (`RED_STATUS.PICKS`). -/
def State.pickReport (s : State) : State := s.set RED_STATUS.PICKS ((List.range 256).filter s.armed).length

/-- Arms a slot for an owner with the values of its four words: FIRES, LATE and DENIED start at zero; an ANGLE
pick looks at crossings from now on; a TIME pick is due at the first value at or after now whose low 32 bits
equal TIME (R181, R183, R184). -/
def State.armPick (s : State) (slot owner : Nat) (w0 w1 w2 w3 : Word) : State :=
  let a := (w0 &&& 0x7FC0FFFF#32) ||| BitVec.ofNat 32 (2 ^ 31 + owner * 2 ^ 19)
  let time := s.time + (w1.toNat + 2 ^ 32 - s.time % 2 ^ 32) % 2 ^ 32
  let t := w0.toNat / 2 ^ 22 % 16
  let w1m := if bitOf w0.toNat 29 then w1 else w1 &&& 0x3F#32
  let u := (((s.putWin (pickAddr slot 0) a).putWin (pickAddr slot 1) w1m).putWin (pickAddr slot 2) w2).putWin (pickAddr slot 3) (w3 &&& 0xFFFF0000#32)
  let u := { u with red := { u.red with picks := u.red.picks.put slot { seen := (s.track t).phaseAt s.time, due := time } } }
  u.pickReport

/-- A placement that a slot's pick set ends; the block spaces its cells evenly (R123, R188). -/
def State.dropPlacement (s : State) (slot : Nat) : State :=
  s.each [Block.trk, Block.chb, Block.prt] (fun b u =>
    match (u.fleet b).placement with
    | some (p, _) => if p = slot then (u.setFleet b (fun f => { f with placement := none })).place b else u
    | none => u)

/-- Disarms a slot: EN cleared; its placement ends (R181, R188, R266). -/
def State.disarmPick (s : State) (slot : Nat) : State :=
  ((s.putWin (pickAddr slot 0) (s.win.get (pickAddr slot 0) &&& 0x7FFFFFFF#32)).dropPlacement slot).pickReport

/-- Sets or clears a status bit of word 3 of a slot. -/
def State.pickFlag (s : State) (slot bit : Nat) (v : Bool) : State :=
  s.putWin (pickAddr slot 3) (BitVec.ofNat 32 (setBitTo (s.pickWord slot 3) bit v))

/-- The block code of PARAM [31:30] (R186). -/
def blockCode : Nat → Option Block
  | 0 => some .trk
  | 1 => some .chb
  | 2 => some .prt
  | _ => none

/-- The number of a block. -/
def blockNum : Block → Nat
  | .trk => 0
  | .chb => 1
  | .prt => 2

/-- Opens or extends a keep-out window of `len` counts; none where it would pass 2 us after its opening (R187). -/
def State.openKeepOut (s : State) (b : Block) (len : Nat) : Option State :=
  let put := fun (k : KeepOut) => { s with red := { s.red with keep := s.red.keep.put (blockNum b) k } }
  match s.red.keep.find (blockNum b) with
  | some k =>
    if k.isOpen && decide (s.time < k.ends) then
      if k.opened + 200 < s.time + len then none else some (put { k with ends := max k.ends (s.time + len) })
    else some (put { k with opened := s.time, ends := s.time + len, isOpen := true })
  | none => some (put { opened := s.time, ends := s.time + len })

/-- SET_INTERLEAVE (R186 to R188). -/
def State.setInterleave (s : State) (slot param : Nat) : State :=
  match blockCode (param / 2 ^ 30) with
  | none => s
  | some b =>
    let width := min 100 (param / 2 ^ 20 % 128)
    let opened := if width = 0 then some s else s.openKeepOut b width
    match opened with
    | none => s.raise RED_FLAGS.KEEP_DROP
    | some u =>
      let l := u.cellsWhere b u.switching
      let n := l.length
      let st := max 1 (param / 2 ^ 27 % 8)
      let stride := if Nat.gcd st n = 1 then st else 1
      let u := u.setFleet b (fun f => { f with placement := some (slot, BitVec.ofNat 32 param), placedFor := n })
      u.each (List.range n) (fun i v =>
        match l[i]? with
        | some c => v.set (CEL_FSW.PHASE c) ((param % 65536 + (quot (((i * stride) % n) * 65536 : Nat) n).toNat) % 65536)
        | none => v)

/-- The action of a pick (R186). -/
def State.pickAction (s : State) (slot : Nat) : State :=
  let w0 := s.pickWord slot 0
  let param := s.pickWord slot 2
  let owner := w0 / 2 ^ 19 % 8
  let action := w0 / 2 ^ 26 % 8
  if action = 1 then s.setInterleave slot param
  else if action = 2 then
    let hold := max 1 (param / 65536)
    let steps := s.red.steps.filter (fun p => p.1 != slot)
    { s with red := { s.red with steps := steps ++ [(slot, signed 16 param, s.time + us hold)] } }
  else if action = 3 then
    let adc := if param / 2 ^ 30 = 3 then 0 else param / 2 ^ 30
    let w : SampleWait := { slot := slot, adc := adc, mask := param / 2 ^ 27 % 8, tag := param / 2 ^ 16 % 256, ch := param % 256, at_ := s.time }
    { s with red := { s.red with samples := s.red.samples ++ [w] } }
  else if action = 4 then
    let c := param % 128
    if s.cstate c ≠ 0 && s.cget (CTX.OWNER c) = owner then s.event c 0
    else (s.pickFlag slot 10 true).raise RED_FLAGS.DENIED
  else if action = 5 then s.enter { target := .shed (param % 8), master := owner, val := 1, origin := .pick slot }
  else if action = 6 then s.enter { target := .shed (param % 8), master := owner, val := 0, origin := .pick slot }
  else
    let u := if s.red.marks.length < 16 then { s with red := { s.red with marks := s.red.marks ++ [(s.time % 2 ^ 32, param / 2 ^ 24, slot)] } } else s.raise RED_FLAGS.MARK_OVF
    if bitOf param 23 && u.is SAF_STATUS.TEST_ACT then { u with red := { u.red with dtestUntil := some (u.time + 2) } } else u

/-- A pick fires (R180, R183 to R185): the counters, LATE, the action, and EN cleared for a one-shot pick. -/
def State.firePick (s : State) (slot : Nat) (late : Bool) : State :=
  let w3 := s.pickWord slot 3
  let u := s.putWin (pickAddr slot 3) (BitVec.ofNat 32 (w3 / 256 * 256 + (w3 + 1) % 256))
  let u := ((u.pickFlag slot 11 late).pickFlag slot 10 false).count RED_CNT.FIRE_CNT
  let u := u.onlyIf late (fun v => (v.raise RED_FLAGS.LATE).count RED_CNT.LATE_CNT)
  let u := u.pickAction slot
  if bitOf (s.pickWord slot 0) 30 then u
  else (u.putWin (pickAddr slot 0) (u.win.get (pickAddr slot 0) &&& 0x7FFFFFFF#32)).pickReport

/-- The phase of the first crossing of an ANGLE pick after a phase (R183): REP + 1 evenly spaced angles. -/
def nextCrossing (angle rep from_ : Nat) : Nat :=
  let rev := from_ / 2 ^ 48
  let marks := (List.range (rep + 1)).map (fun j => (angle + (nearest (j * 65536 : Nat) (rep + 1 : Nat)).toNat) % 65536)
  let all := marks.map (fun a =>
    let p := rev * 2 ^ 48 + a * 2 ^ 32
    if from_ < p then p else p + 2 ^ 48)
  all.foldl min (from_ + 2 ^ 48)

/-- Enters LOCKED (R174): the accumulator is set once to the angle of the locking edge or stamp and runs on from its
time stamp; the picks of the track start at this phase (R183); an active table fades in (R194), a STALE one is learned
anew with RELEARN (R195). -/
def State.enterLock (s : State) (t stamp angle : Nat) : State :=
  let x := s.track t
  let base := (x.phaseAt s.time / 2 ^ 48 + 1) * 2 ^ 48 + angle * 2 ^ 32
  let inc := incOf x.wNum x.wDen 65536
  let phase := base + inc * (s.time - stamp / 4)
  let u := (s.setTrackState t 2).raiseBit WRP_FLAGS.LOCK t
  let u := u.setTrack t (fun y => { y with phase := phase, since := s.time, inc := inc, past := [], lockAt := s.time, lockPhase := phase, flyEnd := none, short := 0 })
  let u := u.onlyIf ((u.weft t).learn == 1) (fun v => v.setWeft t (fun w => { w with revPhase := phase }))
  let u := u.wr (WRP_T_SPEED.addr t) (BitVec.ofNat 32 (speedCode x.wNum x.wDen))
  let mine := (List.range 256).filter (fun p => u.armed p && !bitOf (u.pickWord p 0) 29 && u.pickWord p 0 / 2 ^ 22 % 16 == t)
  let u := u.each mine (fun p v => { v with red := { v.red with picks := v.red.picks.put p { (v.red.picks.find p).getD {} with seen := phase } } })
  if u.lstate t = 4 && u.is (RED_W_CFG.RELEARN t) then u.requestLearn t 1 else u.fadeIn t

end Sys2Proof.Machine
end

