-- ==== Sys2Proof/Machine/Power.lean ====
section
/-!
DEFINITION. Shared operations of the power path: the charge engine's state changes and pauses, the pack's
availability, the switches, and turning a source or a block on and off (R54 to R63, R137, R142 to R166, R327,
R346, R471).
-/

namespace Sys2Proof.Machine

/-! ### The charge engine -/

/-- State of the charge engine (R148). -/
def State.chgState (s : State) : Nat := s.get CHG_STATUS.STATE

/-- The charging states TRICKLE, PRECHARGE, CC and CV (R148). -/
def chargingState (c : Nat) : Bool := decide (2 ≤ c) && decide (c ≤ 5)

/-- Range of `CELLS` of a chemistry (R146). -/
def cellsRange (chem : Nat) : Nat × Nat :=
  if chem = 1 then (1, 6) else if chem = 2 then (1, 7) else if chem = 3 then (3, 18) else (1, 1)

/-- Range of `CV` of a chemistry (R146); NiMH uses none. -/
def cvLimits (chem : Nat) : Nat × Nat :=
  if chem = 1 then (3400, 4400) else if chem = 2 then (3450, 3650) else if chem = 4 then (1000, 27000) else (0, 65535)

/-- A valid chemistry is selected (R146). -/
def State.chemValid (s : State) : Bool := !chemNone (s.get CHG_CTRL.CHEM)

/-- `CELLS` or `CV` lies outside the chemistry's range (R147). -/
def State.chgBad (s : State) : Bool :=
  let chem := s.get CHG_CTRL.CHEM
  let n := s.get CHG_CTRL.CELLS
  let cv := s.get CHG_CV.CV
  s.chemValid && (decide (n < (cellsRange chem).1) || decide ((cellsRange chem).2 < n) ||
    decide (cv < (cvLimits chem).1) || decide ((cvLimits chem).2 < cv))

/-- `CELLS` as a divisor: 1 where nothing is configured. -/
def State.chgCells (s : State) : Nat := max 1 (s.get CHG_CTRL.CELLS)

/-- The rail reference V_rr of R145 in 10 mV: the trunk target while TRK is primary, else the measured rail. -/
def State.railRefV (s : State) (rail : Nat) : Nat :=
  if s.get SRC_STATUS.PRIMARY = 1 then s.get TRK_REF.TARGET else rail

/-- Rail voltage of the last conversion of channel 0x04, 10 mV. -/
def State.railV (s : State) : Nat := (s.mea.last.find 0x04).getD 0

/-- The programmed CV with the watchdog overlay and JEITA WARM, mV per cell (R146, R150, R156). -/
def State.cvProgram (s : State) : Nat :=
  let chem := s.get CHG_CTRL.CHEM
  let cv := s.get CHG_CV.CV
  let safe := if chem = 1 then 3400 else if chem = 2 then 3450 else (quot (cv * 80 : Nat) 100).toNat
  let a := if s.is CHG_STATUS.WDG_SAFE && decide (chem ≠ 3) then min cv safe else cv
  if s.get CHG_STATUS.JEITA = 3 then a - 100 else a

/-- The effective CV target in mV for the whole pack, clamped by the headroom rule (R145 (a)). -/
def State.cvEffPack (s : State) : Nat :=
  min (s.cvProgram * s.chgCells) (10 * (s.railRefV s.railV - 100))

/-- The clamp of R145 (a) acts. -/
def State.headroomClamps (s : State) : Bool :=
  decide (10 * (s.railRefV s.railV - 100) < s.cvProgram * s.chgCells)

/-- Effective recharge threshold in mV for the whole pack (R147). -/
def State.rechgPack (s : State) : Nat :=
  let chem := s.get CHG_CTRL.CHEM
  let r := s.get CHG_CV.RECHG * s.chgCells
  if chem = 3 then r else min r (s.cvEffPack - 50 * s.chgCells)

/-- The programmed current of a charging state, 10 mA; TRICKLE in whole mA is kept in tenths (R148, R153). The
unit of this value is 1 mA. 0 is the zero current of R234 and R239. -/
def State.programmed (s : State) (st : Nat) : Nat :=
  if st = 2 then (if s.get CHG_CC.TRICKLE = 0 then 0 else clampN 50 500 (s.get CHG_CC.TRICKLE))
  else if s.get CHG_CC.CC = 0 then 0
  else if st = 3 then clampN 5 6000 (s.get CHG_CC.CC)
  else 10 * clampN 5 6000 (s.get CHG_CC.CC)

/-- Pack temperature, 1/16 C. -/
def State.packTemp (s : State) : Int := s.getZ CHG_TEMP.TPACK

/-- A pause cause holds (R148); code of `PAUSE`, 0 for none, the lowest of those that hold. -/
def State.pauseCause (s : State) : Nat :=
  let chem := s.get CHG_CTRL.CHEM
  let chk := s.is CHG_CTRL.NTC_CHK
  let zone := s.get CHG_STATUS.JEITA
  let jeita := chem = 1 || chem = 2
  let kept := if s.chgState = 8 then s.chg.kept else s.chgState
  let t := s.packTemp
  if jeita && zone = 0 then 1
  else if jeita && zone = 4 then 2
  else if (chk && s.chg.ntcBad) || (decide (chem = 3) && !s.chg.ntcBad && decide (t < 0)) ||
      (decide (chem = 4) && chk && (decide (t < -640) || decide (1040 < t))) then 3
  else if s.chg.headPause then 4
  else if s.get CHB_STATUS.MODE = 3 || decide ((s.programmed kept : Int) < 10 * s.chg.iShave) then 5
  else if s.regionSafe .south then 6
  else if (s.availCells .chb).length < 3 then 7
  else 0

/-- Ends the job of a ROM program with its result block; its context becomes IDLE (R471). -/
def State.romEnd (s : State) (m r code cause : Nat) (block : List Word) : State :=
  (s.putResult m r block (if code = 5 then some 255 else none) false).endJobStop m r code cause

/-- The contexts that run a given ROM program: master and record of the job. -/
def State.romJobs (s : State) (entry : Nat) : List (Nat × Nat) :=
  s.lom.ctxs.filterMap (fun e =>
    if e.2.rom = some entry then
      match e.2.job with
      | some (m, r) => if (s.job m r).live then some (m, r) else none
      | none => none
    else none)

/-- What a change of the engine's state means for a `charge_run` job (R471). -/
def State.chargeJob (s : State) (code : Nat) (p : Nat × Nat) : State :=
  let j := s.job p.1 p.2
  let blk := s.chargeBlock j
  let startOnly := (j.args.getD 3 0).toNat.testBit 1
  if code = 7 || code = 6 || (startOnly && chargingState code) then s.romEnd p.1 p.2 5 0 blk
  else if code = 9 then s.romEnd p.1 p.2 6 (if s.is CHG_FLT.TIMER then 0x05 else 0x0A) blk
  else if code = 10 then s.romEnd p.1 p.2 6 0x06 blk
  else if code = 0 || code = 11 then s.romEnd p.1 p.2 6 0x0A blk
  else s.putResult p.1 p.2 blk (some 0) false

/-- Changes the engine's state (R148), sets PHASE_CHG and informs `charge_run`. -/
def State.chgEnter (s : State) (code : Nat) : State :=
  if s.chgState = code then s
  else
    let t := ((s.set CHG_STATUS.STATE code).mark CHG_STATUS.PACK_ABSENT (code == 10)).raise CHG_FLAGS.PHASE_CHG
    let t := if chargingState code || code == 6 then t else { t with chg := { t.chg with iPhase := 0 } }
    let t := t.onlyIf (code != 8) (fun u => u.set CHG_STATUS.PAUSE 0)
    let t := t.onlyIf (code == 5) (fun u => { u with chg := { u.chg with termSince := none } })
    let t := t.onlyIf (code == 4) (fun u => { u with chg := { u.chg with ccSince := some (u.chg.ccSince.getD u.time) } })
    t.each (t.romJobs 0xFF01) (fun p u => u.chargeJob code p)

/-- Enters a charging state, through PAUSED when a pause cause holds (R148). -/
def State.chgStart (s : State) (code : Nat) : State :=
  let t := { s with chg := { s.chg with kept := code } }
  let c := t.pauseCause
  if c ≠ 0 && chargingState code then (t.chgEnter 8).set CHG_STATUS.PAUSE c else t.chgEnter code

/-- A pause cause holds in a charging state: PAUSED with the state kept; in PAUSED the cause is reported
(R148, R166). -/
def State.pauseCharge (s : State) : State :=
  let c := s.pauseCause
  if chargingState s.chgState && c ≠ 0 then
    let t := { s with chg := { s.chg with kept := s.chgState, termSince := none } }
    (t.chgEnter 8).set CHG_STATUS.PAUSE c
  else if s.chgState = 8 && c ≠ 0 then s.set CHG_STATUS.PAUSE c
  else s

/-- The backup set-point (R165): `BACKUP_V`, or the trunk target where it is 0. -/
def State.backupPoint (s : State) : Nat :=
  let v := s.get CHB_BACKUP.BACKUP_V
  if v = 0 then s.get TRK_REF.TARGET else clampN 500 2800 v

/-- The pack is available for reverse (R161); a running backup goes on in the wider temperature range. -/
def State.revAvail (s : State) : Bool :=
  let st := s.chgState
  let running := s.get CHB_STATUS.MODE = 3
  let t := s.packTemp
  let tempOk := !s.is CHG_CTRL.NTC_CHK || (!s.chg.ntcBad &&
    (if running then decide (-480 ≤ t) && decide (t ≤ 1040) else decide (-320 ≤ t) && decide (t ≤ 960)))
  s.fullService && s.chemValid && st != 0 && st != 1 && st != 10 && s.is CHB_STATUS.PACK_G_ON &&
    decide (s.get CHG_AVAIL.REV_MIN ≤ s.get CHG_PACK.VCELL) && tempOk &&
    (running || decide (s.get CHG_PACK.VPACK + 100 ≤ s.backupPoint)) &&
    decide (3 ≤ (s.availCells .chb).length) && s.blockEnabled .chb

/-- Reports the pack's availability (R58, R161, R162). -/
def State.refreshPack (s : State) : State :=
  let rev := s.revAvail
  let shave := rev && decide (s.get CHG_AVAIL.SHAVE_MIN ≤ s.get CHG_PACK.VCELL) &&
    !s.is CHG_STATUS.WDG_SAFE && !s.regionSafe .south
  let t := (s.mark CHG_STATUS.REV_AVAIL rev).mark CHG_STATUS.SHAVE_AVAIL shave
  (t.mark SRC_STATUS.PACK_AVAIL rev).mark SRC_STATUS.PACK_QUAL rev

/-- `PACK_G` opens (R144, R145). -/
def State.openPack (s : State) : State :=
  let t := s.onlyIf (s.is CHB_STATUS.PACK_G_ON) (fun u => (u.mark CHB_STATUS.PACK_G_ON false).raise CHB_FLAGS.PACK_G_OPEN)
  ({ t with chg := { t.chg with nodeAt := none, rampAt := none } } : State).refreshPack

/-- The safety timers are set to zero (R152). -/
def State.resetTimers (s : State) : State :=
  ({ s with chg := { s.chg with tPre := 0, tFast := 0, tTotal := 0 } } : State).wr CHG_ELAPSED.addr 0

/-- The engine enters QUALIFY (R148): timers reset and the 10 ms measurement starts. -/
def State.qualify (s : State) : State :=
  let t := (s.chgEnter 1).resetTimers
  let t := (t.mark CHG_STATUS.THERMAL_LIMITED_AT_EXPIRY false).set CHG_CTRL.ARM 0
  ({ t with chg := { t.chg with qualifyAt := some t.time, absentSeen := false, nodeAt := none, rampAt := none, retryAt := none, ccSince := none, vPeak := 0 } } : State).refreshPack

/-- The engine enters OFF: `PACK_G` open and presence checks off (R148). -/
def State.chgOff (s : State) : State := ((s.chgEnter 0).openPack).set CHG_STATUS.JEITA 7

/-! ### The charge block -/

/-- The direction bit of every cell of a block, and of the block. -/
def State.setDir (s : State) (b : Block) (rev : Bool) : State :=
  let t := s.each (s.cellsWhere b (fun _ => true)) (fun n u => u.mark (CEL_STATUS.DIR n) rev)
  match b with
  | .trk => t.mark TRK_STATUS.DIR rev
  | .chb => t.mark CHB_STATUS.DIR rev
  | .prt => t.mark PRT_STATUS.DIR rev

/-- Every serving cell that sleeps, other than parked ones, switches again (R60, R164). -/
def State.wakeBlock (s : State) (b : Block) : State :=
  let t := s.each (s.cellsWhere b (fun n => s.cellState n == 4 && (s.cell n).sleep != .parked)) (fun n u => u.moveCell n 3)
  let t := t.setFleet b (fun f => { f with packet := none, packetLeft := 0, packetFired := false, atEntry := [] })
  t.report b

/-- Every switching cell goes to SLEEP; the cells stay serving (R122, R141; log entry 11). -/
def State.restBlock (s : State) (b : Block) : State :=
  let t := s.each (s.cellsWhere b (fun n => s.cellState n == 3)) (fun n u => u.sleepCell n .shed)
  let t := t.setFleet b (fun f => { f with packet := none, packetLeft := 0, packetFired := false, atEntry := [], waits := false })
  t.report b

/-- The mode of the charge block (R142): direction by the mode; IDLE sheds every serving cell. -/
def State.chbMode (s : State) (mode : Nat) : State :=
  if s.get CHB_STATUS.MODE = mode then s
  else
    let t := (s.set CHB_STATUS.MODE mode).setDir .chb (decide (2 ≤ mode))
    let t := t.each (blockCells .chb) (fun n u => u.setCell n (fun c => { c with pulse := none, rect := false }))
    if mode = 0 then t.restBlock .chb else t.wakeBlock .chb

/-- The charge block enters BACKUP with a set-point; charging pauses with cause REVERSE (R60, R164). -/
def State.enterBackup (s : State) (volt : Nat) : State :=
  let t := (s.chbMode 3).set CHB_BACKUP.ACT_V volt
  let t := t.setFleet .chb (fun f => { f with vref := 10000 * (volt : Int) })
  ({ t with chg := { t.chg with backupSet := volt, iShave := 0 } } : State).pauseCharge

/-- Backup ends; the charge may resume (R165). -/
def State.leaveBackup (s : State) : State := ((s.chbMode 0).set CHB_BACKUP.ACT_V 0).refreshPack

/-! ### The trunk -/

/-- The trunk carries the rail from a reference in 10 mV (R60). -/
def State.trunkOn (s : State) (volt : Nat) : State :=
  let t := (s.wakeBlock .trk).mark TRK_STATUS.ENABLED true
  (t.setFleet .trk (fun f => { f with vref := 10000 * (volt : Int) })).set TRK_REF.REF volt

/-- The trunk's gates are off; its cells stay serving (R60; log entry 11). -/
def State.trunkOff (s : State) : State := (s.restBlock .trk).mark TRK_STATUS.ENABLED false

/-! ### The port converter (R327) -/

/-- The port converter's mode, with its direction, cells and `VBUS_G`. -/
def State.portMode (s : State) (mode : Nat) : State :=
  if s.get PRT_STATUS.MODE = mode then s
  else
    let t := (s.set PRT_STATUS.MODE mode).setDir .prt (mode != 4 && mode != 0)
    let t := t.mark PRT_STATUS.VBUS_G_ON (mode != 0)
    let t := t.mark SRC_STATUS.VBUS_SINK (mode == 3)
    if mode = 0 then t.blockOff .prt
    else (t.each (blockCells .prt) (fun n u =>
      if u.fitted n && u.cellState n != 5 && u.cellState n != 6 then u.moveCell n 3 else u)).report .prt

/-! ### Sources (R54, R58, R59) -/

/-- Bit of `SRC_STATUS` that reports a source's qualification. -/
def qualField (code : Nat) : Field :=
  if code = 1 then SRC_STATUS.IN48_QUAL else if code = 2 then SRC_STATUS.IN12_QUAL
  else if code = 3 then SRC_STATUS.PACK_QUAL else SRC_STATUS.VBUS_QUAL

/-- In reduced service both ROM cells are out (R416). -/
def State.trunkLost (s : State) : Bool := (s.get GLB_REGION.SERVICE == 1 || s.get GLB_REGION.SERVICE == 3) && !s.serves 0 && !s.serves 5

/-- The trunk is off in STANDBY, or about to be (R402, R403). -/
def State.trunkParked (s : State) : Bool := (s.mode == 2 || s.saf.modeReq == some 2) && !s.is SAF_WAKE_CFG.STB_TRUNK

/-- A source is qualified and has not failed three transfers (R58, R61); TRK not while R416 holds it out, `EN` is 0 or the power
mode keeps it off. -/
def State.qualified (s : State) (code : Nat) : Bool :=
  !s.sel.idleTrunk && !(code == 1 && (s.trunkLost || s.trunkParked || !s.blockEnabled .trk)) && decide (1 ≤ code) && decide (code ≤ 4) && s.is (qualField code) && decide (s.src.fails.find code ≠ some 3)

/-- The priority list (R59): codes 1 to 4 at their first position; the ROM's list in reduced service (R83). -/
def State.prioList (s : State) : List Nat :=
  if s.fullService then
    ([s.get SRC_PRIO.P0, s.get SRC_PRIO.P1, s.get SRC_PRIO.P2, s.get SRC_PRIO.P3].filter
      (fun c => decide (1 ≤ c) && decide (c ≤ 4))).eraseDups
  else [1, 2, 4]

/-- The first qualified source of the list. -/
def State.firstSource (s : State) : Option Nat := s.prioList.find? s.qualified

/-- A voltage event (R68): a search is due after `EVT_SETTLE`. -/
def State.voltageEvent (s : State) : State :=
  { s with src := { s.src with settleAt := some (s.time + ms (10 * max 1 (s.get SRC_CTRL.EVT_SETTLE))) } }

/-- A running search ends without a result and its start is held (R68). -/
def State.holdSearch (s : State) : State :=
  match s.src.search with
  | none => s
  | some _ => ({ s with src := { s.src with search := none, pending := true, draw := 0 } } : State).set SRC_STATUS.SEARCH 4

/-- A source starts to carry the rail from a reference in 10 mV (R60 step 2, R63). -/
def State.turnOn (s : State) (code volt : Nat) : State :=
  if code = 1 then s.trunkOn volt
  else if code = 2 then s.mark SRC_STATUS.GBYP_ON true
  else if code = 3 then s.enterBackup volt
  else if code = 4 then (s.setFleet .prt (fun f => { f with vref := 10000 * (volt : Int) })).portMode (if s.fullService then 2 else 1)
  else s

/-- A source that no longer carries the rail turns off (R60 step 3, R329). -/
def State.turnOff (s : State) (code : Nat) : State :=
  if code = 1 then s.trunkOff
  else if code = 2 then s.mark SRC_STATUS.GBYP_ON false
  else if code = 3 then s.leaveBackup
  else if code = 4 then
    if s.fullService && s.is PRT_CTRL.SINK_ADD && s.is SRC_STATUS.VBUS_QUAL && s.get SRC_STATUS.PRIMARY != 3 then s.portMode 3 else s.portMode 0
  else s

/-- The search timers of a source that becomes primary (R68). -/
def State.becamePrimary (s : State) (code : Nat) : State :=
  let t := s.set SRC_STATUS.PRIMARY code
  let first := !(t.src.been.contains code)
  let t := { t with svc := { t.svc with packSince := if code = 3 then some t.time else none } }
  { t with src := { t.src with been := if first then code :: t.src.been else t.src.been, hist := [], initialAt := if first && (code = 1 || code = 2) then some (t.time + ms 10) else t.src.initialAt, periodAt := some (t.time + ms (1000 * clampN 10 600 (t.get SRC_CTRL.PERIOD))) } }

/-- Aborts a running transfer: the incoming source is turned off (R61, R62). -/
def State.dropXfer (s : State) : State :=
  let x := s.get SRC_STATUS.XFER
  if x = 1 || x = 2 || x = 3 then
    let t := if x = 1 then s else s.turnOff (s.get SRC_STATUS.TARGET)
    (t.set SRC_STATUS.XFER 0).set SRC_STATUS.TARGET 0
  else s

/-- Reverse ends (R80, R81): with a cause REV_FAULT is set. `G48` opens and `MODE` returns to OFF. -/
def State.stopReverse (s : State) (cause : Nat) : State :=
  let ran := s.is SRC_STATUS.REV_ACTIVE
  let t := if ran then
      ((((s.restBlock .trk).setDir .trk false).mark TRK_STATUS.ENABLED false).mark SRC_STATUS.REV_ACTIVE false).mark SRC_STATUS.G48_ON false
    else s
  let t := ((t.set SRC_REV.MODE 0).set TRK_REV.REV_MASK 0).set SRC_REV.CAUSE cause
  let t := { t with src := { t.src with revAt := none } }
  if cause = 0 then t.set SRC_REV.STATE 0 else (t.set SRC_REV.STATE 5).raise SRC_FLAGS.REV_FAULT

/-- A hold-up transfer (R63, R164, R330): the lost path opens; the pack takes the rail when it is available and
`HOLDUP_EN` is 1, else the next qualified source starts. -/
def State.holdUp (s : State) (cause : Nat) : State :=
  let lost := s.get SRC_STATUS.PRIMARY
  let t := s.dropXfer.holdSearch
  let t := if t.is SRC_STATUS.REV_ACTIVE then t.stopReverse 5 else t
  let t := if lost = 1 then (t.trunkOff).mark SRC_STATUS.G48_ON false
    else if lost = 2 then t.mark SRC_STATUS.GBYP_ON false
    else if lost = 4 then t.portMode 0 else t
  let t := ({ t with src := { t.src with need48 := t.src.need48 || (decide (lost = 1) && decide (cause = 3)), need12 := t.src.need12 || decide (lost = 2) } } : State).abortLearn 2
  let t := t.refreshPack
  let toPack := t.is SRC_STATUS.PACK_AVAIL && t.is CHB_CTRL.HOLDUP_EN && t.fullService && decide (lost ≠ 3)
  let dest := if toPack then 3 else (t.prioList.find? (fun c => decide (c ≠ lost) && t.qualified c)).getD 0
  let t := if toPack then
      let u := (t.enterBackup t.backupPoint).raise CHB_FLAGS.HOLDUP
      { u with chg := { u.chg with holdupAt := some u.time } }
    else t.turnOn dest (t.railV)
  let t := (t.onlyIf t.fullService (fun u => u.raise SRC_FLAGS.HOLDUP)).set SRC_STATUS.XFER 4
  let t := ((t.set SRC_XFER.FROM lost).set SRC_XFER.TO dest).set SRC_XFER.CAUSE cause
  (t.becamePrimary dest).voltageEvent

/-- `VBUS` is lost as a source (R58, R330); a hold-up transfer follows when it was primary. -/
def State.vbusLost (s : State) : State :=
  let t := (s.mark SRC_STATUS.VBUS_QUAL false).wr SRC_CEIL_VBUS.addr 0
  if t.get SRC_STATUS.PRIMARY = 4 then t.holdUp 2 else t

/-! ### The port stop (R346) -/

/-- A running `port_role_swap` ends FAILED (R343, R345, R346); SWAP_FAIL is set. -/
def State.swapFail (s : State) (cause : Nat) : State :=
  match s.svc.swap with
  | none => s
  | some w =>
    let t := ({ s with svc := { s.svc with swap := none } } : State).raise SVC_FLAGS.SWAP_FAIL
    match w.job with
    | some (m, r) => t.romEnd m r 6 cause [BitVec.ofNat 32 (t.get SVC_STATUS.POWER_ROLE), BitVec.ofNat 32 (t.get PRT_CONTRACT.VOLT), BitVec.ofNat 32 (t.get PRT_CONTRACT.CURR), BitVec.ofNat 32 w.sent]
    | none => t

/-- The update session ends (R425); its owner is no more. -/
def State.endSession (s : State) : State :=
  let t := ((s.set UPD_STATUS.OWNER 7).set UPD_STATUS.SESSION 0).onlyIf (s.get UPD_STATUS.OWNER == 2) (fun u => u.raise SVC_FLAGS.DFU_SESSION)
  { t with upd := { t.upd with token := 0, idleAt := none, programming := none, pushing := none } }

/-- Every contract and running sequence of the port ends. -/
def State.endContract (s : State) : State :=
  let t := { s with svc := { s.svc with partner := [], offered := [], request := none, contract := none, epr := false, retryAt := none, sinkTxAt := none, transAt := none, recoverAt := none, softAt := none, lowSince := none, highSince := none } }
  let t := ((t.set SVC_STATUS.CONTRACT 0).set SVC_STATUS.PDO 0).set SVC_STATUS.PD_STATE 0
  t.wr PRT_CONTRACT.addr 0

/-- The port stops: converter OFF, `VBUS_G` open, ErrorRecovery for 25 ms, STOPPED (R346). -/
def State.portStop (s : State) : State :=
  let t := (s.swapFail 0x09).endContract
  let wasPrimary := t.get SRC_STATUS.PRIMARY = 4
  let t := (t.portMode 0).mark PRT_STATUS.VBUS_G_ON false
  let t := if wasPrimary || t.is SRC_STATUS.VBUS_QUAL then t.vbusLost else t
  let t := ((t.set SVC_STATUS.TC_STATE 7).set SVC_STATUS.RP_LEVEL 0).mark SVC_STATUS.VCONN_ON false
  let t := { t with svc := { t.svc with stopped := true, recoveryEnd := some (t.time + ms 25), dischargeFor := 0, tryAt := none } }
  t.raise PRT_FLAGS.STOPPED

/-! ### Safe-state actions (R23) -/

/-- Chip safe: every converter off, the input FETs, `GBYP`, `VBUS_G` and `PACK_G` open; a fired crowbar stays
latched. -/
def State.allOff (s : State) : State :=
  let t := ((s.dropXfer.blockOff .trk).blockOff .chb).portMode 0
  let t := (t.blockOff .prt).set CHB_STATUS.MODE 0
  let t := (t.each [SRC_STATUS.G48_ON, SRC_STATUS.G12_ON, SRC_STATUS.GBYP_ON, SRC_STATUS.REV_ACTIVE, PRT_STATUS.VBUS_G_ON] (fun f u => u.mark f false)).openPack
  t.set SRC_STATUS.PRIMARY 0

/-- North Power safe: a slewing rail order resolves REGION_SAFE (R25) and a search is suspended. -/
def State.northSafe (s : State) : State :=
  let t := s.holdSearch
  match t.mod.order with
  | some o => ({ t with mod := { t.mod with order := none } } : State).resolve o 3 false
  | none => t

/-- South Power safe: charging stops and the port stops (R23, R346). -/
def State.southSafe (s : State) : State := s.portStop.pauseCharge.refreshPack

end Sys2Proof.Machine
end

