-- ==== Sys2Proof/Machine/Safe.lean ====
section
/-!
DEFINITION. Escalation: the region safe states and the chip safe state with their actions
(R21 to R26, R395).
-/

namespace Sys2Proof.Machine

/-- Control safe (R23, R192, R194): learnings end with cause SAFE and active tables fade out. -/
def State.controlSafe (s : State) : State :=
  let t := s.abortLearn 4
  t.each ((List.range 16).filter t.contributes) (fun k u => u.fadeWeft k false)

/-- Control safe (R23): every context that exists is frozen at its next boundary. -/
def State.freezeAll (s : State) : State :=
  s.each (List.range 128) (fun c t =>
    if t.cstate c = 0 then t
    else
      (t.setContext c (fun x => { x with frozenControl := true })).freezeSoon c)

/-- The chip safe state (R23, R395): every converter off, `GBYP` and input FETs open; for CLOCK, MEASURE and
ESCALATION a software reset follows 10 us later. A live peer is told by NOTICE SAFE (R377; log entry 56). -/
def State.safeChip (s : State) (code : Nat) : State :=
  let t := s.setFault code
  if t.chipSafe then t
  else
    let t := (((t.notify 2 0).set GLB_REGION.CHIP 1).set SAF_STATUS.CHIP_SAFE 1).allOff
    { t with saf := { t.saf with chipSafeAt := some t.time, chipSafeCode := code } }

/-- Enters a region safe state with the actions of R23; two regions safe at once escalate to the chip
(R21). -/
def State.safeRegion (s : State) (r : Region) : State :=
  if s.regionSafe r then s
  else
    let t := (s.set (regionField r) 3).setFault (regionFault r)
    let t := { t with saf := { t.saf with safeAt := t.saf.safeAt.put (regionFault r) t.time } }
    let t := match r with
      | .north => t.northSafe
      | .south => t.southSafe
      | .control => t.freezeAll.controlSafe
      | .interface => t
    let others := [Region.north, .south, .control, .interface].filter (fun q => t.regionSafe q)
    if 2 ≤ others.length then t.safeChip 6 else t

/-- A trap (R251); context 0 trapping again within 1 s of its restart puts Control in its safe state
(R22). -/
def State.trap (s : State) (c cause arg : Nat) : State :=
  let again := c == 0 && (match s.lom.ctx0Restart with
    | some t => decide (s.time < t + ms 1000)
    | none => false)
  let t := s.trapContext c cause arg
  if again then t.safeRegion .control else t

end Sys2Proof.Machine
end

