-- ==== Sys2Proof/Machine/Sense.lean ====
section
/-!
DEFINITION. Measurement: requests, the arbiter of the two ADCs, and what a delivered code does: the registers it
is reported in, the coulomb count, the presence checks and averages of the pack, the result FIFO, the scan, the
learning bins and the background calibration (R28, R191, R201 to R211, R158, R160, R224).
-/

namespace Sys2Proof.Machine

/-- A channel of R202. -/
def definedChannel (ch : Nat) : Bool :=
  decide (ch ≤ 0x21) || (decide (0x30 ≤ ch) && decide (ch ≤ 0x41)) ||
  (decide (0x50 ≤ ch) && decide (ch ≤ 0x57)) || (decide (0x60 ≤ ch) && decide (ch ≤ 0x68))

/-- Signed value of a 16-bit code (R7). -/
def code16 (code : Nat) : Int := signed 16 code

/-! ### The pack (R144 to R160) -/

/-- Millisecond averages of the pack voltage and current (R148, `CHG_PACK`, `CHG_IPACK`), and the count of R149. -/
def State.packAverage (s : State) : State :=
  if s.time < s.chg.avgFrom + ms 1 || s.chg.numV = 0 then s
  else
    let v := quot s.chg.sumV s.chg.numV
    let t := (s.set CHG_PACK.VPACK (quot v 10).toNat).set CHG_PACK.VCELL (quot v s.chgCells).toNat
    let i := if s.chg.numI = 0 then 0 else quot (10 * s.chg.sumI) s.chg.numI
    let t := if s.chg.numI = 0 then t else t.wr CHG_IPACK.addr (BitVec.ofInt 32 i)
    let low := t.chgState == 5 && decide (s.chg.numI ≠ 0) && decide (i < 10 * (t.get CHG_TERM.I_TERM : Int))
    let since := if low then some (t.chg.termSince.getD t.time) else none
    ({ t with chg := { t.chg with sumV := 0, sumI := 0, numV := 0, numI := 0, avgFrom := t.time, termSince := since } } : State).refreshPack

/-- The presence conditions of R160 for a pack voltage in mV. -/
def State.presenceHolds (s : State) (mv : Int) : Bool :=
  decide (500 ≤ mv) && (!s.is CHG_CTRL.NTC_CHK ||
    (decide (3 * 65536 ≤ 100 * s.chg.ntcX) && decide (100 * s.chg.ntcX ≤ 97 * 65536)))

/-- One presence sample of R158 fails: `mv` in mV, `i` in 10 mA. -/
def State.sampleFails (s : State) (mv i : Int) : Bool :=
  let chem := s.get CHG_CTRL.CHEM
  let n : Int := s.get CHG_CTRL.CELLS
  let step : Int := 10 * n * clampN 5 100 (s.get CHG_PRES.VSTEP)
  let open_ := s.is CHG_CTRL.NTC_CHK && decide (97 * 65536 < 100 * s.chg.ntcX)
  let high := decide (chem ≠ 3) && decide (n * s.get CHG_CV.CV + step < mv)
  let dv := (mv - s.chg.lastV).natAbs
  let di := (i - s.chg.lastI).natAbs
  let jump := decide (step < dv) && (decide (10 * di < s.chg.lastI.natAbs) || decide (di < 50))
  let iref := s.getZ CHB_REF.IREF
  let lost := s.get CHB_STATUS.MODE == 1 && decide (100 ≤ iref) && decide (5 * i < iref) && decide (s.chg.lastV < mv)
  open_ || high || jump || lost

/-- A pack-voltage conversion: the presence sample, the presence count and the average. -/
def State.packVoltage (s : State) (mv : Int) : State :=
  let i := code16 ((s.mea.last.find 0x06).getD 0)
  let st := s.chgState
  let checked := st != 0 && st != 10
  let fails := checked && s.sampleFails mv i
  let here := s.presenceHolds mv
  let since := if here && st == 10 then some (s.chg.presentSince.getD s.time) else none
  let t := s.mark CHG_STATUS.PACK_PRESENT here
  ({ t with chg := { t.chg with failing := if fails then t.chg.failing + 1 else 0, lastV := mv, lastI := i, presentSince := since, absentSeen := t.chg.absentSeen || (st == 1 && !here), sumV := t.chg.sumV + mv, numV := t.chg.numV + 1 } } : State).packAverage

/-! ### The coulomb counter (R209, R210) -/

/-- The counter runs (R210). -/
def State.counting (s : State) : Bool := s.fullService && decide (s.mode < 3)

/-- A charge in nC as a register of mC, saturating. -/
def mC (lo hi nC : Int) : Int := clampZ lo hi (quot nC 1000000)

/-- A pack-current conversion, corrected by `MEA_QCAL` and multiplied by the interval since the previous one. -/
def State.integrate (s : State) (code start : Nat) : State :=
  if !s.counting then s
  else
    match s.mea.qLast with
    | none => { s with mea := { s.mea with qLast := some start } }
    | some t0 =>
      let cur := 10 * code16 code * s.get MEA_QCAL.GAIN + 32768 * s.getZ MEA_QCAL.OFFSET
      let q := quot (cur * ((start : Int) - t0)) (32768 * 100)
      let m := { s.mea with qLast := some start, qNet := s.mea.qNet + q, qIn := s.mea.qIn + q.toNat, qOut := s.mea.qOut + (-q).toNat }
      let t := { s with mea := m }
      let t := t.wr MEA_QCNT.addr (BitVec.ofInt 32 (mC (-2147483647) 2147483647 m.qNet))
      let t := t.wr MEA_QIN.addr (BitVec.ofInt 32 (mC 0 4294967295 m.qIn))
      t.wr MEA_QOUT.addr (BitVec.ofInt 32 (mC 0 4294967295 m.qOut))

/-! ### Thermistors and die sensors (R211, R212) -/

/-- The code of a thermistor input with its pin ratio: 0x8000 for OPEN, SHORT and disabled inputs; input 6 is
`PACK_NTC`, whose type 0 acts as 1. -/
def State.thermistor (s : State) (k code x : Nat) : Nat × State :=
  let type := s.get THM_NTC_CFG.TYPE / 4 ^ k % 4
  let off := decide (type = 0) && decide (k ≠ 6)
  let isOpen := !off && decide (97 * 65536 < 100 * x)
  let short := !off && decide (100 * x < 3 * 65536)
  let t := s.set THM_NTC_CFG.OPEN (setBitTo (s.get THM_NTC_CFG.OPEN) k isOpen)
  let t := t.set THM_NTC_CFG.SHORT (setBitTo (t.get THM_NTC_CFG.SHORT) k short)
  let t := (t.onlyIf isOpen (fun u => u.raise THM_FLAGS.NTC_OPEN)).onlyIf short (fun u => u.raise THM_FLAGS.NTC_SHORT)
  (if off || isOpen || short then 0x8000 else code, t)

/-- T_die: the highest of the eight sensors (R212), signed 1/16 C. -/
def State.dieMax (s : State) : Int :=
  (List.range 8).foldl (fun acc k => max acc (s.getZ (if k % 2 = 0 then THM_DIE.EVEN (k / 2) else THM_DIE.ODD (k / 2)))) (-32768)

/-! ### Delivery -/

/-- Adds a sample to the bin of every running learning (R191). -/
def State.learnSample (s : State) (code : Nat) : State :=
  s.each ((List.range 16).filter (fun t => (s.weft t).learn == 2)) (fun t u =>
    let e := u.trackAngle t / 1024
    u.setWeft t (fun x =>
      let old := x.rev.getD e (0, 0)
      { x with rev := x.rev.set e (old.1 + code16 code * 65536, old.2 + 1) }))

/-- Stores a code where it is reported, whoever asked for it. -/
def State.observe (s : State) (ch code x start : Nat) : Nat × State :=
  if decide (0x0A ≤ ch) && decide (ch ≤ 0x0F) then
    let k := ch - 0x0A
    let (v, t) := s.thermistor k code x
    (v, t.set (if k % 2 = 0 then THM_NTC.EVEN (k / 2) else THM_NTC.ODD (k / 2)) v)
  else if ch = 0x08 then
    let (v, t) := s.thermistor 6 code x
    let t := t.set CHG_TEMP.TPACK v
    (v, { t with chg := { t.chg with ntcBad := decide (v = 0x8000), ntcX := x, zonePlaced := t.chg.zonePlaced && decide (v ≠ 0x8000) } })
  else if decide (0x50 ≤ ch) && decide (ch ≤ 0x57) then
    let k := ch - 0x50
    let t := s.set (if k % 2 = 0 then THM_DIE.EVEN (k / 2) else THM_DIE.ODD (k / 2)) code
    (code, t.setZ THM_STATUS.TDIE_MAX t.dieMax)
  else if ch = 0x05 then (code, s.packVoltage code)
  else if ch = 0x06 then
    let t := { s with chg := { s.chg with sumI := s.chg.sumI + code16 code, numI := s.chg.numI + 1 } }
    (code, t.integrate code start)
  else if ch = 0x01 || ch = 0x03 then
    if (ch = 0x01 && s.get SRC_STATUS.PRIMARY = 1) || (ch = 0x03 && s.get SRC_STATUS.PRIMARY = 2) then (code, s.learnSample code) else (code, s)
  else (code, s)

/-- Scan result k (R206). -/
def State.scanResult (s : State) (pos ch code : Nat) (late : Bool) : State :=
  let t := ((s.set (MEA_SCAN_RES.CODE pos) code).mark (MEA_SCAN_RES.LATE pos) late).set (MEA_SCAN_RES.CH pos) ch
  { t with mea := { t.mea with scanLeft := t.mea.scanLeft.filter (fun k => k != pos) } }

/-- A SAMPLE result enters the FIFO of 32 entries (R206). -/
def State.fifoResult (s : State) (code tag ch start : Nat) (late : Bool) : State :=
  if 32 ≤ s.mea.fifo.length then s.raise MEA_FLAGS.RES_OVF
  else
    let t := { s with mea := { s.mea with fifo := s.mea.fifo ++ [(code, tag, ch, start, late)] } }
    t.set MEA_STATUS.RES_LEFT t.mea.fifo.length

/-- Calibration registers of an ADC: 0 A, 1 B. -/
def adcCal (a : Nat) : Field × Field :=
  if a = 0 then (MEA_ADCA_CAL.GAIN, MEA_ADCA_CAL.OFFSET) else (MEA_ADCB_CAL.GAIN, MEA_ADCB_CAL.OFFSET)

/-- An ADC has failed (R207). -/
def State.adcFailed (s : State) (a : Nat) : Bool := s.is (if a = 0 then MEA_STATUS.FAIL_A else MEA_STATUS.FAIL_B)

/-- A calibration pair (R207): G and O move by a sixteenth; three bad pairs in a row fail the ADC. The factory
values are the words of the calibration area (log entry 4). -/
def State.calPair (s : State) (a z ref : Nat) : State :=
  let (g, o) := adcCal a
  let gm := quot (((ref : Int) - z) * 32768) 49152
  let om : Int := (z : Int) - 0x0800
  let s1 := s.setZ g (s.get g + quot (gm - s.get g) 16)
  let s1 := s1.setZ o (s.getZ o + quot (om - s.getZ o) 16)
  let bad := decide (32768 < 200 * (gm - 32768).natAbs) || decide (8 < om.natAbs)
  let n := if bad then (s.mea.bad.find a).getD 0 + 1 else 0
  let s1 := { s1 with mea := { s1.mea with bad := s1.mea.bad.put a n, pairAt := s1.mea.pairAt.put a s.time } }
  if n = 3 then
    ((s1.mark (if a = 0 then MEA_STATUS.FAIL_A else MEA_STATUS.FAIL_B) true).raise MEA_FLAGS.ADC_FAIL).degrade .control
  else s1

/-- Delivers a result to its asker (R204, R206, R207, R268). -/
def State.deliver (s : State) (c : Conversion) (a code x start : Nat) (late real : Bool) : State :=
  let (v, t) := if real then s.observe c.ch code x start else (code, s)
  let t := if real then { t with mea := { t.mea with last := t.mea.last.put c.ch v } } else t
  let t := t.onlyIf late (fun u => u.raise MEA_FLAGS.LATE)
  match c.asker with
  | .protect => t
  | .charge => if c.ch = 0x09 then t.set CHG_PRES.ID_MEAS (min 255 (quot (v : Nat) 100).toNat) else t
  | .sample tag _ => t.fifoResult v tag c.ch start late
  | .ctx k tag =>
    let w0 := BitVec.ofNat 32 (v * 65536 + tag * 256 + c.ch)
    let w1 := BitVec.ofNat 32 (start % 2 ^ 32 / 2 * 2 + if late then 1 else 0)
    (t.freeSlot (tag % 64)).storeResult k tag w0 w1
  | .scan pos => t.scanResult pos c.ch v late
  | .calib =>
    if c.ch = 0x66 then { t with mea := { t.mea with zero := t.mea.zero.put a v } }
    else t.calPair a ((t.mea.zero.find a).getD 0x0800) v

/-- With both ADCs failed every pending request is answered with code 0 and LATE, and the chip enters its safe
state with MEASURE (R224). -/
def State.bothFailed (s : State) : State :=
  let rs := s.mea.requests
  let t := { s with mea := { s.mea with requests := [] } }
  (rs.foldl (fun u c => u.deliver c 0 0 0 u.time true false) t).safeChip 5

/-- Whether request c goes before request d: class, then priority in class 4; else the earlier (R28, R204). -/
def Conversion.before (c d : Conversion) : Bool :=
  decide (c.cls < d.cls) || (decide (c.cls = d.cls) && decide (c.cls = 4) && decide (d.prio < c.prio))

/-- The request that the arbiter gives to ADC a (R201, R204, R207). -/
def State.nextRequest (s : State) (a : Nat) : Option Conversion :=
  let other := s.adcFailed (1 - a)
  (s.mea.requests.filter (fun c => c.adc == 0 || c.adc == a + 1 || other)).foldl (fun best c =>
    match best with
    | none => some c
    | some d => if c.before d then some c else best) none

/-- A request starts after its deadline, or 1 us after its scheduled instant in classes 1 and 2 (R28, R204). -/
def State.startsLate (s : State) (c : Conversion) : Bool :=
  c.late || (match c.deadline with
    | some d => decide (d < s.time)
    | none => decide (c.cls ≤ 2) && decide (c.made + us 1 < s.time))

/-- A free ADC takes its next request (R201). -/
def State.grant (s : State) (a : Nat) : State :=
  if (s.mea.busy.find a).isSome || s.adcFailed a || decide (3 ≤ s.mode) then s
  else
    match s.nextRequest a with
    | none => s
    | some c =>
      let t := { s with mea := { s.mea with requests := s.mea.requests.erase c, busy := s.mea.busy.put a ({ c with late := s.startsLate c }, s.time) } }
      t.mark (if a = 0 then MEA_STATUS.BUSY_A else MEA_STATUS.BUSY_B) true

/-- Counts a request for `LOAD` (R204). -/
def State.countRequest (s : State) : State :=
  if s.time < s.mea.askedFrom + ms 1 then { s with mea := { s.mea with asked := s.mea.asked + 1 } }
  else
    let adcs := (if s.adcFailed 0 then 0 else 1) + (if s.adcFailed 1 then 0 else 1)
    let load := (quot (s.mea.asked * 100 : Nat) (2000 * adcs : Nat)).toNat
    ({ s with mea := { s.mea with asked := 1, askedFrom := s.time } } : State).set MEA_STATUS.LOAD (min 255 load)

/-- A conversion request (R28, R202, R204, R224). -/
def State.ask (s : State) (c : Conversion) : State :=
  let s := s.countRequest
  let c := { c with made := s.time }
  if !definedChannel c.ch then (s.deliver c 0 0 0 s.time false false).raise MEA_FLAGS.CH_BAD
  else if s.adcFailed 0 && s.adcFailed 1 then s.deliver c 0 0 0 s.time true false
  else
    let t := { s with mea := { s.mea with requests := s.mea.requests ++ [c] } }
    (t.grant 0).grant 1

/-- Starts a scan: every listed channel is requested in class 4 at `PRIO` (R206). -/
def State.startScan (s : State) : State :=
  let n := s.get MEA_SCAN_CFG.LEN + 1
  let period := max 10 (s.get MEA_SCAN_CFG.PERIOD)
  let t := { s with mea := { s.mea with scanLeft := List.range n, scanNext := false, scanAt := some s.time } }
  t.each (List.range n) (fun k u =>
    let ch := (u.rd (MEA_SCAN.addr (k / 4))).toNat / 256 ^ (k % 4) % 256
    u.ask { cls := 4, prio := s.get MEA_SCAN_CFG.PRIO, ch := ch, deadline := some (s.time + us period), asker := .scan k })

end Sys2Proof.Machine
end

