-- ==== Sys2Proof/Machine/Charge.lean ====
section
/-!
DEFINITION. The charge engine: its configuration, reference and timers, and the commands of chapter 06
(R142 to R168, R196).
-/

namespace Sys2Proof.Machine

/-! ### Configuration (R146 to R148, R168) -/

/-- The chemistry's defaults: V_DEEP, V_PRE, CV, RECHG, REV_MIN and SHAVE_MIN (R146); an item that the chemistry does
not use is 0. -/
def chemDefaults (chem : Nat) : Nat × Nat × Nat × Nat × Nat × Nat :=
  if chem = 1 then (2000, 3000, 4200, 4100, 3000, 3600)
  else if chem = 2 then (1800, 2600, 3600, 3350, 2600, 3200)
  else if chem = 3 then (900, 1000, 0, 1300, 1000, 1200)
  else if chem = 4 then (0, 0, 12500, 0, 5000, 7500)
  else (0, 0, 0, 0, 0, 0)

/-- The engine follows its configuration (R147, R148): OFF without a valid chemistry or with CFG_ERR, QUALIFY from
OFF, DISABLED by `EN`. -/
def State.chgConfig (s : State) : State :=
  let t := s.onlyIf s.chgBad (fun u => u.raise CHG_FLT.CFG_ERR)
  let st := t.chgState
  if !t.fullService || !t.chemValid || t.is CHG_FLT.CFG_ERR then if st = 0 then t else t.chgOff
  else if st = 0 then t.qualify
  else if (!t.is CHG_CTRL.EN || 2 ≤ t.mode) && decide (2 ≤ st) && decide (st ≤ 8) then (t.chgEnter 11).resetTimers
  else if st = 11 && t.is CHG_CTRL.EN && t.mode < 2 then t.qualify
  else t

/-- Loads a chemistry (R147): its code, its defaults, and QUALIFY for a charge in progress. -/
def State.loadChem (s : State) (chem : Nat) : State :=
  let (deep, pre, cv, rechg, rev, shave) := chemDefaults chem
  let t := s.set CHG_CTRL.CHEM chem
  let t := if chemNone chem then t
    else (((((t.set CHG_THRESH.V_DEEP deep).set CHG_THRESH.V_PRE pre).set CHG_CV.CV cv).set CHG_CV.RECHG rechg).set CHG_AVAIL.REV_MIN rev).set CHG_AVAIL.SHAVE_MIN shave
  let t := t.chgConfig
  if t.chgState = 0 || t.chgState = 1 || t.chgState = 10 then t else t.openPack.qualify

/-- A `CHEM` order in force; during backup the value is held until it ends (R166). -/
def State.applyChem (s : State) (chem : Nat) : State :=
  if s.get CHB_STATUS.MODE = 3 then { s with chg := { s.chg with chemHeld := some chem } } else s.loadChem chem

/-- Every fault of `CHG_FLT` is clear. -/
def State.fltClear (s : State) : Bool :=
  !s.is CHG_FLT.TIMER && !s.is CHG_FLT.PACK_OV && !s.is CHG_FLT.CFG_ERR && !s.is CHG_FLT.ID_MISMATCH

/-- `ARM` written (R148): it reads 1 until QUALIFY; FAULT is left when `CHG_FLT` is all clear. -/
def State.applyArm (s : State) : State :=
  let t := s.set CHG_CTRL.ARM 1
  if t.chgState = 9 && t.fltClear then t.qualify else t

/-! ### The reference (R143, R163, R196) -/

/-- The state's programmed current or the outer loop's current, 10 mA. -/
def State.phaseProgram (s : State) : Int :=
  let st := s.chgState
  if st = 5 || st = 6 then s.chg.iLoop
  else if decide (2 ≤ st) && decide (st ≤ 4) then quot (s.programmed st) 10 else 0

/-- Forms I_ref of R143 from the weft term before its cuts and the South Power share as pack-side current; sets the
block's mode and reference. -/
def State.refUpdate (s : State) (weft share : Int) : State :=
  let st := s.chgState
  let prog := s.phaseProgram
  let rating : Int := s.contRating .chb
  let hot : Int := s.get THM_LIM.CHB * rating / 100
  let th := if s.get CHG_STATUS.JEITA = 1 then min hot (quot (s.programmed st) 20) else hot
  let overlay := s.is CHG_STATUS.WDG_SAFE
  let i0 := if s.cvEffPack < s.get CHG_PACK.VCELL * s.chgCells then 0 else max 0 (min (min prog th) share)
  let phase := if overlay then min i0 200 else i0
  let limited := decide (phase < prog)
  let cause := if limited then (if th ≤ share then 1 else 2) else if 0 < s.chg.iShave then 3 else 0
  let half : Int := if s.get CHG_STATUS.JEITA = 1 then clampN 5 6000 (s.get CHB_LIMIT.CHG_MAX) / 2 else 6000
  let search := if st = 4 then (if overlay then min s.chg.iSearch (200 - phase) else min s.chg.iSearch (max 0 (half - phase))) else 0
  -- the cuts of R196
  let pause := s.get CHG_STATUS.PAUSE
  let cut := !s.is CHB_STATUS.PACK_G_ON || !(chargingState st || st == 6 || st == 7 || st == 8) ||
    (st == 8 && (pause == 4 || pause == 6 || pause == 7)) || overlay || s.get CHB_STATUS.MODE == 3
  let weft1 := if cut then 0 else weft
  let sum0 := phase + weft1
  let sum := if s.get CHG_STATUS.JEITA = 0 || s.get CHG_STATUS.JEITA = 4 || (st = 8 && pause = 3) then min sum0 0
    else if s.get CHG_STATUS.JEITA = 1 then min sum0 (quot (s.programmed st) 20) else sum0
  let eff : Int := s.effLimit .chb
  let lchg : Int := min (clampN 5 6000 (s.get CHB_LIMIT.CHG_MAX)) eff
  let ldis : Int := if s.is CHG_STATUS.SHAVE_AVAIL then min (min (clampN 100 10000 (s.get CHB_LIMIT.DIS_MAX)) eff) hot else 0
  let iref := clampZ (-ldis) lchg (sum + search - s.chg.iShave)
  let t := s.onlyIf (cut && weft != 0) (fun u => u.raise RED_FLAGS.WEFT_CUT)
  let t := { t with chg := { t.chg with iPhase := phase, iWeft := weft1 } }
  let t := ((t.mark CHG_STATUS.LIMITED limited).set CHG_STATUS.LIM_CAUSE cause)
  let t := (t.setZ CHB_REF.IREF iref).setZ CHB_REF.WEFT weft1
  if t.get CHB_STATUS.MODE = 3 then t
  else
    let run := t.is CHB_STATUS.ENABLED && t.is CHB_STATUS.PACK_G_ON && !t.regionSafe .south
    let mode := if !run || iref = 0 then 0 else if 0 < iref then 1 else 2
    (t.chbMode mode).setFleet .chb (fun f => { f with vref := 100 * iref.natAbs })

/-! ### Timers (R152 to R156) -/

/-- One microsecond of the safety timers at the dilation rate of R153 and of the charge watchdog (R155, R394); `i1s`
is the pack current over 1 s in mA. -/
def State.chgTimers (s : State) (i1s : Int) : State :=
  let st := s.chgState
  let r : Nat := if st = 5 then 65536 else (clampZ 32768 65536 (quot (65536 * i1s) (s.programmed st))).toNat
  let t := if chargingState st then
      let c := s.chg
      let c := { c with tPre := if st ≤ 3 then c.tPre + r else c.tPre, tFast := if 4 ≤ st then c.tFast + r else c.tFast, tTotal := c.tTotal + r, tOverlay := if s.is CHG_STATUS.WDG_SAFE then c.tOverlay + r else c.tOverlay }
      let u := ({ s with chg := c } : State).set CHG_STATUS.DIL (quot (r : Nat) 512).toNat
      let unit := 65536 * 6000000
      (u.set CHG_ELAPSED.PHASE ((if st ≤ 3 then c.tPre else c.tFast) / unit)).set CHG_ELAPSED.TOTAL (c.tTotal / unit)
    else s
  if t.fullService && t.chemValid && decide (t.mode < 2) && decide (0 < t.chg.wdgLeft) then
    let left := t.chg.wdgLeft - 1
    ({ t with chg := { t.chg with wdgLeft := left } } : State).set CHG_WDG.REMAIN (left / 10000)
  else t

/-- The safety timer that has expired (R154): 0 precharge, 1 fast, 2 total. -/
def State.timerExpired (s : State) : Option Nat :=
  let m := 65536 * 60000000
  let st := s.chgState
  if (st = 2 || st = 3) && max 1 (s.get CHG_TIMER.T_PRE) * m ≤ s.chg.tPre then some 0
  else if (st = 4 || st = 5) && max 1 (s.get CHG_TIMER.T_FAST) * m ≤ s.chg.tFast then some 1
  else if s.is CHG_STATUS.WDG_SAFE then if 60 * m ≤ s.chg.tOverlay then some 2 else none
  else if max 1 (s.get CHG_TIMER.T_TOTAL) * m ≤ s.chg.tTotal then some 2 else none

/-- The current termination of Li-ion and LFP is due (R149). -/
def State.currentDone (s : State) : Bool :=
  let chem := s.get CHG_CTRL.CHEM
  (chem == 1 || chem == 2) && s.chgState == 5 && (s.is CHG_CTRL.TERM_EN || s.is CHG_STATUS.WDG_SAFE) &&
    s.due (s.chg.termSince.map (fun t => t + ms (1000 * max 1 (s.get CHG_TERM.TERM_T))))

/-- Termination (R149): MAINT with its cause, DONE. -/
def State.terminate (s : State) (cause : Nat) : State :=
  ((s.set CHG_STATUS.TERM cause).raise CHG_FLAGS.DONE).chgEnter 7

/-! ### Commands -/

/-- CV_LOOP_UPDATE (R142, R150): the outer loop sets the phase current; the law of the loop is not given, so the
current is a free value within zero and the programmed current; zero while V_pack lies above CV_eff. -/
def execCvLoopUpdate (vpack : Nat) (s : State) : Result State :=
  if (s.chgState = 5 || s.chgState = 6) && s.get CHB_STATUS.MODE = 1 then
    if s.cvEffPack < vpack then .next { s with chg := { s.chg with iLoop := 0 } }
    else
      let (w, t) := s.draw
      let top := s.programmed 4 / 10
      .next { t with chg := { t.chg with iLoop := (w.toNat % (top + 1) : Nat) } }
  else .next s

/-- PACK_NODE_READY (R144): the node lies within 0.20 V of the pack; `PACK_G` ramps on. Voltages in 10 mV. -/
def execPackNodeReady (vnode vpack : Nat) (s : State) : Result State :=
  if s.chg.nodeAt.isSome && ((vnode : Int) - vpack).natAbs ≤ 20 then
    .next { s with chg := { s.chg with nodeAt := none, rampAt := some s.time } }
  else .next s

/-- PACK_NODE_TIMEOUT (R144): 20 ms without success; QUALIFY repeats after 1 s. -/
def execPackNodeTimeout (s : State) : Result State :=
  if s.due (s.chg.nodeAt.map (fun t => t + ms 20)) then
    .next { s with chg := { s.chg with nodeAt := none, retryAt := some (s.time + ms 1000) } }
  else .next s

/-- QUALIFY_RETRY (R144). -/
def execQualifyRetry (s : State) : Result State :=
  if s.due s.chg.retryAt then .next s.qualify else .next s

/-- PACK_G_RAMP_DONE (R144): the 1 ms ramp ends; `PACK_G` is closed and QUALIFY leads to its state. -/
def execPackGRampDone (s : State) : Result State :=
  if s.due (s.chg.rampAt.map (fun t => t + ms 1)) then
    let t := (({ s with chg := { s.chg with rampAt := none, headOpen := false } } : State).mark CHB_STATUS.PACK_G_ON true)
    let t := if t.chgState = 1 then t.chgStart t.chg.goalState else t
    .next t.refreshPack
  else .next s

/-- HEADROOM_PAUSE (R145 (b)): V_pack above V_rr − 1.00 V; `vpack` in mV, the rail in 10 mV. -/
def execHeadroomPause (vpack rail : Nat) (s : State) : Result State :=
  if s.chemValid && decide (10 * (s.railRefV rail : Int) - 1000 < vpack) && !s.chg.headPause then
    let t := { s with chg := { s.chg with headPause := true } }
    .next (((t.raise CHG_FLAGS.HEADROOM).mark CHG_STATUS.HEADROOM true).pauseCharge)
  else .next s

/-- HEADROOM_RESUME (R145 (b)): V_pack at or below V_rr − 1.10 V for 10 ms; the engine leaves PAUSED by
CHG_RESUME. -/
def execHeadroomResume (vpack rail : Nat) (s : State) : Result State :=
  if s.chg.headPause && decide ((vpack : Int) ≤ 10 * (s.railRefV rail : Int) - 1100) then
    let t := { s with chg := { s.chg with headPause := false } }
    .next ((t.mark CHG_STATUS.HEADROOM (t.chg.headOpen || t.headroomClamps)).pauseCharge)
  else .next s

/-- HEADROOM_DISCONNECT (R145 (c)): V_pack above V_rail − 0.50 V for 10 us. -/
def execHeadroomDisconnect (vpack rail : Nat) (s : State) : Result State :=
  let masked := s.get CHB_STATUS.MODE = 3 || (match s.chg.holdupAt with
    | some t => decide (s.time < t + ms 1)
    | none => false)
  let closing := s.is CHB_STATUS.PACK_G_ON || s.chg.rampAt.isSome
  if !masked && closing && decide (10 * (rail : Int) - 500 < vpack) then
    let t := { s.openPack with chg := { s.openPack.chg with headOpen := true } }
    .next (((t.raise CHG_FLAGS.HEADROOM).mark CHG_STATUS.HEADROOM true).refreshPack)
  else .next s

/-- HEADROOM_RECONNECT (R145 (c)): V_pack at or below V_rail − 1.00 V for 10 ms; `PACK_G` recloses by R144. -/
def execHeadroomReconnect (vpack rail : Nat) (s : State) : Result State :=
  if s.chg.headOpen && s.chg.nodeAt.isNone && decide ((vpack : Int) ≤ 10 * (rail : Int) - 1000) && s.chgState != 0 && s.chgState != 10 then
    .next { s with chg := { s.chg with nodeAt := some s.time } }
  else .next s

/-- CHEM_WRITE (R147, R169): the write of `CHG_CTRL.CHEM` enters an order; R147 applies when it takes effect. -/
def execChemWrite (m : Master) (chem : BitVec 3) (s : State) : Result State :=
  if s.mayWrite m && decide (chem.toNat ≠ s.get CHG_CTRL.CHEM) then
    .next (s.enter { target := .field 0x0C CHG_CTRL.CHEM, master := m.val, val := chem.toNat })
  else .next s

/-- CHG_ARM (R148, R169): the write of 1 to `ARM` enters a raising order. -/
def execChgArm (m : Master) (s : State) : Result State :=
  if s.mayWrite m && !s.is CHG_CTRL.ARM then .next (s.enter { target := .field 0x0C CHG_CTRL.ARM, master := m.val, val := 1 }) else .next s

/-- The state that QUALIFY leads to (R148). -/
def State.qualifyGoal (s : State) : Nat :=
  let chem := s.get CHG_CTRL.CHEM
  let v := s.get CHG_PACK.VCELL
  if !s.is CHG_CTRL.EN then 11
  else if chem = 4 then 4
  else if v < s.get CHG_THRESH.V_DEEP then 2
  else if v < s.get CHG_THRESH.V_PRE then 3
  else if s.rechgPack ≤ v * s.chgCells then 7
  else 4

/-- QUALIFY_COMPLETE (R148): the 10 ms measurement ends. `PACK_G` closes by R144 and the first state follows. -/
def execQualifyComplete (s : State) : Result State :=
  if s.chgState = 1 && s.due (s.chg.qualifyAt.map (fun t => t + ms 10)) then
    let t := { s with chg := { s.chg with qualifyAt := none } }
    let id := t.get CHG_PRES.ID_MEAS
    if t.is CHG_CTRL.ID_CHK && (id < t.get CHG_PRES.ID_MIN || t.get CHG_PRES.ID_MAX < id) then
      .next ((t.raise CHG_FLT.ID_MISMATCH).chgEnter 9)
    else if t.chg.absentSeen || !t.is CHG_STATUS.PACK_PRESENT then .next ((t.chgEnter 10).refreshPack)
    else
      let g := t.qualifyGoal
      if t.is CHB_STATUS.PACK_G_ON then .next ((t.chgStart g).refreshPack)
      else .next { t with chg := { t.chg with goalState := g, nodeAt := some t.time } }
  else .next s

/-- TRICKLE_DONE (R148): V_cell at or above `V_DEEP` for 1 s. -/
def execTrickleDone (s : State) : Result State :=
  if s.chgState = 2 && s.get CHG_THRESH.V_DEEP ≤ s.get CHG_PACK.VCELL then .next (s.chgEnter 3) else .next s

/-- CHG_PRECHARGE_DONE (R148): V_cell at or above `V_PRE` for 1 s; the fast timer starts. -/
def execChgPrechargeDone (s : State) : Result State :=
  if s.chgState = 3 && s.get CHG_THRESH.V_PRE ≤ s.get CHG_PACK.VCELL then
    let t := s.chgEnter 4
    .next { t with chg := { t.chg with ccSince := some t.time } }
  else .next s

/-- CV_ENTRY (R148): Li-ion and LFP reach CV_eff x `CELLS`; `vpack` in mV. -/
def execCvEntry (vpack : Nat) (s : State) : Result State :=
  let chem := s.get CHG_CTRL.CHEM
  if s.chgState = 4 && (chem = 1 || chem = 2) && s.cvEffPack ≤ vpack then
    let t := s.chgEnter 5
    .next { t with chg := { t.chg with iLoop := (s.programmed 4 / 10 : Nat) } }
  else .next s

/-- CV_HOLD_ENTRY (R148): a supercapacitor reaches CV_eff. -/
def execCvHoldEntry (vpack : Nat) (s : State) : Result State :=
  if s.chgState = 4 && s.get CHG_CTRL.CHEM = 4 && s.cvEffPack ≤ vpack then .next (s.chgEnter 6) else .next s

/-- CHG_TERMINATION (R149): `v16` and `peak` are the 16 s average of V_pack and its peak since the end of the hold-off
in mV, `dtdt` the rise over 1 min in 0.01 C/min. -/
def execChgTermination (v16 peak : Nat) (dtdt : Int) (s : State) : Result State :=
  if s.currentDone then .next (s.terminate 1)
  else if s.get CHG_CTRL.CHEM = 3 && s.chgState = 4 && (s.is CHG_CTRL.TERM_EN || s.is CHG_STATUS.WDG_SAFE) then
    let off := s.due (s.chg.ccSince.map (fun t => t + ms 480000))
    let pk := max s.chg.vPeak peak
    let t := (({ s with chg := { s.chg with vPeak := if off then pk else s.chg.vPeak } } : State).setZ CHG_TEMP.DTDT dtdt)
    if off && v16 + max 1 (s.get CHG_TERM.NDV) * s.chgCells < pk then .next (t.terminate 2)
    else if off && 10 * (clampN 5 15 (s.get CHG_TERM.DTDT) : Int) ≤ dtdt then .next (t.terminate 3)
    else if !s.chg.ntcBad && 800 ≤ s.packTemp then .next (t.terminate 4)
    else .next t
  else .next s

/-- CHG_RECHARGE (R148): in MAINT V_cell below RECHG_eff for 1 s. -/
def execChgRecharge (s : State) : Result State :=
  if s.chgState = 7 && s.get CHG_CTRL.CHEM ≠ 4 && s.get CHG_PACK.VCELL * s.chgCells < s.rechgPack then
    .next ((s.raise CHG_FLAGS.RECHARGE).qualify)
  else .next s

/-- CHG_PAUSE (R148): a pause cause holds. -/
def execChgPause (s : State) : Result State := .next s.pauseCharge

/-- CHG_RESUME (R148): no pause cause holds; the kept state resumes. -/
def execChgResume (s : State) : Result State :=
  if s.chgState = 8 && s.pauseCause = 0 then
    let t := s.chgEnter s.chg.kept
    let first := t.chgState = 4 && t.chg.ccSince.isNone
    .next { t with chg := { t.chg with ccSince := if first then some t.time else t.chg.ccSince } }
  else .next s

/-- PACK_OVERVOLTAGE (R146, R148): V_cell above its threshold for 100 us; `vpack` in mV. The configured CV counts. -/
def execPackOvervoltage (vpack : Nat) (s : State) : Result State :=
  let chem := s.get CHG_CTRL.CHEM
  let n := s.chgCells
  let cv := s.get CHG_CV.CV
  let excess := if chem = 3 then 1650 * n < vpack else if chem = 4 then 105 * cv * n < 100 * vpack else (cv + 100) * n < vpack
  if (chargingState s.chgState || s.chgState = 6) && excess then .next ((s.raise CHG_FLT.PACK_OV).chgEnter 9) else .next s

/-- The JEITA zone of a temperature with no history, 1/16 C (R150). -/
def jeitaZone (t : Int) : Nat :=
  if t < 0 then 0 else if t < 160 then 1 else if t < 720 then 2 else if t ≤ 880 then 3 else 4

/-- The next zone: toward a more restrictive zone at the boundary, toward a less restrictive one 2 C past it (R150). -/
def jeitaNext (old : Nat) (t : Int) : Nat :=
  let z := jeitaZone t
  if old < 2 then
    if z ≤ old || 2 < z then z else max old (min 2 (jeitaZone (t - 32)))
  else if old = 2 then z
  else if old ≤ z || z < 2 then z
  else min old (max 2 (jeitaZone (t + 32)))

/-- JEITA_ZONE_CHANGE (R150): the zone of the pack temperature and its effect. -/
def execJeitaZoneChange (s : State) : Result State :=
  let chem := s.get CHG_CTRL.CHEM
  let old := s.get CHG_STATUS.JEITA
  let new := if s.chgState = 0 || (chem ≠ 1 && chem ≠ 2) || s.chg.ntcBad then 7
    else if old = 7 || !s.chg.zonePlaced then jeitaZone s.packTemp
    else jeitaNext old s.packTemp
  let t := { s with chg := { s.chg with zonePlaced := decide (new ≠ 7) } }
  if new = old then .next t.pauseCharge
  else .next (((t.set CHG_STATUS.JEITA new).raise CHG_FLAGS.JEITA_CHG).pauseCharge)

/-- SAFETY_TIMER_EXPIRY (R154, R166): FAULT with TIMER; a termination that is due comes first. -/
def execSafetyTimerExpiry (s : State) : Result State :=
  if !chargingState s.chgState then .next s
  else
    match s.timerExpired with
    | none => .next s
    | some src =>
      if s.currentDone then .next (s.terminate 1)
      else
        let t := (s.raise CHG_FLT.TIMER).set CHG_FLT.TIMER_SRC src
        let t := t.onlyIf (s.get CHG_STATUS.LIM_CAUSE == 1) (fun u => u.mark CHG_STATUS.THERMAL_LIMITED_AT_EXPIRY true)
        .next (t.chgEnter 9)

/-- CHG_WDG_KICK (R155): 0x6B29 serves; any other key counts in `KICK_ERR`. -/
def execChgWdgKick (m : Master) (data : Word) (s : State) : Result State :=
  if !s.mayWrite m then .next s
  else if data.toNat % 65536 = 0x6B29 then
    let left := 1000000 * clampN 10 160 (s.get CHG_WDG.PERIOD)
    .next (({ s with chg := { s.chg with wdgLeft := left, served := true } } : State).set CHG_WDG.REMAIN (left / 10000))
  else .next (s.countSat CHG_WDG.KICK_ERR)

/-- CHG_WDG_EXPIRY (R156, R394): the overlay, WDG_EXP and fault CHG_WDG. -/
def execChgWdgExpiry (s : State) : Result State :=
  if s.fullService && s.chemValid && decide (s.chg.wdgLeft = 0) && !s.is CHG_STATUS.WDG_SAFE then
    let t := { s with chg := { s.chg with tOverlay := 0, served := false } }
    .next ((((t.raise CHG_FLAGS.WDG_EXP).mark CHG_STATUS.WDG_SAFE true).setFault 16).refreshPack)
  else .next s

/-- The overlay ends (R157, R394, R397). -/
def State.endOverlay (s : State) : State :=
  let t := (s.set CHG_FLAGS.WDG_EXP 0).mark CHG_STATUS.WDG_SAFE false
  let t := t.set SAF_FAULT.FAULT (setBitTo (t.get SAF_FAULT.FAULT) 16 false)
  (t.onlyIf (t.get SAF_FAULT.FAULT == 0) (fun u => u.set SAF_STATUS.FIRST_FAULT 0xFF)).refreshPack

/-- CHG_WDG_EXP_CLEAR (R157): after a valid serve the clear ends the overlay; before one it is refused. -/
def execChgWdgExpClear (m : Master) (s : State) : Result State :=
  if s.mayWrite m && s.is CHG_FLAGS.WDG_EXP && s.chg.served then .next s.endOverlay else .next s

/-- PACK_REMOVAL (R158, R159): two failing presence samples in a row. -/
def execPackRemoval (s : State) : Result State :=
  if s.chg.failing < 2 || s.chgState = 0 || s.chgState = 10 then .next s
  else
    let backup := s.get SRC_STATUS.PRIMARY = 3
    let t := ((s.chbMode 0).openPack).chgEnter 10
    let t := (t.raise CHG_FLAGS.PACK_REMOVED).resetTimers
    let t := { t with chg := { t.chg with failing := 0, presentSince := none, qualifyAt := none, retryAt := none } }
    let t := t.refreshPack
    .next (if backup then t.holdUp 2 else t)

/-- PACK_INSERTED (R160): 500 ms of presence in ABSENT. -/
def execPackInserted (s : State) : Result State :=
  if s.chgState = 10 && s.due (s.chg.presentSince.map (fun t => t + ms 500)) then
    .next ((s.raise CHG_FLAGS.PACK_INSERTED).qualify)
  else .next s

end Sys2Proof.Machine
end

