-- ==== Sys2Proof/Machine/Reset.lean ====
section
/-!
DEFINITION. Resets (R14, R31, R34, R398 to R401): what each kind keeps, the reset itself, and its deferral
behind a flash step.
-/

namespace Sys2Proof.Machine

/-- The update unit after a reset: flash and its journal stay, the session and a block being programmed do not
(R400, R425, R436). -/
def Upd.afterReset (u : Upd) : Upd :=
  { active := u.active, staging := u.staging, fallback := u.fallback, keyRec := u.keyRec, fused := u.fused, arb := u.arb, schema := u.schema, oldSettings := u.oldSettings, copy := u.copy, settings := u.settings, spares := u.spares, fails := u.fails, rolledBack := u.rolledBack, rejected := u.rejected, activated := u.activated }

/-- The cells after a Warm-column reset: the temperature rises (R213) and the latched low sides (R136) stay. -/
def CellUnit.afterWarm (c : CellUnit) : CellUnit := { dT1 := c.dT1, dT2 := c.dT2, dT3 := c.dT3, latched := c.latched }

/-- The supervisor's registers in a reset: cause, counters, lifecycle and a new nonce (R398, R400, R410, R411). -/
def State.resetSaf (s old : State) (por : Bool) (kind detail : Nat) : State :=
  let t := (s.set SAF_RST_CAUSE.KIND kind).set SAF_RST_CAUSE.DETAIL detail
  let t := t.set SAF_STATUS.LC (old.get SAF_STATUS.LC)
  let t := ((t.set SAF_STATUS.LC_PENDING (old.get SAF_STATUS.LC_PENDING)).set SAF_STATUS.KEY_SET (old.get SAF_STATUS.KEY_SET)).mark SAF_STATUS.TEST_ACT (decide (old.get SAF_STATUS.LC ≤ 1))
  let t := if por then t else t.countSat SAF_RST_CNT.WARM_CNT
  let t := if kind = 4 then t.countSat SAF_RST_CNT.WDG_CNT else if kind = 5 then t.countSat SAF_RST_CNT.SW_CNT else t
  let (a, t) := t.draw
  let (b, t) := t.draw
  (t.wr SAF_NONCE_LO.addr a).wr SAF_NONCE_HI.addr b

/-- What a reset leaves by the variant: `GLB_FEAT` stands in fuses (R3), and `DEF_ACTIVE` of UX4863-S names cells 0 to 3 and 5 (R441). -/
def variantWords (old new : WordMap) : WordMap :=
  let feat := old.get GLB_FEAT.addr
  let t := new.set GLB_FEAT.addr feat
  if GLB_FEAT.VARIANT.of feat = 0x53 then t.set TRK_ASSIGN.addr 0x2F else t

/-- A reset of a kind of R398 with its DETAIL (R14, R400): every gate off, SRAM zeroed, the registers at their column; the
device is held until RESET_RELEASE. -/
def State.startReset (s : State) (kind detail : Nat) : State :=
  let por := kind = 1 || kind = 7
  let n := if kind = 1 then s else s.notify 1 kind
  let cells := if por then ([] : Store CellUnit) else s.mod.cells.map (fun e => (e.1, CellUnit.afterWarm e.2))
  let saf : Saf := { inReset := some kind, keepGoodAt := if por then s.saf.keepGoodAt.map (fun _ => 0) else s.saf.keepGoodAt, keepInputs := s.saf.keepInputs, releasedAt := if por then 0 else s.aon, clocksGood := none }
  let t : State := { time := if por then 0 else s.time, aon := if por then 0 else s.aon, regs := variantWords s.regs (resetWords (!por) s.regs), beam := s.beam, calArea := s.calArea, upd := s.upd.afterReset, freeCount := s.freeCount, saf := saf, sel := { sent := n.sel.sent }, lom := { shuttles := s.lom.shuttles.map (fun h => ({ off := !por && h.off } : Shuttle)) }, pending := s.pending }
  let t := { t with mod := { t.mod with cells := cells } }
  t.resetSaf s por kind detail

/-- Requests a reset (R401, R412): a Warm-column one waits for a running flash step, and further ones merge into the first; in
a reset only a reset of the POR column acts. -/
def State.requestReset (s : State) (kind detail : Nat) : State :=
  let por := kind = 1 || kind = 7
  if por then s.startReset kind detail
  else if s.saf.inReset.isSome then s
  else if s.is UPD_STATUS.NVM_BUSY then
    if s.saf.deferred.isSome then s
    else
      let t := { s with saf := { s.saf with deferred := some (kind, detail) } }
      (t.mark SAF_STATUS.DEFER true).onlyIf (kind == 4) (fun u => u.mark SAF_WDG_STAT.DEFERRED true)
  else s.startReset kind detail

/-- A flash step has ended: a reset that waited for it starts (R401). -/
def State.stepEnded (s : State) : State :=
  let t := s.mark UPD_STATUS.NVM_BUSY false
  match t.saf.deferred with
  | some (k, d) => t.startReset k d
  | none => t

/-- The reset that follows a chip-level fault (R395): software, with the DETAIL of its cause. -/
def resetDetail (code : Nat) : Nat :=
  if code = 1 then 1 else if code = 2 then 2 else if code = 3 then 3 else if code = 5 then 4 else if code = 6 then 5 else if code = 4 then 6 else 8

end Sys2Proof.Machine
end

