-- ==== Sys2Proof/Machine/Operands.lean ====
section
/-!
DEFINITION. The operand forms of the Verk instructions (R254, R255) and the ranges to which an
order's value is clamped (R116, R146, R264).
-/

namespace Sys2Proof.Machine

/-- Y of format A: `gB`, or imm17 sign-extended (R255). -/
def State.yval (s : State) (c : Nat) (y : Operand) : Word :=
  match y with
  | .reg b => s.g c b.val
  | .imm v => v.signExtend 32

/-- The sum gA + Y, modulo 2^32 (R255). -/
def State.sumAY (s : State) (c a : Nat) (y : Operand) : Word := s.g c a + s.yval c y

/-- Whether a word address lies in data memory: a multiple of 4 below 0x4000 (R261). -/
def dataAddress (a : Nat) : Bool := decide (a % 4 = 0) && decide (a < 0x4000)

/-- A data word as the context sees it: a word its open transaction has logged reads as logged
(R244; log entry 8). -/
def State.dataWord (s : State) (c a : Nat) : Word :=
  if (s.context c).txAddrs.contains a then (s.context c).txWords.get a else s.dm.get a

/-- The CV range of the chemistry in force, in the code of `CHG_CV` (R146, R264). -/
def cvRange (chem : Nat) : Int × Int :=
  if chem = 1 then (3400, 4400) else if chem = 2 then (3450, 3650)
  else if chem = 4 then (1000, 27000) else (0, 65535)

/-- The target and the clamped value of a SETV order other than RAIL, SETI or LIMIT (R264). -/
def State.valueTarget (_s : State) (id : Nat) (f : Field) (lo hi : Int) (v : Word) : Order :=
  let n := v.toInt
  { target := .field id f, master := 0, val := clampZ lo hi n, clamped := decide (clampZ lo hi n ≠ n) }

/-- The rail order for a voltage and a rate, clamped to 5.00 V to 28.00 V and 0.1 V/ms to 100 V/ms;
rate 0 selects `DEF_RATE` (R116). -/
def State.railOrder (s : State) (volt rate : Int) : Order :=
  let r := if rate = 0 then (s.get TRK_RATE.DEF_RATE : Int) else rate
  { target := .rail, master := 0, val := clampZ 500 2800 volt, aux := clampZ 1 1000 r, clamped := decide (clampZ 500 2800 volt ≠ volt) || decide (clampZ 1 1000 r ≠ r) }

/-- The order of a SETV selector (R264). -/
def State.setvOrder (s : State) (k : SetvSel) (v : Word) : Order :=
  match k with
  | .rail => s.railOrder v.toInt 0
  | .cv => s.valueTarget 0x09 CHG_CV.CV (cvRange (s.get CHG_CTRL.CHEM)).1 (cvRange (s.get CHG_CTRL.CHEM)).2 v
  | .backup => if v = 0 then s.valueTarget 0x0B CHB_BACKUP.BACKUP_V 0 2800 v else s.valueTarget 0x0B CHB_BACKUP.BACKUP_V 500 2800 v
  | .vbus => s.valueTarget 0x11 PRT_LIM.VMAX 500 4800 v

/-- The order of a SETI selector (R264). -/
def State.setiOrder (s : State) (k : SetiSel) (v : Word) : Order :=
  match k with
  | .cc => s.valueTarget 0x08 CHG_CC.CC 5 6000 v
  | .trickle => s.valueTarget 0x08 CHG_CC.TRICKLE 50 500 v
  | .vbusI => s.valueTarget 0x12 PRT_LIM.IMAX 50 500 v

/-- The order of a LIMIT selector (R264). -/
def State.limitOrder (s : State) (k : LimitSel) (v : Word) : Order :=
  match k with
  | .imax => s.valueTarget 0x02 TRK_LIMIT.IMAX 100 28000 v
  | .chgMax => s.valueTarget 0x0A CHB_LIMIT.CHG_MAX 5 6000 v
  | .disMax => s.valueTarget 0x0A CHB_LIMIT.DIS_MAX 100 10000 v
  | .wmax => s.valueTarget 0x18 RED_WEFT.WMAX 10 6000 v

/-- The order of an ENABLE selector (R264); value bits not listed are ignored. -/
def State.enableOrder (_s : State) (k : EnableSel) (v : Word) : Order :=
  let bit : Int := v.toNat % 2
  match k with
  | .trk => { target := .field 0x04 TRK_CTRL.EN, master := 0, val := bit }
  | .chg => { target := .field 0x0C CHG_CTRL.EN, master := 0, val := bit }
  | .chb => { target := .field 0x0C CHB_CTRL.EN, master := 0, val := bit }
  | .holdup => { target := .field 0x0C CHB_CTRL.HOLDUP_EN, master := 0, val := bit }
  | .port => { target := .field 0x10 PRT_CTRL.EN, master := 0, val := bit }
  | .shave => { target := .field 0x14 SRC_CTRL.SHAVE_EN, master := 0, val := bit }
  | .weft => { target := .field 0x18 RED_CTRL.WEFT_EN, master := 0, val := bit }
  | .act => { target := .field 0x18 (RED_W_CFG.ACT (v.toNat / 16 % 16)), master := 0, val := bit }
  | .rev => { target := .field 0x16 SRC_REV.MODE, master := 0, val := v.toNat % 4 }

/-- Whether a selector addresses a unit that the variant lacks (R265): WMAX, WEFT and ACT without Warp. -/
def State.limitAbsent (s : State) (k : LimitSel) : Bool := !s.hasWrp && (match k with
  | .wmax => true
  | _ => false)

/-- As `limitAbsent`, for ENABLE. -/
def State.enableAbsent (s : State) (k : EnableSel) : Bool := !s.hasWrp && (match k with
  | .weft => true
  | .act => true
  | _ => false)

end Sys2Proof.Machine
end

