-- ==== Sys2Proof/Machine/Cells.lean ====
section
/-!
DEFINITION. Phase cells and modulation (R85 to R111, R187, R449): pulses, the frequency loop, limits, truncation,
burst mode, synchronization, cell faults and gate-drive dissipation.
-/

namespace Sys2Proof.Machine

/-! ### Pulses -/

/-- The band of a cell (R103). -/
def State.band (s : State) (n : Nat) : Nat := min 5 (s.get (CEL_STATUS.BAND n))

/-- K_d as a fraction for node voltages (R93); the port converter by its zone (R325). -/
def State.dutyOf (s : State) (n vi vo : Nat) : Int × Int :=
  if blockOf n == .prt then
    if s.get PRT_STATUS.ZONE = 0 then (vo, vi)
    else if s.get PRT_STATUS.ZONE = 1 then (vo, vi + vo)
    else ((vo : Int) - vi, vo)
  else if s.reverse (blockOf n) then ((vo : Int) - vi, vo)
  else (vo, vi)

/-- The frequency target in force: 200 kHz in reduced service (R111). -/
def State.fset (s : State) (n : Nat) : Nat := if s.fullService then s.target n else 2000000

/-- On-time of R93 in 156.25 ps, clamped to the band and to 80 ns to 5 us. -/
def State.onTime (s : State) (n vi vo : Nat) : Nat :=
  let k := s.dutyOf n vi vo
  let num := k.1 * 64000000000 * (2048 + s.getZ (CEL_TON.TRIM n)) * (1024 + s.getZ (CEL_TON.CF n))
  let t := quot num (k.2 * s.fset n * (2048 * 1024))
  let b := s.band n
  let lo := 16 * clampN 32 255 (s.get (blockField (blockOf n) (TRK_BAND_L.TON_MIN b)))
  let hi := 160 * clampN 8 200 (s.get (blockField (blockOf n) (TRK_BAND_L.TON_MAX b)))
  clampN 512 32000 (clampN lo hi t.toNat)

/-- Length of a refresh pulse: the band's `TON_MIN` (R89). -/
def State.refreshTime (s : State) (n : Nat) : Nat :=
  16 * clampN 32 255 (s.get (blockField (blockOf n) (TRK_BAND_L.TON_MIN (s.band n))))

/-- A cell can take a pulse (R92): switching, off for 100 ns, not held off. -/
def State.eligible (s : State) (n : Nat) : Bool :=
  let c := s.cell n
  s.switching n && c.pulse.isNone && !c.latched && !s.mod.vdrvLow && !(s.fleet (blockOf n)).holdOff &&
    (match c.offAt with
      | some t => decide (t + 10 ≤ s.time)
      | none => true)

/-- Distance of a cell's `PHASE` after that of the cell that fired last (R92). -/
def State.phaseAfter (s : State) (b : Block) (n : Nat) : Nat :=
  match (s.fleet b).last with
  | none => s.get (CEL_FSW.PHASE n)
  | some l =>
    let d := (s.get (CEL_FSW.PHASE n) + 65536 - s.get (CEL_FSW.PHASE l)) % 65536
    if d = 0 then 65536 else d

/-- The cell that the dealer gives the pulse to (R92); the packet cell in burst mode (R98). -/
def State.dealt (s : State) (b : Block) : Option Nat :=
  bestCell (fun x y => decide (s.phaseAfter b x < s.phaseAfter b y)) ((blockCells b).filter (fun n => s.cellPresent n && s.eligible n))

/-- Checks the escalation of a block's cells to its region (R21, R36). -/
def State.escalate (s : State) (b : Block) : State :=
  match b with
  | .trk =>
    let starting := ((s.fleet .trk).queue.filter (fun q => q.cls == 1)).length + (match (s.fleet .trk).ramp with
      | some r => if r.cls = 1 then 1 else 0
      | none => 0)
    let need := if s.trunkCells = 10 then 4 else 3
    if s.fullService && s.blockEnabled .trk && (s.availCells .trk).length + starting < need then s.safeRegion .north else s
  | .chb =>
    let starting := ((s.fleet .chb).queue.filter (fun q => q.cls == 1)).length + (match (s.fleet .chb).ramp with
      | some r => if r.cls = 1 then 1 else 0
      | none => 0)
    if s.blockEnabled .chb && (s.availCells .chb).length + starting < 3 then s.safeRegion .south else s
  | .prt => if (blockCells .prt).any (fun n => s.cellState n == 5) then s.safeRegion .south else s

/-- Leaves burst mode (R99): every cell that was ACTIVE at entry is ACTIVE again. -/
def State.leaveBurst (s : State) (b : Block) : State :=
  if !s.burst b then s
  else
    let l := (s.fleet b).atEntry.filter (fun n => s.cellState n == 4 && (s.cell n).sleep == .burst)
    let t := s.each l (fun n u => u.moveCell n 3)
    let t := t.each (blockCells b) (fun n u => u.mark (CEL_STATUS.BURST n) false)
    (t.setFleet b (fun f => { f with packet := none, packetLeft := 0, packetFired := false, atEntry := [] })).report b

/-- Ends the ramp of a cell without counting an attempt: the cell is parked (R126, R127). -/
def State.dropRamp (s : State) (b : Block) : State :=
  match (s.fleet b).ramp with
  | none => s
  | some r => ((s.sleepCell r.cell .parked).setFleet b (fun f => { f with ramp := none })).report b

/-- A cell of the ROM path is lost in reduced service (R416): the other cell goes on; with both out the next qualified
source starts, or the rail is not regulated. -/
def State.reducedLoss (s : State) : State :=
  let t := s.degrade .north
  if !t.trunkLost then t
  else
    let was := t.get SRC_STATUS.PRIMARY
    let t := ((t.mark SRC_STATUS.G48_ON false).mark SRC_STATUS.IN48_QUAL false).trunkOff
    if was ≠ 1 then t
    else
      match t.firstSource with
      | some c => (t.turnOn c t.railV).becamePrimary c
      | none => (t.set SRC_STATUS.PRIMARY 0).safeRegion .north

/-- Isolates a cell (R106): gates off, its flags, its report to the block. A fault found in TEST is reported to the
test only. `code` is the cause code of R105. -/
def State.isolate (s : State) (n code : Nat) : State :=
  let b := blockOf n
  let inTest := s.cellState n == 6
  let served := s.serves n
  let t := s.moveCell n 5
  let t := (t.raise (CEL_FAULT.ISO n)).set (CEL_STATUS.CAUSE n) code
  if inTest then t
  else
    let t := if (t.fleet b).packet = some n then t.leaveBurst b else t
    let t := t.setFleet b (fun f => { f with ramp := if f.ramp.map (fun r => r.cell) = some n then none else f.ramp, lost := if served then f.lost ++ [n] else f.lost, leaving := f.leaving.erase n })
    let t := if b == .prt then ((t.each [16, 17] (fun k u => (u.moveCell k 5).raise (CEL_FAULT.ISO k)))).portStop else t
    let t := ((t.report b).degrade (blockRegion b)).escalate b
    if t.get GLB_REGION.SERVICE = 1 && b == .trk then t.reducedLoss else t

/-- Fires a pulse of a cell (R89, R92, R93, R98): a low bootstrap skips the high-side pulse for a refresh pulse, the
16th in a row isolates the cell. `boot` is BST − SW in 0.1 V. -/
def State.firePulse (s : State) (n vi vo boot : Nat) : State :=
  let b := blockOf n
  let highSide := !s.reverse b
  let t := s.setFleet b (fun f => { f with last := some n, waits := false })
  let low := highSide && s.direct n && decide (boot < clampN 50 90 (s.get (CEL_PLAUS.BOOT_UV n)))
  if low then
    let k := (s.cell n).skips + 1
    let u := t.setCell n (fun c => { c with skips := k, pulse := some s.time, refresh := s.refreshTime n, rect := false })
    if 16 ≤ k then (u.raise (CEL_FAULT.BOOT_UV n)).isolate n 4 else u
  else if highSide && s.direct n && (s.cell n).needRefresh then
    (t.setCell n (fun c => { c with needRefresh := false, pulse := some s.time, refresh := s.refreshTime n, rect := false })).setFleet b (fun f => { f with waits := true })
  else
    let ton := if s.burst b then s.get (CEL_TON.TON n) else s.onTime n vi vo
    let u := t.setCell n (fun c => { c with skips := 0, needRefresh := false, pulse := some s.time, refresh := 0, rect := false, ilim := s.rd (CEL_ILIM.addr n) })
    (u.set (CEL_TON.TON n) ton).mark (CEL_STATUS.CBC n) false

/-- The zone of the port converter for its node voltages, with 3 % hysteresis (R325): 0 buck, 1 buck-boost, 2 boost. -/
def State.portZone (s : State) (vi vo : Nat) : State :=
  let z := s.get PRT_STATUS.ZONE
  let r := 1000 * vo
  let new := if z = 0 then (if r < 880 * vi then 0 else if r ≤ 1150 * vi then 1 else 2)
    else if z = 2 then (if 1120 * vi < r then 2 else if 850 * vi ≤ r then 1 else 0)
    else if r < 850 * vi then 0 else if 1150 * vi < r then 2 else 1
  s.set PRT_STATUS.ZONE new

/-- A keep-out window holds a block's pulses (R187). -/
def State.keptOut (s : State) (b : Block) : Bool :=
  match s.red.keep.find (blockNum b) with
  | some k => k.isOpen && decide (s.time < k.ends)
  | none => false

/-- LOOP_COMPARATOR_FIRE (R92, R95, R98, R187): `vfb` in uV, `iac` the alternating part of the current of the cell that
fired last in 10 mA, node voltages in 10 mV, the bootstrap in 0.1 V. -/
def execLoopComparatorFire (b : Block) (vfb iac : Int) (vi vo boot : Nat) (s : State) : Result State :=
  let f := s.fleet b
  let gain : Int := match f.last with
    | some l => max 1 (s.get (CEL_CFG.RIPGAIN l))
    | none => 0
  let inBurst := f.packet.isSome
  let due := if inBurst then decide (0 < f.packetLeft) else f.waits || decide (vfb + gain * 10 * iac ≤ s.refOf b)
  if !due then .next s
  else
    let s := if b == .prt then s.portZone vi vo else s
    if s.keptOut b then
      let k := s.red.keep.find (blockNum b)
      match k with
      | some w => .next { s with red := { s.red with keep := s.red.keep.put (blockNum b) { w with held := w.held + 1 } } }
      | none => .next s
    else
      match s.dealt b with
      | none => .next (s.setFleet b (fun g => { g with waits := true }))
      | some n => .next (s.firePulse n vi vo boot)

/-- KEEP_OUT_END (R187): the window closes and the held pulses are released, one every 50 ns. -/
def execKeepOutEnd (b : Block) (vi vo boot : Nat) (s : State) : Result State :=
  match s.red.keep.find (blockNum b) with
  | none => .next s
  | some k =>
    if s.time < k.ends then .next s
    else
      let put := fun (w : KeepOut) => { s with red := { s.red with keep := s.red.keep.put (blockNum b) w } }
      let ready := match k.released with
        | some r => decide (r + 5 ≤ s.time)
        | none => true
      if k.held = 0 then .next { s with red := { s.red with keep := s.red.keep.erase (blockNum b) } }
      else if !ready then .next (put { k with isOpen := false })
      else
        let t := put { k with isOpen := false, held := k.held - 1, released := some s.time }
        match t.dealt b with
        | some n => .next (t.firePulse n vi vo boot)
        | none => .next (t.setFleet b (fun g => { g with waits := true }))

/-- Parks a cell at the end of its period (R126, R217): it awaits a substitute when it served. -/
def State.parkCell (s : State) (n : Nat) : State :=
  let b := blockOf n
  let served := s.serves n
  let t := s.sleepCell n .parked
  (t.setFleet b (fun f => { f with lost := if served then f.lost ++ [n] else f.lost, leaving := f.leaving.erase n })).report b

/-- A pulse of a cell ends: the rectifying switch turns on, and what counts periods goes on (R92, R94, R98, R125,
R129, R217). -/
def State.endPulse (s : State) (n : Nat) : State :=
  let b := blockOf n
  let real := (s.cell n).refresh = 0
  let t := s.setCell n (fun c => { c with pulse := none, refresh := 0, offAt := some s.time, rect := real, pulses := if real then c.pulses + 1 else c.pulses })
  if !real then t
  else
    let t := t.setFleet b (fun f => { f with packetLeft := if f.packet = some n then f.packetLeft - 1 else f.packetLeft, ramp := f.ramp.map (fun r => if r.cell = n then { r with periods := r.periods + 1 } else r), leaving := f.leaving.map (fun e => if e.1 = n then (e.1, e.2.1, e.2.2 + 1) else e) })
    let t := match b, (t.fleet b).ramp with
      | .trk, some r => t.set TRK_REENTRY.PERIODS (min r.periods 255)
      | _, _ => t
    if t.thm.toPark.contains n && !(t.cell n).latched then
      ({ t with thm := { t.thm with toPark := t.thm.toPark.filter (fun k => k != n) } } : State).parkCell n
    else t

/-- ON_TIME_END (R93): the on-time has elapsed and the active switch turns off. -/
def execOnTimeEnd (cell : Cell) (s : State) : Result State :=
  let c := s.cell cell.val
  match c.pulse with
  | none => .next s
  | some t0 =>
    let len := if c.refresh = 0 then s.get (CEL_TON.TON cell.val) else c.refresh
    if 64 * t0 + len ≤ 64 * s.time then .next (s.endPulse cell.val) else .next s

/-- FREQ_LOOP_UPDATE (R94): after 64 pulses; `fmeas` in 0.1 Hz. `CF` is frozen in burst mode, in the truncation
hold-off and while limited. -/
def execFreqLoopUpdate (cell : Cell) (fmeas : Nat) (s : State) : Result State :=
  let n := cell.val
  if (s.cell n).pulses < 64 then .next s
  else
    let t := s.setCell n (fun c => { c with pulses := 0, fmeas := fmeas })
    let b := blockOf n
    if s.burst b || (s.fleet b).holdOff || s.is (CEL_STATUS.CBC n) then .next t
    else
      let f : Int := s.fset n
      .next (t.setZ (CEL_TON.CF n) (clampZ (-128) 127 (s.getZ (CEL_TON.CF n) + quot (128 * ((fmeas : Int) - f)) f)))

/-- The limits of R96 in force in the period, 10 mA; half of them in reduced service (R111). -/
def State.limits (s : State) (n : Nat) : Int × Int :=
  let w := (s.cell n).ilim.toNat
  let pos := clampZ 100 10000 (w % 65536 : Nat)
  let neg := clampZ (-10000) (-100) (signed 16 (w / 65536))
  if s.fullService then (pos, neg) else (quot pos 2, quot neg 2)

/-- CBC_LIMIT (R96): `i` in 10 mA. A limited pulse ends and counts; the rectifying switch turns off at the opposite
limit. Suspended on a cell that the crowbar has latched (R135). -/
def execCbcLimit (cell : Cell) (i : Int) (s : State) : Result State :=
  let n := cell.val
  let c := s.cell n
  let l := s.limits n
  let rev := s.reverse (blockOf n)
  if c.latched then .next s
  else if c.pulse.isSome && c.refresh = 0 then
    if (!rev && l.1 ≤ i) || (rev && i ≤ l.2) then
      .next (((s.endPulse n).count (CEL_CNT.CBC_CNT n)).mark (CEL_STATUS.CBC n) true)
    else .next s
  else if c.rect && ((!rev && i ≤ l.2) || (rev && l.1 ≤ i)) then .next (s.setCell n (fun x => { x with rect := false }))
  else .next s

/-- ZERO_CROSS_DETECT (R91): in burst mode, in reduced service, with `ZCD_EN`, or on an idle standby twin (R371). -/
def execZeroCrossDetect (cell : Cell) (i : Int) (s : State) : Result State :=
  let n := cell.val
  let active := s.burst (blockOf n) || !s.fullService || s.is (CEL_CFG.ZCD_EN n) || s.pairState == 4
  let crossed := if s.reverse (blockOf n) then decide (0 ≤ i) else decide (i ≤ 0)
  if active && crossed && (s.cell n).rect then .next (s.setCell n (fun c => { c with rect := false })) else .next s

/-- TRUNCATION (R97): `vfb` in uV. -/
def execTruncation (b : Block) (vfb : Int) (s : State) : Result State :=
  let f := s.fleet b
  let k : Int := clampN 4 40 (s.get (blockField b TRK_MODCFG.TRUNC))
  if s.refOf b * (400 + k) < 400 * vfb && !f.holdOff then
    let cut := s.cellsWhere b (fun n => s.switching n && (s.cell n).pulse.isSome)
    let t := s.each cut (fun n u => (u.endPulse n).count (CEL_CNT.TRUNC_CNT n))
    let t := t.each (t.cellsWhere b t.switching) (fun n u => u.mark (CEL_STATUS.TRUNC n) true)
    .next (t.setFleet b (fun g => { g with holdOff := true, packetLeft := 0 }))
  else .next s

/-- TRUNCATION_RELEASE (R97). -/
def execTruncationRelease (b : Block) (vfb : Int) (s : State) : Result State :=
  let f := s.fleet b
  let k : Int := clampN 4 40 (s.get (blockField b TRK_MODCFG.TRUNC))
  if 800 * vfb < s.refOf b * (800 + k) && f.holdOff then
    let t := s.each (blockCells b) (fun n u => u.mark (CEL_STATUS.TRUNC n) false)
    .next (t.setFleet b (fun g => { g with holdOff := false }))
  else .next s

/-! ### Burst mode (R98, R99) -/

/-- The highest band among a block's active cells. -/
def State.topBand (s : State) (b : Block) : Nat := (s.cellsWhere b (fun n => s.cellState n == 3)).foldl (fun m n => max m (s.band n)) 0

/-- BURST_ENTRY (R98): `avg` is the block current over the last 64 block pulses, 10 mA. -/
def execBurstEntry (b : Block) (avg : Int) (s : State) : Result State :=
  let ent := clampN 4 80 (s.get (blockField b (TRK_BAND_L.BURST_ENT (s.topBand b))))
  let l := s.cellsWhere b (fun n => s.cellState n == 3)
  match l with
  | [] => .next s
  | p :: rest =>
    if s.fullService && s.is (blockField b TRK_MODCFG.BURST_EN) && !s.burst b && 400 * avg.natAbs < ent * s.contRating b then
      let t := s.each rest (fun n u => u.sleepCell n .burst)
      let t := (t.mark (CEL_STATUS.BURST p) true).setFleet b (fun f => { f with packet := some p, packetLeft := 0, packetFired := false, atEntry := l, waits := false })
      .next (t.report b)
    else .next s

/-- Lower burst bound reached (R98). -/
def State.belowBurst (s : State) (b : Block) (vfb : Int) : Bool :=
  decide (1000 * vfb ≤ s.refOf b * (1000 - (clampN 1 15 (s.get (blockField b TRK_MODCFG.BURST_LOW)) : Int)))

/-- BURST_PACKET (R98): the next packet cell fires `BURST_N` + 1 pulses. -/
def execBurstPacket (b : Block) (vfb : Int) (s : State) : Result State :=
  let f := s.fleet b
  match f.packet with
  | none => .next s
  | some p =>
    if 0 < f.packetLeft || !s.belowBurst b vfb then .next s
    else
      let live := f.atEntry.filter (fun n => s.serves n)
      let after := live.filter (fun n => decide (p < n))
      let q := if f.packetFired then (after.head?).getD (live.headD p) else p
      let t := if q = p then s
        else ((s.sleepCell p .burst).mark (CEL_STATUS.BURST p) false).moveCell q 3
      let t := (t.mark (CEL_STATUS.BURST q) true).setFleet b (fun g => { g with packet := some q, packetFired := true, packetLeft := s.get (blockField b TRK_MODCFG.BURST_N) + 1 })
      .next (t.report b)

/-- BURST_EXIT (R99): `avg8` is the average current delivered over the last 8 packets, 10 mA. -/
def execBurstExit (b : Block) (vfb avg8 : Int) (s : State) : Result State :=
  let f := s.fleet b
  match f.packet with
  | none => .next s
  | some p =>
    let justEnded := f.packetFired && f.packetLeft = 0 && (match (s.cell p).offAt with
      | some t => decide (s.time ≤ t + us 1)
      | none => false)
    let ex := s.get (blockField b (TRK_BAND_L.BURST_EXIT (s.topBand b)))
    if (justEnded && s.belowBurst b vfb) || 100 * vfb < 99 * s.refOf b || ex * s.contRating b < 400 * avg8.natAbs then
      -- R402: in STANDBY a trunk that leaves burst wakes the device
      .next { s.leaveBurst b with saf := { s.saf with loadWake := s.saf.loadWake || (b == .trk && s.mode == 2) } }
    else .next s

/-! ### Synchronization (R100, R101) -/

/-- The cells whose target comes from `SYNC_IN`, and their status bit. -/
def State.syncReport (s : State) : State :=
  s.each (List.range 18) (fun n u => if u.cellPresent n then u.mark (CEL_STATUS.SYNC n) (u.syncGoal (blockOf n)).isSome else u)

/-- SYNC_QUALIFY (R100): 16 periods within 150 kHz to 1.0 MHz; `f` in kHz. -/
def execSyncQualify (f : Nat) (s : State) : Result State :=
  if s.fullService && s.is GLB_SYNC.SYNC_EN && decide (150 ≤ f) && decide (f ≤ 1000) then
    let t := { s with mod := { s.mod with syncOk := true } }
    .next (((t.set GLB_SYNC.FMEAS f).mark GLB_CLK.SYNC_GLIDE false).syncReport)
  else .next s

/-- One step of a cell's frequency target toward its goal: 0.02 % of `FSW` (R100, R109, R133). -/
def State.glideCell (s : State) (n : Nat) : State :=
  let step := s.fswOf n / 5000
  let now := s.target n
  let goal := s.goal n
  let new := if now < goal then min goal (now + step) else max goal (now - step)
  let free := (s.cell n).gdGoal.isNone && decide (new = goal)
  let t := s.setCell n (fun c => { c with target := if new = s.fswOf n then none else some new })
  t.onlyIf free (fun u => u.mark (CEL_STATUS.FLIM n) false)

/-- SYNC_GLIDE_STEP (R100, R101): every moving target steps; SYNC_GLIDE clears once every target is at `FSW`. -/
def execSyncGlideStep (s : State) : Result State :=
  if !s.fullService then .next s
  else
    let t := s.each (List.range 18) (fun n u => if u.cellPresent n then u.glideCell n else u)
    let home := (List.range 18).all (fun n => !t.cellPresent n || decide (t.target n = t.goal n))
    .next (t.onlyIf (!t.mod.syncOk && home) (fun u => u.mark GLB_CLK.SYNC_GLIDE false))

/-- SYNC_LOCK (R100): every synchronized cell within 0.5 % of its target for 256 periods. -/
def execSyncLock (s : State) : Result State :=
  let l := (List.range 18).filter (fun n => s.cellPresent n && s.switching n && (s.syncGoal (blockOf n)).isSome)
  let near := l.all (fun n => decide (200 * (((s.cell n).fmeas : Int) - s.target n).natAbs ≤ s.target n))
  if s.mod.syncOk && !l.isEmpty && near then .next (s.mark GLB_CLK.SYNC_LOCK true) else .next s

/-- SYNC_LOSS (R101): no edge for 3 periods; targets glide back to `FSW`. -/
def execSyncLoss (s : State) : Result State :=
  if !s.mod.syncOk then .next s
  else
    let t := { s with mod := { s.mod with syncOk := false } }
    let t := ((t.mark GLB_CLK.SYNC_LOCK false).mark GLB_CLK.SYNC_GLIDE true).raise GLB_SYNC.LOSS
    .next ((t.set GLB_SYNC.FMEAS 0).syncReport)

/-! ### Faults (R105 to R107, R449) -/

/-- CELL_FAULT_ISOLATE (R105, R106, R108): the detected causes; `CAUSE` by precedence DESAT, SENSE_FAIL, OPEN_PHASE. The
low-side check is suspended on a latched cell (R135), all checks while `VDRV` is low (R449). -/
def execCellFaultIsolate (cell : Cell) (hs ls sense opened : Bool) (s : State) : Result State :=
  let n := cell.val
  let st := s.cellState n
  let ls := ls && !(s.cell n).latched
  if (st = 3 || st = 2 || st = 6) && !s.mod.vdrvLow && (hs || ls || sense || opened) then
    let t := s.onlyIf hs (fun u => u.raise (CEL_FAULT.DESAT_HS n))
    let t := t.onlyIf ls (fun u => u.raise (CEL_FAULT.DESAT_LS n))
    let t := t.onlyIf sense (fun u => u.raise (CEL_FAULT.SENSE_FAIL n))
    let t := t.onlyIf opened (fun u => u.raise (CEL_FAULT.OPEN_PHASE n))
    .next (t.isolate n (if hs || ls then 3 else if sense then 2 else 1))
  else .next s

/-- VDRV_UNDERVOLTAGE (R449): `mv` below 8.50 V; every gate OFF but latched low sides; a ramp is abandoned without an
attempt. -/
def execVdrvUndervoltage (mv : Nat) (s : State) : Result State :=
  if mv < 8500 && !s.mod.vdrvLow then
    let t := { s with mod := { s.mod with vdrvLow := true } }
    let t := t.each (List.range 18) (fun n u => u.setCell n (fun c => { c with pulse := none, refresh := 0, rect := false }))
    .next (t.each [Block.trk, Block.chb] (fun b u => u.dropRamp b))
  else .next s

/-- VDRV_RECOVERY (R449): at or above 9.00 V for 10 us. -/
def execVdrvRecovery (mv : Nat) (s : State) : Result State :=
  if 9000 ≤ mv then .next { s with mod := { s.mod with vdrvLow := false } } else .next s

/-! ### Gate-drive dissipation (R109) -/

/-- Gate-drive power of the DIRECT cells that pass a test, at a frequency of each, in 10^-10 W. -/
def State.gatePower (s : State) (p : Nat → Bool) (f : Nat → Nat) : Nat :=
  ((List.range 18).filter (fun n => s.cellPresent n && s.switching n && s.direct n && p n)).foldl (fun acc n =>
    acc + (s.get (CEL_QG.QG_HS n) + s.get (CEL_QG.QG_LS n)) * f n) 0

/-- The gate-drive budget in force (R218), 10^-10 W. -/
def State.gateBudget (s : State) : Nat := s.get THM_LIM.PDRV * 100000000

/-- GATE_DRIVE_CHECK (R109): the power of the DIRECT cells; a lowered goal is lifted once the free targets fit. -/
def execGateDriveCheck (s : State) : Result State :=
  let p := s.gatePower (fun _ => true) (fun n => (s.cell n).fmeas)
  let free := s.gatePower (fun _ => true) (fun n => (s.syncGoal (blockOf n)).getD (s.fswOf n))
  let excess := decide (s.gateBudget < p)
  let t := { s with mod := { s.mod with driveUsed := p, overDriveSince := if excess then some (s.mod.overDriveSince.getD s.time) else none } }
  .next (if free ≤ s.gateBudget then t.each (List.range 18) (fun n u => u.setCell n (fun c => { c with gdGoal := none })) else t)

/-- GATE_DRIVE_LIMIT (R109): above the budget for 1 ms; one common factor on the DIRECT targets, none below
150 kHz. -/
def execGateDriveLimit (s : State) : Result State :=
  if s.due (s.mod.overDriveSince.map (fun t => t + ms 1)) && 0 < s.mod.driveUsed then
    let l := (List.range 18).filter (fun n => s.cellPresent n && s.direct n && s.switching n)
    let t := s.each l (fun n u =>
      let g := max 1500000 (quot (u.target n * s.gateBudget : Nat) s.mod.driveUsed).toNat
      (u.setCell n (fun c => { c with gdGoal := some g })).mark (CEL_STATUS.FLIM n) true)
    .next { t with mod := { t.mod with overDriveSince := some s.time } }
  else .next s

end Sys2Proof.Machine
end

