-- ==== Sys2Proof/Machine/Trunk.lean ====
section
/-!
DEFINITION. The rules of a block with an active set (R112 to R131, R141), the trunk's set-point and crowbar
(R116 to R119, R132 to R138), and cell tests (R130, R270, R471).
-/

namespace Sys2Proof.Machine

/-! ### Ramps (R125 to R127) -/

/-- Starts a re-entry ramp: a spare cell in RAMP, a parked cell in ACTIVE; `TRIM` 0 and a refresh pulse. -/
def State.startRamp (s : State) (b : Block) (r : Ramp) : State :=
  let code := if s.cellState r.cell = 4 then 3 else 2
  let t := (s.moveCell r.cell code).set (CEL_TON.TRIM r.cell) 0
  let t := t.setCell r.cell (fun c => { c with needRefresh := true })
  (t.setFleet b (fun f => { f with ramp := some { r with periods := 0 } })).report b

/-- Starts the next queued ramp when none runs: by class, then ascending cell number (R127). -/
def State.nextRamp (s : State) (b : Block) : State :=
  let f := s.fleet b
  match f.ramp, f.queue with
  | some _, _ => s
  | none, [] => s
  | none, q :: rest =>
    let best := rest.foldl (fun (m : Ramp) r => if r.cls < m.cls || (r.cls = m.cls && r.cell < m.cell) then r else m) q
    (s.setFleet b (fun g => { g with queue := g.queue.filter (fun r => r.cell != best.cell) })).startRamp b best

/-- Queues a ramp of a cell. -/
def State.queueRamp (s : State) (b : Block) (cell cls : Nat) : State :=
  (s.setFleet b (fun f => { f with queue := f.queue.filter (fun r => r.cell != cell) ++ [{ cell := cell, cls := cls }] })).nextRamp b

/-- The block counts as derated while it is short of cells (R128). -/
def State.setDerated (s : State) (b : Block) (on : Bool) : State :=
  match fleetRegs b with
  | some r => s.mark r.derated on
  | none => s

/-- Automatic substitution is enabled. -/
def State.spareAuto (s : State) (b : Block) : Bool :=
  match fleetRegs b with
  | some r => s.is r.spareAuto
  | none => false

/-- Raises a flag of a block. -/
def State.blockFlag (s : State) (b : Block) (g : FleetRegs → Field) : State :=
  match fleetRegs b with
  | some r => s.raise (g r)
  | none => s

/-- SUBSTITUTION_START (R124, R127, R128): a substitute for the first lost cell starts its ramp, pre-empting any other
ramp; a running substitution goes on first. Without a substitute the block derates. -/
def execSubstitutionStart (b : Block) (s : State) : Result State :=
  let f := s.fleet b
  match f.lost with
  | [] => .next s
  | _ :: rest =>
    let busy := match f.ramp with
      | some r => r.cls == 0
      | none => false
    if busy then .next s
    else
      let t := s.setFleet b (fun g => { g with lost := rest })
      match (if s.spareAuto b then s.pickSubstitute b else none) with
      | none => .next ((((t.blockFlag b (fun r => r.flagDerated)).setDerated b true).degrade (blockRegion b)).report b)
      | some n =>
        let t := match f.ramp with
          | some r => (t.dropRamp b).setFleet b (fun g => { g with queue := g.queue ++ [({ cell := r.cell, cls := r.cls } : Ramp)] })
          | none => t
        .next ((t.blockFlag b (fun r => r.flagSubst)).startRamp b { cell := n, cls := 0 })

/-- REENTRY_DONE (R125, R128 to R130): the 64th period has ended; the cell is ACTIVE and counts as available, and a
cell that it replaces gives up its share. -/
def execReentryDone (b : Block) (s : State) : Result State :=
  match (s.fleet b).ramp with
  | none => .next s
  | some r =>
    if r.periods < 64 then .next s
    else
      let t := s.moveCell r.cell 3
      let swap := (t.fleet b).swaps.find r.cell
      let gone := match swap with
        | some (n, why) => (t.fleet b).leaving.put n (why, 0)
        | none => (t.fleet b).leaving
      let t := t.setFleet b (fun f => { f with ramp := none, tries := f.tries.erase r.cell, swaps := f.swaps.erase r.cell, leaving := gone, starting := f.queue.any (fun q => q.cls == 1) })
      let t := t.blockFlag b (fun g => g.flagDone)
      let short := decide ((t.availCells b).length < (t.activeSet b).length)
      let t := if short then t else t.setDerated b false
      .next ((t.report b).nextRamp b)

/-- REENTRY_ABORT (R126): the rail leaves ±1 % of its reference during a ramp; the cell is parked and retried after
10 ms, after the third time not again. `vfb` in uV. -/
def execReentryAbort (b : Block) (vfb : Int) (s : State) : Result State :=
  match (s.fleet b).ramp with
  | none => .next s
  | some r =>
    let ref := s.refOf b
    if 100 * (vfb - ref).natAbs ≤ ref.natAbs then .next s
    else
      let k := ((s.fleet b).tries.find r.cell).getD 0 + 1
      let t := (s.dropRamp b).blockFlag b (fun g => g.flagAbort)
      let t := t.setFleet b (fun f => { f with tries := f.tries.put r.cell k, retryAt := if k < 3 then f.retryAt.put r.cell (s.time + ms 10, r.cls) else f.retryAt.erase r.cell })
      let t := if 3 ≤ k then t.blockFlag b (fun g => g.flagFail) else t
      .next ((t.report b).nextRamp b)

/-- REENTRY_RETRY (R126): 10 ms after an abandoned ramp. -/
def execReentryRetry (b : Block) (s : State) : Result State :=
  match (s.fleet b).retryAt.find? (fun e => decide (e.2.1 ≤ s.time)) with
  | none => .next s
  | some (n, _, cls) =>
    let t := s.setFleet b (fun f => { f with retryAt := f.retryAt.erase n })
    .next (if t.isParked n then t.queueRamp b n cls else t)

/-! ### Cell tests (R130, R270, R471) -/

/-- The result of a ROM cell test: words of R471. -/
def State.testBlock (s : State) (c pass fail mask : Nat) (cal : Bool) : List Word :=
  let x := s.context c
  let fitted := cellBits 0 ((List.range 18).filter (fun n => bitOf mask n && s.fitted n))
  let left := fitted - (fitted &&& (pass ||| fail))
  let base := [BitVec.ofNat 32 pass, BitVec.ofNat 32 fail, BitVec.ofNat 32 left, BitVec.ofNat 32 x.lastCell]
  if cal then base ++ [x.oldCal, x.newCal] else base

/-- All cells of a test are done or deferred: the record of R268, and the end of a ROM job. -/
def State.testsDone (s : State) (slot c tag : Nat) (cal : Bool) (pass fail : Nat) : State :=
  let w0 := BitVec.ofNat 32 (0xFC + pass % 2 ^ 18 * 256)
  let t := (s.freeSlot slot).storeResult c tag w0 (BitVec.ofNat 32 fail)
  match (s.context c).rom, (s.context c).job with
  | some _, some (m, r) =>
    let mask := ((s.job m r).args.getD 0 0).toNat % 2 ^ 18
    let all := (List.range 18).all (fun n => !(bitOf mask n && s.fitted n) || bitOf (pass ||| fail) n)
    t.romEnd m r (if all then 5 else 9) 0 (t.testBlock c pass fail mask cal)
  | _, _ => t

/-- Takes a cell into TEST (R85); a calibration auto-zeroes its converter (R203). -/
def State.takeTest (s : State) (n : Nat) (cal : Bool) : State :=
  let from_ := s.cellState n
  let t := s.moveCell n 6
  (t.setCell n (fun c => { c with testFrom := from_, zeroed := c.zeroed || cal })).report (blockOf n)

/-- A cell can be taken for a test as it stands (R270). -/
def State.takeable (s : State) (n : Nat) : Bool :=
  let st := s.cellState n
  let b := blockOf n
  if b == .prt then s.get PRT_STATUS.MODE == 0 && (st == 0 || st == 5 || st == 1)
  else st == 1 || st == 5 || s.isParked n ||
    (st == 0 && (s.causes n != 0 || (match fleetRegs b with
      | some r => !s.is r.enabled
      | none => false)))

/-- Goes on with the next cell of a test: taken directly, by substitution, or deferred; the test ends when none is
left. -/
def State.nextTestCell (s : State) (slot : Nat) : State :=
  match s.lom.slots.find slot with
  | some (c, .cellTest tag cal todo pass fail) =>
    let step := fun (acc : State × Nat × Bool) (n : Nat) =>
      if acc.2.2 || !bitOf acc.2.1 n then acc
      else
        let u := acc.1
        let b := blockOf n
        if !u.fitted n then (u, setBitTo acc.2.1 n false, false)
        else if u.takeable n then (u.takeTest n cal, acc.2.1, true)
        else if u.serves n && b != .prt && u.cellState n != 2 then
          match u.pickSubstitute b with
          | some sub =>
            if u.blockCurrent b ≤ ((u.ratingFor b ((u.availCells b).length - 1)).1 : Int) then
              ((u.setFleet b (fun f => { f with swaps := f.swaps.put sub (n, .test slot) })).queueRamp b sub 2, acc.2.1, true)
            else (u, setBitTo acc.2.1 n false, false)
          | none => (u, setBitTo acc.2.1 n false, false)
        else (u, setBitTo acc.2.1 n false, false)
    let r := (List.range 18).foldl step (s, todo, false)
    let t := { r.1 with lom := { r.1.lom with slots := r.1.lom.slots.put slot (c, .cellTest tag cal r.2.1 pass fail) } }
    if r.2.2 then t else t.testsDone slot c tag cal pass fail
  | _ => s

/-- CELL_TEST_DONE (R85, R106, R130, R208, R270): the self-test or calibration of the cell ends; the next cell is
taken. -/
def execCellTestDone (cell : Fin 18) (pass : Bool) (newCal : Word) (s : State) : Result State :=
  let n := cell.val
  let mine := s.lom.slots.find? (fun e => match e.2.2 with
    | .cellTest _ _ todo _ _ => bitOf todo n && (List.range n).all (fun k => !bitOf todo k)
    | _ => false)
  match mine with
  | some (slot, c, .cellTest tag cal todo p f) =>
    let st := s.cellState n
    if st ≠ 6 && st ≠ 5 then .next s
    else
      let ok := pass && st == 6
      let old := s.rd (CEL_CAL.addr n)
      let from_ := (s.cell n).testFrom
      let t := if st = 5 then s
        else if cal then
          let u := if ok then { (s.wr (CEL_CAL.addr n) newCal) with calArea := s.calArea.set (CEL_CAL.addr n) newCal } else s
          if from_ = 0 then u.moveCell n 0
          else if u.causes n != 0 then u.moveCell n from_
          else u.moveCell n 1
        else if ok then
          let u := s.wr (CEL_FAULT.addr n) (s.rd (CEL_FAULT.addr n) &&& 1#32)
          if from_ = 0 then u.moveCell n 0 else u.moveCell n 1
        else s.isolate n (s.get (CEL_STATUS.CAUSE n))
      let p' := if ok then setBitTo p n true else p
      let f' := if ok then f else setBitTo f n true
      let t := t.setContext c (fun x => { x with lastCell := n, oldCal := if cal then old else x.oldCal, newCal := if cal then t.rd (CEL_CAL.addr n) else x.newCal })
      let t := { t with lom := { t.lom with slots := t.lom.slots.put slot (c, .cellTest tag cal (setBitTo todo n false) p' f') } }
      let t := t.report (blockOf n)
      let t := match (t.context c).rom, (t.context c).job with
        | some _, some (m, r) =>
          let mask := ((t.job m r).args.getD 0 0).toNat % 2 ^ 18
          let fit := ((List.range 18).filter (fun k => bitOf mask k && t.fitted k)).length
          t.putResult m r (t.testBlock c p' f' mask cal) (some (255 * popCount 18 (p' ||| f') / max 1 fit)) false
        | _, _ => t
      .next (t.nextTestCell slot)
  | _ => .next s

/-- SHARE_OUT_DONE (R129 to R131): 64 periods after its share began to fall, the cell is parked; a removed cell is then
a spare, a tested cell goes to TEST. -/
def execShareOutDone (b : Block) (s : State) : Result State :=
  match (s.fleet b).leaving.find? (fun e => decide (64 ≤ e.2.2) || !s.switching e.1) with
  | none => .next s
  | some (n, why, _) =>
    let t := (s.sleepCell n .parked).setFleet b (fun f => { f with leaving := f.leaving.erase n })
    match why with
    | .rotate => .next (t.report b)
    | .remove => .next ((t.moveCell n 1).report b)
    | .test slot =>
      let cal := match t.lom.slots.find slot with
        | some (_, .cellTest _ c _ _ _) => c
        | _ => false
      .next ((t.takeTest n cal).report b)

/-! ### Active set, sharing and shedding (R112, R120 to R122) -/

/-- ACTIVE_SET_WRITE (R112, R169): the trunk's write takes effect at the next tick, bits 0 and 5 read 1; the charge
block's enters an order. -/
def execActiveSetWrite (m : Master) (b : Block) (data : Word) (s : State) : Result State :=
  if !s.mayWrite m then .next s
  else
    match b with
    | .trk => .next (s.setFleet .trk (fun f => { f with assignNext := some ((data.toNat % 1024) ||| 0x21) }))
    | .chb => .next (s.enterFields m.val data [(0x0C, CHB_ASSIGN.DEF_ACTIVE)])
    | .prt => .next s

/-- A new active set in force (R112, R131): added fitted cells re-enter, removed serving cells give up their share. -/
def State.applyAssign (s : State) (b : Block) (bits : Nat) : State :=
  match fleetRegs b with
  | none => s
  | some r =>
    let old := s.get r.assign
    let t := s.set r.assign bits
    if !t.is r.enabled then t.report b
    else
      let t := t.each (t.cellsWhere b (fun n => bitOf bits (n - r.base) && !bitOf old (n - r.base) && t.cellState n == 1)) (fun n u => u.queueRamp b n 1)
      let gone := t.cellsWhere b (fun n => !bitOf bits (n - r.base) && bitOf old (n - r.base))
      let t := t.each gone (fun n u =>
        if u.isParked n then u.moveCell n 1
        else if u.switching n then u.setFleet b (fun f => { f with leaving := f.leaving.put n (.remove, 0) })
        else if u.serves n then u.moveCell n 1
        else u)
      t.report b

/-- Share targets in 10 mA as fractions (R121, R125): numerator and denominator. -/
def State.shareTarget (s : State) (b : Block) (n : Nat) : Int × Int :=
  let total := s.blockCurrent b
  let f := s.fleet b
  let full := s.cellsWhere b (fun k => s.cellState k == 3 && s.rampCell b != some k && (f.leaving.find k).isNone)
  let cnt : Int := max 1 full.length
  let rampPart : Int × Int := match f.ramp with
    | some r => (total * min r.periods 64, 64 * (cnt + 1))
    | none => (0, 1)
  let share : Int × Int := (total * rampPart.2 - rampPart.1, rampPart.2)
  if s.rampCell b = some n then rampPart
  else
    match f.leaving.find n with
    | some (_, p) => (total * (64 - min p 64), 64 * (cnt + 1))
    | none =>
      if s.thermalShare b then
        let sumT := full.foldl (fun acc k => acc + s.stageTemp k) 0
        let span : Int := s.get TRK_BAL.TW_SPAN * 10000
        let dev := fun k => clampZ (-span) span (quot ((s.get TRK_BAL.TW_GAIN : Int) * (sumT - cnt * s.stageTemp k) * 1000) (16 * cnt))
        let mean := quot (full.foldl (fun acc k => acc + dev k) 0) cnt
        (share.1 * (1000000 + dev n - mean), share.2 * cnt * 1000000)
      else (share.1, share.2 * cnt)

/-- BALANCE_UPDATE (R120, R141): every switching cell's `TRIM` moves toward its share; a trim at a limit for 1 ms sets
BAL_SAT. -/
def execBalanceUpdate (b : Block) (s : State) : Result State :=
  if b == .prt || !s.fullService then .next s
  else
    let gain : Int := if b == .trk then s.get TRK_BAL.BAL_GAIN else 4
    let l := s.cellsWhere b s.switching
    let t := s.each l (fun n u =>
      let g := s.shareTarget b n
      let d := quot (gain * (g.1 - g.2 * s.getZ (CEL_IMEAS.AVG n))) (g.2 * 100)
      let trim := clampZ (-128) 127 (s.getZ (CEL_TON.TRIM n) + d)
      let u := u.setZ (CEL_TON.TRIM n) trim
      let at_ := decide (trim = -128) || decide (trim = 127)
      u.setFleet b (fun f => { f with satSince := if at_ then f.satSince.put n ((f.satSince.find n).getD s.time) else f.satSince.erase n }))
    let sat := (t.fleet b).satSince.any (fun e => decide (e.2 + ms 1 ≤ t.time))
    .next (t.onlyIf (sat && b == .trk) (fun u => u.raise TRK_FLAGS.BAL_SAT))

/-- Shedding levels of a block in 10 mA: `SHED_I`, `RESTORE_I`, and `NMAX` with the cap of R220 (R122, R141). -/
def State.shedLevels (s : State) (b : Block) : Nat × Nat × Nat :=
  match b with
  | .trk => (50 * s.get TRK_SHED.SHED_I, 50 * s.get TRK_SHED.RESTORE_I, min (clampN 1 10 (s.get TRK_SHED.NMAX)) (s.get THM_NCAP.TRK))
  | _ => (800, 1100, s.get THM_NCAP.CHB)

/-- Sheds one ACTIVE cell: the highest-numbered, or the hottest under thermal-weighted sharing (R122). -/
def State.shedOne (s : State) (b : Block) : State :=
  let l := s.cellsWhere b (fun n => s.cellState n == 3 && s.rampCell b != some n)
  match bestCell (fun x y => if s.thermalShare b then decide (s.stageTemp y < s.stageTemp x) else decide (y < x)) l with
  | none => s
  | some n => (s.sleepCell n .shed).report b

/-- Wakes one shed cell: the lowest-numbered, or the coolest (R122). -/
def State.wakeOne (s : State) (b : Block) : State :=
  let l := s.cellsWhere b (fun n => s.cellState n == 4 && (s.cell n).sleep == .shed)
  match bestCell (fun x y => s.thermalShare b && decide (s.stageTemp x < s.stageTemp y)) l with
  | none => s
  | some n => (s.moveCell n 3).report b

/-- Shedding acts on a block (R122, R137). -/
def State.sheds (s : State) (b : Block) : Bool :=
  s.fullService && !s.burst b && (match b with
    | .trk => s.is TRK_SHED.SHED_EN && !s.reverse .trk
    | .chb => true
    | .prt => false)

/-- PHASE_SHED (R122): the block current has stayed below (N_sw − 1) x `SHED_I` for `SHED_DLY`. -/
def execPhaseShed (b : Block) (s : State) : Result State :=
  let n := (s.cellsWhere b s.switching).length
  if s.sheds b && (s.fleet b).ramp.isNone && decide (1 < n) && decide (s.blockCurrent b < ((n - 1) * (s.shedLevels b).1 : Nat)) then
    .next (s.shedOne b)
  else .next s

/-- Restoring of R122 in a tick, and the bound by `NMAX`. -/
def State.restoreCells (s : State) (b : Block) : State :=
  let (shedI, restI, nmax) := s.shedLevels b
  let n := (s.cellsWhere b s.switching).length
  let i := s.blockCurrent b
  let t := if s.sheds b && decide ((n * restI : Nat) < i) && decide (0 < n) then
      let want := min (min (s.availCells b).length nmax) (if shedI = 0 then 10 else ceilDiv i.toNat shedI)
      (List.range (want - n)).foldl (fun u _ => u.wakeOne b) s
    else s
  let m := (t.cellsWhere b t.switching).length
  if t.fullService && !t.burst b && (t.fleet b).ramp.isNone then (List.range (m - nmax)).foldl (fun u _ => u.shedOne b) t else t

/-! ### Limits (R114, R115) -/

/-- Number under which a block asks the Loom to shed. -/
def shedAsker : Block → Nat
  | .trk => 1
  | .chb => 2
  | .prt => 3

/-- A block's current as rail-side current, 10 mA. -/
def State.railSide (s : State) (b : Block) (i : Nat) : Nat :=
  match b with
  | .chb => (quot (i * s.get CHG_PACK.VPACK : Nat) s.railV).toNat
  | _ => i

/-- Sets or withdraws a shed request (R240). -/
def State.askShed (s : State) (who excess : Nat) : State :=
  let l := s.lom.requests.filter (fun r => r.who != who)
  { s with lom := { s.lom with requests := if excess = 0 then l else l ++ [{ who := who, excess := excess }], quietSince := if excess ≠ 0 then s.time else if l.isEmpty && !s.lom.requests.isEmpty then s.time else s.lom.quietSince } }

/-- One microsecond of the overload budget (R114), in 1/9 us. -/
def State.budgetTick (s : State) (b : Block) : State :=
  let f := s.fleet b
  let excess := decide ((s.contRating b : Int) < s.blockCurrent b)
  let new := if excess then f.budget - 9 else min 900000 (f.budget + 1)
  let t := s.setFleet b (fun g => { g with budget := new, exhausted := decide (new = 0) })
  match b with
  | .trk => t.set TRK_OVLD.BUDGET (new / 900)
  | _ => t

/-- OVERLOAD_BUDGET_EXHAUSTED (R114): the budget has reached zero; the limit falls to the continuous rating. -/
def execOverloadBudgetExhausted (b : Block) (s : State) : Result State :=
  if b != .prt && (s.fleet b).budget = 0 then
    .next (((s.setFleet b (fun f => { f with exhausted := true })).blockFlag b (fun r => r.flagOvld)).report b)
  else .next s

/-- CURRENT_LIMIT_EXCEEDED (R115): ILIMIT, the request to shed, and the trunk's droop. -/
def execCurrentLimitExceeded (b : Block) (s : State) : Result State :=
  let i := if b == .trk && s.reverse b then -(s.blockCurrent b) else s.blockCurrent b
  let lim := s.effLimit b
  if b == .prt || i ≤ (lim : Int) then .next s
  else
    match fleetRegs b with
    | none => .next s
    | some r =>
      let t := (s.raise r.flagIlimit).mark r.ilimit true
      let t := if b == .trk && s.reverse b then t else t.askShed (shedAsker b) (t.railSide b (i - lim).toNat)
      .next (t.setFleet b (fun f => { f with droopSince := if b == .trk then some (f.droopSince.getD s.time) else f.droopSince, returning := false }))

/-- CURRENT_LIMIT_RELEASE (R115): 2 % below the limit; the reference returns to its target. -/
def execCurrentLimitRelease (b : Block) (s : State) : Result State :=
  let i := if b == .trk && s.reverse b then -(s.blockCurrent b) else s.blockCurrent b
  if b == .prt || (98 * s.effLimit b : Int) < 100 * i then .next s
  else
    match fleetRegs b with
    | none => .next s
    | some r =>
      if !s.is r.ilimit then .next s
      else
        let t := s.askShed (shedAsker b) 0
        if b == .trk then .next (t.setFleet b (fun f => { f with returning := true }))
        else .next (t.mark r.ilimit false)

/-- DROOP_TIMEOUT (R115, R21): a reference held below its target for 100 ms, or below 90 % of it, counts as loss of
regulation. -/
def execDroopTimeout (s : State) : Result State :=
  let f := s.fleet .trk
  let low := decide (10 * f.vref < 9 * (10000 * (s.get TRK_REF.TARGET : Int)))
  match f.droopSince with
  | none => .next s
  | some t0 => if t0 + ms 100 ≤ s.time || low then .next (s.safeRegion .north) else .next s

/-- The block regulates a current (R470). -/
def State.regulatesCurrent (s : State) (b : Block) : Bool :=
  match b with
  | .trk => false
  | .chb => s.get CHB_STATUS.MODE == 2 || (s.get CHB_STATUS.MODE == 1 && s.chgState != 5 && s.chgState != 6)
  | .prt => s.get PRT_STATUS.MODE == 3

/-- REGULATION_LOSS (R21, R470): `v` is the regulated quantity averaged over 10 us in uV, a current as 10 mV per
ampere; it has left its band for 1 ms. -/
def execRegulationLoss (b : Block) (v : Int) (s : State) : Result State :=
  let ref := if b == .chb && s.get CHB_STATUS.MODE == 1 && (s.chgState == 5 || s.chgState == 6) then 1000 * (s.cvEffPack : Int) else s.refOf b
  let running := match b with
    | .trk => (s.is TRK_STATUS.ENABLED || (s.fullService && s.get SRC_STATUS.PRIMARY == 0 && !s.sel.idleTrunk)) && (s.fleet .trk).droopSince.isNone
    | .chb => s.get CHB_STATUS.MODE != 0
    | .prt => s.get PRT_STATUS.MODE != 0 && s.get PRT_STATUS.MODE != 5
  let d := (v - ref).natAbs
  let out := if s.regulatesCurrent b then decide (max ref.natAbs 100000 < 10 * d) else decide (3 * ref.natAbs < 100 * d)
  if running && out then .next (s.safeRegion (blockRegion b)) else .next s

/-! ### The trunk's set-point (R116 to R119) -/

/-- TRK_CMD (R116): an order with voltage and rate. -/
def execTrkCmd (m : Master) (volt rate : BitVec 16) (s : State) : Result State :=
  if s.mayWrite m then .next (s.enter { s.railOrder volt.toNat rate.toNat with master := m.val }) else .next s

/-- The sample of the VSEL pins in a tick (R117): after three agreeing samples the selection changes, and with
`PIN_EN` an order of M4 enters this tick's merge. -/
def State.vselTick (s : State) (k : Nat) : State :=
  let hist := (k :: s.mod.vsel).take 3
  let t := ({ s with mod := { s.mod with vsel := hist } } : State).set TRK_PIN.LIVE k
  if hist.length = 3 && hist.all (fun x => x == k) && t.get TRK_PIN.SEL ≠ k then
    let t := (t.set TRK_PIN.SEL k).raise TRK_FLAGS.PIN_CHG
    if t.is TRK_CTRL.PIN_EN then
      let o := t.railOrder (t.get (TRK_VSET.VOLT k)) (t.get TRK_PIN.PIN_RATE)
      { t with lom := { t.lom with orders := t.lom.orders ++ [{ o with master := 4, origin := .policy, at_ := t.time, tick := t.tickNow }] } }
    else t
  else t

/-- One microsecond of the trunk's reference toward its target (R115, R118, R132); `droop` is the step below in uV that
the block takes while it is above its limit. When the target is reached SLEW_DONE is set and the order of the slew
resolves APPLIED. -/
def State.slewTick (s : State) (droop : Nat) : State :=
  let f := s.fleet .trk
  let stored := 10000 * (s.get TRK_REF.TARGET : Int)
  let moving := s.get SRC_STATUS.XFER == 1 || s.get SRC_STATUS.XFER == 2 || s.get SRC_STATUS.XFER == 3
  let target := if moving then 10000 * (s.src.xferRef : Int) else if s.regionSafe .north then 10000 * (s.get (TRK_VSET.VOLT (s.get TRK_PIN.SEL)) : Int) else stored
  let active := s.is TRK_STATUS.ENABLED && !s.reverse .trk && (s.get SRC_STATUS.PRIMARY == 1 || s.mod.romTrunk)
  if !active then s.mark TRK_STATUS.SLEWING false
  else if f.droopSince.isSome && !f.returning then
    let t := s.setFleet .trk (fun g => { g with vref := max 0 (g.vref - droop) })
    (t.set TRK_REF.REF (nearest (t.fleet .trk).vref 10000).toNat).mark TRK_STATUS.SLEWING true
  else
    let rate : Int := if moving then 10000 else 100 * clampN 1 1000 (if s.regionSafe .north then s.get TRK_PIN.PIN_RATE else if f.returning then s.get TRK_RATE.DEF_RATE else s.get TRK_RATE.ACT_RATE)
    let new := if f.vref < target then min target (f.vref + rate) else max target (f.vref - rate)
    let t := s.setFleet .trk (fun g => { g with vref := new })
    let t := (t.set TRK_REF.REF (nearest new 10000).toNat).mark TRK_STATUS.SLEWING (new != target)
    if new = target && !moving && !s.regionSafe .north then
      let t := if f.vref ≠ target then t.raise TRK_FLAGS.SLEW_DONE else t
      let t := if f.returning then (t.setFleet .trk (fun g => { g with returning := false, droopSince := none })).mark TRK_STATUS.ILIMIT false else t
      match t.mod.order with
      | some o => ({ t with mod := { t.mod with order := none } } : State).resolve o 0 false
      | none => t
    else t

/-! ### The crowbar (R134 to R136) -/

/-- V_ovr follows the primary source's reference: upward at once, downward at 5 V/ms (R134). -/
def State.ovrTick (s : State) : State :=
  let p := s.get SRC_STATUS.PRIMARY
  let ref := if p = 1 then (s.fleet .trk).vref else if p = 3 then (s.fleet .chb).vref
    else if p = 4 then (s.fleet .prt).vref else s.mod.vOvr
  { s with mod := { s.mod with vOvr := max ref (s.mod.vOvr - 5000) } }

/-- The crowbar threshold in uV. -/
def State.crowbarLevel (s : State) : Int :=
  let abs : Int := 10000 * clampN 600 3600 (s.get TRK_OVP.ABS)
  if s.get SRC_STATUS.PRIMARY = 2 then abs else min abs (quot ((clampN 105 150 (s.get TRK_OVP.PCT) : Int) * s.mod.vOvr) 100)

/-- CROWBAR_FIRE (R135): the rail, in 10 mV, above the threshold for 500 ns; the low sides of every active-set cell that
is not ISOLATED latch on, and the chip enters its safe state. -/
def execCrowbarFire (rail : Nat) (s : State) : Result State :=
  if s.is TRK_OVP.CROWBAR || 10000 * (rail : Int) ≤ s.crowbarLevel then .next s
  else
    let l := (s.activeSet .trk).filter (fun n => s.cellState n != 5)
    let t := s.each l (fun n u => u.setCell n (fun c => { c with latched := true, pulse := none, refresh := 0, rect := false }))
    let t := t.dropRamp .trk
    let t := ((t.mark TRK_OVP.CROWBAR true).mark TRK_OVP.CAUSE_GONE false).mark TRK_STATUS.CROWBAR true
    .next ((t.raise TRK_FLAGS.CROWBAR).safeChip 4)

/-- CROWBAR_CAUSE_GONE (R136): the rail below 1.00 V for 10 ms. -/
def execCrowbarCauseGone (rail : Nat) (s : State) : Result State :=
  if s.is TRK_OVP.CROWBAR && decide (rail < 100) then .next (s.mark TRK_OVP.CAUSE_GONE true) else .next s

/-- The crowbar latch releases (R136, R397). -/
def State.releaseCrowbar (s : State) : State :=
  let t := s.each (List.range 10) (fun n u => u.setCell n (fun c => { c with latched := false }))
  ((t.mark TRK_OVP.CROWBAR false).mark TRK_OVP.CAUSE_GONE false).mark TRK_STATUS.CROWBAR false

end Sys2Proof.Machine
end

