-- ==== Sys2Proof/Machine/Saf.lean ====
section
/-!
DEFINITION. The Safety Supervisor (R388 to R413): the window watchdog, the fault collector, host resets, the power modes and
wake, and the lifecycle.
-/

namespace Sys2Proof.Machine

/-! ### The window watchdog (R388 to R393) -/

/-- The serve index k (R390); frozen in DEEP SLEEP (R393). -/
def State.wdgIndex (s : State) : Nat := s.saf.wdgFrozen.getD (s.aon - s.saf.wdgT0)

/-- Ends the key sequence. -/
def State.wdgIdle (s : State) : State :=
  ({ s with saf := { s.saf with wdgArmed := none } } : State).set SAF_WDG_KEY.SEQ 0

/-- A violation or an expiry with its code of `LAST` (R391, R392). -/
def State.wdgViolate (s : State) (code : Nat) : State :=
  let t := s.wdgIdle.set SAF_WDG_STAT.LAST code
  if s.is SAF_WDG_CTRL.DIS && s.is SAF_STATUS.TEST_ACT then
    if code = 5 then { t with saf := { t.saf with wdgT0 := t.aon } } else t
  else (t.setFault 0).requestReset 4 code

/-- A serve, judged by its index (R390, R391). -/
def State.wdgServe (s : State) : State :=
  let k := s.wdgIndex
  if k < s.saf.wdgC then s.wdgViolate 2
  else if k < s.saf.wdgC + s.saf.wdgO then
    let t := (s.wdgIdle.set SAF_WDG_STAT.LAST 1).set SAF_WDG_LAST.LAST_IDX k
    let t := t.set SAF_WDG_STAT.FIRST 0
    { t with saf := { t.saf with wdgT0 := t.aon, wdgC := 10 * max 1 (t.get SAF_WDG_CFG.CLOSED), wdgO := 10 * max 1 (t.get SAF_WDG_CFG.OPEN), served := true } }
  else s.wdgViolate 5

/-- A write to `KEY` (R388, R389): only M4's counts. -/
def State.wdgKey (s : State) (m : Master) (key : Nat) : State :=
  if m.val ≠ 4 || s.saf.inReset.isSome || 3 ≤ s.mode then s
  else
    match s.saf.wdgArmed with
    | none =>
      if key = 0xA5C3 then ({ s with saf := { s.saf with wdgArmed := some s.aon } } : State).set SAF_WDG_KEY.SEQ 1
      else s.wdgViolate 3
    | some t => if key = 0x5A3C then if s.aon ≤ t + 64 then s.wdgServe else s.wdgViolate 4 else s.wdgViolate 3

/-- WDG_KEY_FIRST (R389). -/
def execWdgKeyFirst (m : Master) (s : State) : Result State := .next (s.wdgKey m 0xA5C3)

/-- WDG_KEY_SECOND (R389, R390). -/
def execWdgKeySecond (m : Master) (s : State) : Result State := .next (s.wdgKey m 0x5A3C)

/-- WDG_KEY_INVALID (R389): any value. -/
def execWdgKeyInvalid (m : Master) (key : BitVec 16) (s : State) : Result State := .next (s.wdgKey m key.toNat)

/-- WDG_KEY_TIMEOUT (R389): 65 ticks after the first key. -/
def execWdgKeyTimeout (s : State) : Result State :=
  match s.saf.wdgArmed with
  | some t => if t + 65 ≤ s.aon && s.mode < 3 && s.saf.inReset.isNone then .next (s.wdgViolate 4) else .next s
  | none => .next s

/-- WDG_EXPIRY (R390): k reaches C + O. -/
def execWdgExpiry (s : State) : Result State :=
  if s.saf.wdgC + s.saf.wdgO ≤ s.wdgIndex && s.mode < 3 && s.saf.inReset.isNone then .next (s.wdgViolate 5) else .next s

/-- WDG_LOCK (R391). -/
def execWdgLock (m : Master) (s : State) : Result State :=
  if s.mayWrite m then .next (s.set SAF_WDG_CTRL.LOCK 1) else .next s

/-! ### The fault collector (R395 to R397) -/

/-- The result of a keyed command for its master (R413): register 0 `SAF_RST_CMD`, 1 `SAF_FAULT_CLR`, 2 `SAF_PWR_CMD`,
3 `SAF_LC_CMD`; 0 OK, 1 BUSY, 2 BAD, 3 REFUSED, 4 TOKEN_BAD. -/
def State.safResult (s : State) (reg : Nat) (m : Nat) (code : Nat) : State :=
  { s with saf := { s.saf with results := s.saf.results.put (8 * reg + m) code } }

/-- Whether a block has fewer cells available than R21 allows; cells of the start-up and wake ramps count. -/
def State.tooFew (s : State) (b : Block) : Bool :=
  let f := s.fleet b
  let starting := if f.starting then f.queue.length + (if f.ramp.isSome then 1 else 0) else 0
  let n := (s.availCells b).length + starting
  match b with
  | .trk => s.blockEnabled .trk && !s.sel.idleTrunk && s.sel.joinStart.isNone && decide (n < if s.trunkCells = 10 then 4 else 3)
  | .chb => s.blockEnabled .chb && decide (n < 3)
  | .prt => (blockCells .prt).any (fun c => s.cellState c == 5)

/-- The escalation condition of North or South that the state shows (R21). -/
def State.escalates (s : State) (r : Region) : Bool :=
  match r with
  | .north => s.tooFew .trk
  | .south => s.tooFew .chb || s.tooFew .prt
  | _ => false

/-- A contained fault of R36 is active in a region. -/
def State.contained (s : State) (r : Region) : Bool :=
  let bad := fun (b : Block) => (blockCells b).any (fun n => s.cellState n == 5 || (s.isParked n && !s.stageCool n)) || !(s.fleet b).lost.isEmpty || (match (s.fleet b).ramp with
    | some q => q.cls == 0
    | none => false)
  match r with
  | .north => bad .trk || s.is TRK_STATUS.DERATED
  | .south => bad .chb || bad .prt || s.is CHB_STATUS.DERATED || s.svc.coreBackAt.isSome || (s.svc.stopped && !s.regionSafe .south)
  | .control => s.lom.shuttles.any (fun h => h.off) || s.cstate 0 == 8 || s.adcFailed 0 || s.adcFailed 1
  | .interface => false

/-- The region of a SAFE or DEG fault code. -/
def faultRegion (code : Nat) : Region :=
  if code % 4 = 0 then .north else if code % 4 = 1 then .south else if code % 4 = 2 then .control else .interface

/-- Whether the cause of a fault has gone (R22, R36, R395). -/
def State.causeGone (s : State) (code : Nat) : Bool :=
  if code = 0 then s.saf.served
  else if code = 1 then s.due (s.saf.clocksGood.map (fun t => t + ms 1))
  else if code = 2 then s.saf.inReset.isNone
  else if code = 3 then decide (s.getZ THM_STATUS.TDIE_MAX < s.getZ THM_DIE_SHUT.FALL)
  else if code = 4 then s.is TRK_OVP.CAUSE_GONE
  else if code = 5 then !s.adcFailed 0 && !s.adcFailed 1 && (s.mea.pairAt.find 0).isSome && (s.mea.pairAt.find 1).isSome
  else if code = 6 then [Region.north, .south, .control, .interface].all (fun r => !s.regionSafe r)
  else if code = 7 then !s.saf.vioLow
  else if code = 8 || code = 9 then
    !s.escalates (faultRegion code) && decide (((s.saf.escalatedAt.find code).getD 0) + ms 10 ≤ s.time)
  else if code = 10 then
    s.lom.shuttles.any (fun h => !h.off) && decide (s.lom.overruns = 0) && decide (s.lom.mergeGoodSince + ms 10 ≤ s.time) && s.cstate 0 != 8
  else if code = 11 then
    s.saf.testCommitted && (match s.saf.jobsEcc with
      | some t => decide (t + ms 1000 ≤ s.time)
      | none => true)
  else if 12 ≤ code && code ≤ 15 then !s.contained (faultRegion code)
  else if code = 16 then s.chg.served
  else if code = 17 then s.svc.coreBackAt.isNone
  else if code = 18 then s.cstate 0 != 8
  else if code = 20 then s.peerLive
  else true

/-- A region leaves its safe state (R25): DEGRADED where its DEG fault stands; Control thaws the contexts. -/
def State.leaveSafe (s : State) (r : Region) : State :=
  if !s.regionSafe r then s
  else
    let t := s.set (regionField r) (if bitOf (s.get SAF_FAULT.FAULT) (regionFault r + 4) then 2 else 1)
    let t := { t with saf := { t.saf with safeAt := t.saf.safeAt.erase (regionFault r), testCommitted := false } }
    match r with
    | .control => t.each (List.range 128) (fun c u =>
        if (u.context c).frozenControl then (u.setContext c (fun x => { x with frozenControl := false })).unsuspend c else u)
    | .south => t.pauseCharge.refreshPack
    | _ => t

/-- Clears one fault whose cause has gone (R397). -/
def State.clearFault (s : State) (code : Nat) : State :=
  let t := s.set SAF_FAULT.FAULT (setBitTo (s.get SAF_FAULT.FAULT) code false)
  let t := t.onlyIf (t.get SAF_FAULT.FAULT == 0) (fun u => u.set SAF_STATUS.FIRST_FAULT 0xFF)
  if 8 ≤ code && code ≤ 11 then t.leaveSafe (faultRegion code)
  else if 12 ≤ code && code ≤ 15 then
    if t.get (regionField (faultRegion code)) = 2 then t.set (regionField (faultRegion code)) 1 else t
  else if code = 16 then t.endOverlay
  else if code = 4 then
    let t := t.releaseCrowbar
    if t.chipSafe then t.requestReset 5 6 else t
  else t

/-- FAULT_CLEAR (R397, R305, R413): a keyed write of a fault code, or 0xFF for every fault. -/
def execFaultClear (m : Master) (key code : Nat) (s : State) : Result State :=
  let served := if s.chipSafe then decide (m.val < 3) else s.mayWrite m
  if !served then .next s
  else if key ≠ 0x3C96 || (21 < code && code ≠ 0xFF) then .next (s.safResult 1 m.val 2)
  else
    let named := (List.range 22).filter (fun c => (code = 0xFF || code = c) && bitOf (s.get SAF_FAULT.FAULT) c)
    let gone := named.filter s.causeGone
    let t := s.each gone (fun c u => u.clearFault c)
    if gone.length = named.length then .next (t.safResult 1 m.val 0)
    else .next ((t.safResult 1 m.val 3).raise SAF_FLAGS.CLR_REFUSED)

/-- RESET_CMD (R398, R413): CMD 1 with its key is a software reset with DETAIL HOST. -/
def execResetCmd (m : Master) (key cmd : Nat) (s : State) : Result State :=
  let served := if s.chipSafe then decide (m.val < 3) else s.mayWrite m
  if !served then .next s
  else if key ≠ 0x9E47 || cmd ≠ 1 then .next (s.safResult 0 m.val 2)
  else .next ((s.safResult 0 m.val 0).requestReset 5 7)

/-! ### Power modes and wake (R402 to R406) -/

/-- A mode request is refused with BUSY (R403). -/
def State.modeBusy (s : State) (mode : Nat) : Bool :=
  s.chipSafe || [Region.north, .south, .control, .interface].any s.regionSafe || s.is SAF_STATUS.DEFER ||
    s.is UPD_STATUS.SESSION || s.is UPD_STATUS.NVM_BUSY || s.is SAF_STATUS.LC_PENDING ||
    (decide (mode = 2) && !s.is SAF_WAKE_CFG.STB_TRUNK && decide (s.get SRC_STATUS.PRIMARY = 1) && !s.is SRC_STATUS.IN12_QUAL)

/-- A keyed mode request (R403): it takes effect at the next tick boundary. -/
def State.askMode (s : State) (m : Master) (key mode : Nat) : State :=
  if !s.fullService || m.val = 3 then s
  else if key ≠ 0x6D12 then (if s.mayWrite m then s.safResult 2 m.val 2 else s)
  else if s.modeBusy mode then (s.safResult 2 m.val 1).raise SAF_FLAGS.PWR_REFUSED
  else if !s.mayWrite m then s
  else ({ s with saf := { s.saf with modeReq := some mode } } : State).safResult 2 m.val 0

/-- PWR_RUN (R403). -/
def execPwrRun (m : Master) (key : BitVec 16) (s : State) : Result State := .next (s.askMode m key.toNat 0)

/-- PWR_LIGHT (R403). -/
def execPwrLight (m : Master) (key : BitVec 16) (s : State) : Result State := .next (s.askMode m key.toNat 1)

/-- PWR_STANDBY (R403). -/
def execPwrStandby (m : Master) (key : BitVec 16) (s : State) : Result State := .next (s.askMode m key.toNat 2)

/-- PWR_DEEP_SLEEP (R403, R404). -/
def execPwrDeepSleep (m : Master) (key : BitVec 16) (s : State) : Result State := .next (s.askMode m key.toNat 3)

/-- PWR_OFF (R403, R404). -/
def execPwrOff (m : Master) (key : BitVec 16) (s : State) : Result State := .next (s.askMode m key.toNat 4)

/-- The fitted active-set cells of the trunk that do not serve enter one at a time (R125, R133, R406). -/
def State.reenterAll (s : State) : State :=
  let l := (s.activeSet .trk).filter (fun n => s.fitted n && !s.serves n && s.causes n == 0 && s.cellState n != 5 && s.cellState n != 6)
  let t := s.each l (fun n u => if u.cellState n = 0 then u.moveCell n 1 else u)
  let t := t.setFleet .trk (fun f => { f with starting := !l.isEmpty })
  t.each l (fun n u => u.queueRamp .trk n 1)

/-- The charge block starts (R85, R141): the fitted cells of its active set serve from SLEEP, the others are spares; a cell in OFF
with cause bits stays (R107). -/
def State.chargeCellsOn (s : State) : State :=
  let t := s.each (blockCells .chb) (fun n u =>
    if !u.fitted n || u.cellState n ≠ 0 || u.causes n ≠ 0 then u
    else if (u.activeSet .chb).contains n then u.sleepCell n .shed else u.moveCell n 1)
  t.report .chb

/-- The port stops for a power mode (R402): no contract, no `Rp`, detached. -/
def State.portQuiet (s : State) : State :=
  let t := ((s.swapFail 0x09).endContract).portMode 0
  let t := if t.is SRC_STATUS.VBUS_QUAL then t.vbusLost else t
  ((t.set SVC_STATUS.TC_STATE 0).set SVC_STATUS.RP_LEVEL 0).mark SVC_STATUS.VCONN_ON false

/-- Entry to STANDBY (R402): charging stops, port off, the trunk off or in burst only, Warp and Reed off. -/
def State.enterStandby (s : State) : State :=
  let t := s.stopWarp.set SAF_STATUS.MODE 2
  let t := (t.chgConfig).portQuiet
  let t := if t.get CHB_STATUS.MODE = 3 then t else t.chbMode 0
  if t.is SAF_WAKE_CFG.STB_TRUNK then t else t.trunkOff

/-- Entry to DEEP SLEEP or OFF (R404): the coulomb count is saved, NOTICE LEAVE sent, the converters stop and the FETs
open; the watchdog pauses (R393). -/
def State.enterSleep (s : State) (mode : Nat) : State :=
  let t := { s with beam := { s.beam with charge := s.rd MEA_QCNT.addr } }
  let t := (t.notify 3 0).stopWarp
  let t := (t.portQuiet.chgOff).allOff
  let t := (((t.set SEL_STATUS.LINK 0).mark SEL_STATUS.PEER_LIVE false).mark GLB_CLK.SELV_LOCK false).set SAF_STATUS.MODE mode
  let t := t.each [Region.north, .south, .control, .interface] (fun r u => u.set (regionField r) 0)
  let t := (t.wdgIdle).mark SAF_WDG_STAT.PAUSED true
  let t := { t with saf := { t.saf with wdgFrozen := some s.wdgIndex, sleptAt := t.aon }, mea := { t.mea with qLast := none } }
  if mode = 4 then { t with beam := { t.beam with run := false } } else t

/-- The device is in RUN again with its stopped units restarted (R406). -/
def State.wakeUp (s : State) (src : Nat) : State :=
  let deep := s.mode = 3
  let t := (s.raiseBit SAF_WAKE_SRC.SRC src).raise SAF_FLAGS.WAKE
  let t := (t.set SAF_STATUS.MODE 0).mark SAF_WDG_STAT.PAUSED false
  let t := { t with saf := { t.saf with modeReq := none, loadWake := false, wdgFrozen := none, wdgT0 := if deep then t.aon - s.wdgIndex else t.saf.wdgT0 } }
  let t := if deep then t.each [Region.north, .south, .control, .interface] (fun r u =>
      u.set (regionField r) (if bitOf (u.get SAF_FAULT.FAULT) (regionFault r + 4) then 2 else 1)) else t
  let t := t.startWarp.onlyIf deep (fun u => (u.raise MEA_FLAGS.COUNT_GAP).linkStart)
  let t := if deep && t.blockEnabled .chb then t.chargeCellsOn else t
  let t := if t.blockEnabled .trk && (deep || !t.is TRK_STATUS.ENABLED) then
      ((t.reenterAll).setFleet .trk (fun f => { f with vref := 10000 * (t.railV : Int), returning := true })).set TRK_REF.REF t.railV
    else t
  (t.chgConfig).refreshPack

/-- A mode request takes effect (R402, R403); STANDBY without the trunk waits until BYP carries the rail. -/
def State.applyMode (s : State) (mode : Nat) : State :=
  let done := { s with saf := { s.saf with modeReq := none } }
  if mode = 2 then
    if s.get SRC_STATUS.PRIMARY = 1 && !s.is SAF_WAKE_CFG.STB_TRUNK then s else done.enterStandby
  else if mode = 3 || mode = 4 then done.enterSleep mode
  else if s.mode = 2 then
    let t := ((done.set SAF_STATUS.MODE mode).startWarp).chgConfig
    if t.is TRK_STATUS.ENABLED || !t.blockEnabled .trk then t else ((t.reenterAll).setFleet .trk (fun f => { f with vref := 10000 * (t.railV : Int), returning := true })).set TRK_REF.REF t.railV
  else done.set SAF_STATUS.MODE mode

/-- WAKE (R405, R406, R412): source 0 WAKE, 1 ATTACH (`vbus`: `VBUS` is present), 2 IN48, 3 IN12, 5 CS, 6 LOAD. From OFF a wake is a
power-on reset; with a sleep entry due the entry is abandoned. -/
def execWake (src : Fin 7) (vbus : Bool) (s : State) : Result State :=
  let en := bitOf (s.get SAF_WAKE_EN.EN) src.val
  if src.val = 4 || !en then .next s
  else if s.mode = 4 then
    if src.val = 0 || src.val = 2 || src.val = 3 || (src.val = 1 && vbus) then .next (s.startReset 1 0) else .next s
  else if src.val = 6 then
    if s.mode = 2 && s.saf.loadWake then .next (s.wakeUp 6) else .next s
  else if s.mode = 2 || s.mode = 3 then .next (s.wakeUp src.val)
  else if s.saf.modeReq = some 3 || s.saf.modeReq = some 4 then
    let t := { s with saf := { s.saf with modeReq := none } }
    .next ((t.raiseBit SAF_WAKE_SRC.SRC src.val).set SAF_STATUS.MODE 0)
  else .next s

/-- WAKE_TIMER (R405): `SAF_AON_TMR` ms after entry to DEEP SLEEP. -/
def execWakeTimer (s : State) : Result State :=
  let n := s.get SAF_AON_TMR.MS
  if s.mode = 3 && n ≠ 0 && bitOf (s.get SAF_WAKE_EN.EN) 4 && s.saf.sleptAt + 1000 * n ≤ s.aon then .next (s.wakeUp 4) else .next s

/-! ### Lifecycle (R407 to R411) -/

/-- A new nonce (R410). -/
def State.newNonce (s : State) : State :=
  let (a, t) := s.draw
  let (b, t) := t.draw
  (t.wr SAF_NONCE_LO.addr a).wr SAF_NONCE_HI.addr b

/-- A permitted transition starts (R409): the new state with LC_PENDING set; the wipe follows. -/
def State.beginLc (s : State) (target : Nat) : State :=
  let t := ((s.set SAF_STATUS.LC target).set SAF_STATUS.LC_PENDING 1).endSession
  { t with saf := { t.saf with wiping := some target } }

/-- Whether R407 permits a transition; `token` says whether it needs a token. -/
def lcPermits (lc target : Nat) : Option Bool :=
  if lc = 0 && target = 1 then some false
  else if (lc = 0 || lc = 1) && target = 4 then some false
  else if lc = 1 && target = 2 then some false
  else if lc = 2 && (target = 3 || target = 4) then some true
  else if lc = 3 && target = 4 then some true
  else if (lc = 2 || lc = 3) && target = 8 then some true
  else none

/-- A keyed lifecycle command (R408, R410, R411). -/
def State.askLc (s : State) (m : Master) (key target : Nat) : State :=
  if !s.mayWrite m || 3 ≤ m.val then s
  else if key ≠ 0xD1E8 then s.safResult 3 m.val 2
  else if s.saf.tokenFor.isSome || s.is SAF_STATUS.LC_PENDING then s.safResult 3 m.val 1
  else
    match lcPermits (s.get SAF_STATUS.LC) target with
    | none => s.safResult 3 m.val 2
    | some true => ({ s with saf := { s.saf with tokenFor := some (m.val, target) } } : State).safResult 3 m.val 1
    | some false =>
      if target = 1 && !s.is SAF_STATUS.KEY_SET then s.safResult 3 m.val 2
      else (s.beginLc target).safResult 3 m.val 0

/-- LC_PROVISIONED (R408). -/
def execLcProvisioned (m : Master) (key : BitVec 16) (s : State) : Result State := .next (s.askLc m key.toNat 1)

/-- LC_FIELD (R408). -/
def execLcField (m : Master) (key : BitVec 16) (s : State) : Result State := .next (s.askLc m key.toNat 2)

/-- LC_RETURN (R408). -/
def execLcReturn (m : Master) (key : BitVec 16) (s : State) : Result State := .next (s.askLc m key.toNat 3)

/-- LC_SCRAPPED (R408). -/
def execLcScrapped (m : Master) (key : BitVec 16) (s : State) : Result State := .next (s.askLc m key.toNat 4)

/-- LC_DEBUG (R411). -/
def execLcDebug (m : Master) (key : BitVec 16) (s : State) : Result State := .next (s.askLc m key.toNat 8)

/-- The token is valid for a target (R410): the signature of `SAF_TOKENk` on device identity, nonce and target, with the public key of the
key record, whose hash is the fused one. -/
def State.tokenValid (s : State) (target : Nat) : Bool :=
  let id := Config.deviceId.toNat
  let msg := [BitVec.ofNat 32 (id / 2 ^ 32), BitVec.ofNat 32 id, s.rd SAF_NONCE_HI.addr, s.rd SAF_NONCE_LO.addr, BitVec.ofNat 32 target]
  let sig := (List.range 16).map (fun k => s.rd (SAF_TOKEN.addr k))
  let key := s.upd.keyRec.getD Config.shippedKey
  decide (Config.sha256 key 64 = s.upd.fused.getD Config.keyHash) && Config.ecdsaValid key (Config.sha256 msg 20) sig

/-- TOKEN_VERIFY_DONE (R410, R411). -/
def execTokenVerifyDone (s : State) : Result State :=
  match s.saf.tokenFor with
  | none => .next s
  | some (m, target) =>
    let ok := s.tokenValid target
    let t := ({ s with saf := { s.saf with tokenFor := none } } : State).newNonce
    if !ok then .next ((t.safResult 3 m 4).raise SAF_FLAGS.TOKEN_BAD)
    else if target = 8 then .next (((t.safResult 3 m 0).set SAF_STATUS.DBG_UNLOCK 1).set SAF_STATUS.TEST_ACT 1)
    else .next ((t.beginLc target).safResult 3 m 0)

/-- LC_WIPE_DONE (R409): user settings, STAGING and the Beam are wiped, for SCRAPPED ACTIVE and FALLBACK too; LC_PENDING clears
and a lifecycle reset follows. -/
def execLcWipeDone (s : State) : Result State :=
  if !s.is SAF_STATUS.LC_PENDING then .next s
  else
    let scrap := s.get SAF_STATUS.LC = 4
    let u := { s.upd with settings := [], staging := {}, oldSettings := none, active := if scrap then {} else s.upd.active, fallback := if scrap then {} else s.upd.fallback }
    let t := { s with upd := u, beam := {}, saf := { s.saf with wiping := none } }
    .next (((t.set SAF_STATUS.LC_PENDING 0).raise SAF_FLAGS.LC_DONE).requestReset 7 0)

/-! ### Chip-level events (R21, R30, R49, R395, R399) -/

/-- CHIP_SAFE_RESET (R395): the software reset 10 us after the chip safe state for CLOCK, MEASURE or ESCALATION; for THERMAL_DIE once T_die is
below its falling value. -/
def execChipSafeReset (s : State) : Result State :=
  let c := s.saf.chipSafeCode
  match s.saf.chipSafeAt with
  | none => .next s
  | some t =>
    if (c = 1 || c = 5 || c = 6) && t + us 10 ≤ s.time then .next (s.requestReset 5 (resetDetail c))
    else if c = 3 && s.getZ THM_STATUS.TDIE_MAX < s.getZ THM_DIE_SHUT.FALL then .next (s.requestReset 5 3)
    else .next s

/-- REGION_SAFE_TIMEOUT (R21): the region cannot reach its safe state within 1 ms of entering it. -/
def execRegionSafeTimeout (r : Region) (s : State) : Result State :=
  match s.saf.safeAt.find (regionFault r) with
  | some t => if s.regionSafe r && t + ms 1 ≤ s.time then .next (s.safeChip 6) else .next s
  | none => .next s

/-- CLOCK_FAULT (R30). -/
def execClockFault (s : State) : Result State :=
  if s.saf.inReset.isSome || 3 ≤ s.mode then .next s
  else .next (({ s with saf := { s.saf with clocksGood := none } } : State).safeChip 1)

/-- VIO_LOW (R49, R395): `VIO` below 2.6 V for 10 us. -/
def execVioLow (s : State) : Result State :=
  if s.saf.inReset.isSome then .next s else .next (({ s with saf := { s.saf with vioLow := true } } : State).setFault 7)

/-- VIO_RECOVER (R49): 50 us after `VIO` is again at or above 2.8 V. -/
def execVioRecover (s : State) : Result State := .next { s with saf := { s.saf with vioLow := false } }

/-- STRAP_COMPARE (R47): the live strap levels in the places of `GLB_STRAP`. -/
def execStrapCompare (live : BitVec 5) (s : State) : Result State :=
  .next (s.mark GLB_STRAP.STRAP_DIFF (decide (live.toNat ≠ (s.rd GLB_STRAP.addr).toNat % 32)))

/-- RESET_N_ASSERT (R398, R399): a low pulse of `ns`; between 200 ns and 1 us the part's filter decides. -/
def execResetNAssert (ns : Nat) (s : State) : Result State :=
  if clampN 200 1000 Config.resetFilter ≤ ns then .next (s.requestReset 3 0) else .next s

/-- BROWN_OUT (R74, R398): no keep-alive input for 10 us. -/
def execBrownOut (s : State) : Result State :=
  let t := s.startReset 1 0
  .next { t with saf := { t.saf with keepGoodAt := none, keepInputs := 0 } }

/-- Reports the keep-alive inputs (R73, `SRC_KA`): the charge pump runs while the pack is the only one. -/
def State.keepReport (s : State) : State :=
  (s.wr SRC_KA.addr (BitVec.ofNat 32 (s.saf.keepInputs % 32))).mark SRC_KA.CP_ON (decide (s.saf.keepInputs % 32 = 16))

/-- KEEPALIVE_GOOD (R73): an input has been present for 100 us. -/
def execKeepaliveGood (inputs : BitVec 5) (s : State) : Result State :=
  if inputs = 0 then .next s
  else .next ({ s with saf := { s.saf with keepInputs := inputs.toNat, keepGoodAt := some (s.saf.keepGoodAt.getD s.aon) } } : State).keepReport

/-- KEEPALIVE_INPUT_CHANGE (R73): the inputs present now; one at least stays. -/
def execKeepaliveInputChange (inputs : BitVec 5) (s : State) : Result State :=
  if inputs = 0 then .next s else .next ({ s with saf := { s.saf with keepInputs := inputs.toNat } } : State).keepReport

end Sys2Proof.Machine
end

