-- ==== Sys2Proof/Machine/Source.lean ====
section
/-!
DEFINITION. The source path (R54 to R84): qualification, transfers, hold-up, the capability search, lockouts and trunk
reverse. Voltages are in 10 mV, currents in 10 mA.
-/

namespace Sys2Proof.Machine

/-- The converters may run: reduced or full service, and the chip is not in its safe state (R23, R414). -/
def State.powered (s : State) : Bool := s.get GLB_REGION.SERVICE != 0 && !s.chipSafe

/-! ### Transfers (R60 to R62) -/

/-- A make-before-break transfer runs: PREP, OVERLAP or RELEASE. -/
def State.moving (s : State) : Bool :=
  s.get SRC_STATUS.XFER == 1 || s.get SRC_STATUS.XFER == 2 || s.get SRC_STATUS.XFER == 3

/-- The record of a transfer in `SRC_XFER`. -/
def State.recordXfer (s : State) (src dst cause : Nat) : State :=
  let t := ((s.set SRC_XFER.FROM src).set SRC_XFER.TO dst).set SRC_XFER.CAUSE cause
  t.set SRC_XFER.RETRIES ((t.src.fails.find dst).getD 0)

/-- Abandons the running transfer (R61): the outgoing source keeps the rail; a retry follows after 1 s, at most three times
per source. Causes 8 ABORT_RAIL, 9 ABORT_DEQUAL. -/
def State.abandonXfer (s : State) (cause : Nat) : State :=
  if !s.moving then s
  else
    let dst := s.get SRC_STATUS.TARGET
    let k := min 3 ((s.src.fails.find dst).getD 0 + 1)
    let t := s.dropXfer.raise SRC_FLAGS.XFER_FAIL
    let t := { t with src := { t.src with fails := t.src.fails.put dst k, retryAt := if k < 3 then some (t.time + ms 1000) else none, retryTo := dst } }
    (t.recordXfer (t.get SRC_STATUS.PRIMARY) dst cause).set SRC_STATUS.XFER (if k < 3 then 5 else 0)

/-- The reverse direction starts (R79, R80, R137): `G48` enhanced, the trunk reversed with its cells at rest until the
`IN48` side is within 1.00 V of the rail (R138). -/
def State.startReverse (s : State) : State :=
  let support := decide (s.get SRC_REV.MODE = 2)
  let v := if support then clampN 3600 5400 (s.get SRC_REV_TGT.SUPPORT_V) else clampN 2400 5400 (s.get SRC_REV_TGT.PRECH_V)
  let t := (s.restBlock .trk).setDir .trk true
  let t := (t.mark SRC_STATUS.G48_ON true).mark SRC_STATUS.REV_ACTIVE true
  let t := (t.set SRC_REV.STATE (if support then 4 else 2)).mark TRK_STATUS.ENABLED true
  let t := t.setFleet .trk (fun f => { f with vref := 10000 * (v : Int) })
  { t with src := { t.src with revAt := some t.time } }

/-- The lowest-numbered `REV_CELLS` serving cells switch (R137). -/
def State.runReverse (s : State) : State :=
  let l := (s.cellsWhere .trk s.serves).take (clampN 1 8 (s.get TRK_REV.REV_CELLS))
  ((s.each l (fun n u => u.moveCell n 3)).set TRK_REV.REV_MASK (cellBits 0 l)).report .trk

/-- The incoming source becomes primary (R60): XFER_DONE and the record; a waiting reverse starts (R79). -/
def State.completeXfer (s : State) : State :=
  let src := s.get SRC_STATUS.PRIMARY
  let dst := s.get SRC_STATUS.TARGET
  let t := (s.abortLearn 2).turnOff src
  let t := ((t.set SRC_STATUS.XFER 0).set SRC_STATUS.TARGET 0).becamePrimary dst
  let t := { t with src := { t.src with fails := t.src.fails.erase dst } }
  let t := if dst = 3 then { t with chg := { t.chg with backupSet := t.backupPoint } } else t
  let t := (t.raise SRC_FLAGS.XFER_DONE).recordXfer src dst t.src.xferCause
  if t.get SRC_REV.STATE = 1 && dst ≠ 1 then t.startReverse else t

/-- Starts a transfer (R60): PREP with its reference. A reference that the pack cannot regulate abandons it. -/
def State.startXfer (s : State) (dst cause : Nat) : State :=
  let ref := if dst = 2 then s.get SRC_IN12_MEAS.VOLT - 10 else s.railV
  let t := s.holdSearch
  let t := { t with src := { t.src with xferRef := ref, xferCause := cause, retryAt := none } }
  let t := (t.set SRC_STATUS.XFER 1).set SRC_STATUS.TARGET dst
  if t.get SRC_STATUS.PRIMARY = 3 && 10 * ref < t.get CHG_PACK.VPACK * 10 + 1000 then t.abandonXfer 8 else t

/-- A source loses its qualification (R58, R61, R62). -/
def State.disqualify (s : State) (code : Nat) : State :=
  let t := s.mark (qualField code) false
  if t.moving && t.get SRC_STATUS.TARGET = code then t.abandonXfer 9
  else if (t.get SRC_STATUS.XFER = 2 || t.get SRC_STATUS.XFER = 3) && t.get SRC_STATUS.PRIMARY = code then t.completeXfer
  else t

/-- Once per tick (R59, R79): the intended primary; a transfer starts when it differs. -/
def State.chooseSource (s : State) : State :=
  let p := s.get SRC_STATUS.PRIMARY
  let s := if s.get SRC_STATUS.XFER = 4 then s.set SRC_STATUS.XFER 0 else s
  if !s.powered || s.moving then s
  else
    match s.firstSource with
    | none => if s.get SRC_REV.STATE = 1 then s.stopReverse 1 else s
    | some c =>
      if c = p then (if s.get SRC_REV.STATE = 1 && p ≠ 1 then s.startReverse else s)
      else if p = 0 then (s.turnOn c s.railV).becamePrimary c
      else if s.get SRC_STATUS.XFER = 5 && c = s.src.retryTo then s
      else s.startXfer c (if s.get SRC_REV.STATE = 1 then 7 else if s.qualified p then 1 else 2)

/-- `MODE` of `SRC_REV` in force (R79, R81): 0 and 3 are OFF. -/
def State.applyRev (s : State) (mode : Nat) : State :=
  let t := s.set SRC_REV.MODE mode
  if mode = 0 || mode = 3 then if s.get SRC_REV.STATE = 0 then t else t.stopReverse 0
  else
    let t := if t.is SRC_STATUS.REV_ACTIVE then (t.stopReverse 0).set SRC_REV.MODE mode else t
    let t := ((t.disqualify 1).set SRC_REV.STATE 1).set SRC_REV.CAUSE 0
    let other := t.prioList.any (fun c => c != 1 && t.qualified c)
    if !other then t.stopReverse 1
    else if t.get SRC_STATUS.PRIMARY ≠ 1 && !t.moving then t.startReverse
    else t

/-! ### Commands: qualification and transfers -/

/-- Both nets' conditions of R58 for a voltage. -/
def State.netInRange (s : State) (code v : Nat) : Bool :=
  if code = 1 then s.is SRC_CTRL.IN48_USED && decide (2400 ≤ v) && decide (v ≤ 6000) && (s.get SRC_REV.MODE == 0 || s.get SRC_REV.MODE == 3)
  else s.is SRC_CTRL.IN12_USED && decide (650 ≤ v) && decide (v ≤ 1600) && decide (s.get TRK_REF.TARGET ≤ 1600)

/-- Absolute collapse floor of a net (R65). -/
def State.floorOf (s : State) (code : Nat) : Nat :=
  if code = 1 then clampN 2400 5800 (s.get SRC_FLOOR.FLOOR48) else clampN 600 1500 (s.get SRC_FLOOR.FLOOR12)

/-- A net qualifies (R56, R58): its FETs close. -/
def State.qualifyNet (s : State) (code v : Nat) : State :=
  if code = 1 then
    let t := { s with src := { s.src with need48 := false, ref48 := v, fresh48 := true } }
    (t.mark SRC_STATUS.IN48_QUAL true).mark SRC_STATUS.G48_ON true
  else
    let t := { s with src := { s.src with need12 := false, ref12 := v, fresh12 := true } }
    (t.mark SRC_STATUS.IN12_QUAL true).mark SRC_STATUS.G12_ON true

/-- SOURCE_QUALIFIED (R56, R58): a net has held its range for 10 ms at `v`. PACK and VBUS qualify by what CHG and SVC
report. -/
def execSourceQualified (src : Source) (v : Nat) (s : State) : Result State :=
  if !s.powered then .next s
  else
    match src with
    | .trk =>
      let enough := !s.src.need48 || decide (s.floorOf 1 + 200 ≤ v)
      if s.netInRange 1 v && enough && !s.is SRC_STATUS.IN48_UVL && !s.is SRC_STATUS.IN48_OVL && !s.trunkLost then .next (s.qualifyNet 1 v) else .next s
    | .byp =>
      let enough := !s.src.need12 || decide (s.floorOf 2 + 100 ≤ v)
      if s.netInRange 2 v && enough && !s.is SRC_STATUS.IN12_UVL && !s.is SRC_STATUS.IN12_OVL then .next (s.qualifyNet 2 v) else .next s
    | .pack => .next s.refreshPack
    | .vbus => .next (s.mark SRC_STATUS.VBUS_QUAL (s.rd SRC_CEIL_VBUS.addr != 0))

/-- Input current cut to the shunt's full scale of ±75 mV (R64). -/
def fullScale (shunt : Nat) (i : Int) : Int :=
  let fs : Int := min 32767 (7500000 / clampN 100 10000 shunt : Nat)
  clampZ (-fs) fs i

/-- The undervoltage stop of `IN48` (R75). -/
def State.stop48 (s : State) (cause : Nat) : State :=
  let t := (s.mark SRC_STATUS.IN48_QUAL false).mark SRC_STATUS.G48_ON false
  let t := if t.is SRC_STATUS.REV_ACTIVE && cause = 4 then t.stopReverse 4 else t
  if t.get SRC_STATUS.PRIMARY = 1 then t.holdUp cause
  else if t.moving && t.get SRC_STATUS.TARGET = 1 then t.abandonXfer 9
  else t

/-- A lockout of `IN12` (R56, R76). -/
def State.stop12 (s : State) (cause : Nat) : State :=
  let t := ((s.mark SRC_STATUS.IN12_QUAL false).mark SRC_STATUS.G12_ON false).mark SRC_STATUS.GBYP_ON false
  if t.get SRC_STATUS.PRIMARY = 2 then t.holdUp cause
  else if t.moving && t.get SRC_STATUS.TARGET = 2 then t.abandonXfer 9
  else t

/-- The undervoltage stop and the overvoltage lockout of `IN48` fire (R75). -/
def State.fireUv48 (s : State) : State := ((s.mark SRC_STATUS.IN48_UVL true).raise SRC_FLAGS.IN48_UV).stop48 5
def State.fireOv48 (s : State) : State := ((s.mark SRC_STATUS.IN48_OVL true).raise SRC_FLAGS.IN48_OV).stop48 4

/-- The lockouts of `IN12` fire (R76). -/
def State.fireUv12 (s : State) : State := ((s.mark SRC_STATUS.IN12_UVL true).raise SRC_FLAGS.IN12_UV).stop12 5
def State.fireOv12 (s : State) : State := ((s.mark SRC_STATUS.IN12_OVL true).raise SRC_FLAGS.IN12_OV).stop12 4

/-- SRC's first evaluation of a net after release (R76): a lockout that already holds counts as having fired. -/
def State.firstLook (s : State) (v48 v12 : Nat) : State :=
  let t := if s.src.evaluated48 then s else
    let u := { s with src := { s.src with evaluated48 := true } }
    if v48 < 2000 then u.fireUv48 else if 6200 < v48 then u.fireOv48 else u
  if t.src.evaluated12 then t else
    let u := { t with src := { t.src with evaluated12 := true } }
    if v12 < 600 then u.fireUv12 else if 1650 < v12 then u.fireOv12 else u

/-- The voltages of the primary net in the last 10 ms (R68): a change of more than 5 % is a voltage event. -/
def State.watchNet (s : State) (v : Nat) : State :=
  let hist := s.src.hist.filter (fun p => decide (s.time ≤ p.1 + ms 10))
  let event := s.src.search.isNone && hist.any (fun p => decide (5 * p.2 < 100 * ((v : Int) - p.2).natAbs))
  if event then ({ s with src := { s.src with hist := [(s.time, v)] } } : State).voltageEvent
  else { s with src := { s.src with hist := (s.time, v) :: hist } }

/-- SRC_MEASURE (R58, R64, R68, R75 to R77, R138): voltage and current of each net, averaged over 10 us. -/
def execSrcMeasure (v48 : Nat) (i48 : Int) (v12 : Nat) (i12 : Int) (s : State) : Result State :=
  let t := (s.set SRC_IN48_MEAS.VOLT (min 65535 v48)).setZ SRC_IN48_MEAS.CURR (fullScale (s.get SRC_SHUNT.SHUNT48) i48)
  let t := (t.set SRC_IN12_MEAS.VOLT (min 65535 v12)).setZ SRC_IN12_MEAS.CURR (fullScale (s.get SRC_SHUNT.SHUNT12) i12)
  if !t.powered then .next t
  else
    let t := t.firstLook v48 v12
    let t := if t.get SRC_STATUS.SEARCH = 3 then t.set SRC_STATUS.SEARCH 0 else t
    let t := if t.is SRC_STATUS.IN48_QUAL && !t.netInRange 1 v48 then t.disqualify 1 else t
    let t := if t.is SRC_STATUS.IN12_QUAL && !t.netInRange 2 v12 then t.disqualify 2 else t
    let t := if t.get SRC_STATUS.PRIMARY = 1 then t.watchNet v48 else if t.get SRC_STATUS.PRIMARY = 2 then t.watchNet v12 else t
    let waiting := t.is SRC_STATUS.REV_ACTIVE && t.get TRK_REV.REV_MASK = 0
    .next (if waiting && t.railV ≤ v48 + 100 then t.runReverse else t)

/-- XFER_PREP_DONE (R60): the rail lies at the transfer reference; the incoming source starts there. -/
def execXferPrepDone (rail : Nat) (s : State) : Result State :=
  let ref := s.src.xferRef
  let dst := s.get SRC_STATUS.TARGET
  if s.get SRC_STATUS.XFER = 1 && 100 * ((rail : Int) - ref).natAbs ≤ ref then
    .next ((s.turnOn dst ref).set SRC_STATUS.XFER 2)
  else .next s

/-- XFER_OVERLAP_DONE (R60): the incoming source regulates; the outgoing one gives up its current. -/
def execXferOverlapDone (s : State) : Result State :=
  if s.get SRC_STATUS.XFER = 2 then .next (s.set SRC_STATUS.XFER 3) else .next s

/-- XFER_RELEASE_DONE (R60, R79, R192). -/
def execXferReleaseDone (s : State) : Result State :=
  if s.get SRC_STATUS.XFER = 3 then .next s.completeXfer else .next s

/-- XFER_ABANDON (R61): the rail leaves ±1 % of the reference, or the incoming source is not qualified. -/
def execXferAbandon (rail : Nat) (s : State) : Result State :=
  let ref := s.src.xferRef
  if !s.moving then .next s
  else if !s.qualified (s.get SRC_STATUS.TARGET) then .next (s.abandonXfer 9)
  else if (s.get SRC_STATUS.XFER = 2 || s.get SRC_STATUS.XFER = 3) && ref < 100 * ((rail : Int) - ref).natAbs then .next (s.abandonXfer 8)
  else .next s

/-- XFER_RETRY (R61): 1 s after an abandoned transfer it starts again if its source is still the intended one. -/
def execXferRetry (s : State) : Result State :=
  if s.get SRC_STATUS.XFER = 5 && s.due s.src.retryAt then
    let t := ({ s with src := { s.src with retryAt := none } } : State).set SRC_STATUS.XFER 0
    .next (if t.firstSource = some t.src.retryTo && t.get SRC_STATUS.PRIMARY ≠ t.src.retryTo then t.startXfer t.src.retryTo t.src.xferCause else t)
  else .next s

/-! ### Loss of the primary (R56, R63, R75, R76) -/

/-- HOLDUP_TRANSFER (R63): the primary net below its floor for 1 us; the trunk's only while the pack is available. -/
def execHoldupTransfer (v : Nat) (s : State) : Result State :=
  let p := s.get SRC_STATUS.PRIMARY
  let lost := (p = 1 && decide (v < s.floorOf 1) && s.refreshPack.is SRC_STATUS.PACK_AVAIL) || (p = 2 && decide (v < s.floorOf 2))
  if s.fullService && s.powered && lost then .next ((s.mark (qualField p) false).holdUp 3) else .next s

/-- BYPASS_OVERCURRENT (R63): above 1.25 x `MAX12` for 1 ms. -/
def execBypassOvercurrent (i : Nat) (s : State) : Result State :=
  if s.fullService && s.get SRC_STATUS.PRIMARY = 2 && 5 * s.get SRC_CEIL12.MAX < 4 * i then
    .next (((s.raise SRC_FLAGS.BYP_OCP).mark SRC_STATUS.IN12_QUAL false).holdUp 6)
  else .next s

/-- BACKFEED_TURN_OFF (R56, R57): current below −1.00 A in `G48` (`net12` false) or −0.50 A in `G12` for 500 ns; disabled
for `G48` while reverse runs. -/
def execBackfeedTurnOff (net12 : Bool) (i : Int) (s : State) : Result State :=
  if net12 then
    if s.is SRC_STATUS.G12_ON && i < -50 then .next ((s.mark SRC_STATUS.G12_ON false).raise SRC_FLAGS.BACKFEED) else .next s
  else if s.is SRC_STATUS.G48_ON && !s.is SRC_STATUS.REV_ACTIVE && i < -100 then
    .next ((s.mark SRC_STATUS.G48_ON false).raise SRC_FLAGS.BACKFEED)
  else .next s

/-- IN48_UV_STOP (R75): below 20.00 V. -/
def execIn48UvStop (v : Nat) (s : State) : Result State :=
  if s.powered && v < 2000 && !s.is SRC_STATUS.IN48_UVL then .next s.fireUv48 else .next s

/-- A lockout or stop is released; on the primary net it is a voltage event (R68). -/
def State.releaseNet (s : State) (f : Field) (code : Nat) : State :=
  let t := s.mark f false
  if t.get SRC_STATUS.PRIMARY = code then t.voltageEvent else t

/-- IN48_UV_RELEASE (R75): above 24.00 V. -/
def execIn48UvRelease (v : Nat) (s : State) : Result State :=
  if 2400 < v && s.is SRC_STATUS.IN48_UVL then .next (s.releaseNet SRC_STATUS.IN48_UVL 1) else .next s

/-- IN48_OV_LOCKOUT (R75, R81): above 62.00 V. -/
def execIn48OvLockout (v : Nat) (s : State) : Result State :=
  if s.powered && 6200 ≤ v && !s.is SRC_STATUS.IN48_OVL then .next s.fireOv48 else .next s

/-- IN48_OV_RELEASE (R75): below 59.00 V. -/
def execIn48OvRelease (v : Nat) (s : State) : Result State :=
  if v < 5900 && s.is SRC_STATUS.IN48_OVL then .next (s.releaseNet SRC_STATUS.IN48_OVL 1) else .next s

/-- IN12_UV_LOCKOUT (R76): below 6.00 V. -/
def execIn12UvLockout (v : Nat) (s : State) : Result State :=
  if s.powered && v < 600 && !s.is SRC_STATUS.IN12_UVL then .next s.fireUv12 else .next s

/-- IN12_UV_RELEASE (R76): at 6.50 V rising. -/
def execIn12UvRelease (v : Nat) (s : State) : Result State :=
  if 650 ≤ v && s.is SRC_STATUS.IN12_UVL then .next (s.releaseNet SRC_STATUS.IN12_UVL 2) else .next s

/-- IN12_OV_LOCKOUT (R76): at 16.50 V rising. -/
def execIn12OvLockout (v : Nat) (s : State) : Result State :=
  if s.powered && 1650 ≤ v && !s.is SRC_STATUS.IN12_OVL then .next s.fireOv12 else .next s

/-- IN12_OV_RELEASE (R76): at 16.00 V falling. -/
def execIn12OvRelease (v : Nat) (s : State) : Result State :=
  if v ≤ 1600 && s.is SRC_STATUS.IN12_OVL then .next (s.releaseNet SRC_STATUS.IN12_OVL 2) else .next s

/-! ### The capability search (R65 to R72) -/

/-- Search parameters of a net: step, collapse threshold in percent, and `MAX`, currents in 10 mA. -/
def State.searchCfg (s : State) (code : Nat) : Nat × Nat × Nat :=
  if code = 1 then (10 * clampN 1 100 (s.get SRC_SEARCH48.STEP), clampN 50 98 (s.get SRC_SEARCH48.THRESH), s.get SRC_CEIL48.MAX)
  else (10 * clampN 1 100 (s.get SRC_SEARCH12.STEP), clampN 50 98 (s.get SRC_SEARCH12.THRESH), s.get SRC_CEIL12.MAX)

/-- Fitted source resistance of a net, 0.1 mOhm. -/
def restField (code : Nat) : Field := if code = 1 then SRC_REST.REST48 else SRC_REST.REST12

/-- Measured voltage and current of a net. -/
def State.netMeas (s : State) (code : Nat) : Nat × Int :=
  if code = 1 then (s.get SRC_IN48_MEAS.VOLT, s.getZ SRC_IN48_MEAS.CURR) else (s.get SRC_IN12_MEAS.VOLT, s.getZ SRC_IN12_MEAS.CURR)

/-- The collapse threshold V_th for a reference (R65). -/
def State.collapseAt (s : State) (code vref : Nat) : Nat :=
  max (quot ((s.searchCfg code).2.1 * vref : Nat) 100).toNat (s.floorOf code)

/-- The searched ceiling of a net in 10 mA; `MAX` / 2 before the first search (R69). -/
def State.searched (s : State) (code : Nat) : Nat :=
  (if code = 1 then s.src.ceil48 else s.src.ceil12).getD ((s.searchCfg code).2.2 / 2)

/-- Sets the searched ceiling; frozen while North Power is safe (R23). -/
def State.setCeiling (s : State) (code c : Nat) : State :=
  if s.regionSafe .north then s
  else if code = 1 then ({ s with src := { s.src with ceil48 := some c } } : State).set SRC_CEIL48.CEIL c
  else ({ s with src := { s.src with ceil12 := some c } } : State).set SRC_CEIL12.CEIL c

/-- Least squares of voltage over current (R65): the source resistance in 0.1 mOhm; none for fewer than two currents. -/
def fitRest (pairs : List (Nat × Nat)) : Option Nat :=
  let n : Int := pairs.length
  let sv : Int := pairs.foldl (fun a p => a + (p.1 : Int)) 0
  let si : Int := pairs.foldl (fun a p => a + (p.2 : Int)) 0
  let svi : Int := pairs.foldl (fun a p => a + (p.1 * p.2 : Nat)) 0
  let sii : Int := pairs.foldl (fun a p => a + (p.2 * p.2 : Nat)) 0
  let den := n * sii - si * si
  if den = 0 then none else some (clampZ 0 65535 (quot (-(10000 * (n * svi - sv * si))) den)).toNat

/-- A search ends (R65 to R67): the extra draw is removed and the good steps are fitted. State 3 BACKOFF after a collapse. -/
def State.endSearch (s : State) (x : Search) (ceil : Nat) (flag : Field) (code : Nat) : State :=
  let t := ({ s with src := { s.src with search := none, draw := 0 } } : State).setCeiling x.source ceil
  let t := match fitRest x.pairs with
    | some r => t.set (restField x.source) r
    | none => t
  ((t.raise flag).set SRC_CTRL.START_SEARCH 0).set SRC_STATUS.SEARCH code

/-- The conditions in which a search does not run (R68); in a pair role B holds its search pending (R372). -/
def State.searchBlocked (s : State) : Bool :=
  s.get SRC_STATUS.XFER != 0 || s.is SRC_STATUS.REV_ACTIVE || s.is SRC_STATUS.SHAVING || s.regionSafe .north ||
    decide (6000 < s.get SRC_IN48_MEAS.VOLT) || (s.roleB && s.paired)

/-- A search begins (R65, R66): V_ref, V_th, the starting draw as the last good step and the first target. -/
def State.beginSearch (s : State) : State :=
  let code := s.get SRC_STATUS.PRIMARY
  let (v, i) := s.netMeas code
  let (step, _, max_) := s.searchCfg code
  let fresh := if code = 1 then s.src.fresh48 else s.src.fresh12
  let held := if code = 1 then s.src.ref48 else s.src.ref12
  let vref := if fresh then held else (v + quot (i * s.get (restField code)) 10000).toNat
  let good := i.toNat / step * step
  let x : Search := { source := code, vref := vref, vth := s.collapseAt code vref, lastGood := good, target := good + step }
  let src := if code = 1 then { s.src with ref48 := vref, fresh48 := false } else { s.src with ref12 := vref, fresh12 := false }
  let t := { s with src := { src with pending := false } }
  if max_ < x.target then t.endSearch x max_ SRC_FLAGS.SEARCH_DONE 0
  else ({ t with src := { t.src with search := some x, draw := (x.target - i).toNat } } : State).set SRC_STATUS.SEARCH 2

/-- A search start (R68): held while a blocking condition lasts; none for a source that is not searched. -/
def State.wantSearch (s : State) : State :=
  let p := s.get SRC_STATUS.PRIMARY
  if !s.fullService || !s.is SRC_CTRL.SEARCH_EN || (p ≠ 1 && p ≠ 2) || s.src.search.isSome then s
  else if s.searchBlocked then ({ s with src := { s.src with pending := true } } : State).set SRC_STATUS.SEARCH 4
  else s.beginSearch

/-- SEARCH_INITIAL (R68): 10 ms after the source first became primary. -/
def execSearchInitial (s : State) : Result State :=
  if s.due s.src.initialAt then .next (({ s with src := { s.src with initialAt := none } } : State).wantSearch) else .next s

/-- SEARCH_PERIOD (R68): every `PERIOD`. -/
def execSearchPeriod (s : State) : Result State :=
  if s.due s.src.periodAt then
    .next (({ s with src := { s.src with periodAt := some (s.time + ms (1000 * clampN 10 600 (s.get SRC_CTRL.PERIOD))) } } : State).wantSearch)
  else .next s

/-- SEARCH_EVT_SETTLE (R68): `EVT_SETTLE` after a voltage event. -/
def execSearchEvtSettle (s : State) : Result State :=
  if s.due s.src.settleAt then .next (({ s with src := { s.src with settleAt := none } } : State).wantSearch) else .next s

/-- START_SEARCH (R68): a write of 1; the bit reads 1 until the search ends. -/
def execStartSearch (m : Master) (s : State) : Result State :=
  if !s.mayWrite m then .next s
  else
    let t := s.wantSearch
    .next (if t.src.search.isSome || t.src.pending then t.mark SRC_CTRL.START_SEARCH true else t)

/-- SEARCH_PENDING_RUN (R68): a held start runs once nothing blocks it. -/
def execSearchPendingRun (s : State) : Result State :=
  if s.src.pending && !s.searchBlocked then
    .next ((({ s with src := { s.src with pending := false } } : State).set SRC_STATUS.SEARCH 0).wantSearch)
  else .next s

/-- SEARCH_STEP (R66, R67): at the end of `INTERVAL`, with the net at `v` and the input current at `i`. -/
def execSearchStep (v i : Nat) (s : State) : Result State :=
  match s.src.search with
  | none => .next s
  | some x =>
    let (step, _, max_) := s.searchCfg x.source
    if 2 * i + step < 2 * x.target then .next (s.endSearch x (max (s.searched x.source) x.lastGood) SRC_FLAGS.SEARCH_PART 0)
    else
      let y := { x with pairs := x.pairs ++ [(v, i)], lastGood := x.target, target := x.target + step }
      if max_ < y.target then .next (s.endSearch y max_ SRC_FLAGS.SEARCH_DONE 0)
      else .next { s with src := { s.src with search := some y, draw := s.src.draw + y.target - i } }

/-- SEARCH_COLLAPSE (R66): below V_th for 50 us. -/
def execSearchCollapse (v : Nat) (s : State) : Result State :=
  match s.src.search with
  | none => .next s
  | some x =>
    if v < x.vth then .next (s.endSearch x (x.lastGood - (s.searchCfg x.source).1) SRC_FLAGS.SEARCH_DONE 3) else .next s

/-- CEILING_DROP (R72): outside a search the primary net sags below V_th for 50 us at input current `i`. -/
def execCeilingDrop (v i : Nat) (s : State) : Result State :=
  let p := s.get SRC_STATUS.PRIMARY
  let held := if p = 1 then s.src.ref48 else s.src.ref12
  if s.fullService && s.src.search.isNone && (p = 1 || p = 2) && decide (v < s.collapseAt p held) then
    .next (((s.setCeiling p (i - (s.searchCfg p).1)).raise SRC_FLAGS.CEIL_DROP).voltageEvent)
  else .next s

/-! ### Trunk reverse (R79 to R81) -/

/-- REVERSE_PRECHARGE (R79, R84): the write of `MODE` enters an order. -/
def execReversePrecharge (m : Master) (s : State) : Result State :=
  if s.mayWrite m && s.get SRC_REV.MODE != 1 then .next (s.enter { target := .field 0x16 SRC_REV.MODE, master := m.val, val := 1 }) else .next s

/-- REVERSE_SUPPORT (R79, R84). -/
def execReverseSupport (m : Master) (s : State) : Result State :=
  if s.mayWrite m && s.get SRC_REV.MODE != 2 then .next (s.enter { target := .field 0x16 SRC_REV.MODE, master := m.val, val := 2 }) else .next s

/-- REVERSE_OFF (R81, R84): reducing; it ends reverse without a fault. -/
def execReverseOff (m : Master) (s : State) : Result State :=
  if s.mayWrite m && s.get SRC_REV.MODE != 0 then .next (s.enter { target := .field 0x16 SRC_REV.MODE, master := m.val, val := 0 }) else .next s

/-- PRECHARGE_TARGET_REACHED (R80): `IN48` at `PRECH_V`. -/
def execPrechargeTargetReached (v : Nat) (s : State) : Result State :=
  if s.get SRC_REV.STATE = 2 && clampN 2400 5400 (s.get SRC_REV_TGT.PRECH_V) ≤ v then
    .next ((s.raise SRC_FLAGS.REV_DONE).set SRC_REV.STATE 3)
  else .next s

/-- PRECHARGE_TIMEOUT (R80). -/
def execPrechargeTimeout (s : State) : Result State :=
  if s.get SRC_REV.STATE = 2 && s.due (s.src.revAt.map (fun t => t + ms (10 * max 1 (s.get SRC_REV.TIMEOUT)))) then .next (s.stopReverse 2) else .next s

/-- PRECHARGE_SHORT_CHECK (R80): 10 ms after the start, below 5.00 V. -/
def execPrechargeShortCheck (v : Nat) (s : State) : Result State :=
  if s.get SRC_REV.STATE = 2 && s.due (s.src.revAt.map (fun t => t + ms 10)) && v < 500 then .next (s.stopReverse 3) else .next s

/-- PRECHARGE_NET_CONNECTED (R80): above `PRECH_V` + 2.00 V the net's own source has connected; reverse ends. -/
def execPrechargeNetConnected (v : Nat) (s : State) : Result State :=
  if (s.get SRC_REV.STATE = 2 || s.get SRC_REV.STATE = 3) && clampN 2400 5400 (s.get SRC_REV_TGT.PRECH_V) + 200 < v then
    .next (s.stopReverse 0)
  else .next s

end Sys2Proof.Machine
end

