-- ==== Sys2Proof/Machine/Images.lean ====
section
/-!
DEFINITION. Asmika containers in the flash banks and their verification (R418, R421 to R424).
-/

namespace Sys2Proof

/-- A run of words as one number, the first word most significant. -/
def wordsNat (l : List Word) : Nat := l.foldl (fun acc w => acc * 2 ^ 32 + w.toNat) 0

end Sys2Proof

namespace Sys2Proof.Machine

/-- Word i of a bank. -/
def Bank.word (b : Bank) (i : Nat) : Word := if b.shipped then Config.shippedWord i else b.words.get i

/-- `n` words of a bank from word i. -/
def Bank.run (b : Bank) (i n : Nat) : List Word := (List.range n).map (fun k => b.word (i + k))

/-- Fields of the header (R421). -/
def Bank.nparts (b : Bank) : Nat := (b.word 1).toNat % 65536
def Bank.size (b : Bank) : Nat := (b.word 2).toNat
def Bank.version (b : Bank) : Word := b.word 3
def Bank.schema (b : Bank) : Nat := (b.word 4).toNat / 65536
def Bank.schemaMin (b : Bank) : Nat := (b.word 4).toNat % 65536
def Bank.arb (b : Bank) : Nat := (b.word 5).toNat / 2 ^ 24
def Bank.variants (b : Bank) : Nat := (b.word 5).toNat / 2 ^ 16 % 256
def Bank.proto (b : Bank) : Nat := (b.word 5).toNat / 2 ^ 8 % 256

/-- Word k of entry i of the part table (R422). -/
def Bank.entry (b : Bank) (i k : Nat) : Nat := (b.word (24 + 12 * i + k)).toNat

/-- TYPE, TARGET, OFFSET and LENGTH of part i (R422). -/
def Bank.partType (b : Bank) (i : Nat) : Nat := b.entry i 0 / 2 ^ 24
def Bank.partTarget (b : Bank) (i : Nat) : Nat := b.entry i 0 / 2 ^ 16 % 256
def Bank.partOffset (b : Bank) (i : Nat) : Nat := b.entry i 1
def Bank.partLength (b : Bank) (i : Nat) : Nat := b.entry i 2

/-- The words of part i, the last filled up from what follows. -/
def Bank.partWords (b : Bank) (i : Nat) : List Word := b.run (b.partOffset i / 4) (ceilDiv (b.partLength i) 4)

/-- Number of the part of a type. -/
def Bank.findPart (b : Bank) (type : Nat) : Option Nat := (List.range b.nparts).find? (fun i => b.partType i == type)

/-- MAGIC, FORMAT, NPARTS and SIZE meet R421. -/
def Bank.headerOk (b : Bank) : Bool :=
  b.word 0 == 0x41534D4B#32 && decide ((b.word 1).toNat / 65536 = 1) && decide (1 ≤ b.nparts) && decide (b.nparts ≤ 16) &&
    decide (b.size % 4096 = 0) && decide (0x8000 ≤ b.size) && decide (b.size ≤ 0x60000)

/-- One entry of the part table meets R422. -/
def Bank.entryOk (b : Bank) (i : Nat) : Bool :=
  let ty := b.partType i
  let len := b.partLength i
  decide (1 ≤ ty) && decide (ty ≤ 7) && decide (b.entry i 0 % 65536 = 0) && decide (b.entry i 3 = 0) &&
    (if ty = 4 then decide (b.partTarget i ≤ 63) && decide (len % 4 = 0) && decide (len ≤ (64 - b.partTarget i) * 1024)
     else decide (b.partTarget i = 0)) &&
    decide (b.partOffset i % 0x4000 = 0) && decide (0x4000 ≤ b.partOffset i) && decide (1 ≤ len) &&
    decide (b.partOffset i + len ≤ b.size) && (decide (ty ≠ 7) || decide (len = 64))

/-- The part table meets R422: the parts that a container holds, and no overlap. -/
def Bank.tableOk (b : Bank) : Bool :=
  let l := List.range b.nparts
  let n := fun (ty : Nat) => (l.filter (fun i => b.partType i == ty)).length
  l.all b.entryOk && decide (n 1 = 1) && decide (n 2 = 1) && decide (n 3 = 1) && ([4, 5, 6, 7].all (fun ty => decide (n ty ≤ 1))) &&
    l.all (fun i => l.all (fun j => i == j || decide (b.partOffset i + b.partLength i ≤ b.partOffset j) || decide (b.partOffset j + b.partLength j ≤ b.partOffset i)))

/-- The manifest hash (R421). -/
def Bank.manifest (b : Bank) : BitVec 256 :=
  Config.sha256 (b.run 0 8 ++ b.run 24 (12 * b.nparts)) (32 + 48 * b.nparts)

/-- Every part's bytes match its HASH (R423). -/
def Bank.hashesOk (b : Bank) : Bool :=
  (List.range b.nparts).all (fun i => Config.sha256 (b.partWords i) (b.partLength i) == BitVec.ofNat 256 (wordsNat (b.run (24 + 12 * i + 4) 8)))

/-- The hash that the signature covers (R423): the container with bytes 0x20 to 0x5F taken as zero. -/
def Bank.signedHash (b : Bank) : BitVec 256 :=
  Config.sha256 ((List.range (b.size / 4)).map (fun i => if 8 ≤ i && i < 24 then 0#32 else b.word i)) b.size

/-- The bit of VARIANTS for a `VARIANT` code (R3, R421). -/
def variantBit (v : Nat) : Nat := if v = 0x46 then 0 else if v = 0x53 then 1 else 2

/-- Verifies a bank by R423: 0 when valid, else the cause code of `REJECT`: 1 FORMAT, 2 VARIANT, 3 PART_HASH, 4 ROLLBACK,
5 SIGNATURE, 6 KEY, 8 READ_ERROR. -/
def State.checkBank (s : State) (b : Bank) : Nat :=
  let blank := s.get SAF_STATUS.LC == 0
  let keyless := blank && !s.is SAF_STATUS.KEY_SET
  let key := s.upd.keyRec.getD Config.shippedKey
  if b.bad then 8
  else if b.shipped then (if s.upd.arb = 0 || s.upd.arb ≤ b.arb then 0 else 4)
  else if !b.headerOk || !b.tableOk || (!blank && (b.findPart 7).isSome) then 1
  else if !bitOf b.variants (variantBit (s.get GLB_FEAT.VARIANT)) then 2
  else if !b.hashesOk then 3
  else if b.arb < s.upd.arb then 4
  else if keyless then 0
  else if !Config.ecdsaValid key b.signedHash (b.run 8 16) then 5
  else if Config.sha256 key 64 ≠ s.upd.fused.getD Config.keyHash then 6
  else 0

end Sys2Proof.Machine
end

