-- ==== Sys2Proof/Machine/Thermal.lean ====
section
/-!
DEFINITION. The thermal unit (R103, R129, R213 to R222): the loss and junction model of the stages, temperature bands,
levels, shutdown, and the throttle steps.
-/

namespace Sys2Proof.Machine

/-! ### The model (R213 to R215) -/

/-- A number of 1/16 C as 2^-32 K. -/
def fine (t16 : Int) : Int := t16 * 2 ^ 28

/-- 1 − e^(−1/d) in 2^-48, by the first 16 terms of its series (log entry 12). -/
def oneMinusExp (d : Nat) : Int :=
  ((List.range 16).foldl (fun (acc : Int × Int × Nat) _ =>
    let term := -(acc.2.1) / (d * (acc.2.2 + 1))
    (acc.1 - term, term, acc.2.2 + 1)) (0, 2 ^ 48, 0)).1

/-- A low-pass step of a value toward a target with a time constant in steps. -/
def lowPass (old target : Int) (d : Nat) : Int := old + (target - old) * oneMinusExp d / 2 ^ 48

/-- A coefficient field of a block: the sets lie 0x20 apart (R213). -/
def coef (b : Block) (f : Field) : Field := { f with addr := f.addr + 32 * blockNum b }

/-- Anchor code of a cell (R214). -/
def State.anchorCode (s : State) (n : Nat) : Nat :=
  let w := if n < 8 then s.get THM_ANCH0.ANCH else if n < 16 then s.get THM_ANCH1.ANCH else s.get THM_ANCH2.ANCH
  w / 16 ^ (n % 8) % 16

/-- Reading of a cell's anchor in 1/16 C, and whether it falls back to T_die (R214). -/
def State.anchorReading (s : State) (n : Nat) : Int × Bool :=
  let c := s.anchorCode n
  if c < 6 then
    let f := if c % 2 = 0 then THM_NTC.EVEN (c / 2) else THM_NTC.ODD (c / 2)
    let off := decide (s.get THM_NTC_CFG.TYPE / 4 ^ c % 4 = 0)
    if s.get f = 0x8000 || off then (s.getZ THM_STATUS.TDIE_MAX, true) else (s.getZ f, false)
  else if c < 8 then (s.getZ THM_STATUS.TDIE_MAX, false)
  else (s.getZ (if c % 2 = 0 then THM_DIE.EVEN ((c - 8) / 2) else THM_DIE.ODD ((c - 8) / 2)), false)

/-- The estimate T_n of a cell in 2^-32 C (R213). -/
def CellUnit.temp (c : CellUnit) : Int := c.anchor.getD 0 + c.dT1 + c.dT2 + c.dT3

/-- Loss of a cell in 10^-16 W (R213). -/
def State.loss (s : State) (x : CellSample) : Int :=
  let n := x.cell.val
  let b := blockOf n
  let grow := 10 ^ 6 * 2 ^ 32 + s.get (coef b TRK_RDS.ALPHA) * ((s.cell n).temp - 25 * 2 ^ 32)
  let cond := quot (x.sq * s.get (coef b TRK_RDS.RDS25) * 10 * grow) (2 ^ 32)
  cond + s.get (coef b TRK_ESW.ESW) * x.vhi * x.avg.natAbs * (s.cell n).fmeas

/-- One update of a cell's rises and anchor; `p` is its loss. -/
def State.warm (s : State) (n : Nat) (p : Int) : State :=
  let b := blockOf n
  let goal := fun (r : Nat) => quot (p * r * 2 ^ 32) (10 ^ 18)
  let d1 := max 1 (s.get (coef b TRK_FTAU12.TAU1))
  let d2 := 100 * max 1 (s.get (coef b TRK_FTAU12.TAU2))
  let d3 := 10000 * max 1 (s.get (coef b TRK_FTAU3.TAU3))
  let a := fine (s.anchorReading n).1
  let tau := 100000 * max 1 (s.get THM_CTRL.ANCH_TAU)
  s.setCell n (fun c => { c with dT1 := lowPass c.dT1 (goal (s.get (coef b TRK_FRTH.RTH1))) d1, dT2 := lowPass c.dT2 (goal (s.get (coef b TRK_FRTH.RTH2))) d2, dT3 := lowPass c.dT3 (goal (s.get (coef b TRK_FRTH.RTH3))) d3, anchor := some (match c.anchor with | some v => lowPass v a tau | none => a) })

/-- The cells that the model runs for (R215, R222). -/
def State.modelled (s : State) (n : Nat) : Bool := if s.fullService then s.fitted n else n == 0 || n == 5

/-- Stores a cell's estimate in `THM_STGk`, 1/16 C. -/
def State.putTemp (s : State) (n : Nat) (t : Int) : State :=
  s.setZ (if n % 2 = 0 then THM_STG.EVEN (n / 2) else THM_STG.ODD (n / 2)) (clampZ (-32767) 32767 (quot t (2 ^ 28)))

/-! ### Bands (R103, R216) -/

/-- Boundaries of the bands in 1/16 C. -/
def bandEdges : List Int := [-160, 400, 1120, 1760, 2240]

/-- The band of a temperature without hysteresis. -/
def plainBand (t : Int) : Nat := (bandEdges.filter (fun e => decide (e ≤ t))).length

/-- The band of R103 from the present one: upward at a boundary, downward 3 C below it. -/
def nextBand (now : Nat) (t : Int) : Nat :=
  let up := plainBand t
  let down := plainBand (t + 48)
  if now < up then up else if down < now then down else now

/-- Places or moves a cell's band. -/
def State.setBand (s : State) (n : Nat) : State :=
  let t := s.stageTemp n
  if (s.cell n).placed then
    let new := nextBand (s.band n) t
    if new = s.band n then s else (s.set (CEL_STATUS.BAND n) new).raise THM_FLAGS.BAND_CHG
  else (s.set (CEL_STATUS.BAND n) (plainBand t)).setCell n (fun c => { c with placed := true })

/-! ### Levels (R217) -/

/-- A level with its hysteresis: entered at `rise`, left below `fall`. -/
def levelHolds (held : Bool) (t rise fall : Int) : Bool := decide (rise ≤ t) || (held && decide (fall ≤ t))

/-- Updates the bit of a cell in a level's register; answers whether the level has just been entered. -/
def State.cellLevel (s : State) (n : Nat) (cells rise fall : Field) : Bool × State :=
  let held := bitOf (s.get cells) n
  let now := levelHolds held (s.stageTemp n) (s.getZ rise) (s.getZ fall)
  (now && !held, s.set cells (setBitTo (s.get cells) n now))

/-- A cell reaches stage shutdown (R217, R222, R223). -/
def State.stageShutdown (s : State) (n : Nat) : State :=
  let b := blockOf n
  if !s.fullService then ((s.moveCell n 0).report b).onlyIf (s.get GLB_REGION.SERVICE == 1) (fun u => u.reducedLoss)
  else if b == .prt then (s.portStop).degrade .south
  else if (s.fleet b).ramp.map (fun r => r.cell) = some n then
    let again := match (s.fleet b).ramp with
      | some r => r.cls != 2
      | none => false
    let t := s.dropRamp b
    t.setFleet b (fun f => { f with lost := if again then f.lost ++ [n] else f.lost })
  else if (s.cell n).latched || (s.cell n).pulse.isSome then
    { s with thm := { s.thm with toPark := n :: s.thm.toPark.filter (fun k => k != n) } }
  else if s.serves n then s.parkCell n
  else s

/-- Thermal rotation of a hot cell (R129): its substitute ramps first. -/
def State.rotateHot (s : State) (n : Nat) : State :=
  let f := s.fleet .trk
  let hot := bitOf (s.get THM_CELL_WARN.CELLS) n && s.cellState n == 3 && s.rampCell .trk != some n
  let busy := (f.leaving.find n).isSome || f.swaps.any (fun e => e.2.1 == n)
  if s.fullService && s.is TRK_BAL.THERM_ROT && decide (n < 10) && hot && !busy && decide (450000 < f.budget) then
    match s.pickSubstitute .trk with
    | some sub => (s.setFleet .trk (fun g => { g with swaps := g.swaps.put sub (n, .rotate) })).queueRamp .trk sub 2
    | none => s
  else s

/-- The levels of one cell, with their flags and reactions. -/
def State.cellLevels (s : State) (n : Nat) : State :=
  let (w, t) := s.cellLevel n THM_CELL_WARN.CELLS THM_STG_WARN.RISE THM_STG_WARN.FALL
  let (h, t) := t.cellLevel n THM_CELL_THR.CELLS THM_STG_THR.RISE THM_STG_THR.FALL
  let (x, t) := t.cellLevel n THM_CELL_SHUT.CELLS THM_STG_SHUT.RISE THM_STG_SHUT.FALL
  let t := (t.onlyIf w (fun u => u.raise THM_FLAGS.STG_WARN)).onlyIf h (fun u => u.raise THM_FLAGS.STG_THR)
  let t := if x then (t.raise THM_FLAGS.STG_SHUT).stageShutdown n else t
  t.rotateHot n

/-- THERMAL_MODEL_UPDATE (R103, R129, R213 to R217, R222): the samples of the cells that switched in the last 10 us. A cell
that is not listed has no loss. -/
def execThermalModelUpdate (samples : List CellSample) (s : State) : Result State :=
  let s := s.each samples (fun x t => (t.setZ (CEL_IMEAS.AVG x.cell.val) x.avg).setZ (CEL_IMEAS.PEAK x.cell.val) x.peak)
  let all := (List.range 18).filter s.cellPresent
  let t := s.each all (fun n u =>
    if u.modelled n then
      let p := match samples.find? (fun x => x.cell.val == n) with
        | some x => s.loss x
        | none => 0
      let u := u.warm n p
      (u.putTemp n (u.cell n).temp).setBand n
    else
      let u := u.setCell n (fun c => { c with anchor := some (fine (u.anchorReading n).1) })
      (u.putTemp n (fine (u.anchorReading n).1)).setBand n)
  let fell := all.any (fun n => (t.anchorReading n).2)
  let t := t.onlyIf (fell && !t.is THM_STATUS.ANCH_FALLBACK) (fun u => u.raise THM_FLAGS.ANCH_FALLBACK)
  let t := t.mark THM_STATUS.ANCH_FALLBACK fell
  let t := t.each (all.filter t.modelled) (fun n u => u.cellLevels n)
  .next (((t.mark THM_STATUS.STG_WARN (t.get THM_CELL_WARN.CELLS != 0)).mark THM_STATUS.STG_THR (t.get THM_CELL_THR.CELLS != 0)).report .trk |>.report .chb)

/-- DIE_TEMP_CHECK (R217): T_die against its three levels; at shutdown the chip enters its safe state. -/
def execDieTempCheck (s : State) : Result State :=
  let d := s.getZ THM_STATUS.TDIE_MAX
  let warn := levelHolds (s.is THM_STATUS.DIE_WARN) d (s.getZ THM_DIE_WARN.RISE) (s.getZ THM_DIE_WARN.FALL)
  let thr := levelHolds (s.is THM_STATUS.DIE_THR) d (s.getZ THM_DIE_THR.RISE) (s.getZ THM_DIE_THR.FALL)
  let t := s.onlyIf (warn && !s.is THM_STATUS.DIE_WARN) (fun u => u.raise THM_FLAGS.DIE_WARN)
  let t := t.onlyIf (thr && !s.is THM_STATUS.DIE_THR) (fun u => u.raise THM_FLAGS.DIE_THR)
  let t := (t.mark THM_STATUS.DIE_WARN warn).mark THM_STATUS.DIE_THR thr
  .next (if s.getZ THM_DIE_SHUT.RISE ≤ d then t.safeChip 3 else t)

/-! ### Throttling (R218 to R221) -/

/-- A limit in percent, 100 unless lowered. -/
def limOf (m : Store Nat) (b : Block) : Nat := (m.find (blockNum b)).getD 100

/-- The bound that the cap of R220 puts on a block's I_th, percent of its rating. -/
def State.capLimit (s : State) (b : Block) : Nat :=
  let (cap, full, per) := match b with
    | .trk => (s.get THM_NCAP.TRK, 10, 3000)
    | .chb => (s.get THM_NCAP.CHB, 6, 1600)
    | .prt => (s.get THM_NCAP.PRT, 2, 500)
  if cap = full then 100 else min 100 (quot (100 * cap * per : Nat) (max 1 (s.contRating b))).toNat

/-- The field of a block's I_th in `THM_LIM`. -/
def limField : Block → Field
  | .trk => THM_LIM.TRK
  | .chb => THM_LIM.CHB
  | .prt => THM_LIM.PRT

/-- Puts the limits in force (R219 to R221, R339): a port limit of 0 stops the port. -/
def State.applyLimits (s : State) : State :=
  let t := s.each [Block.trk, Block.chb, Block.prt] (fun b u =>
    u.set (limField b) (min (min (limOf u.thm.dieLim b) (limOf u.thm.stageLim b)) (u.capLimit b)))
  let t := t.onlyIf (decide (t.get THM_LIM.PRT < s.get THM_LIM.PRT)) (fun u => u.raise PRT_FLAGS.THROTTLE)
  let t := t.mark PRT_STATUS.THROTTLED (decide (t.get THM_LIM.PRT < 100))
  let t := (t.report .trk).report .chb
  if t.get THM_LIM.PRT = 0 && s.get THM_LIM.PRT ≠ 0 then (t.portStop).degrade .south else t

/-- Changes a die-throttle limit. -/
def State.setDieLim (s : State) (b : Block) (v : Nat) : State :=
  { s with thm := { s.thm with dieLim := if v = 100 then s.thm.dieLim.erase (blockNum b) else s.thm.dieLim.put (blockNum b) v } }

/-- Changes a stage-throttle limit. -/
def State.setStageLim (s : State) (b : Block) (v : Nat) : State :=
  { s with thm := { s.thm with stageLim := if v = 100 then s.thm.stageLim.erase (blockNum b) else s.thm.stageLim.put (blockNum b) v } }

/-- DIE_THROTTLE_STEP (R218): one step of the list while the level holds and T_die has not fallen by 0.5 C since the last
one; below the level one step is undone in reverse order. -/
def execDieThrottleStep (s : State) : Result State :=
  if !s.fullService then .next s
  else
    let d := s.getZ THM_STATUS.TDIE_MAX
    let t := { s with thm := { s.thm with dieLast := d, dieAt := s.time } }
    let lim := limOf s.thm.dieLim
    let p := s.get THM_LIM.PDRV
    if s.is THM_STATUS.DIE_THR then
      if d + 8 ≤ s.thm.dieLast then .next t
      else if 80 < p then .next ((t.set THM_LIM.PDRV (p - 10)).applyLimits)
      else if 0 < lim .chb then .next ((t.setDieLim .chb (lim .chb - 10)).applyLimits)
      else if 0 < lim .prt then .next ((t.setDieLim .prt (lim .prt - 10)).applyLimits)
      else if 50 < lim .trk then .next ((t.setDieLim .trk (lim .trk - 10)).applyLimits)
      else .next t
    else if lim .trk < 100 then .next ((t.setDieLim .trk (lim .trk + 10)).applyLimits)
    else if lim .prt < 100 then .next ((t.setDieLim .prt (lim .prt + 10)).applyLimits)
    else if lim .chb < 100 then .next ((t.setDieLim .chb (lim .chb + 10)).applyLimits)
    else if p < 150 then .next ((t.set THM_LIM.PDRV (p + 10)).applyLimits)
    else .next t

/-- STAGE_THROTTLE_STEP (R219): a block with a cell at throttle that has not fallen by 0.5 C loses 5 %; with none at
throttle it gains 5 %. -/
def execStageThrottleStep (b : Block) (s : State) : Result State :=
  if !s.fullService then .next s
  else
    let hot := s.cellsWhere b (fun n => bitOf (s.get THM_CELL_THR.CELLS) n)
    let stuck := hot.any (fun n => match s.thm.stageLast.find n with
      | some old => decide (old < s.stageTemp n + 8)
      | none => true)
    let last := s.cellsWhere b (fun _ => true) |>.foldl (fun (m : Store Int) n => m.put n (s.stageTemp n)) s.thm.stageLast
    let t := { s with thm := { s.thm with stageLast := last, stageAt := s.thm.stageAt.put (blockNum b) s.time } }
    let lim := limOf s.thm.stageLim b
    let floor_ := if b == .trk then 50 else 0
    if !hot.isEmpty then
      if stuck then .next ((t.setStageLim b (max floor_ (lim - 5))).applyLimits) else .next t
    else .next ((t.setStageLim b (min 100 (lim + 5))).applyLimits)

/-- Gate-drive power with at most `cap` switching DIRECT cells of each block, at a frequency of each, 10^-10 W. -/
def State.cappedPower (s : State) (cap : Block → Nat) (f : Nat → Nat) : Nat :=
  let keep := [Block.trk, Block.chb, Block.prt].flatMap (fun b =>
    (s.cellsWhere b (fun n => s.switching n && s.direct n)).take (cap b))
  s.gatePower (fun n => keep.contains n) f

/-- GATE_DRIVE_CAP_STEP (R220): with every DIRECT target at 150 kHz and the power still above the budget the caps fall, the
charge block first, then the port, then the trunk; else one cap rises by one cell, trunk first. -/
def execGateDriveCapStep (s : State) : Result State :=
  if !s.fullService then .next s
  else
    let caps : Nat × Nat × Nat := (s.get THM_NCAP.TRK, s.get THM_NCAP.CHB, s.get THM_NCAP.PRT)
    let fn := fun (c : Nat × Nat × Nat) (b : Block) => match b with
      | .trk => c.1
      | .chb => c.2.1
      | .prt => c.2.2
    let power := fun (c : Nat × Nat × Nat) => s.cappedPower (fn c) (fun n => (s.cell n).fmeas)
    let l := (List.range 18).filter (fun n => s.cellPresent n && s.switching n && s.direct n)
    let floor_ := l.all (fun n => decide (s.target n ≤ 1500000))
    let t := { s with thm := { s.thm with capAt := s.time } }
    let put := fun (u : State) (c : Nat × Nat × Nat) =>
      let v := ((u.set THM_NCAP.TRK c.1).set THM_NCAP.CHB c.2.1).set THM_NCAP.PRT c.2.2
      let v := v.mark THM_STATUS.GD_CAP (decide (c ≠ (10, 6, 2)))
      let v := if c.2.2 < 2 && s.get PRT_STATUS.MODE ≠ 0 then (v.portStop).degrade .south else v
      v.applyLimits
    if floor_ && decide (s.gateBudget < power caps) then
      let c := (List.range 16).foldl (fun (c : Nat × Nat × Nat) _ =>
        if power c ≤ s.gateBudget then c
        else if 0 < c.2.1 then (c.1, c.2.1 - 1, c.2.2)
        else if 0 < c.2.2 then (c.1, c.2.1, c.2.2 - 1)
        else (max 2 (c.1 - 1), c.2.1, c.2.2)) caps
      .next ((put t c).raise THM_FLAGS.GD_CAP)
    else
      let at_ := fun (c : Nat × Nat × Nat) => s.cappedPower (fn c) s.target
      let up := if caps.1 < 10 then (caps.1 + 1, caps.2) else if caps.2.2 < 2 then (caps.1, caps.2.1, caps.2.2 + 1) else (caps.1, min 6 (caps.2.1 + 1), caps.2.2)
      if up ≠ caps && decide (at_ up ≤ s.gateBudget) then .next (put t up) else .next t

end Sys2Proof.Machine
end

