-- ==== Sys2Proof/Machine/Port.lean ====
section
/-!
DEFINITION. The service port: the Type-C state, the PD policy of the port core and the port converter's
commands (chapter 13, R324 to R348).
-/

namespace Sys2Proof.Machine

/-- The port core runs (R346, R402, R434): full service, enabled, not restarting, not in a held restart. -/
def State.portRuns (s : State) : Bool :=
  s.fullService && s.is SVC_CTRL.EN && s.svc.coreBackAt.isNone && !s.is UPD_STATUS.HOLD && decide (s.mode < 2) && !s.chipSafe

/-- The port may act in a role (R333): enabled and not stopped. -/
def State.portUp (s : State) : Bool := s.portRuns && s.is PRT_CTRL.EN && !s.svc.stopped && s.get SVC_CTRL.ROLE != 3

/-- Attached as sink or as source. -/
def State.isSink (s : State) : Bool := s.get SVC_STATUS.TC_STATE == 5
def State.isSource (s : State) : Bool := s.get SVC_STATUS.TC_STATE == 6

/-- The caps of R332 within their ranges, 10 mV and 10 mA. -/
def State.vmax (s : State) : Nat := clampN 500 4800 (s.get PRT_LIM.VMAX)
def State.imax (s : State) : Nat := clampN 50 500 (s.get PRT_LIM.IMAX)

/-- Changes the port's state beside its registers. -/
def State.setSvc (s : State) (g : Svc → Svc) : State := { s with svc := g s.svc }

/-- Sends a message. -/
def State.send (s : State) (m : PdMsg) : State := s.setSvc (fun v => { v with sent := some m })

/-- Sourcing is barred while PACK is primary with `ACC_PACK` 0 (R347). -/
def State.packBars (s : State) : Bool := s.get SRC_STATUS.PRIMARY == 3 && !s.is PRT_CTRL.ACC_PACK

/-! ### Power available as source (R338) -/

/-- P_cap in 0.1 W for a rail voltage in 10 mV. -/
def State.pcapOf (s : State) (rail : Nat) : Nat :=
  let cable := if !s.is SVC_CABLE.EMARKED || s.get SVC_CABLE.CUR ≠ 2 then 600 else if s.svc.epr then 2400 else 1000
  let cap := (quot (s.vmax * s.imax : Nat) 1000).toNat
  let conv := (quot (76 * s.get (CEL_ILIM.ILIM_POS 16) * rail : Nat) 100000).toNat
  min (min 2400 cap) (min conv (min (24 * s.get THM_LIM.PRT) cable))

/-- The power delivery power of a P_cap, W; 0 below 15 W. -/
def pdpOf (pcap : Nat) : Nat :=
  (([240, 180, 140, 100, 60, 45, 27, 15] : List Nat).find? (fun w => decide (10 * w ≤ pcap))).getD 0

/-- The capabilities that the device offers as source. -/
def State.offer (s : State) : List Pdo :=
  let pcap := s.get SVC_PDP.PCAP
  let pdp := pdpOf pcap
  let cut := fun (i : Nat) => min i s.imax
  if pcap < 150 then [{ kind := .fixed, pos := 1, volt := 500, curr := cut (2 * pcap / 5 * 5) }]
  else
    let rows : List (Bool × PdoKind × Nat × Nat) :=
      [(true, .fixed, 500, min 300 (20 * pdp)), (decide (27 ≤ pdp), .fixed, 900, 300), (decide (45 ≤ pdp), .fixed, 1500, 300),
       (decide (60 ≤ pdp), .fixed, 2000, if 100 ≤ pdp then 500 else 300), (decide (60 ≤ pdp) && s.is SVC_CTRL.PPS_EN, .pps, 2100, 300)]
    let spr := rows.filter (fun r => r.1 && decide (r.2.2.1 ≤ s.vmax))
    let epr := ([(8, 140, 2800), (9, 180, 3600), (10, 240, 4800)] : List (Nat × Nat × Nat)).filter
      (fun r => s.svc.epr && decide (r.2.1 ≤ pdp) && decide (r.2.2 ≤ s.vmax))
    (List.range spr.length).filterMap (fun i => spr[i]?.map (fun r => ({ kind := r.2.1, pos := i + 1, volt := r.2.2.1, curr := cut r.2.2.2 } : Pdo)))
      ++ epr.map (fun r => ({ kind := .epr, pos := r.1, volt := r.2.2, curr := cut 500 } : Pdo))

/-- `Rp` that the device presents as source without a contract (R333). -/
def State.rpOffer (s : State) : Nat :=
  let p := s.get SVC_PDP.PCAP
  if 150 ≤ p then 3 else if 75 ≤ p then 2 else 1

/-- P_cap and the PDP are computed anew (R338). -/
def State.pcapUpdate (s : State) (rail : Nat) : State :=
  let p := s.pcapOf rail
  let t := (s.set SVC_PDP.PCAP p).set SVC_PDP.PDP (pdpOf p)
  t.setSvc (fun v => { v with rail := rail })

/-- Sends Source_Capabilities (R338). -/
def State.sendCaps (s : State) : State :=
  if !s.is SVC_CTRL.PD_EN then s
  else ((s.setSvc (fun v => { v with offered := s.offer })).send .caps).set SVC_STATUS.PD_STATE (if s.svc.contract.isSome then 2 else 1)

/-! ### Roles -/

/-- The unattached port takes the behavior of `ROLE` (R333); a stopped port or one in ErrorRecovery keeps its state. -/
def State.portRole (s : State) : State :=
  if !s.portRuns || s.svc.stopped || s.svc.recoveryEnd.isSome then s
  else
    let st := if !s.portUp then 0 else if s.get SVC_CTRL.ROLE = 2 then 2 else 1
    let t := (s.set SVC_STATUS.TC_STATE st).set SVC_STATUS.RP_LEVEL 0
    (t.mark SVC_STATUS.POWER_ROLE false).setSvc (fun v => { v with rpPhase := false, tryAt := none, awaitVbus := 0 })

/-- Everything of an attached partner ends: contract, converter, VCONN, cable, and VBUS as a source (R330). -/
def State.dropPartner (s : State) : State :=
  let t := (s.swapFail 0x09).endContract
  let t := (t.portMode 0).onlyIf (t.get UPD_STATUS.OWNER == 2) (fun u => u.endSession)
  let t := if t.is SRC_STATUS.VBUS_QUAL then t.vbusLost else t
  let t := ((t.mark SVC_STATUS.VCONN_ON false).mark SVC_STATUS.PARTNER_PD false).mark SVC_STATUS.EPR_CABLE false
  let t := ((t.mark SVC_STATUS.USB_CONF false).mark SVC_STATUS.DATA_ROLE false).wr SVC_CABLE.addr 0
  t.setSvc (fun v => { v with awaitVbus := 0, dischargeFor := 0, partnerEpr := false, tryAt := none })

/-- The converter adds current under a sink contract while another source is primary (R327, R329). -/
def State.sinkOn (s : State) : State :=
  let p := s.get SRC_STATUS.PRIMARY
  if p = 4 then s.portMode (if s.fullService then 2 else 1)
  else if s.fullService && s.is PRT_CTRL.SINK_ADD && decide (p ≠ 3) then s.portMode 3 else s.portMode 0

/-- The current of a Type-C level, 10 mA (R69). -/
def typeCCurrent (level : Nat) : Nat := if level = 3 then 300 else if level = 2 then 150 else if level = 1 then 50 else 0

/-- The device sinks at the Type-C current that it sees (R69, R344): VBUS is a source with that ceiling. -/
def State.sinkTypeC (s : State) : State :=
  let i := typeCCurrent (s.get SVC_STATUS.RP_LEVEL)
  let t := (s.set SRC_CEIL_VBUS.CEIL i).set SRC_CEIL_VBUS.VOLT 0
  (t.mark SRC_STATUS.VBUS_QUAL (i != 0)).sinkOn

/-- VCONN on and Discover Identity sent: the cable check of R340. -/
def State.cableCheck (s : State) : State :=
  let t := (s.mark SVC_STATUS.EPR_CABLE false).wr SVC_CABLE.addr 0
  (t.mark SVC_STATUS.VCONN_ON true).send .discoverIdentity

/-- The device sources vSafe5V and offers its capabilities (R333, R338, R344, R345). -/
def State.source5V (s : State) : State :=
  let t := (s.setFleet .prt (fun f => { f with vref := 5000000 })).portMode 4
  ((t.set SVC_STATUS.RP_LEVEL t.rpOffer).pcapUpdate t.svc.rail).sendCaps

/-- Attached.SRC: power source and DFP (R341). -/
def State.attachSource (s : State) : State :=
  let t := (s.set SVC_STATUS.TC_STATE 6).mark SVC_STATUS.POWER_ROLE true
  let t := (t.mark SVC_STATUS.DATA_ROLE true).raise SVC_FLAGS.ATTACH
  t.cableCheck.source5V

/-- TYPEC_ATTACH (R333, R334, R348): a partner that presents `Rp` at `level` (device sink) or, with level 0, `Rd` (device
source, through Try.SNK when `ROLE` is DRP_TRYSNK); `cc2` is the wire. A partner of an attached sink that changes its
level is seen anew. -/
def execTypecAttach (level : Fin 4) (cc2 : Bool) (s : State) : Result State :=
  let tc := s.get SVC_STATUS.TC_STATE
  let role := s.get SVC_CTRL.ROLE
  let t := s.mark SVC_STATUS.ORIENT cc2
  if s.get GLB_REGION.SERVICE = 1 || s.get GLB_REGION.SERVICE = 3 then
    if level.val = 0 then .next s
    else .next (((t.set SVC_STATUS.TC_STATE 5).set SVC_STATUS.RP_LEVEL level.val).setSvc (fun v => { v with romSink := true }))
  else if tc = 5 && level.val ≠ 0 then
    let t := s.set SVC_STATUS.RP_LEVEL level.val
    .next (if s.svc.contract.isNone && s.is SRC_STATUS.VBUS_QUAL then t.sinkTypeC else t)
  else if !s.portUp then .next s
  else if level.val ≠ 0 then
    if role ≠ 2 && (tc = 1 || tc = 2 || tc = 3 || tc = 4) then
      let t := ((t.set SVC_STATUS.TC_STATE 5).set SVC_STATUS.RP_LEVEL level.val).mark SVC_STATUS.POWER_ROLE false
      let t := (t.mark SVC_STATUS.DATA_ROLE false).raise SVC_FLAGS.ATTACH
      .next ((t.setSvc (fun v => { v with tryAt := none })).sinkTypeC)
    else .next s
  else if role ≠ 1 && (tc = 1 || tc = 2 || tc = 3) && !s.packBars then
    if role = 0 then .next ((t.set SVC_STATUS.TC_STATE 4).setSvc (fun v => { v with tryAt := some s.time }))
    else .next t.attachSource
  else .next s

/-- TRY_SNK_TIMEOUT (R348): after tDRPTry a partner that still presents `Rd` is sourced; after tTryTimeout the port is
unattached. -/
def execTrySnkTimeout (rd : Bool) (s : State) : Result State :=
  match s.svc.tryAt with
  | none => .next s
  | some t0 =>
    if s.get SVC_STATUS.TC_STATE ≠ 4 then .next s
    else if rd && t0 + ms 100 ≤ s.time && s.portUp && !s.packBars then .next ((s.setSvc (fun v => { v with tryAt := none })).attachSource)
    else if t0 + ms 600 ≤ s.time then .next s.portRole
    else .next s

/-- TYPEC_DETACH (R330, R353): the contract ends, a swap fails, and VBUS is lost. -/
def execTypecDetach (s : State) : Result State :=
  let tc := s.get SVC_STATUS.TC_STATE
  if s.get GLB_REGION.SERVICE = 1 || s.get GLB_REGION.SERVICE = 3 then
    .next ((s.dropPartner.set SVC_STATUS.TC_STATE 0).set SVC_STATUS.RP_LEVEL 0)
  else if tc = 5 || tc = 6 then .next ((s.dropPartner.raise SVC_FLAGS.DETACH).portRole)
  else if tc = 4 then .next s.portRole
  else .next s

/-- DRP_TOGGLE (R333, R348): the unattached port changes between `Rd` and `Rp`. -/
def execDrpToggle (s : State) : Result State :=
  let tc := s.get SVC_STATUS.TC_STATE
  if !s.portUp || s.get SVC_CTRL.ROLE ≠ 0 || s.packBars || (tc ≠ 1 && tc ≠ 2) then .next s
  else .next ((s.set SVC_STATUS.TC_STATE (3 - tc)).setSvc (fun v => { v with rpPhase := tc == 1 }))

/-! ### Hard Reset (R345) -/

/-- A Hard Reset, sent or received. -/
def State.hardReset (s : State) : State :=
  let t := s.endContract.swapFail 0x08
  let src := t.isSource
  let t := ((t.mark SVC_STATUS.POWER_ROLE src).mark SVC_STATUS.DATA_ROLE src).set SVC_STATUS.PD_STATE 4
  let t := (t.raise SVC_FLAGS.HARD_RESET).count SVC_CNT.HRESET_CNT
  let t := t.setSvc (fun v => { v with resetAt := s.time, transAt := none })
  if src then (t.portMode 5).setSvc (fun v => { v with dischargeFor := 2 })
  else
    let t := t.portMode 0
    let t := if t.is SRC_STATUS.VBUS_QUAL then t.vbusLost else t
    t.setSvc (fun v => { v with awaitVbus := 2 })

/-- The device sends Hard Reset; as a sink of the primary source it keeps the contract, or sends Soft_Reset, instead
(R335). -/
def State.sendHardReset (s : State) : State := (s.send .hardReset).hardReset

/-- The device sends Soft_Reset and waits for capabilities (R335). -/
def State.sendSoftReset (s : State) : State :=
  (s.send .softReset).setSvc (fun v => { v with softAt := if s.isSink then some (s.time + ms 100) else none })

/-- PD_HARD_RESET (R345): received from the partner. -/
def execPdHardReset (s : State) : Result State :=
  if s.portRuns && (s.isSink || s.isSource) then .next s.hardReset else .next s

/-- HARD_RESET_RECOVER (R345): tSrcRecover has passed; vSafe5V, the cable check and Source_Capabilities. -/
def execHardResetRecover (s : State) : Result State :=
  if s.portRuns && s.isSource && s.due s.svc.recoverAt then
    .next ((s.setSvc (fun v => { v with recoverAt := none })).cableCheck.source5V)
  else .next s

/-- DISCHARGE_DONE (R327, R344, R345): `VBUS`, in 10 mV, has fallen below 0.70 V. -/
def execDischargeDone (v : Nat) (s : State) : Result State :=
  if s.get PRT_STATUS.MODE ≠ 5 || 70 ≤ v then .next s
  else
    let why := s.svc.dischargeFor
    let t := (s.portMode 0).raise PRT_FLAGS.DISCHARGED
    let t := t.setSvc (fun w => { w with dischargeFor := 0 })
    if why = 1 then .next ((t.set SVC_STATUS.RP_LEVEL 0).send .psRdy)
    else if why = 2 then .next (t.setSvc (fun w => { w with recoverAt := some (max s.time (w.resetAt + ms 30) + ms 700) }))
    else .next t

/-- VBUS_RESTORED (R344, R345): as sink after a swap or a Hard Reset `VBUS` has reached 4.75 V; `level` is the partner's `Rp`. -/
def execVbusRestored (v : Nat) (level : Fin 4) (s : State) : Result State :=
  let why := s.svc.awaitVbus
  if why = 0 || v < 475 || !s.isSink then .next s
  else
    let t := (s.set SVC_STATUS.RP_LEVEL level.val).setSvc (fun w => { w with awaitVbus := 0 })
    if why = 1 then .next t.sinkTypeC
    else .next ((t.mark PRT_STATUS.VBUS_G_ON true).set SVC_STATUS.PD_STATE 1)

/-! ### Protections (R328, R330, R334) -/

/-- The contract voltage in 10 mV: vSafe5V without a contract. -/
def State.contractVolt (s : State) : Nat := match s.svc.contract with
  | some (_, v, _) => v
  | none => 500

/-- After a trip of R328: converter off, `VBUS_G` open, and one Hard Reset. -/
def State.portTrip (s : State) : State :=
  let t := s.portMode 0
  if t.get SVC_STATUS.PD_STATE = 4 then t else t.sendHardReset

/-- VBUS_OVERVOLTAGE (R328): `VBUS`, in 10 mV, above its limit for 10 us. -/
def execVbusOvervoltage (v : Nat) (s : State) : Result State :=
  let m := s.get PRT_STATUS.MODE
  let excess := if m = 4 then decide (11 * s.contractVolt + 500 < 10 * v) else decide (max (11 * s.contractVolt) 5500 < 10 * v)
  if (m = 1 || m = 2 || m = 3 || m = 4) && (excess || 5200 < v) then .next ((s.raise PRT_FLAGS.VBUS_OV).portTrip) else .next s

/-- PORT_BACKFEED (R328): port current in 10 mA, reversed for 500 ns. -/
def execPortBackfeed (i : Int) (s : State) : Result State :=
  let m := s.get PRT_STATUS.MODE
  if (m = 4 && i < -50) || ((m = 1 || m = 2 || m = 3) && 50 < i) then .next ((s.raise PRT_FLAGS.BACKFEED).portTrip) else .next s

/-- VBUS_LOSS (R330): `VBUS`, in 10 mV, below 4.00 V for 10 us. -/
def execVbusLoss (v : Nat) (s : State) : Result State :=
  if v < 400 && s.is SRC_STATUS.VBUS_QUAL then .next ((s.portMode 0).vbusLost) else .next s

/-- DEAD_BATTERY_SINK (R83, R334): in reduced service or RECOVERY `VBUS` has been present for 100 ms with neither TRK nor BYP
qualified; `level` is the `Rp` level the ROM reads. -/
def execDeadBatterySink (level : Fin 4) (s : State) : Result State :=
  let rom := s.get GLB_REGION.SERVICE = 1 || s.get GLB_REGION.SERVICE = 3
  if !rom || s.chipSafe || s.qualified 1 || s.qualified 2 || !bitOf s.saf.keepInputs 2 || level.val = 0 || s.get SRC_STATUS.PRIMARY = 4 then .next s
  else
    let t := ((s.set SVC_STATUS.TC_STATE 5).set SVC_STATUS.RP_LEVEL level.val).setSvc (fun v => { v with romSink := true })
    let t := ((t.set SRC_CEIL_VBUS.CEIL (typeCCurrent level.val)).mark SRC_STATUS.VBUS_QUAL true).raise PRT_FLAGS.DB_SINK
    .next ((t.turnOn 4 (t.get TRK_REF.TARGET)).becamePrimary 4)

/-! ### Contracts as sink (R335 to R337) -/

/-- The PDO that the sink requests with its voltage and current (R336). -/
def State.choose (s : State) : Option (Pdo × Nat × Nat) :=
  let vmin := clampN 500 4800 (s.get SVC_SNK_PREF.VMIN)
  let cur := fun (p : Pdo) => min p.curr s.imax
  let pps := s.svc.partner.find? (fun p => p.kind == .pps)
  let best := (s.svc.partner.filter (fun p =>
    (p.kind == .fixed || (p.kind == .epr && s.svc.epr)) && decide (vmin ≤ p.volt) && decide (p.volt ≤ s.vmax))).foldl
    (fun (acc : Option Pdo) p => match acc with
      | none => some p
      | some q =>
        let a := p.volt * cur p
        let b := q.volt * cur q
        if b < a || (a = b && p.volt < q.volt) then some p else some q) none
  match (if s.is SVC_SNK_PREF.PPS_REQ then pps else none) with
  | some p => some (p, min s.vmax p.volt, cur p)
  | none => best.map (fun p => (p, p.volt, cur p))

/-- The sink sends its Request; with no fitting PDO it sends Hard Reset, unless VBUS is primary (R332, R336). -/
def State.sendRequest (s : State) : State :=
  match s.choose with
  | some r => ((s.setSvc (fun v => { v with request := some r })).send .request).set SVC_STATUS.PD_STATE 1
  | none => if s.get SRC_STATUS.PRIMARY = 4 then s else s.sendHardReset

/-- PD_SOURCE_CAPABILITIES (R336): `epr` says that the partner offers EPR. -/
def execPdSourceCapabilities (pdos : List Pdo) (epr : Bool) (s : State) : Result State :=
  if !s.portRuns || !s.isSink || !s.is SVC_CTRL.PD_EN then .next s
  else
    let t := s.setSvc (fun v => { v with partner := pdos, partnerEpr := epr, softAt := none, retryAt := none })
    .next ((t.mark SVC_STATUS.PARTNER_PD true).sendRequest)

/-- SINK_REQUEST_RETRY (R337): tSinkRequest after a Wait. -/
def execSinkRequestRetry (s : State) : Result State :=
  if s.portRuns && s.isSink && s.due s.svc.retryAt then
    .next ((((s.setSvc (fun v => { v with retryAt := none })).count SVC_CNT.RETRY_CNT).send .request).set SVC_STATUS.PD_STATE 1)
  else .next s

/-- SOFT_RESET_WAIT_END (R335): no capabilities came within 100 ms; the sink goes on with the Type-C current. -/
def execSoftResetWaitEnd (s : State) : Result State :=
  if s.portRuns && s.due s.svc.softAt then
    .next ((s.setSvc (fun v => { v with softAt := none })).set SVC_STATUS.PD_STATE 0)
  else .next s

/-- PD_SOFT_RESET (R335, R354): `sent` by the device on a protocol error, else received and answered with Accept; the
negotiation restarts. -/
def execPdSoftReset (sent : Bool) (s : State) : Result State :=
  if !s.portRuns || !(s.isSink || s.isSource) then .next s
  else
    let t := s.swapFail 0x09
    let t := t.setSvc (fun v => { v with request := none, retryAt := none, sinkTxAt := none, transAt := none })
    let t := t.set SVC_STATUS.PD_STATE 1
    let t := if sent then t.sendSoftReset.raise SVC_FLAGS.PD_PROTO else t.send .accept
    .next (if t.isSource then t.sendCaps else t)

/-- A contract comes into force (R331, R336): the contract point is an order of M4. -/
def State.inForce (s : State) (r : Pdo × Nat × Nat) : State :=
  let kind := match r.1.kind with
    | .fixed => 1
    | .pps => 2
    | .epr => 3
  let dir : Int := if s.isSink then 1 else 0
  let t := s.setSvc (fun v => { v with contract := some r, request := none })
  let t := ((t.set SVC_STATUS.CONTRACT kind).set SVC_STATUS.PDO r.1.pos).set SVC_STATUS.PD_STATE 2
  (t.raise SVC_FLAGS.CONTRACT).enter { target := .contract, master := 4, val := dir * 65536 + r.2.1, aux := r.2.2, origin := .policy }

/-! ### Requests as source (R338, R339) -/

/-- A Request fits the offered capabilities. -/
def State.fits (s : State) (pos volt curr : Nat) : Option (Pdo × Nat × Nat) :=
  match s.svc.offered.find? (fun p => p.pos == pos) with
  | none => none
  | some p =>
    if p.curr < curr then none
    else if p.kind = .pps then (if 330 ≤ volt && volt ≤ p.volt then some (p, volt, curr) else none)
    else some (p, p.volt, curr)

/-- PD_REQUEST (R338, R342, R344): accepted against the offered capabilities, or rejected. -/
def execPdRequest (pos volt curr : Nat) (s : State) : Result State :=
  if !s.portRuns || !s.isSource || !s.is SVC_CTRL.PD_EN then .next s
  else
    let t := s.mark SVC_STATUS.PARTNER_PD true
    match s.fits pos volt curr with
    | some r => .next (((t.send .accept).set SVC_STATUS.PD_STATE 1).setSvc (fun v => { v with request := some r, transAt := some (s.time + ms 25) }))
    | none => .next (t.send .reject)

/-- PCAP_UPDATE (R338, R339): every 1 ms, with the rail voltage in 10 mV. -/
def execPcapUpdate (rail : Nat) (s : State) : Result State :=
  if !s.portRuns then .next s
  else
    let t := s.pcapUpdate rail
    let p := t.get SVC_PDP.PCAP
    let held := match t.svc.contract with
      | some (_, v, i) => decide (1000 * p < v * i) && t.isSource
      | none => false
    let top := t.svc.offered.foldl (fun acc q => max acc (q.volt * q.curr)) 0
    let more := t.isSource && t.svc.contract.isSome && decide (top < t.offer.foldl (fun acc q => max acc (q.volt * q.curr)) 0)
    let t := t.setSvc (fun v => { v with lowSince := if held then some (v.lowSince.getD s.time) else none, highSince := if more then some (v.highSince.getD s.time) else none })
    .next (if t.isSource && t.svc.contract.isNone && t.svc.swap.isNone then t.set SVC_STATUS.RP_LEVEL t.rpOffer else t)

/-- PDO_REDUCE (R339): P_cap below the contract's power for 10 ms. -/
def execPdoReduce (s : State) : Result State :=
  if s.portRuns && s.isSource && s.due (s.svc.lowSince.map (fun t => t + ms 10)) then
    .next (((s.setSvc (fun v => { v with lowSince := none })).sendCaps).raise SVC_FLAGS.PDO_REDUCED)
  else .next s

/-- PDO_RAISE (R339): P_cap at a higher class for 1 s. -/
def execPdoRaise (s : State) : Result State :=
  if s.portRuns && s.isSource && s.due (s.svc.highSince.map (fun t => t + ms 1000)) then
    .next ((s.setSvc (fun v => { v with highSince := none })).sendCaps)
  else .next s

/-- A cap of R332 has changed: new capabilities as source, a new Request as sink. -/
def State.capChanged (s : State) : State :=
  let t := s.pcapUpdate s.svc.rail
  if !t.portRuns || t.svc.contract.isNone then t
  else if t.isSource then t.sendCaps else if t.isSink then t.sendRequest else t

/-! ### Cable, VCONN, EPR (R340) -/

/-- PD_CABLE_IDENTITY (R340): the answer on SOP': e-marked, EPR capable, current 2 for 5 A, voltage 3 for 50 V. -/
def execPdCableIdentity (emarked epr : Bool) (cur vmax : Fin 4) (s : State) : Result State :=
  if !s.portRuns || !s.isSource || !s.is SVC_STATUS.VCONN_ON then .next s
  else
    let t := ((s.mark SVC_CABLE.EMARKED emarked).mark SVC_CABLE.EPR epr).set SVC_CABLE.CUR cur.val
    let t := t.set SVC_CABLE.VMAX vmax.val
    .next (t.mark SVC_STATUS.EPR_CABLE (emarked && epr && cur.val == 2 && vmax.val == 3))

/-- PD_EPR_MODE_ENTRY (R336, R340): as source the partner's request, refused when the cable check has not passed; as sink the
partner's answer `ok` to the device's request. -/
def execPdEprModeEntry (ok : Bool) (s : State) : Result State :=
  if !s.portRuns || !s.is SVC_CTRL.PD_EN then .next s
  else if s.isSource then
    if !s.is SVC_STATUS.EPR_CABLE then .next ((s.send .eprFail).raise SVC_FLAGS.CABLE_NOT_EPR)
    else if !s.is SVC_CTRL.EPR_EN then .next (s.send .eprFail)
    else
      let t := (s.setSvc (fun v => { v with epr := true })).send .eprOk
      .next ((t.pcapUpdate t.svc.rail).sendCaps)
  else if s.isSink && s.svc.sent = some .eprEnter then .next (s.setSvc (fun v => { v with epr := ok, sent := none }))
  else .next s

/-- VCONN_OVERCURRENT (R340): above 0.40 A for 1 ms; `i` in mA. -/
def execVconnOvercurrent (i : Nat) (s : State) : Result State :=
  if !s.is SVC_STATUS.VCONN_ON || i ≤ 400 then .next s
  else
    let t := (s.mark SVC_STATUS.VCONN_ON false).raise SVC_FLAGS.VCONN_OC
    if t.get SVC_STATUS.CONTRACT = 3 then .next t.sendHardReset else .next (t.setSvc (fun v => { v with epr := false }))

/-- PD_VCONN_SWAP (R324): answered with Reject. -/
def execPdVconnSwap (s : State) : Result State := if s.portRuns then .next (s.send .reject) else .next s

/-- PD_UNSUPPORTED (R324): answered with Not_Supported. -/
def execPdUnsupported (s : State) : Result State := if s.portRuns then .next (s.send .notSupported) else .next s

/-! ### Swaps (R341 to R344) -/

/-- PD_DR_SWAP (R341): accepted only when it makes the device UFP. -/
def execPdDrSwap (s : State) : Result State :=
  if !s.portRuns || !(s.isSink || s.isSource) then .next s
  else if s.is SVC_STATUS.DATA_ROLE then .next ((s.send .accept).mark SVC_STATUS.DATA_ROLE false)
  else .next (s.send .reject)

/-- The device's own PR_Swap is due (R342): as source after tSinkTx at SinkTxNG, as sink when `Rp` reads SinkTxOK. -/
def State.startSwap (s : State) : State :=
  let t := s.set SVC_STATUS.PD_STATE 3
  if t.isSource then (t.set SVC_STATUS.RP_LEVEL 2).setSvc (fun v => { v with sinkTxAt := some (s.time + ms 16) })
  else t.setSvc (fun v => { v with sinkTxAt := some s.time })

/-- PR_Swap is sent. -/
def State.sendPrSwap (s : State) (w : Swap) : State :=
  (s.setSvc (fun v => { v with sinkTxAt := none, swap := some { w with phase := 1, sent := w.sent + 1 } })).send .prSwap

/-- SINK_TX_WAIT_END (R342). -/
def execSinkTxWaitEnd (s : State) : Result State :=
  match s.svc.swap with
  | none => .next s
  | some w =>
    if !s.portRuns || w.phase ≠ 0 || !s.due s.svc.sinkTxAt || (s.isSink && s.get SVC_STATUS.RP_LEVEL ≠ 3) then .next s
    else .next (s.sendPrSwap w)

/-- PR_SWAP_RETRY (R343): tPRSwapWait after a Wait. -/
def execPrSwapRetry (s : State) : Result State :=
  match s.svc.swap with
  | none => .next s
  | some w =>
    if !s.portRuns || w.phase ≠ 3 || s.time < w.at_ then .next s
    else .next (((s.setSvc (fun v => { v with swap := some { w with phase := 0, retries := w.retries + 1 } })).count SVC_CNT.RETRY_CNT).startSwap)

/-- The power path after a PR_Swap was accepted (R344). -/
def State.swapAccepted (s : State) (w : Swap) : State :=
  let t := (s.setSvc (fun v => { v with swap := some { w with phase := 2 } })).set SVC_STATUS.PD_STATE 3
  if t.isSource then t.setSvc (fun v => { v with transAt := some (s.time + ms 25) })
  else
    let t := t.portMode 0
    if t.is SRC_STATUS.VBUS_QUAL then t.vbusLost else t

/-- PD_PR_SWAP (R342, R343): accepted in DRP_TRYSNK, as a new source only with 15 W; Wait while an own swap job waits to retry;
of crossing messages the source ignores the partner's. -/
def execPdPrSwap (s : State) : Result State :=
  if !s.portRuns || !(s.isSink || s.isSource) then .next s
  else
    let goal := if s.isSource then 0 else 1
    let may := s.get SVC_CTRL.ROLE == 0 && (s.isSource || decide (150 ≤ s.get SVC_PDP.PCAP))
    match s.svc.swap with
    | some w =>
      if w.phase = 3 then .next (s.send .wait)
      else if w.phase = 2 || s.isSource then .next s
      else if may then .next ((s.send .accept).swapAccepted w) else .next (s.send .reject)
    | none =>
      if may then .next ((s.send .accept).swapAccepted { goal := goal }) else .next (s.send .reject)

/-- SRC_TRANSITION_END (R344): tSrcTransition has passed after an Accept: DISCHARGE for a swap, else the contract. After the
first contract the DFP source sends DR_Swap (R341). -/
def execSrcTransitionEnd (s : State) : Result State :=
  if !s.portRuns || !s.due s.svc.transAt then .next s
  else
    let t := s.setSvc (fun v => { v with transAt := none })
    match t.svc.swap with
    | some w =>
      if w.phase = 2 && w.goal = 0 then .next (((t.endContract).set SVC_STATUS.PD_STATE 3).portMode 5 |>.setSvc (fun v => { v with dischargeFor := 1 }))
      else .next t
    | none =>
      match t.svc.request with
      | none => .next t
      | some r =>
        let first := t.svc.contract.isNone
        let t := (t.inForce r).send .psRdy
        .next (if first && t.is SVC_STATUS.DATA_ROLE then t.send .drSwap else t)

/-- A swap has completed (R343): the job ends DONE with its result block. -/
def State.swapDone (s : State) (w : Swap) : State :=
  let t := (s.setSvc (fun v => { v with swap := none })).raise SVC_FLAGS.SWAP_DONE
  match w.job with
  | some (m, r) => t.romEnd m r 5 0 [BitVec.ofNat 32 (t.get SVC_STATUS.POWER_ROLE), BitVec.ofNat 32 (t.get PRT_CONTRACT.VOLT), BitVec.ofNat 32 (t.get PRT_CONTRACT.CURR), BitVec.ofNat 32 w.sent]
  | none => t

/-- PD_PS_RDY (R344): the sink's contract is in force; or the partner's step of a swap is done. -/
def execPdPsRdy (s : State) : Result State :=
  if !s.portRuns then .next s
  else
    match s.svc.swap with
    | some w =>
      if w.phase ≠ 2 then .next s
      else if w.goal = 0 then
        if s.get PRT_STATUS.MODE = 5 || s.svc.transAt.isSome then .next s
        else
          let t := ((s.set SVC_STATUS.TC_STATE 5).mark SVC_STATUS.POWER_ROLE false).set SVC_STATUS.PD_STATE 1
          let t := t.setSvc (fun v => { v with awaitVbus := 1 })
          .next (t.swapDone w)
      else
        let t := ((s.endContract).set SVC_STATUS.TC_STATE 6).mark SVC_STATUS.POWER_ROLE true
        let t := (t.send .psRdy).swapDone w
        .next t.source5V
    | none =>
      match s.svc.request with
      | some r =>
        if !s.isSink then .next s
        else
          let t := s.inForce r
          let wants := t.is SVC_CTRL.EPR_EN && t.svc.partnerEpr && decide (2000 < t.vmax) && !t.svc.epr
          .next (if wants then t.send .eprEnter else t)
      | none => .next s

/-- PD_ACCEPT (R341, R344): the partner accepts a PR_Swap, a DR_Swap or a Request. -/
def execPdAccept (s : State) : Result State :=
  if !s.portRuns then .next s
  else
    match s.svc.swap with
    | some w => if w.phase = 1 then .next (s.swapAccepted w) else .next s
    | none => if s.svc.sent = some .drSwap then .next ((s.setSvc (fun v => { v with sent := none })).mark SVC_STATUS.DATA_ROLE false) else .next s

/-- PD_REJECT (R343): ends a swap FAILED, or a request, whose contract before stays in force. -/
def execPdReject (s : State) : Result State :=
  if !s.portRuns then .next s
  else
    let back := fun (t : State) => t.set SVC_STATUS.PD_STATE (if t.svc.contract.isSome then 2 else 0)
    match s.svc.swap with
    | some w =>
      if w.phase = 1 then .next (back (if s.isSource then (s.swapFail 0x09).set SVC_STATUS.RP_LEVEL 3 else s.swapFail 0x09)) else .next s
    | none =>
      if s.svc.request.isSome && s.isSink then .next (back (s.setSvc (fun v => { v with request := none }))) else .next s

/-- PD_WAIT (R337, R343): a request is repeated after tSinkRequest; a swap after tPRSwapWait, at most 3 times. -/
def execPdWait (s : State) : Result State :=
  if !s.portRuns then .next s
  else
    match s.svc.swap with
    | some w =>
      if w.phase ≠ 1 then .next s
      else
        let t := s.raise SVC_FLAGS.WAIT_RX
        if 3 ≤ w.retries then .next ((t.swapFail 0x09).set SVC_STATUS.PD_STATE 2)
        else .next ((t.setSvc (fun v => { v with swap := some { w with phase := 3, at_ := s.time + ms 100 } })).set SVC_STATUS.PD_STATE 5)
    | none =>
      if s.svc.request.isSome && s.isSink then
        .next (((s.raise SVC_FLAGS.WAIT_RX).setSvc (fun v => { v with retryAt := some (s.time + ms 100) })).set SVC_STATUS.PD_STATE 5)
      else .next s

/-- The ROM program `port_role_swap` starts for a job (R343): target role 0 sink, 1 source. -/
def State.portRoleSwap (s : State) (m r goal : Nat) : State :=
  let role := s.get SVC_STATUS.POWER_ROLE
  let block := [BitVec.ofNat 32 role, BitVec.ofNat 32 (s.get PRT_CONTRACT.VOLT), BitVec.ofNat 32 (s.get PRT_CONTRACT.CURR), 0#32]
  let attached := s.isSink || s.isSource
  if attached && role = goal then s.romEnd m r 5 0 block
  else if !attached || !s.portRuns || s.svc.swap.isSome || !s.is SVC_STATUS.PARTNER_PD || s.get SVC_CTRL.ROLE ≠ 0 || !s.is PRT_CTRL.EN ||
      (goal = 1 && s.get SVC_PDP.PCAP < 150) then
    (s.romEnd m r 6 0x09 block).raise SVC_FLAGS.SWAP_FAIL
  else if goal = 1 && s.get SRC_STATUS.PRIMARY = 4 then
    let t := s.mark SRC_STATUS.VBUS_QUAL false
    if (t.firstSource).isNone then (s.romEnd m r 6 0x09 block).raise SVC_FLAGS.SWAP_FAIL
    else t.setSvc (fun v => { v with swap := some { job := some (m, r), goal := goal, phase := 4 } })
  else (s.setSvc (fun v => { v with swap := some { job := some (m, r), goal := goal } })).startSwap

/-- A swap that waited for SRC to release VBUS goes on (R343). -/
def State.swapReleased (s : State) : State :=
  match s.svc.swap with
  | some w =>
    if w.phase = 4 && decide (s.get SRC_STATUS.PRIMARY ≠ 4) && s.get SRC_STATUS.XFER == 0 then
      (s.setSvc (fun v => { v with swap := some { w with phase := 0 } })).startSwap
    else s
  | none => s

/-! ### Stops and recovery (R346, R347) -/

/-- PORT_WATCHDOG_EXPIRY (R346, R354): the port core misses its 10 ms serve; the port stops and the core restarts. -/
def execPortWatchdogExpiry (s : State) : Result State :=
  if !s.portRuns then .next s
  else
    let t := (s.portStop.degrade .south).degrade .interface
    let t := (t.raise SVC_FLAGS.PORT_WDG).setFault 17
    .next (t.setSvc (fun v => { v with watchdog := true, coreBackAt := some (s.time + ms 50) }))

/-- ERROR_RECOVERY_END (R346): 25 ms have passed; the port presents `Rd` only. -/
def execErrorRecoveryEnd (s : State) : Result State :=
  if s.due s.svc.recoveryEnd then .next ((s.setSvc (fun v => { v with recoveryEnd := none })).set SVC_STATUS.TC_STATE 0) else .next s

/-- Every cause of a port stop has gone (R346). -/
def State.stopGone (s : State) : Bool :=
  let cool := fun (n : Nat) => decide ((s.cell n).temp < fine (s.getZ THM_STG_WARN.FALL))
  let back := fun (n : Nat) => s.cellState n != 5
  !bitOf (s.get SAF_FAULT.FAULT) 9 && back 16 && back 17 && cool 16 && cool 17 && decide (2 ≤ s.get THM_NCAP.PRT) &&
    decide (0 < s.get THM_LIM.PRT) && (s.svc.coreBackAt.isNone || s.due s.svc.coreBackAt)

/-- PORT_RESUME (R346): every cause has gone and the port resumes the behavior of `ROLE`. -/
def execPortResume (s : State) : Result State :=
  if s.svc.stopped && s.svc.recoveryEnd.isNone && s.stopGone then
    .next ((s.setSvc (fun v => { v with stopped := false, watchdog := false, coreBackAt := none })).portRole)
  else .next s

/-- PACK_PRIMARY_PORT_STOP (R347): `ACC_PACK` 0 and PACK primary for 10 ms: the port stops sourcing as if `EN` were 0. -/
def execPackPrimaryPortStop (s : State) : Result State :=
  if s.packBars && s.isSource && s.due (s.svc.packSince.map (fun t => t + ms 10)) then
    .next ((s.dropPartner.set SVC_STATUS.TC_STATE 0).setSvc (fun v => { v with packStop := true }))
  else .next s

/-- Another source is primary again: the port sources as `ROLE` says (R347). -/
def State.packResume (s : State) : State :=
  if s.svc.packStop && !s.packBars then (s.setSvc (fun v => { v with packStop := false })).portRole else s

/-- `EN` of `PRT_CTRL` has taken effect (R333): at 0 the port behaves as DISABLED. -/
def State.portEnabled (s : State) : State :=
  if s.is PRT_CTRL.EN then (if s.get SVC_STATUS.TC_STATE = 0 then s.portRole else s)
  else
    let t := s.dropPartner
    if t.svc.stopped then t else (t.set SVC_STATUS.TC_STATE 0).set SVC_STATUS.RP_LEVEL 0

/-- The port core starts in full service (R335): an attached sink stays attached and sends Soft_Reset. -/
def State.portStart (s : State) : State :=
  if !s.portRuns then s
  else if s.isSink && s.portUp then
    let t := s.setSvc (fun v => { v with romSink := false })
    let t := if t.is SRC_STATUS.VBUS_QUAL then t.sinkOn else t.sinkTypeC
    if t.is SVC_CTRL.PD_EN then t.sendSoftReset.set SVC_STATUS.PD_STATE 1 else t
  else
    let t := if s.isSink then s.dropPartner else s
    t.portRole

end Sys2Proof.Machine
end

