-- ==== Sys2Proof/Machine/Loom.lean ====
section
/-!
DEFINITION. The Loom's commands (R225 to R249): dispatch, slots, context commands, program and
data memory, shed and restore orders.
-/

namespace Sys2Proof.Machine

/-- The Loom runs (R253, `LOM_CTRL`): full service, enabled, not in DEEP SLEEP or OFF. -/
def State.loomRuns (s : State) : Bool := s.fullService && s.is LOM_CTRL.EN && decide (s.mode < 3)

/-- Whether context a goes before context b by R226: higher priority, then READY longer. -/
def State.before (s : State) (a b : Nat) : Bool :=
  let pa := s.cget (CTX.PRIO a)
  let pb := s.cget (CTX.PRIO b)
  decide (pb < pa) || (decide (pa = pb) && decide ((s.context a).readySeq < (s.context b).readySeq))

/-- The first context by R226 among those in a state that pass a test. -/
def State.firstBy (s : State) (code : Nat) (ok : Nat → Bool) : Option Nat :=
  (List.range 128).foldl (fun best c =>
    if s.cstate c == code && ok c then
      match best with
      | none => some c
      | some b => if s.before c b then some c else best
    else best) none

/-- Shuttle number h. -/
def State.shuttle (s : State) (h : Nat) : Shuttle := s.lom.shuttles.getD h {}

/-- Puts a READY context on a shuttle; a fetch past 0x3FFF traps (R225, R262). -/
def State.dispatch (s : State) (h c : Nat) : State :=
  let sh := s.lom.shuttles.set h { s.shuttle h with ctx := some c, count := 0 }
  let t := { s with lom := { s.lom with shuttles := sh } }
  let t := (t.cset (CTX.STATE c) 3).cset (CTX.SHUTTLE c) h
  if t.cget (CTX.PC c) = 0x4000 then t.trapContext c 0x0B 0 else t

/-- The RUNNING context of the lowest priority, the later READY first (R226). -/
def State.lowestRunning (s : State) : Option Nat :=
  (List.range 128).foldl (fun worst c =>
    if s.cstate c == 3 then
      match worst with
      | none => some c
      | some b => if s.before b c then some c else worst
    else worst) none

/-- QUANTUM_EXPIRY (R226): after QUANTUM instructions, with a READY context of equal or higher
priority waiting, the context returns to READY. -/
def execQuantumExpiry (sh : Fin 8) (s : State) : Result State :=
  let h := s.shuttle sh.val
  match h.ctx with
  | none => .next s
  | some c =>
    if decide (s.get LOM_CTRL.QUANTUM ≤ h.count) &&
        (s.firstBy 2 (fun d => decide (s.cget (CTX.PRIO c) ≤ s.cget (CTX.PRIO d)))).isSome then
      .next (s.makeReady c)
    else .next s

/-- SLOT_GRANT (R227): a free slot goes to the first WAIT_SLOT context that may take it, which is READY
to execute its instruction again. -/
def execSlotGrant (s : State) : Result State :=
  match s.firstBy 5 (fun c => (s.openSlot c).isSome) with
  | none => .next s
  | some c => .next (s.makeReady c)

/-! ### Context commands (R232, R284, R289, R247)

A command for a context homed on the peer is forwarded and `RESULT` reads BUSY (R366; log entry 40). -/

/-- Reports the result of a context command to its master (R253): 0 OK, 1 DENIED, 2 BUSY, 3 BAD. -/
def State.ctxResult (s : State) (m : Master) (c : CtxId) (code : Nat) : State :=
  { s with lom := { s.lom with cmdResult := s.lom.cmdResult.put m.val (code, c.val) } }

/-- A refused context command (R232). -/
def State.ctxDenied (s : State) (m : Master) (c : CtxId) : State :=
  (s.raise LOM_FLAGS.CTX_DENIED).ctxResult m c 1

/-- Whether a master owns a context (R232); a FREE context has no owner. -/
def State.owns (s : State) (m c : Nat) : Bool :=
  s.cstate c != 0 && s.cget (CTX.OWNER c) == m

/-- The context's configuration and owner as a Beam record without a commit (R246). -/
def State.saveConfig (s : State) (c : Nat) : State :=
  let old := (s.beam.commits.find c).getD {}
  let words := (((old.words.set 2 (s.ctx.get (32 * c + 2))).set 3 (s.ctx.get (32 * c + 3))).set 4 (s.ctx.get (32 * c + 4)))
  let rec' : Commit := { old with words := words }
  ({ s with beam := { s.beam with commits := s.beam.commits.put c rec' } } : State).journal (.commit c rec')

/-- CLAIM (R232): the writing master becomes the owner of a FREE context, IDLE with PRIO 8, SHED 7,
LOCKEN 0, no bound track, PICKSTART 0 and BUDGET 0. Context 0 cannot be claimed. -/
def execClaim (m : Master) (c : CtxId) (s : State) : Result State :=
  if !s.mayWrite m then .next s
  else if s.away c then .next (s.ctxResult m c 2)
  else if c.val = 0 then .next (s.ctxDenied m c)
  else if s.cstate c = 0 then
    let t := { s with ctx := (s.ctx.set (32 * c.val + 2) (BitVec.ofNat 32 (8 * 2 ^ 28 + 7 * 2 ^ 25 + m.val * 2 ^ 16))).set (32 * c.val + 4) 0 }
    let t := (t.park c 1).setContext c (fun _ => {})
    .next ((t.saveConfig c).ctxResult m c 0)
  else if s.owns m c then .next (s.ctxResult m c 2)
  else .next (s.ctxDenied m c)

/-- CTX_RELEASE (R232, R267, R289): an IDLE or TRAPPED context becomes FREE, its pick slots are
disarmed and freed, and every ACCEPTED job queued for it ends FAILED with cause CONTEXT. -/
def execCtxRelease (m : Master) (c : CtxId) (s : State) : Result State :=
  if !s.mayWrite m then .next s
  else if s.away c then .next (s.ctxResult m c 2)
  else if c.val = 0 || !s.owns m c then .next (s.ctxDenied m c)
  else if s.cstate c = 1 || s.cstate c = 8 then
    let t := s.each (s.context c).picks (fun p u => u.disarmPick p)
    let t := t.each t.jobs.recs (fun p u =>
      if p.2.state = 2 && p.2.ctx = c.val then u.endJob (p.1 / 32) (p.1 % 32) 6 0x07 else u)
    let t := (t.park c 0).setContext c (fun _ => {})
    let t := ({ t with beam := { t.beam with commits := t.beam.commits.erase c.val } } : State).journal (.free c)
    .next (t.ctxResult m c 0)
  else .next (s.ctxResult m c 2)

/-- The job of a context ends FAILED with cause ABORTED and the context becomes IDLE (R284). -/
def State.abortContext (s : State) (c : Nat) : State :=
  match (s.context c).job with
  | some (jm, jr) => (s.endJob jm jr 6 0x03).stopContext c
  | none => s.stopContext c

/-- ABORT (R284, R252): while TXC awaits the Beam the commit completes first. -/
def execAbort (m : Master) (c : CtxId) (s : State) : Result State :=
  if !s.mayWrite m then .next s
  else if s.away c then .next (s.ctxResult m c 2)
  else if !s.owns m c then .next (s.ctxDenied m c)
  else if (s.context c).wait = some .commit then
    .next ((s.setContext c (fun x => { x with aborting := true })).ctxResult m c 0)
  else .next ((s.abortContext c).ctxResult m c 0)

/-- CTX_EVENT (R232): raises the HOST event, bit 3. -/
def execCtxEvent (m : Master) (c : CtxId) (s : State) : Result State :=
  if !s.mayWrite m then .next s
  else if s.away c then .next (s.ctxResult m c 2)
  else if !s.owns m c then .next (s.ctxDenied m c)
  else .next ((s.event c 3).ctxResult m c 0)

/-- FREEZE (R247): the owner's freeze cause; it takes effect at the next permitted boundary. -/
def execFreeze (m : Master) (c : CtxId) (s : State) : Result State :=
  if !s.mayWrite m then .next s
  else if s.away c then .next (s.ctxResult m c 2)
  else if !s.owns m c then .next (s.ctxDenied m c)
  else
    let t := s.setContext c (fun x => { x with frozenOwner := true })
    .next ((t.freezeSoon c).ctxResult m c 0)

/-- THAW (R247): ends the owner's freeze cause. -/
def execThaw (m : Master) (c : CtxId) (s : State) : Result State :=
  if !s.mayWrite m then .next s
  else if s.away c then .next (s.ctxResult m c 2)
  else if !s.owns m c then .next (s.ctxDenied m c)
  else
    let t := s.setContext c (fun x => { x with frozenOwner := false, freezeAt := if x.frozenControl || x.frozenUpdate then x.freezeAt else none })
    .next ((t.unsuspend c).ctxResult m c 0)

/-- CONTEXT_RECORD_WRITE (R232): words 2 to 4 of the record of the context selected by `LOM_CTXSEL`, by its
owner while it is IDLE; OWNER and reserved bits keep their value. Any other write sets CTX_DENIED. -/
def execContextRecordWrite (m : Master) (w : Fin 32) (data : Word) (s : State) : Result State :=
  let c := s.get LOM_CTXSEL.CTX
  if !s.mayWrite m then .next s
  else if s.owns m c && s.cstate c == 1 && (w.val == 2 || w.val == 3 || w.val == 4) then
    let mask : Word := if w.val = 2 then 0xFFF88000#32 else if w.val = 3 then 0x0000FFFF#32 else 0xFFFFFFFF#32
    let old := s.ctx.get (32 * c + w.val)
    let t := { s with ctx := s.ctx.set (32 * c + w.val) ((old &&& ~~~mask) ||| (data &&& mask)) }
    .next (t.saveConfig c)
  else .next (s.raise LOM_FLAGS.CTX_DENIED)

/-! ### Deferred suspension (R243, R247) -/

/-- SHED_DEFER_TIMEOUT (R243): 100 us after its class was shed, a context inside a transaction enters
SHED at the next instruction boundary. -/
def execShedDeferTimeout (c : CtxId) (s : State) : Result State :=
  if s.due (s.context c).shedAt && s.shedHolds c then
    let t := s.setContext c (fun x => { x with shedAt := none })
    if s.cstate c = 2 || s.cstate c = 3 || s.cstate c = 4 || s.cstate c = 5 then .next (t.park c 7) else .next t
  else .next s

/-- FREEZE_DEFER_TIMEOUT (R247): 100 us after a freeze, a context inside a transaction freezes at the
next instruction boundary. -/
def execFreezeDeferTimeout (c : CtxId) (s : State) : Result State :=
  if s.due (s.context c).freezeAt && (s.context c).frozen then
    let t := s.setContext c (fun x => { x with freezeAt := none })
    if s.cstate c = 2 || s.cstate c = 3 || s.cstate c = 4 || s.cstate c = 5 || s.cstate c = 7 then .next (t.park c 6) else .next t
  else .next s

/-! ### Shedding (R239 to R242) -/

/-- The declared rail current of a class, 10 mA. -/
def State.declared (s : State) (k : Nat) : Nat := s.get (LOM_SHED.DECL_I k)

/-- AUTO_RESTORE (R241): with no request for RESTORE_DLY and spare current of 1.1 times the class's
declared current, the lowest automatically shed class gets a restore order of M4. -/
def execAutoRestore (s : State) : Result State :=
  let dly := ms (clampN 10 60000 (s.get LOM_SHED_CFG.RESTORE_DLY))
  if !s.lom.requests.isEmpty || decide (s.time < s.lom.quietSince + dly) || decide (s.time < s.lom.lastRestore + dly) then .next s
  else
    match (List.range 8).find? (fun k => bitOf (s.get LOM_SHED_STATE.BY_AUTO) k) with
    | none => .next s
    | some k =>
      if 11 * s.declared k ≤ 10 * s.lom.spare then
        let t := s.enter { target := .shed k, master := 4, val := 0, aux := 1, origin := .policy }
        .next { t with lom := { t.lom with lastRestore := s.time } }
      else .next s

/-- LOM_SHED_ORDER (R239, R469): a SHED bit of `LOM_SHED_CMD` enters a shed order of the writing master. -/
def execLomShedOrder (m : Master) (k : Fin 8) (s : State) : Result State :=
  if s.mayWrite m then .next (s.enter { target := .shed k.val, master := m.val, val := 1 }) else .next s

/-- LOM_RESTORE_ORDER (R241, R469): a RESTORE bit of `LOM_SHED_CMD` enters a restore order of the writing
master. -/
def execLomRestoreOrder (m : Master) (k : Fin 8) (s : State) : Result State :=
  if s.mayWrite m then .next (s.enter { target := .shed k.val, master := m.val, val := 0 }) else .next s

/-! ### Program and data memory (R248, R249) -/

/-- A page is locked (`LOM_PMLOCK0`, `LOM_PMLOCK1`). -/
def State.pageLocked (s : State) (p : Nat) : Bool :=
  if p < 32 then bitOf (s.get LOM_PMLOCK0.LOCK) p else bitOf (s.get LOM_PMLOCK1.LOCK) (p - 32)

/-- A context that is neither FREE nor IDLE has its PC or a return address in a page (R248). -/
def State.ctxInPage (s : State) (c p : Nat) : Bool :=
  let code := s.cstate c
  code != 0 && code != 1 &&
    (s.cget (CTX.PC c) / 256 == p ||
      (List.range (s.cget (CTX.DEPTH c))).any (fun i => s.cget (CTX.RET c i) / 256 == p))

/-- A page is in use. -/
def State.pageUsed (s : State) (p : Nat) : Bool := (List.range 128).any (fun c => s.ctxInPage c p)

/-- PROGRAM_MEMORY_WRITE (R248, R443): stores an instruction through the window unless its page is locked
(PM_DENIED) or in use (PM_BUSY). -/
def execProgramMemoryWrite (m : Master) (a : Nat) (data : Word) (s : State) : Result State :=
  let i := s.get LOM_PMPAGE.PAGE * 4096 + (a - 0x8000) / 4
  if !s.mayWrite m || decide (a < 0x8000) || decide (0xC000 ≤ a) then .next s
  else if s.pageLocked (i / 256) then .next (s.raise LOM_FLAGS.PM_DENIED)
  else if s.pageUsed (i / 256) then .next (s.raise LOM_FLAGS.PM_BUSY)
  else .next (({ s with pm := s.pm.set i data } : State).journal (.pmWord i data))

/-- Copies a page of program memory to the Beam (R248). -/
def State.savePage (s : State) (p : Nat) : State :=
  let kept := s.beam.pages.filter (fun e => !(e.1 / 256 == p))
  let words := s.pm.filter (fun e => e.1 / 256 == p)
  let pages := words.foldl (fun acc e => WordMap.set acc e.1 e.2) kept
  { s with beam := { s.beam with pages := pages, lockedPages := (p :: s.beam.lockedPages).eraseDups } }

/-- Discards the saved copy of a page (R248). -/
def State.forgetPage (s : State) (p : Nat) : State :=
  { s with beam := { s.beam with pages := s.beam.pages.filter (fun e => !(e.1 / 256 == p)), lockedPages := s.beam.lockedPages.filter (fun q => q != p) } }

/-- PAGE_LOCK (R248): a W1S write locks pages and copies them to the Beam. -/
def execPageLock (m : Master) (k : Fin 2) (bits : Word) (s : State) : Result State :=
  if !s.mayWrite m then .next s
  else
    let a := if k.val = 0 then LOM_PMLOCK0.addr else LOM_PMLOCK1.addr
    let newly := (List.range 32).filter (fun i => bits.toNat.testBit i && !(s.rd a).toNat.testBit i)
    let t := s.wr a (s.rd a ||| bits)
    .next (t.each newly (fun i u => (u.savePage (32 * k.val + i)).journal (.pmLock (32 * k.val + i) true)))

/-- PAGE_UNLOCK (R248): unlocks a page and discards its saved copy; ignored with PM_BUSY while a context
uses the page. -/
def execPageUnlock (m : Master) (page : Fin 64) (s : State) : Result State :=
  if !s.mayWrite m then .next s
  else if s.pageUsed page.val then .next (s.raise LOM_FLAGS.PM_BUSY)
  else
    let f := if page.val < 32 then LOM_PMLOCK0.LOCK else LOM_PMLOCK1.LOCK
    let t := s.set f (setBitTo (s.get f) (page.val % 32) false)
    .next ((t.forgetPage page).journal (.pmLock page false))

/-- DM_DATA_ACCESS (R249): an access of `LOM_DMDATA` reads or writes the data word at `LOM_DMADDR` and
advances the address by 4, wrapping at 0x3FFC. -/
def execDmDataAccess (m : Master) (data : Option Word) (s : State) : Result State :=
  let i := s.get LOM_DMADDR.ADDR
  match data with
  | some v =>
    if !s.mayWrite m then .next s
    else .next ({ s with dm := s.dm.set (4 * i) v }.set LOM_DMADDR.ADDR ((i + 1) % 4096))
  | none =>
    if !s.fullService then .next { s with readData := 0 }
    else .next ({ s with readData := s.dm.get (4 * i) }.set LOM_DMADDR.ADDR ((i + 1) % 4096))

/-- CONTEXT0_RESTART (R251): firmware restarts a trapped context 0 at its entry point. -/
def execContext0Restart (s : State) : Result State :=
  if s.cstate 0 = 8 then
    let t := s.cset (CTX.PC 0) (s.cget (CTX.ENTRY 0))
    let t := ((t.cset (CTX.DEPTH 0) 0).cset (CTX.CAUSE 0) 0).makeReady 0
    .next { t with lom := { t.lom with ctx0Restart := some s.time } }
  else .next s

end Sys2Proof.Machine
end

