-- ==== Sys2Proof/Machine/Restore.lean ====
section
/-!
DEFINITION. Restoring contexts, jobs and memories from the Beam at the first full-service tick, after a failover and after a hand-back
(R210, R246, R248, R288, R290, R378).
-/

namespace Sys2Proof.Machine

/-- The 32 words of a context's record from a commit record: configuration always, what follows the last TXC when it has committed
(R246). -/
def restoredWords (x : Commit) : List Nat := if x.committed then [1, 2, 3, 4, 6] ++ (List.range 21).map (· + 8) else [2, 3, 4, 6]

/-- A context's words replaced by those of a commit record. -/
def State.loadWords (s : State) (c : Nat) (x : Commit) : State :=
  let clear := (List.range 32).foldl (fun (m : WordMap) w => m.set (32 * c + w) 0) s.ctx
  let t := { s with ctx := (restoredWords x).foldl (fun (m : WordMap) w => m.set (32 * c + w) (x.words.get w)) clear }
  t.onlyIf x.committed (fun u => u.cset (CTX.DEPTH c) ((CTX.DEPTH 0).of (x.words.get 0)))

/-- The context's pick slots are allocated and armed again under their numbers (R378, R383, R434). -/
def State.loadPicks (s : State) (c : Nat) (x : Commit) : State :=
  let t := s.setContext c (fun y => { y with picks := x.picks.map (fun p => p.1) })
  if !s.hasWrp then t
  else t.each x.picks (fun p u =>
    let v := u.armPick p.1 (u.cget (CTX.OWNER c)) p.2.1 p.2.2.1 p.2.2.2.1 p.2.2.2.2
    if bitOf p.2.1.toNat 31 then v else v.disarmPick p.1)

/-- PC or a return address of a context lies in a program page that was not restored (R246). -/
def State.pageMissing (s : State) (c : Nat) : Bool :=
  let at_ := s.cget (CTX.PC c) :: (List.range (s.cget (CTX.DEPTH c))).map (fun i => s.cget (CTX.RET c i))
  at_.any (fun a => decide (a < 0x4000) && !s.pageLocked (a / 256))

/-- Restores a context by R246. `pairOnly` enters again only orders on pair-wide targets (R378). -/
def State.restoreContext (s : State) (c : Nat) (x : Commit) (pairOnly : Bool) : State :=
  let job := match x.job with
    | some (m, r) => if (s.job m r).live then some (m, r) else none
    | none => none
  let run := job.isSome && !x.idle
  let x := { x with committed := x.committed && run }
  let t := s.loadWords c x
  let rom := if run && 0xFF00 ≤ x.entry then some x.entry else none
  let t := t.setContext c (fun _ => { job := job, hasRun := !x.args.isEmpty, lastArgs := x.args, rom := rom })
  let t := t.loadPicks c x
  let t := t.cset (CTX.SHUTTLE c) 0xF
  let t := if run && !x.committed then
      let u := (t.cset (CTX.PC c) x.entry).cset (CTX.ENTRY c) x.entry
      (List.range 4).foldl (fun v k => v.setG c (k + 1) (x.args.getD k 0)) u
    else t
  let again := (x.held.filter (fun o => !pairOnly || pairWide o.target)).map (fun (o : Order) =>
    ({ o with master := t.cget (CTX.OWNER c), slot := none, job := 0, group := 0, at_ := t.time, tick := t.tickNow, origin := .ctx c, fromB := t.roleB } : Order))
  let t := { t with lom := { t.lom with orders := t.lom.orders ++ again } }
  if !run then t.park c 1
  else
    let t := ((t.cset (CTX.RESUMED c) 1).raise LOM_FLAGS.RESUMED).makeReady c
    if rom.isNone && t.pageMissing c then t.trap c 0x0C 0 else t.boundary c false

/-- Restores a job record under its number by R290. -/
def State.restoreJob (s : State) (key : Nat) (j : Job) : State :=
  { s with jobs := { s.jobs with recs := s.jobs.recs.put key { j with reads := 0 } } }

/-- The page locks of the Beam's saved pages (R248). -/
def lockWord (pages : List Nat) (k : Nat) : Word :=
  BitVec.ofNat 32 (pages.foldl (fun acc p => if p / 32 = k then setBitTo acc (p % 32) true else acc) 0)

/-- Program memory from the saved pages, with their locks (R248). -/
def State.restorePages (s : State) : State :=
  let t := { s with pm := s.beam.pages }
  (t.wr LOM_PMLOCK0.addr (lockWord s.beam.lockedPages 0)).wr LOM_PMLOCK1.addr (lockWord s.beam.lockedPages 1)

/-- Loads the LIB part of the running image and locks its pages without saving them (R248). -/
def State.loadLib (s : State) (first : Nat) (words : List Word) : State :=
  let put := fun (m : WordMap) (i : Nat) => match words[i]? with
    | some w => m.set (256 * first + i) w
    | none => m
  let t := { s with pm := (List.range words.length).foldl put s.pm }
  t.each (List.range (ceilDiv words.length 256)) (fun i u =>
    let p := first + i
    let f := if p < 32 then LOM_PMLOCK0.LOCK else LOM_PMLOCK1.LOCK
    u.set f (setBitTo (u.get f) (p % 32) true))

/-- Every record of the Beam is restored: jobs (R290), then data memory and contexts (R246). -/
def State.restoreWork (s : State) : State :=
  let t := s.each s.beam.jobs (fun e u => u.restoreJob e.1 e.2)
  let t := if s.beam.jobs.isEmpty then t else t.raise JOB_FLAGS.RESTORED
  let t := { t with dm := s.beam.dm }
  t.each s.beam.commits (fun e u => u.restoreContext e.1 e.2 false)

end Sys2Proof.Machine
end

