-- ==== Sys2Proof/Machine/Update.lean ====
section
/-!
DEFINITION. Field update (R418 to R440): sessions, blocks, the flash steps, the copy into ACTIVE, activation, trial and
confirmation, and the DFU interface (R349 to R351).
-/

namespace Sys2Proof.Machine

/-! ### Reports -/

/-- A bank holds a valid header (R421); the image of manufacture does. -/
def Bank.present (b : Bank) : Bool := b.shipped || b.headerOk

/-- Blocks stored without a gap from block 0 (R426). -/
def contiguous (blocks : List Nat) : Nat := ((List.range 96).takeWhile (fun n => blocks.contains n)).length

/-- PHASE of `UPD_ACTJ` (R440) and the index of the part that is copied, from the markers of R430. -/
def ImageCopy.base (c : ImageCopy) : Nat := if c.save then c.saveParts + 2 else 1
def ImageCopy.phase (c : ImageCopy) : Nat :=
  if c.save && c.markers < c.base then 2 else if c.markers ≤ c.base + c.parts then 3 else 4
def ImageCopy.part (c : ImageCopy) : Nat :=
  if c.phase = 2 then min c.markers c.saveParts else if c.phase = 3 then c.markers - c.base else c.parts

/-- Reports the copy (`UPD_ACTJ`). -/
def State.copyReport (s : State) : State :=
  match s.upd.copy with
  | some c => ((s.set UPD_ACTJ.PHASE c.phase).set UPD_ACTJ.PART c.part).set UPD_ACTJ.MARKERS c.markers
  | none => s

/-- Reports the update state in the registers that firmware serves (R440). -/
def State.updReport (s : State) : State :=
  if !s.fullService then s
  else
    let u := s.upd
    let ver := fun (b : Bank) => if b.present then b.version else 0
    let t := ((s.set UPD_STATUS.STAGE s.beam.stage).mark UPD_STATUS.TRIAL s.beam.trial).set UPD_STATUS.BOOTS s.beam.boots
    let t := ((t.set UPD_STATUS.REJECT s.beam.reject).set UPD_NEXT.NEXT u.next).set UPD_NEXT.TOTAL (s.beam.size / 4096)
    let t := ((t.wr UPD_VER_ACT.addr (ver u.active)).wr UPD_VER_STG.addr (ver u.staging)).wr UPD_VER_FB.addr (ver u.fallback)
    let t := (t.set UPD_SCHEMA.IMAGE u.active.schema).set UPD_SCHEMA.STORED u.schema
    let t := ((t.set UPD_ARB.COUNTER u.arb).set UPD_ARB.ACT_LEVEL u.active.arb).set UPD_ARB.STG_LEVEL (if u.staging.present then u.staging.arb else 0)
    (t.set UPD_FLASH.SPARE u.spares).set UPD_FLASH.FAILS u.fails

/-- Changes the update unit. -/
def State.setUpd (s : State) (g : Upd → Upd) : State := { s with upd := g s.upd }

/-- Changes the system area of the Beam. -/
def State.setBeam (s : State) (g : Beam → Beam) : State := { s with beam := g s.beam }

/-- The result of a write of a master (R440): register 0 `UPD_SESSION`, 1 `UPD_CMD`, 2 `UPD_BLOCK`. -/
def State.updResult (s : State) (reg m code : Nat) : State :=
  s.setUpd (fun u => { u with results := u.results.put (8 * reg + m) code })

/-! ### Sessions (R425) -/

/-- A session is open. -/
def State.session (s : State) : Bool := s.is UPD_STATUS.SESSION

/-- Takes the staging lock for a master and issues a token that is neither 0x0000 nor 0x5B1E. -/
def State.openSession (s : State) (m : Nat) : State :=
  let (w, t) := s.draw
  let k := w.toNat % 65534 + 1
  let token := if 0x5B1E ≤ k then k + 1 else k
  let t := ((t.set UPD_STATUS.OWNER m).set UPD_STATUS.SESSION 1).onlyIf (m == 2) (fun u => (u.raise SVC_FLAGS.DFU_SESSION).set SVC_DFU.BLOCKS 0)
  (t.setUpd (fun u => { u with token := token, next := 0, idleAt := some (t.time + ms 10000), programming := none })).updReport

/-- An opening by a master where it is allowed: in full service outside a held restart, and for M2 in RECOVERY. -/
def State.askSession (s : State) (m : Nat) : State × Bool :=
  let where_ := (s.fullService && !s.is UPD_STATUS.HOLD) || (m == 2 && s.get GLB_REGION.SERVICE == 3)
  if !where_ then (s, false)
  else if s.session then (s.raise UPD_FLAGS.BUSY_REJ, false)
  else (s.openSession m, true)

/-- UPD_SESSION_OPEN (R425, R440): a write of `UPD_SESSION`; M2 and M3 open sessions by DFU and by a push. -/
def State.writeSession (s : State) (m : Master) (data : Word) : State :=
  if !s.mayWrite m then s
  else if UPD_SESSION.KEY.of data ≠ 0x71C4 || UPD_SESSION.CMD.of data ≠ 1 then s.updResult 0 m 2
  else if m.val ≠ 0 then s.updResult 0 m 4
  else
    let r := s.askSession 0
    r.1.updResult 0 m (if r.2 then 0 else 1)

def execUpdSessionOpen (m : Master) (data : Word) (s : State) : Result State := .next (s.writeSession m data)

/-- UPDATE_BUFFER_WRITE (R426, R440): only the session owner's writes to the window are stored. -/
def State.writeBuffer (s : State) (m : Master) (a : Nat) (data : Word) : State :=
  if s.mayWrite m && s.session && s.get UPD_STATUS.OWNER == m.val && decide (0xE000 ≤ a) && decide (a < 0x10000) then
    { s with win := s.win.set a data }
  else s

def execUpdateBufferWrite (m : Master) (a : Nat) (data : Word) (s : State) : Result State := .next (s.writeBuffer m a data)

/-! ### Blocks (R426) -/

/-- A bank with a block of 1,024 words stored. -/
def Bank.putBlock (b : Bank) (n : Nat) (words : List Word) : Bank :=
  let rest := b.words.filter (fun e => !(e.1 / 1024 == n))
  { b with words := (List.range 1024).foldl (fun (w : WordMap) k => w.set (1024 * n + k) (words.getD k 0)) rest }

/-- Block 0 carries the header: the download resumes when the manifest is that of the staging descriptor, else a new descriptor is
written. -/
def State.takeManifest (s : State) (head : Bank) : State :=
  if head.manifest = s.beam.manifest && (s.beam.stage = 1 || s.beam.stage = 2) then
    let t := s.setUpd (fun u => { u with next := contiguous s.beam.blocks })
    if s.beam.stage = 2 then t.setUpd (fun u => { u with idleAt := none }) else t
  else
    let t := s.setBeam (fun b => { b with stage := 1, manifest := head.manifest, blocks := [], size := head.size })
    t.setUpd (fun u => { u with next := 0, staging := {} })

/-- A block for STAGING: its answer is 0 accepted or programmed, 1 BUSY, 2 BAD, 3 ORDER. -/
def State.takeBlock (s : State) (n : Nat) (words : List Word) : State × Nat :=
  let head : Bank := ({} : Bank).putBlock 0 words
  if 96 ≤ n then (s, 2)
  else if s.upd.programming.isSome then (s, 1)
  else if n = 0 && !head.headerOk then (s, 2)
  else
    let t := if n = 0 then s.takeManifest head else s
    if n < t.upd.next then (t.updReport, 0)
    else if t.upd.next < n then (t, 3)
    else (((t.setUpd (fun u => { u with programming := some (n, words) })).set UPD_STATUS.NVM_BUSY 1).updReport, 0)

/-- A write of `UPD_BLOCK` (R426, R440). -/
def State.writeBlock (s : State) (m : Master) (data : Word) : State :=
  if !s.mayWrite m then s
  else if !s.session || UPD_BLOCK.TOKEN.of data ≠ s.upd.token then s.updResult 2 m 2
  else if s.get UPD_STATUS.OWNER ≠ m.val then s.updResult 2 m 4
  else
    let base := 0xE000 + 4096 * UPD_BLOCK.BUF.of data
    let r := s.takeBlock (UPD_BLOCK.BLOCK.of data) ((List.range 1024).map (fun k => s.win.get (base + 4 * k)))
    r.1.updResult 2 m r.2

def execUpdBlock (m : Master) (data : Word) (s : State) : Result State := .next (s.writeBlock m data)

/-- SESSION_IDLE_TIMEOUT (R425, R351): 10 s without a block before COMPLETE; the blocks stored stay as PARTIAL. -/
def execSessionIdleTimeout (s : State) : Result State :=
  if s.session && s.beam.stage ≠ 2 && s.due s.upd.idleAt then
    let t := s.onlyIf (s.get UPD_STATUS.OWNER == 2) (fun u => (u.set SVC_DFU.STATUS 0x0B).set SVC_DFU.STATE 10)
    .next (t.endSession.raise UPD_FLAGS.LOCK_LOST)
  else .next s

/-- STAGE becomes COMPLETE (R427); false where the container is not stored yet. -/
def State.complete (s : State) : State × Bool :=
  if (s.beam.stage = 1 || s.beam.stage = 2) && s.upd.programming.isNone && s.beam.size ≤ s.upd.next * 4096 then
    let t := s.onlyIf (s.beam.stage != 2) (fun u => u.raise UPD_FLAGS.COMPLETE_OK)
    (((t.setBeam (fun b => { b with stage := 2 })).setUpd (fun u => { u with idleAt := none })).updReport, true)
  else (s, false)

/-! ### The copy into ACTIVE (R430) -/

/-- Opens the activation journal for a copy: ACTIVE is saved first when it is valid and confirmed and FALLBACK holds another
image. -/
def State.startCopy (s : State) (fromFallback trialFailed : Bool) : State :=
  let u := s.upd
  let src := if fromFallback then u.fallback else u.staging
  let save := !fromFallback && s.checkBank u.active == 0 && !s.beam.trial && (!u.fallback.present || u.fallback.manifest != u.active.manifest)
  let c : ImageCopy := { fromFallback := fromFallback, save := save, parts := src.nparts, saveParts := u.active.nparts, trialFailed := trialFailed }
  ((s.setUpd (fun v => { v with copy := some c })).set UPD_STATUS.NVM_BUSY 1).copyReport

/-- STAGE becomes REJECTED with a cause (R429, R434); REJECTED is set at the first full-service tick. -/
def State.rejectStaging (s : State) (cause : Nat) : State :=
  ((s.setBeam (fun b => { b with stage := 5, reject := cause })).setUpd (fun u => { u with rejected := true })).updReport

/-- The commit of the update state word that ends a copy (R429, R430 step 6). -/
def State.commitCopy (s : State) (c : ImageCopy) : State :=
  if c.fromFallback then
    let t := s.setBeam (fun b => { b with trial := false, boots := 0 })
    let t := t.setUpd (fun u => match u.oldSettings with
      | some (schema, recs) => { u with schema := schema, settings := recs, oldSettings := none, rolledBack := true }
      | none => { u with rolledBack := true })
    if c.trialFailed then t.rejectStaging 7 else t
  else
    let t := s.setBeam (fun b => { b with stage := 4, trial := true, boots := 1 })
    let t := t.setUpd (fun u => { u with activated := true })
    match t.upd.staging.findPart 7 with
    | some i =>
      if t.get SAF_STATUS.LC = 0 then
        let key := t.upd.staging.partWords i
        (t.setUpd (fun u => { u with keyRec := some key, fused := some (Config.sha256 key 64) })).set SAF_STATUS.KEY_SET 1
      else t
    | none => t

/-- The step of a copy whose marker is now written (R430). -/
def State.copyMarker (s : State) (c : ImageCopy) : State :=
  let k := c.markers + 1
  let b := c.base
  let u := s.upd
  let t := s.setUpd (fun v => { v with copy := some { c with markers := k } })
  let t := if c.save && k = b then t.setUpd (fun v => { v with fallback := u.active }) else t
  let t := if k = b + 1 then t.setUpd (fun v => { v with active := {}, activeOk := false }) else t
  let t := if k = b + c.parts + 2 then t.setUpd (fun v => { v with active := if c.fromFallback then u.fallback else u.staging, activeOk := true }) else t
  let t := if k = b + c.parts + 3 then t.commitCopy c else t
  let t := t.copyReport
  if k = b + c.parts + 4 then
    let t := (t.setUpd (fun v => { v with copy := none, holdCopied := t.is UPD_STATUS.HOLD })).set UPD_ACTJ.PHASE 5
    -- R437: in RECOVERY the new image runs after a software reset
    if t.get GLB_REGION.SERVICE = 3 then t.requestReset 5 8 else t
  else t

/-! ### Flash steps (R419) -/

/-- The block that was being programmed is stored (R426, R427). -/
def State.blockStored (s : State) (n : Nat) (words : List Word) : State :=
  let t := s.setBeam (fun b => { b with blocks := if b.blocks.contains n then b.blocks else b.blocks ++ [n] })
  let t := t.setUpd (fun u => { u with programming := none, next := n + 1, staging := u.staging.putBlock n words, idleAt := some (t.time + ms 10000) })
  let t := t.raise UPD_FLAGS.BLOCK_DONE
  let t := if t.get UPD_STATUS.OWNER = 2 then (t.set SVC_DFU.STATE 5).count SVC_DFU.BLOCKS else t
  (t.onlyIf (t.get UPD_STATUS.OWNER == 3) (fun u => u.transmit (.update (.answer true)))).updReport

/-- A flash step fails with no spare sector left (R419, R351, R427): the session ends. `erase` says that it was an erase. -/
def State.stepFailed (s : State) (erase : Bool) : State :=
  let m := s.get UPD_STATUS.OWNER
  let t := s.raise UPD_FLAGS.FLASH_FAIL
  let t := if s.session && m = 2 then (t.set SVC_DFU.STATUS (if erase then 4 else 3)).set SVC_DFU.STATE 10 else t
  let t := if s.session && m = 3 then t.transmit (.update (.answer false)) else t
  ((t.endSession).setUpd (fun u => { u with erasing := false })).degrade .interface

/-- A running piece of flash work continues with its next step. -/
def State.stepsLeft (s : State) : Bool := s.upd.erasing || s.upd.programming.isSome || s.upd.copy.isSome

/-- NVM_STEP_DONE (R401, R419, R430): the running flash step ends; a step that fails is repeated with a spare sector. -/
def execNvmStepDone (ok erase : Bool) (s : State) : Result State :=
  if !s.is UPD_STATUS.NVM_BUSY then .next s
  else if !ok then
    let u := s.upd
    let t := s.setUpd (fun v => { v with fails := min 65535 (u.fails + 1), spares := u.spares - 1 })
    if 0 < u.spares then .next ((t.raise UPD_FLAGS.FLASH_SPARE).updReport)
    else .next ((t.stepFailed erase).stepEnded.updReport)
  else
    let t := if s.upd.erasing then s.setUpd (fun u => { u with erasing := false })
      else
        match s.upd.programming, s.upd.copy with
        | some (n, words), _ => s.blockStored n words
        | none, some c => s.copyMarker c
        | none, none => s
    let u := t.stepEnded
    .next (u.onlyIf (u.saf.inReset.isNone && u.stepsLeft) (fun v => v.set UPD_STATUS.NVM_BUSY 1))

/-! ### Activation (R428, R434) -/

/-- STAGE becomes EMPTY and STAGING is erased in the background (R428, R432). -/
def State.emptyStaging (s : State) : State :=
  let t := s.setBeam (fun b => { b with stage := 0, manifest := 0, blocks := [], size := 0 })
  let t := t.setUpd (fun u => { u with staging := {}, next := 0, programming := none, erasing := true })
  (t.set UPD_STATUS.NVM_BUSY 1).updReport

/-- The cleanup that follows a confirmation (R432). -/
def State.cleanupTrial (s : State) : State :=
  let t := s.setUpd (fun u => { u with arb := max u.arb u.active.arb, oldSettings := none })
  (t.emptyStaging).setBeam (fun b => { b with cleanup := false })

/-- Confirmation (R432): one commit of the update state word, then the cleanup. -/
def State.confirmTrial (s : State) : State :=
  let t := s.setBeam (fun b => { b with trial := false, boots := 0, cleanup := true })
  ((t.raise UPD_FLAGS.CONFIRMED).cleanupTrial).updReport

/-- An activation is in progress (R428, DISCARD). -/
def State.activating (s : State) : Bool := s.beam.stage == 3 || s.upd.copy.isSome || s.is UPD_STATUS.HOLD

/-- STAGE becomes PENDING and the session ends (R428). -/
def State.setPending (s : State) : State := (s.setBeam (fun b => { b with stage := 3 })).endSession.updReport

/-- The held restart starts (R434): every context freezes, `HOLD` is set, and the ROM verifies STAGING and copies it, or rejects it. -/
def State.heldRestart (s : State) : State :=
  let t := s.set UPD_STATUS.HOLD 1
  let t := t.each (List.range 128) (fun c u =>
    if u.cstate c = 0 then u else (u.setContext c (fun x => { x with frozenUpdate := true })).freezeSoon c)
  let cause := t.checkBank t.upd.staging
  if cause = 0 then t.startCopy false false else t.rejectStaging cause

/-- A command of `UPD_CMD` with its token (R427, R428, R440). -/
def State.updCmd (s : State) (m : Master) (token cmd : Nat) : State :=
  let owner := s.session && s.get UPD_STATUS.OWNER == m.val && token == s.upd.token
  let free := !s.session && decide (m.val ≤ 3) && token == 0x5B1E
  let anySafe := s.chipSafe || [Region.north, .south, .control, .interface].any s.regionSafe
  let ps := s.pairState
  if !s.mayWrite m then s
  else if !owner && !free then s.updResult 1 m 2
  else if anySafe || s.is SAF_STATUS.DEFER || s.is SAF_STATUS.LC_PENDING || s.is UPD_STATUS.HOLD then s.updResult 1 m 1
  else if cmd = 1 && s.beam.stage = 2 then s.setPending.updResult 1 m 0
  else if cmd = 2 && s.beam.stage = 2 && (ps = 0 || ps = 7 || ps = 8) then s.setPending.heldRestart.updResult 1 m 0
  else if cmd = 3 && s.beam.trial then s.confirmTrial.updResult 1 m 0
  else if cmd = 4 && !s.activating then s.emptyStaging.updResult 1 m 0
  else if cmd = 5 && owner && s.beam.stage = 2 && s.paired then
    ((s.setUpd (fun u => { u with pushing := some 0 })).transmit (.update (.start s.beam.size))).updResult 1 m 0
  else if cmd = 6 && owner then s.endSession.updResult 1 m 0
  else if cmd = 7 && owner then
    let r := s.complete
    r.1.updResult 1 m (if r.2 then 0 else 2)
  else s.updResult 1 m 2

/-- ACTIVATE_NEXT (R428). -/
def execActivateNext (m : Master) (token : BitVec 16) (s : State) : Result State := .next (s.updCmd m token.toNat 1)

/-- ACTIVATE_NOW (R428, R434). -/
def execActivateNow (m : Master) (token : BitVec 16) (s : State) : Result State := .next (s.updCmd m token.toNat 2)

/-- UPDATE_CONFIRM (R428, R432). -/
def execUpdateConfirm (m : Master) (token : BitVec 16) (s : State) : Result State := .next (s.updCmd m token.toNat 3)

/-- DISCARD (R428). -/
def execDiscard (m : Master) (token : BitVec 16) (s : State) : Result State := .next (s.updCmd m token.toNat 4)

/-- PUSH (R427, R428). -/
def execPush (m : Master) (token : BitVec 16) (s : State) : Result State := .next (s.updCmd m token.toNat 5)

/-- CLOSE (R428). -/
def execClose (m : Master) (token : BitVec 16) (s : State) : Result State := .next (s.updCmd m token.toNat 6)

/-- COMPLETE (R427, R428). -/
def execComplete (m : Master) (token : BitVec 16) (s : State) : Result State := .next (s.updCmd m token.toNat 7)

/-- TRIAL_AUTO_CONFIRM (R431): 300 s of healthy time, unless MIGRATE_FAIL is set. -/
def execTrialAutoConfirm (s : State) : Result State :=
  if s.fullService && s.beam.trial && 300000000 ≤ s.upd.healthy && !s.is UPD_FLAGS.MIGRATE_FAIL && !s.is UPD_STATUS.HOLD then .next s.confirmTrial
  else .next s

/-- New firmware at its first start (R433): where the records in use are older than its SCHEMA, MIGRATE writes a new generation of them
beside the old one, or fails. -/
def State.migrate (s : State) (records : Option (List (Nat × Word × Word))) : State :=
  let u := s.upd
  if u.active.schema ≤ u.schema then s
  else
    match records with
    | some l =>
      if u.schema < u.active.schemaMin then s.raise UPD_FLAGS.MIGRATE_FAIL
      else s.setUpd (fun v => { v with settings := l, schema := u.active.schema, oldSettings := some (u.schema, u.settings) })
    | none => s.raise UPD_FLAGS.MIGRATE_FAIL

/-- The flags that wait for the first full-service tick (R440). -/
def State.dueFlags (s : State) : State :=
  let t := (s.onlyIf s.upd.rejected (fun u => u.raise UPD_FLAGS.REJECTED)).onlyIf s.upd.rolledBack (fun u => u.raise UPD_FLAGS.ROLLED_BACK)
  let t := t.onlyIf s.upd.activated (fun u => u.raise UPD_FLAGS.ACTIVATED)
  t.setUpd (fun u => { u with rejected := false, rolledBack := false, activated := false })

/-- Loads the LIB part of ACTIVE (R248). -/
def State.loadLibPart (s : State) : State :=
  match s.upd.active.findPart 4 with
  | some i => s.loadLib (s.upd.active.partTarget i) (s.upd.active.partWords i)
  | none => s

/-- The Loom SRAM is zeroed: program and data memory, context records, slots and shuttles (R434). -/
def State.zeroLoom (s : State) : State :=
  { s with pm := [], dm := [], ctx := [], lom := { s.lom with ctxs := [], slots := [], slotGen := [], shuttles := [{}, {}, {}, {}, {}, {}, {}, {}] } }

/-- HELD_RESTART_RESUME (R434 step 5): the new firmware resumes contexts and picks from the Beam and keeps the job records, rings and
snapshots; `records` is what its MIGRATE part wrote. -/
def execHeldRestartResume (records : Option (List (Nat × Word × Word))) (s : State) : Result State :=
  if !s.is UPD_STATUS.HOLD || s.upd.copy.isSome then .next s
  else
    let t := s.onlyIf s.upd.holdCopied (fun u => u.migrate records)
    let t := (t.zeroLoom.restorePages).loadLibPart
    let t := { t with dm := t.beam.dm }
    let t := t.set UPD_STATUS.HOLD 0
    let t := t.each t.beam.commits (fun e u => u.restoreContext e.1 e.2 false)
    let t := (t.setUpd (fun u => { u with holdCopied := false, healthy := 0 })).set UPD_TRIAL.HEALTHY 0
    .next ((t.dueFlags.raise UPD_FLAGS.HOLD_DONE).updReport)

/-! ### DFU (R349 to R351) -/

/-- The USB device is connected (R341, R349): in full service while the port is UFP and `USB_EN` is 1, and in RECOVERY. -/
def State.usbUp (s : State) : Bool :=
  (s.fullService && s.is SVC_CTRL.USB_EN && !s.is SVC_STATUS.DATA_ROLE && !s.is UPD_STATUS.HOLD && decide (s.mode < 3)) ||
    s.get GLB_REGION.SERVICE == 3

/-- An error of R351: the device is in dfuERROR until DFU_CLRSTATUS. -/
def State.dfuError (s : State) (code : Nat) : State := (s.set SVC_DFU.STATUS code).set SVC_DFU.STATE 10

/-- USB_BUS_RESET (R349): the USB device starts anew; the power path and the contract stand. -/
def execUsbBusReset (s : State) : Result State :=
  if !s.usbUp then .next s
  else
    let t := (s.raise SVC_FLAGS.USB_RESET).mark SVC_STATUS.USB_CONF false
    let t := t.setSvc (fun v => { v with lastSeq := none, response := [], reply := [] })
    .next ((t.set SVC_DFU.STATUS 0).set SVC_DFU.STATE (if s.is SVC_STATUS.DFU_MODE then 2 else 0))

/-- DFU_DNLOAD (R350, R351, R427): block `n` of 4,096 bytes; the first opens a session of M2. -/
def execDfuDnload (n : BitVec 16) (words : List Word) (s : State) : Result State :=
  if !s.usbUp || s.get SVC_DFU.STATE = 10 then .next s
  else
    let s := s.mark SVC_STATUS.USB_CONF true
    let r := if s.session && s.get UPD_STATUS.OWNER == 2 then (s, true) else s.askSession 2
    if !r.2 then .next (r.1.dfuError 0x0B)
    else
      let b := r.1.takeBlock n.toNat words
      let t := b.1.setUpd (fun u => { u with dfuBlock := n.toNat })
      if b.2 = 0 then .next (t.set SVC_DFU.STATE (if t.upd.programming.isSome then 4 else 5))
      else if b.2 = 1 then .next (t.dfuError 0x0F)
      else if b.2 = 3 || 96 ≤ n.toNat then .next (t.dfuError 0x08)
      else
        -- the spec names no status for a header that fails R421: a free value
        let (w, u) := t.draw
        .next (u.dfuError (w.toNat % 256))

/-- DFU_MANIFEST (R350, R427, R437): a zero-length DNLOAD is COMPLETE; in RECOVERY the ROM then verifies the image and copies it. -/
def execDfuManifest (s : State) : Result State :=
  if !s.usbUp || s.get SVC_DFU.STATE = 10 then .next s
  else
    let r := if s.session && s.get UPD_STATUS.OWNER == 2 then s.complete else (s, false)
    if !r.2 then .next (r.1.dfuError 0x09)
    else
      let t := r.1.set SVC_DFU.STATE 6
      if t.get GLB_REGION.SERVICE = 3 then
        let cause := t.checkBank t.upd.staging
        if cause = 0 then .next (((t.startCopy false false).set SVC_DFU.STATE 7).mark SVC_STATUS.USB_CONF false)
        else .next ((t.rejectStaging cause).endSession)
      else .next t

/-- DFU_DETACH (R350, R425): the device re-enumerates in DFU mode; a session of M2 ends. -/
def execDfuDetach (s : State) : Result State :=
  if !s.usbUp then .next s
  else
    let t := s.onlyIf (s.session && s.get UPD_STATUS.OWNER == 2) (fun u => u.endSession)
    .next (((t.mark SVC_STATUS.DFU_MODE true).mark SVC_STATUS.USB_CONF false).set SVC_DFU.STATE 2)

/-- DFU_GETSTATUS (R350, R351): answers `bStatus`, the poll timeout in ms and `bState`; manifestation done returns to dfuIDLE. -/
def execDfuGetstatus (s : State) : Result State :=
  if !s.usbUp then .next s
  else
    let busy := s.upd.programming.isSome && s.get UPD_STATUS.OWNER == 2
    let poll := if !busy then 0 else if s.upd.dfuBlock % 4 = 0 then 30 else 5
    let t := { s with readData := BitVec.ofNat 32 (s.get SVC_DFU.STATUS * 2 ^ 24 + poll * 2 ^ 8 + s.get SVC_DFU.STATE) }
    .next ((t.mark SVC_STATUS.USB_CONF true).onlyIf (s.get SVC_DFU.STATE == 6) (fun u => u.set SVC_DFU.STATE 2))

/-- DFU_CLRSTATUS (R351): leaves dfuERROR. -/
def execDfuClrstatus (s : State) : Result State :=
  if s.usbUp && s.get SVC_DFU.STATE = 10 then .next ((s.set SVC_DFU.STATUS 0).set SVC_DFU.STATE 2) else .next s

/-- DFU_UPLOAD (R351): `bitCanUpload` is 0; this and an unknown request stall. -/
def execDfuUpload (s : State) : Result State :=
  if s.usbUp then .next (s.dfuError 0x0F) else .next s

end Sys2Proof.Machine
end

