-- ==== Sys2Proof/Machine/Warp.lean ====
section
/-!
DEFINITION. The commands of the warp tracks, the Reed and the weft tables (chapter 07, R170 to R197).
-/

namespace Sys2Proof.Machine

/-! ### Edges and stamps (R171 to R178) -/

/-- Edge angle of R173 for the k-th edge. -/
def State.edgeAngle (s : State) (t k : Nat) : Nat :=
  let n := s.edges t
  (s.get (WRP_T_CFG.OFFSET t) + (nearest (k % n * 65536 : Nat) (n : Nat)).toNat) % 65536

/-- Edges or stamps that acquisition needs (R174). -/
def State.needed (s : State) (t : Nat) : Nat := if s.get (WRP_T_CFG.SRC t) = 1 then 8 else 4

/-- An interval lies within 12.5 % of the mean of `n` intervals that last `span` together (R174). -/
def nearMean (i span n : Nat) : Bool := decide (8 * ((i * n : Nat) - (span : Nat) : Int).natAbs ≤ span)

/-- The track's speed from its accepted times (R175): the angle of the last M intervals over their duration; M intervals of
a pin track cover M / N revolutions, one of a stamp track the last stamp difference. -/
def State.measureSpeed (s : State) (t : Nat) : State :=
  let x := s.track t
  let pin := s.get (WRP_T_CFG.SRC t) == 1
  let m := min (if pin then min (s.edges t) 8 else 1) (x.times.length - 1)
  let last := x.times.getD 0 0
  let dur := last - x.times.getD m last
  s.setTrack t (fun y => { y with wNum := if pin then m else x.covered, wDen := if pin then s.edges t * dur else 65536 * dur })

/-- Notes an accepted edge or stamp: its time, its angle and the angle since the one before. -/
def State.noteInput (s : State) (t stamp angle : Nat) : State :=
  s.setTrack t (fun x => { x with times := (stamp :: x.times).take 9, count := x.count + 1, first := if x.times.isEmpty then stamp else x.first, covered := if x.times.isEmpty then x.covered else (angle + 65536 - x.stamp) % 65536, stamp := angle, seen := some stamp, short := 0 })

/-- The acquisition has gathered enough to lock (R174). -/
def State.gathered (s : State) (t : Nat) : Bool :=
  let x := s.track t
  decide (s.needed t ≤ x.count) && decide (x.wNum ≠ 0) && speedOk x.wNum x.wDen

/-- Acquisition starts over with an edge or stamp as edge 0 (R173, R174); `angle` is that of edge 0. -/
def State.restartWith (s : State) (t stamp angle : Nat) : State :=
  (s.setTrack t (fun x => { x with times := [], count := 0, first := stamp })).noteInput t stamp angle

/-- An accepted edge or stamp of a track that is ACQUIRING or in FLYWHEEL (R174, R176). -/
def State.acquire (s : State) (t stamp angle restart : Nat) : State :=
  let x := s.track t
  let last := x.times.getD 0 stamp
  let good := decide (x.count < 2) || nearMean (stamp - last) (last - x.first) (x.count - 1)
  if !good then s.restartWith t stamp restart
  else
    let u := (s.noteInput t stamp angle).measureSpeed t
    if (u.track t).count < u.needed t then u
    else if !u.gathered t then u.restartWith t stamp restart
    else if u.trackState t = 1 then u.enterLock t stamp angle
    else u

/-- The correction of R175 by an accepted edge or stamp of a LOCKED track. -/
def State.correct (s : State) (t stamp angle : Nat) : State :=
  let acc := angleOf ((s.track t).phaseThen (stamp / 4))
  let u := (s.noteInput t stamp angle).measureSpeed t
  let x := u.track t
  let e := signed 16 ((angle + 65536 - acc) % 65536)
  let u := u.setZ (WRP_T_STATE.PERR t) (quot e 256)
  let rel := if u.get (WRP_T_CFG.SRC t) = 1 then e * u.edges t else quot (e * 65536) x.covered
  let factor := (clampZ 32768 98304 (65536 + rel)).toNat
  if !speedOk x.wNum x.wDen then u.loseTrack t false
  else
    let u := u.setTrack t (fun y => y.setInc u.time (incOf y.wNum y.wDen factor))
    u.wr (WRP_T_SPEED.addr t) (BitVec.ofNat 32 (speedCode x.wNum x.wDen))

/-- One accepted edge of a pin track, time in 2.5 ns (R171 to R176). -/
def State.edge (s : State) (t stamp : Nat) : State :=
  let x := s.track t
  let last := x.times.getD 0 0
  if !x.times.isEmpty && decide (stamp < last + 800) then s
  else
    let angle := s.edgeAngle t x.count
    let k := x.count
    if s.trackState t = 2 then
      let since := stamp - x.seen.getD last
      if 2 * since < s.expected t then
        let u := s.setTrack t (fun y => { y with seen := some stamp, short := y.short + 1 })
        if 2 ≤ x.short + 1 then u.loseTrack t true else u
      else
        let u := (s.correct t stamp angle).set (WRP_T_STATE.EDGE t) (k % s.edges t)
        u.sendStamp t (angleOf (x.phaseThen (stamp / 4))) (stamp / 4)
    else
      let u := s.acquire t stamp angle (s.edgeAngle t 0)
      (u.set (WRP_T_STATE.EDGE t) (((u.track t).count - 1) % s.edges t)).sendStamp t angle (stamp / 4)

/-- Whether a track takes the edges of a pin in a direction (`INSEL`, R170). -/
def State.takesEdge (s : State) (t pin : Nat) (rising : Bool) : Bool :=
  let i := s.get (WRP_T_CFG.INSEL t)
  let e := i % 4
  s.get (WRP_T_CFG.SRC t) == 1 && s.trackState t != 0 && i / 4 == pin &&
    (e == 2 || (rising && (e == 0 || e == 3)) || (!rising && e == 1))

/-- ANG_EDGE (R171, R173): an edge on a pin, `sub` its 2.5 ns step in the 10 ns count, whose level then holds for `held`
times 2.5 ns; a level that does not persist for `FILT` is ignored. -/
def execAngEdge (pin : Fin 8) (rising : Bool) (sub : Fin 4) (held : Nat) (s : State) : Result State :=
  if held < s.get WRP_CTRL.FILT || !s.warpRuns then .next s
  else .next (s.each (List.range 16) (fun t u => if u.takesEdge t pin.val rising then u.edge t (4 * u.time + sub.val) else u))

/-- TRACK_TIMEOUT (R176): a LOCKED track has had no edge or stamp for 1.5 + 0.5 x `AGE` expected intervals. -/
def execTrackTimeout (t : Fin 16) (s : State) : Result State :=
  let last := (s.track t.val).times.getD 0 0
  if s.trackState t.val = 2 && (3 + s.get (WRP_T_CFG.AGE t.val)) * s.expected t.val ≤ 2 * (4 * s.time - last) then
    .next (s.loseTrack t.val false)
  else .next s

/-- FLYWHEEL_END (R176): after one revolution the track acquires, or locks at once when it has gathered enough. -/
def execFlywheelEnd (t : Fin 16) (s : State) : Result State :=
  let x := s.track t.val
  if s.trackState t.val ≠ 3 || !s.due x.flyEnd then .next s
  else
    let u := s.setTrack t.val (fun y => { y.setInc s.time 0 with flyEnd := none })
    if u.gathered t.val then .next (u.enterLock t.val (x.times.getD 0 0) x.stamp)
    else .next ((u.setTrackState t.val 1).wr (WRP_T_SPEED.addr t.val) 0)

/-- A stamp for a track that takes stamps (R177): `low` is `SYSTIME[31:0]` of the stamped instant. -/
def State.stamp (s : State) (t angle low : Nat) : State :=
  let bad := s.raiseBit WRP_ERR.STAMP_BAD t
  let age := (s.time % 2 ^ 32 + 2 ^ 32 - low % 2 ^ 32) % 2 ^ 32
  if s.trackState t = 0 then bad
  else if decide (ms 1 < age) || decide (s.time < age) then bad
  else
    let at_ := s.time - age
    let stamp := 4 * at_
    let x := s.track t
    let last := x.times.getD 0 0
    let delta := (angle + 65536 - x.stamp) % 65536
    if s.trackState t = 2 then
      -- implied speed delta / (stamp - last) against the speed of the track
      let mine : Int := x.wNum * (65536 * (stamp - last))
      let got : Int := delta * x.wDen
      if stamp ≤ last || mine < 8 * (got - mine).natAbs then
        let u := bad.setTrack t (fun y => { y with short := y.short + 1 })
        if 2 ≤ x.short + 1 then u.loseTrack t true else u
      else (s.correct t stamp angle).sendStamp t (angleOf (x.phaseThen at_)) at_
    else (s.acquire t stamp angle angle).sendStamp t angle at_

/-- WRP_STAMP_TIME_WRITE (R177). -/
def execWrpStampTimeWrite (m : Master) (data : Word) (s : State) : Result State :=
  if !s.mayWrite m || !s.hasWrp then .next s
  else .next { s with red := { s.red with stampTimes := s.red.stampTimes.put m.val data.toNat } }

/-- WRP_STAMP (R170, R177): the stamp takes effect with the latched time of the same master. -/
def execWrpStamp (m : Master) (t : Fin 16) (angle : BitVec 16) (s : State) : Result State :=
  if !s.mayWrite m || !s.hasWrp then .next s
  else
    match s.red.stampTimes.find m.val with
    | none => .next (s.raiseBit WRP_ERR.STAMP_BAD t.val)
    | some low =>
      if s.get (WRP_T_CFG.SRC t.val) = 2 then .next (s.stamp t.val angle.toNat low)
      else .next (s.raiseBit WRP_ERR.STAMP_BAD t.val)

/-- A stamp that the peer forwards goes to every track with `SRC` 3 and `INSEL` naming its track (R178). -/
def State.twinStamp (s : State) (from_ angle low : Nat) : State :=
  s.each ((List.range 16).filter (fun t => s.get (WRP_T_CFG.SRC t) == 3 && s.get (WRP_T_CFG.INSEL t) % 16 == from_))
    (fun t u => u.stamp t angle low)

/-! ### Picks (R180 to R189) -/

/-- A write of a pick slot (R181). -/
def State.writePick (s : State) (m slot word : Nat) (data : Word) : State :=
  if m < 4 && decide (s.get RED_CTRL.LOOM_BASE ≤ slot) then s.raise RED_FLAGS.DENIED
  else
    let owner := s.pickWord slot 0 / 2 ^ 19 % 8
    if word = 0 then
      if s.armed slot && owner != m then s.raise RED_FLAGS.DENIED
      else if data.toNat.testBit 31 then
        s.armPick slot m data (s.win.get (pickAddr slot 1)) (s.win.get (pickAddr slot 2)) (s.win.get (pickAddr slot 3))
      else
        let kept := s.win.get (pickAddr slot 0) &&& 0x00380000#32
        (s.disarmPick slot).putWin (pickAddr slot 0) (kept ||| (data &&& 0x7FC0FFFF#32))
    else if s.armed slot then s.raise RED_FLAGS.SLOT_BUSY
    else if word = 3 then
      s.putWin (pickAddr slot 3) ((s.win.get (pickAddr slot 3) &&& 0x0000FFFF#32) ||| (data &&& 0xFFFF0000#32))
    else s.putWin (pickAddr slot word) data

/-- PICK_SLOT_WRITE (R181). -/
def execPickSlotWrite (m : Master) (slot : BitVec 8) (word : Fin 4) (data : Word) (s : State) : Result State :=
  if !s.mayWrite m || !s.hasWrp then .next s else .next (s.writePick m.val slot.toNat word.val data)

/-- A write of `RED_CTRL` (R182, R200): `LOOM_BASE` changes only over free slots; `WEFT_EN` is an order. -/
def State.writeRedCtrl (s : State) (m : Nat) (data : Word) : State :=
  let old := s.get RED_CTRL.LOOM_BASE
  let new := RED_CTRL.LOOM_BASE.of data
  let used := (List.range 256).any (fun p => decide (min old new ≤ p) && decide (p < max old new) && (s.armed p || s.allocated p))
  let u := if old = new then s else if used then s.raise RED_FLAGS.SLOT_BUSY else s.set RED_CTRL.LOOM_BASE new
  let u := u.set RED_CTRL.EN (RED_CTRL.EN.of data)
  u.enterFields m data [(0x18, RED_CTRL.WEFT_EN)]

/-- LOOM_BASE_WRITE (R182). -/
def execLoomBaseWrite (m : Master) (data : Word) (s : State) : Result State :=
  if !s.mayWrite m || !s.hasWrp then .next s else .next (s.writeRedCtrl m.val data)

/-- The Reed may dispatch a slot's action now (R23, R179, R434): in the Control safe state only SAMPLE; in a held restart
START_CTX, SHED and RESTORE are dropped. -/
def State.mayFire (s : State) (slot : Nat) : Bool :=
  let a := s.pickWord slot 0 / 2 ^ 26 % 8
  s.reedRuns && s.armed slot && !s.chipSafe && (!s.regionSafe .control || a == 3) &&
    !(s.is UPD_STATUS.HOLD && (a == 4 || a == 5 || a == 6))

/-- ANGLE_PICK_MATCH (R183, R185): the angle of the LOCKED track has crossed one of the pick's angles. -/
def execAnglePickMatch (slot : BitVec 8) (s : State) : Result State :=
  let p := slot.toNat
  let w0 := s.pickWord p 0
  let t := w0 / 2 ^ 22 % 16
  let x := s.track t
  let seen := ((s.red.picks.find p).getD {}).seen
  let cross := nextCrossing (w0 % 65536) (s.pickWord p 1 % 64) seen
  let now := x.phaseAt s.time
  if bitOf w0 29 || s.trackState t ≠ 2 || now < cross || !s.mayFire p then .next s
  else
    let u := { s with red := { s.red with picks := s.red.picks.put p { (s.red.picks.find p).getD {} with seen := cross } } }
    .next (u.firePick p (decide (4 * x.inc < now - cross)))

/-- TIME_PICK_MATCH (R184, R185): `SYSTIME` has reached the due time; a periodic pick is due again a period later. -/
def execTimePickMatch (slot : BitVec 8) (s : State) : Result State :=
  let p := slot.toNat
  let due := ((s.red.picks.find p).getD {}).due
  if !bitOf (s.pickWord p 0) 29 || s.time < due || !s.mayFire p then .next s
  else
    let next := due + us (max 1 (s.pickWord p 3 / 65536))
    let u := { s with red := { s.red with picks := s.red.picks.put p { (s.red.picks.find p).getD {} with due := next } } }
    .next (u.firePick p (decide (due + 4 < s.time)))

/-- SAMPLE_CONVERSION_START (R189): the oldest waiting SAMPLE starts in a quiet moment, or 2 us after its dispatch, marked
LATE; its blocks hold their pulses for the acquisition. -/
def execSampleConversionStart (quiet : Bool) (s : State) : Result State :=
  match s.red.samples with
  | [] => .next s
  | w :: rest =>
    let late := decide (w.at_ + us 2 ≤ s.time)
    if !quiet && !late then .next s
    else
      let u := { s with red := { s.red with samples := rest } }
      let u := u.each ([Block.trk, Block.chb, Block.prt].filter (fun b => bitOf w.mask (blockNum b))) (fun b v => (v.openKeepOut b 13).getD v)
      .next (u.ask { cls := 3, ch := w.ch, adc := w.adc, asker := .sample w.tag w.slot, late := late && !quiet })

/-- CHG_REF_ADD_END (R186): a step whose hold has run out leaves the sum. -/
def execChgRefAddEnd (s : State) : Result State :=
  .next { s with red := { s.red with steps := s.red.steps.filter (fun p => decide (s.time < p.2.2)) } }

/-- MARK_FIFO_READ (R13, R186): a read of `RED_MARK_LO` removes the oldest mark and latches the rest of its entry. -/
def execMarkFifoRead (m : Master) (s : State) : Result State :=
  if !s.fullService || !s.hasWrp then .next { s with readData := 0 }
  else
    match s.red.marks with
    | [] => .next { s with readData := 0, latches := s.latches.put (RED_MARK_HI.addr * 8 + m.val) 0 }
    | (time, tag, slot) :: rest =>
      let hi := BitVec.ofNat 32 (tag * 2 ^ 24 + slot * 2 ^ 16 + rest.length * 256)
      .next { s with red := { s.red with marks := rest }, readData := BitVec.ofNat 32 time, latches := s.latches.put (RED_MARK_HI.addr * 8 + m.val) hi }

/-! ### Weft tables (R190 to R195) -/

/-- A signed entry as a half word. -/
def half (v : Int) : Nat := unsigned 16 (clampZ (-32767) 32767 v)

/-- The machine with the 64 entries of a table at a window base. -/
def State.putEntries (s : State) (base t : Nat) (l : List Int) : State :=
  s.each (List.range 32) (fun k u => u.putWin (base + 128 * t + 4 * k) (BitVec.ofNat 32 (half (l.getD (2 * k) 0) + 65536 * half (l.getD (2 * k + 1) 0))))

/-- `PEAK` of a table: its largest magnitude in 100 mA (R200). -/
def State.peakReport (s : State) (t : Nat) : State :=
  let top := (List.range 64).foldl (fun acc e => max acc (s.entry 0xD000 t e).natAbs) 0
  s.set (RED_W_STATUS.PEAK t) (min 255 (nearest (top : Nat) 10).toNat)

/-- WEFT_TABLE_WRITE (R190). -/
def State.writeWeft (s : State) (t word : Nat) (data : Word) : State :=
  if s.is (RED_W_CFG.ACT t) || (s.weft t).learn ≠ 0 then s.raise RED_FLAGS.WEFT_BUSY
  else ((s.putWin (0xD000 + 128 * t + 4 * word) data).set (RED_W_STATUS.LSTATE t) 3).peakReport t

/-- WEFT_TABLE_WRITE (R190): a host write stores two entries, or is refused with WEFT_BUSY. -/
def execWeftTableWrite (m : Master) (t : Fin 16) (word : Fin 32) (data : Word) (s : State) : Result State :=
  if !s.mayWrite m || !s.hasWrp then .next s else .next (s.writeWeft t.val word.val data)

/-- WEFT_LEARN_FRESH (R191). -/
def execWeftLearnFresh (m : Master) (t : Fin 16) (s : State) : Result State :=
  if !s.mayWrite m || !s.hasWrp then .next s else .next (s.requestLearn t.val 1)

/-- WEFT_LEARN_REFINE (R191). -/
def execWeftLearnRefine (m : Master) (t : Fin 16) (s : State) : Result State :=
  if !s.mayWrite m || !s.hasWrp then .next s else .next (s.requestLearn t.val 2)

/-- WEFT_LEARN_ABORT (R192): `LEARN` written to 3. -/
def execWeftLearnAbort (m : Master) (t : Fin 16) (s : State) : Result State :=
  if !s.mayWrite m || !s.hasWrp then .next s else .next (s.abortTable t.val 3)

/-- WEFT_LEARN_BEGIN (R191): with the track LOCKED and any fade done, the learning begins at a crossing of angle 0; the
phases of the LOCKED tracks are noted for the test of R192. -/
def execWeftLearnBegin (t : Fin 16) (s : State) : Result State :=
  let w := s.weft t.val
  let now := (s.track t.val).phaseAt s.time
  let fading := s.get (RED_W_CFG.LEARN t.val) == 1 && decide (w.fadeLen ≠ 0)
  if w.learn ≠ 1 || s.trackState t.val ≠ 2 || fading || now / 2 ^ 48 ≤ w.revPhase / 2 ^ 48 then .next s
  else
    let locked := (List.range 16).filter (fun k => s.trackState k == 2)
    let marks : Store Nat := locked.map (fun k => (k, (s.track k).phaseAt s.time))
    .next ((s.setWeft t.val (fun x => { x with learn := 2, beganAt := s.time, revPhase := now / 2 ^ 48 * 2 ^ 48, bins := List.replicate 64 (0, 0), rev := List.replicate 64 (0, 0), revs := 0, marks := marks })).set (RED_W_STATUS.REVS t.val) 0)

/-- The profile of R191: every bin's mean less the mean of the 64 means, rounded to 10 mA. -/
def Weft.profile (x : Weft) : List Int :=
  let means := x.bins.map (fun b => quot b.1 b.2)
  let all := quot (means.foldl (fun a b => a + b) 0) 64
  means.map (fun v => nearest (v - all) 65536)

/-- WEFT_LEARN_REVOLUTION (R191): the samples of the revolution, less their mean, join the bins; the learning buffer shows
the profile. -/
def execWeftLearnRevolution (t : Fin 16) (s : State) : Result State :=
  let w := s.weft t.val
  if w.learn ≠ 2 || decide (256 ≤ w.revs) || (s.track t.val).phaseAt s.time < w.revPhase + 2 ^ 48 then .next s
  else
    let sum := w.rev.foldl (fun (a : Int) b => a + b.1) 0
    let n := w.rev.foldl (fun (a : Nat) b => a + b.2) 0
    let mean := if n = 0 then 0 else quot sum n
    let bins := (List.range 64).map (fun e =>
      let b := w.bins.getD e (0, 0)
      let r := w.rev.getD e (0, 0)
      (b.1 + r.1 - r.2 * mean, b.2 + r.2))
    let u := s.setWeft t.val (fun x => { x with bins := bins, rev := List.replicate 64 (0, 0), revs := x.revs + 1, revPhase := x.revPhase + 2 ^ 48 })
    let u := u.set (RED_W_STATUS.REVS t.val) (min 255 (w.revs + 1))
    .next (u.putEntries 0xD800 t.val (u.weft t.val).profile)

/-- Another LOCKED track's mean speed lies within 1 % of p/q times the learning track's, p and q from 1 to 4 (R192). -/
def State.aliased (s : State) (t : Nat) : Bool :=
  let w := s.weft t
  let span := fun (k : Nat) =>
    let x := s.track k
    let from_ := match w.marks.find k with
      | some p => if x.lockAt ≤ w.beganAt then (w.beganAt, p) else (x.lockAt, x.lockPhase)
      | none => (x.lockAt, x.lockPhase)
    (x.phaseAt s.time - from_.2, s.time - from_.1)
  let (a, ta) := span t
  ((List.range 16).filter (fun k => k != t && s.trackState k == 2)).any (fun k =>
    let (b, tb) := span k
    (List.range 4).any (fun p => (List.range 4).any (fun q =>
      let want : Int := (((p + 1) * a * tb : Nat) : Int)
      let got : Int := (((q + 1) * b * ta : Nat) : Int)
      decide (100 * (got - want).natAbs ≤ want.natAbs))))

/-- WEFT_LEARN_COMPLETE (R191, R192, R197): after 256 revolutions the table is computed, or the learning ends ABORTED. -/
def execWeftLearnComplete (t : Fin 16) (s : State) : Result State :=
  let w := s.weft t.val
  if w.learn ≠ 2 || w.revs < 256 then .next s
  else if s.aliased t.val then .next (s.abortTable t.val 5)
  else if w.bins.any (fun b => decide (b.2 < 4)) then .next (s.abortTable t.val 6)
  else
    let p := w.profile
    let fresh := s.get (RED_W_CFG.LEARN t.val) == 1
    let new := (List.range 64).map (fun e => if fresh then p.getD e 0 else s.entry 0xD000 t.val e + quot (p.getD e 0) 2)
    let u := (s.putEntries 0xD000 t.val new).peakReport t.val
    let u := u.setWeft t.val (fun x => { x with learn := 0, bins := [], rev := [], revs := 0, marks := [] })
    let u := ((u.set (RED_W_CFG.LEARN t.val) 0).set (RED_W_STATUS.LSTATE t.val) 2).raise RED_FLAGS.LEARN_DONE
    let words := (List.range 32).map (fun k => u.win.get (0xD000 + 128 * t.val + 4 * k))
    let u := u.onlyIf (u.is (RED_W_CFG.SAVE t.val)) (fun v => { v with beam := { v.beam with wefts := v.beam.wefts.put t.val words } })
    .next (if fresh then u.fadeIn t.val else u)

/-- WEFT_FADE_DONE (R194): a fade has lasted one revolution. -/
def execWeftFadeDone (t : Fin 16) (s : State) : Result State :=
  let w := s.weft t.val
  if w.fadeLen = 0 || s.time < w.fadeAt + w.fadeLen then .next s
  else
    let u := s.setWeft t.val (fun x => { x with fade := if x.fadeUp then 65536 else 0, fadeLen := 0, fadeUp := false, revPhase := if x.learn = 1 then (s.track t.val).phaseAt s.time else x.revPhase })
    .next u.weftReport

end Sys2Proof.Machine
end

