-- ==== Sys2Proof/Machine/Boot.lean ====
section
/-!
DEFINITION. From release to full service (R400, R414 to R417, R429): the ROM's steps, reduced service, the choice of the image, and the
hand-over to firmware.
-/

namespace Sys2Proof.Machine

/-- A settings record: address, word, and the bits that it holds (R433). It sets only bits that software may write. -/
def State.loadSetting (s : State) (e : Nat × Word × Word) : State :=
  match findSpec e.1 with
  | some r =>
    let m := e.2.2 &&& BitVec.ofNat 32 r.rw
    s.wr e.1 ((s.rd e.1 &&& ~~~m) ||| (e.2.1 &&& m))
  | none => s

/-- The settings that the ROM needs (R414 step 1): `TRK_VSET0` to `TRK_VSET7` and `PIN_RATE`. -/
def romSetting (e : Nat × Word × Word) : Option (Nat × Word × Word) :=
  if TRK_VSET.addr 0 ≤ e.1 && e.1 ≤ TRK_VSET.addr 7 then some e
  else if e.1 = TRK_PIN.addr then some (e.1, e.2.1, e.2.2 &&& TRK_PIN.PIN_RATE.mask)
  else none

/-- A register's word in the settings record, 0 without one. -/
def State.settingOf (s : State) (a : Nat) : Word :=
  match s.upd.settings.find? (fun e => e.1 == a) with
  | some e => e.2.1 &&& e.2.2
  | none => 0

/-- RESET_RELEASE (R37, R47, R400, R414 steps 1 and 2): the straps, the calibration area, the crowbar latch and the settings that the ROM
needs. `records` is the settings area where it has changed since the last boot (log entry 41). -/
def execResetRelease (straps : BitVec 5) (records : Option (Nat × List (Nat × Word × Word))) (s : State) : Result State :=
  match s.saf.inReset, s.saf.keepGoodAt with
  | some kind, some _ =>
    let t := { s with saf := { s.saf with inReset := none, releasedAt := s.aon, wdgT0 := s.aon, clocksGood := some s.time } }
    let t := match records with
      | some (schema, l) => t.setUpd (fun u => { u with schema := schema, settings := l })
      | none => t
    let n := straps.toNat
    let t := t.wr GLB_STRAP.addr (BitVec.ofNat 32 (n % 4 + n / 8 * 8))
    let t := (t.set GLB_STRAP.I2C_ADDR (0x48 + n % 4)).wr GLB_CLK.addr 0x1F
    let t := t.each (List.range 18) (fun c u => u.mark (CEL_CFG.DRVMODE c) (bitOf n 4))
    let t := t.each t.calArea (fun e u => u.wr e.1 e.2)
    let t := t.each (t.upd.settings.filterMap romSetting) (fun e u => u.loadSetting e)
    let t := (t.set UPD_ARB.COUNTER t.upd.arb).keepReport
    let t := t.onlyIf (kind == 1 && t.beam.run) (fun u => u.mark SAF_RST_CAUSE.BROWNOUT true)
    .next (t.onlyIf (t.is TRK_OVP.CROWBAR) (fun u => u.safeChip 4))
  | _, _ => .next s

/-! ### Reduced service (R132, R414 to R416) -/

/-- The ROM starts the trunk (R111, R132, R416): cells 0 and 5 without cause bits, from the measured rail voltage. -/
def State.romTrunk (s : State) (rail : Nat) : State :=
  let t := { s with sel := { s.sel with idleTrunk := false }, mod := { s.mod with romTrunk := true } }
  let t := t.set GLB_REGION.NORTH 1
  let t := t.each [0, 5] (fun n u =>
    if !u.fitted n then u else if u.causes n ≠ 0 then u.moveCell n 5 else u.sleepCell n .shed)
  let out := ([0, 5].filter (fun n => !t.serves n)).length
  let t := t.onlyIf (decide (0 < out)) (fun u => u.degrade .north)
  match t.firstSource with
  | some c => (t.turnOn c rail).becamePrimary c
  | none => if out = 2 && (t.is SRC_STATUS.IN48_QUAL) then t.safeRegion .north else t

/-- REDUCED_SERVICE_START (R83, R132, R379, R414 step 3): the two nets, the rail in 10 mV, the pin selection and `SHARE` in mV. -/
def execReducedServiceStart (v48 v12 rail : Nat) (pins : Fin 8) (share : Nat) (s : State) : Result State :=
  let good := match s.saf.keepGoodAt with
    | some a => decide (a + 2000 ≤ s.aon) && decide (s.saf.releasedAt + 300 ≤ s.aon)
    | none => false
  if s.get GLB_REGION.SERVICE ≠ 0 || s.saf.inReset.isSome || s.chipSafe || s.get SAF_STATUS.LC = 4 || !good then .next s
  else
    let t := (s.set GLB_REGION.SERVICE 1).set TRK_PIN.SEL pins.val
    let t := (t.set TRK_PIN.LIVE pins.val).set TRK_REF.TARGET (t.get (TRK_VSET.VOLT pins.val))
    let t := t.firstLook v48 v12
    let t := t.onlyIf (t.netInRange 1 v48 && !t.is SRC_STATUS.IN48_UVL && !t.is SRC_STATUS.IN48_OVL) (fun u => u.qualifyNet 1 v48)
    let t := t.onlyIf (t.netInRange 2 v12 && !t.is SRC_STATUS.IN12_UVL && !t.is SRC_STATUS.IN12_OVL) (fun u => u.qualifyNet 2 v12)
    let mode := SEL_CTRL.MODE.of (t.settingOf SEL_CTRL.addr)
    if t.hasSel && (mode = 1 || mode = 2) && 400 ≤ share then .next { t with sel := { t.sel with idleTrunk := true } }
    else .next (t.romTrunk rail)

/-! ### The choice of the image (R429, R437) -/

/-- RECOVERY (R437): reduced service continues and the USB device presents DFU alone. -/
def State.enterRecovery (s : State) : State :=
  ((s.set GLB_REGION.SERVICE 3).mark SVC_STATUS.DFU_MODE true).set SVC_DFU.STATE 2

/-- ACTIVE starts when it is valid, else FALLBACK is copied when that is, else the device enters RECOVERY (R429). -/
def State.startImage (s : State) : State :=
  if s.upd.activeOk || s.checkBank s.upd.active = 0 then
    { s with saf := { s.saf with firmware := true }, upd := { s.upd with activeOk := true } }
  else if s.checkBank s.upd.fallback = 0 then s.startCopy true false
  else s.enterRecovery

/-- The ROM looks at the update state once per boot (R429). -/
def State.chooseImage (s : State) : State :=
  let t := { s with saf := { s.saf with chosen := true } }
  if t.beam.stage = 3 then
    let cause := t.checkBank t.upd.staging
    if cause = 0 then t.startCopy false false else (t.rejectStaging cause).startImage
  else if t.beam.trial then
    if t.beam.boots = 3 then t.startCopy true true
    else (t.setBeam (fun b => { b with boots := b.boots + 1 })).startImage
  else t.startImage

/-- FIRMWARE_START (R414 steps 4 and 5, R429): pending work is completed, an open copy is resumed from its last marker, and the image is
chosen and started. A copy that this starts runs in steps of NVM_STEP_DONE; the ROM goes on after it. -/
def execFirmwareStart (s : State) : Result State :=
  if s.get GLB_REGION.SERVICE ≠ 1 || s.saf.firmware || s.chipSafe || s.saf.inReset.isSome || s.is SAF_STATUS.LC_PENDING then .next s
  else if s.upd.copy.isSome then .next ((s.set UPD_STATUS.NVM_BUSY 1).copyReport)
  else
    let t := s.onlyIf s.beam.cleanup (fun u => u.cleanupTrial)
    .next (if t.saf.chosen then t.startImage else t.chooseImage)

/-! ### Full service (R133, R168, R335, R417) -/

/-- The settings in the registers (R168, R433): the defaults of CALDEF, then the records; `CHEM` first loads the chemistry's voltages. -/
def State.loadSettings (s : State) (defaults : List (Nat × Word × Word)) : State :=
  let recs := if s.is UPD_FLAGS.MIGRATE_FAIL then [] else s.upd.settings
  let put := fun (u : State) => (u.each defaults (fun e v => v.loadSetting e)).each recs (fun e v => v.loadSetting e)
  let t := put s
  put (t.loadChem (t.get CHG_CTRL.CHEM))

/-- Context 0 belongs to M4 and runs at priority 15 (R232). -/
def State.context0 (s : State) : State :=
  if s.cstate 0 = 0 then { s with ctx := (s.ctx.set 0 0x1F000000#32).set 2 (BitVec.ofNat 32 (15 * 2 ^ 28 + 7 * 2 ^ 25 + 4 * 2 ^ 16)) } else s

/-- The cells of the trunk and of the charge block at the first full-service tick (R85, R133, R141): cells of the active set are to serve, the
other fitted cells are spares. Charge cells sleep until the block has a mode. -/
def State.fullCells (s : State) : State :=
  let t := { s with mod := { s.mod with romTrunk := false } }
  let t := t.each ((List.range 18).filter (fun n => t.cellPresent n && !t.fitted n && t.cellState n != 0)) (fun n u => u.moveCell n 0)
  let t := t.each [0, 5] (fun n u => u.onlyIf (u.serves n) (fun v => v.setCell n (fun c => { c with target := some 2000000 })))
  let t := t.each (List.range 10) (fun n u =>
    if u.fitted n && u.cellState n = 0 && u.causes n = 0 && !(u.activeSet .trk).contains n then u.moveCell n 1 else u)
  let t := if t.blockEnabled .chb then t.chargeCellsOn else t
  let t := if t.sel.idleTrunk || !t.blockEnabled .trk then t else t.reenterAll
  (t.report .trk).report .chb

/-- The regions of full service (R36, R417): NORMAL, or DEGRADED where a contained fault persists; a region in its safe state stays there. -/
def State.fullRegions (s : State) : State :=
  s.each [Region.north, .south, .control, .interface] (fun r u =>
    if u.regionSafe r then u
    else if u.contained r || bitOf (u.get SAF_FAULT.FAULT) (regionFault r + 4) then u.set (regionField r) 2
    else u.set (regionField r) 1)

/-- Saved weft tables are LOADED with `ACT` at 0 (R197). -/
def State.restoreWefts (s : State) : State :=
  s.each s.beam.wefts (fun e u =>
    let v := u.each (List.range 32) (fun k x => x.putWin (0xD000 + 128 * e.1 + 4 * k) (e.2.getD k 0))
    ((v.set (RED_W_STATUS.LSTATE e.1) 3).mark (RED_W_CFG.ACT e.1) false).peakReport e.1)

/-- What firmware reports of the image and the Beam from full service on (`SEL_VER`, `BEM_STATUS`, `BEM_WEAR`). -/
def State.fullReport (s : State) : State :=
  let (used, t) := s.draw
  let (wear, t) := t.draw
  let t := t.onlyIf t.hasSel (fun u => (u.set SEL_VER.PROTO u.upd.active.proto).set SEL_VER.FWVER (u.upd.active.version.toNat / 2 ^ 16))
  let t := (t.set BEM_STATUS.USED (used.toNat % 257)).set BEM_STATUS.SPARE_ROWS (Config.spareRows - t.beam.retired)
  let t := (t.set BEM_WEAR.MAXWR (wear.toNat % 65536)).set BEM_WEAR.RETIRED t.beam.retired
  t.jsnReport.updReport

/-- FULL_SERVICE_START (R417): at a tick boundary firmware loads the settings, restores program pages, jobs and contexts, and takes the units
over from the ROM. `defaults` are the values of CALDEF and `records` what MIGRATE wrote (log entry 41). -/
def execFullServiceStart (defaults : List (Nat × Word × Word)) (records : Option (List (Nat × Word × Word))) (s : State) : Result State :=
  if !s.saf.firmware || s.get GLB_REGION.SERVICE ≠ 1 || s.chipSafe || s.saf.inReset.isSome || s.time % 100 ≠ 0 then .next s
  else
    let t := (s.set GLB_REGION.SERVICE 2).migrate records
    let t := (t.loadSettings defaults).context0
    let t := (t.restorePages).loadLibPart
    let t := t.restoreWork
    let por := t.get SAF_RST_CAUSE.KIND = 1 || t.get SAF_RST_CAUSE.KIND = 7
    let t := t.onlyIf por (fun u => u.wr MEA_QCNT.addr u.beam.charge)
    let t := t.raise MEA_FLAGS.COUNT_GAP
    let t := if t.hasWrp then t.restoreWefts else t
    let t := t.fullCells.fullRegions
    let t := ((t.chgConfig.refreshPack).portStart).startWarp
    let t := (t.mark HIF_CTRL.I2C_EN true).mark GLB_CLK.I2C_OK true
    let t := { t with sel := { t.sel with split := t.get SEL_CTRL.SPLIT, pairId := t.rd SEL_PAIR_ID.addr } }
    let t := (t.linkStart.setBeam (fun b => { b with run := true })).dueFlags
    .next t.fullReport

end Sys2Proof.Machine
end

