-- ==== Sys2Proof/Machine/Errors.lean ====
section
/-!
DEFINITION. Stalled shuttles, the Beam's failures and uncorrectable memory errors (R22, R35, R228).
-/

namespace Sys2Proof.Machine

/-- SHUTTLE_STALL (R228): no instruction retired for 1 ms while the shuttle's context holds a slot. The context traps with STALL; a
second stall within 1 s disables the shuttle, and with every shuttle disabled Control is safe (R22). -/
def execShuttleStall (sh : Fin 8) (s : State) : Result State :=
  let h := s.shuttle sh.val
  match h.ctx with
  | none => .next s
  | some c =>
    if (s.slotsOf c).isEmpty then .next s
    else
      let again := match h.lastStall with
        | some t => decide (s.time < t + ms 1000)
        | none => false
      let t := s.trap c 0x05 0
      let h' : Shuttle := { off := again, lastStall := some s.time }
      let t := { t with lom := { t.lom with shuttles := t.lom.shuttles.set sh.val h' } }
      if !again then .next t
      else
        let t := (t.raise LOM_FLAGS.SHUTTLE_OFF).degrade .control
        .next (t.onlyIf (t.lom.shuttles.all (fun x => x.off)) (fun u => u.safeRegion .control))

/-- BEAM_COMMIT_FAILURE (R22): a record cannot be committed within 1 ms. -/
def execBeamCommitFailure (s : State) : Result State := .next (s.safeRegion .interface)

/-- INTERFACE_TEST_RECORD (R22): while Interface is safe firmware commits a test record every 100 ms. -/
def execInterfaceTestRecord (ok : Bool) (s : State) : Result State :=
  if s.regionSafe .interface then .next { s with saf := { s.saf with testCommitted := ok } } else .next s

/-- A row of the Beam goes to a spare row (R22, R35): the record is rebuilt from the twin, or in solo operation lost. -/
def State.retireRow (s : State) (lose : Beam → Beam) : State :=
  let t := (s.setBeam (fun b => { b with retired := b.retired + 1 })).raise BEM_FLAGS.ROW_RETIRED
  let left := Config.spareRows - t.beam.retired
  let t := ((t.set BEM_STATUS.SPARE_ROWS left).set BEM_WEAR.RETIRED t.beam.retired).onlyIf (decide (left < 8)) (fun u => u.raise BEM_FLAGS.SPARE_LOW)
  let t := if t.paired then t.raise BEM_FLAGS.REC_REBUILT
    else (((t.setBeam lose).raise BEM_FLAGS.REC_LOST).setFault 19).degrade .interface
  t.onlyIf (decide (Config.spareRows < t.beam.retired)) (fun u => u.safeRegion .interface)

/-- A context whose record holds an uncorrectable word (R35): a FREE one is rewritten as zeros, any other traps at once. -/
def State.contextEcc (s : State) (c : Nat) : State :=
  if s.cstate c = 0 then { s with ctx := (List.range 32).foldl (fun (m : WordMap) w => m.set (32 * c + w) 0) s.ctx } else s.trap c 0x04 0

/-- A context that executes from a page of program memory. -/
def State.executesIn (s : State) (page c : Nat) : Bool :=
  let code := s.cstate c
  code != 0 && code != 1 && code != 8 && (s.context c).rom.isNone && s.cget (CTX.PC c) / 256 == page

/-- A weft table is removed from the sum (R35, R193). -/
def State.removeWeft (s : State) (t : Nat) : State :=
  let u := s.setWeft t (fun _ => {})
  (((u.set (RED_W_STATUS.LSTATE t) 0).mark (RED_W_CFG.ACT t) false).set (RED_W_CFG.LEARN t) 0).weftReport

/-- MEMORY_UNCORRECTABLE (R22, R35, R395, R419). -/
def execMemoryUncorrectable (site : EccSite) (s : State) : Result State :=
  let t := s.set SAF_ECC_CNT.UNCORR (min 65535 (s.get SAF_ECC_CNT.UNCORR + 1))
  let seen := t.setFault 21
  match site with
  | .dataMem c => .next (seen.trap c 0x04 0)
  | .context c => .next (seen.contextEcc c)
  | .program p => .next (seen.each ((List.range 128).filter (seen.executesIn p)) (fun c u => u.trap c 0x03 0))
  | .pick slot => .next (((seen.disarmPick slot.toNat).raise RED_FLAGS.PICK_ECC).degrade .control)
  | .weft k => .next (((seen.removeWeft k).raise RED_FLAGS.PICK_ECC).degrade .control)
  | .job m r =>
    let again := match s.saf.jobsEcc with
      | some a => decide (s.time < a + ms 1000)
      | none => false
    let u := { seen with saf := { seen.saf with jobsEcc := some s.time } }
    let u := u.endJobStop m r 6 0x04
    .next (u.onlyIf again (fun v => v.safeRegion .interface))
  | .management => .next ((t.setFault 2).requestReset 5 2)
  | .beamJob m r => .next (t.retireRow (fun b => { b with jobs := b.jobs.erase (jobKey m r) }))
  | .beamContext c => .next (t.retireRow (fun b => { b with commits := b.commits.erase c }))
  | .beamOther => .next (t.retireRow id)
  | .flash bank =>
    .next (seen.setUpd (fun u =>
      if bank.val = 0 then { u with active := { u.active with bad := true } }
      else if bank.val = 1 then { u with staging := { u.staging with bad := true } }
      else { u with fallback := { u.fallback with bad := true } }))
  | .fetch => .next (seen.requestReset 5 2)

end Sys2Proof.Machine
end

