-- ==== Sys2Proof/Machine/Rom.lean ====
section
/-!
DEFINITION. The ROM programs (R250, R343, R384, R471). A shuttle that takes a context with a ROM program runs it at
once up to its wait (log entry 8).
-/

namespace Sys2Proof.Machine

/-- The context waits for what the program has ordered. -/
def State.romWait (s : State) (c : Nat) : State :=
  (s.park c 4).setContext c (fun x => { x with wait := some .rom })

/-- The orders of a ROM program's transaction enter one tick and stand in the context's Beam record (R238, R244, R250). -/
def State.romOrders (s : State) (c : Nat) (orders : List Order) : State :=
  let (n, t) := s.nextSeq
  let sign := fun (o : Order) => { o with master := t.cget (CTX.OWNER c), origin := .ctx c, job := t.jobOfCtx c, group := n }
  let l := orders.map sign
  let old := (t.beam.commits.find c).getD {}
  let held := old.held.filter (fun h => !(l.any (fun o => o.target == h.target))) ++ l
  let rec' : Commit := { old with orders := l, held := held }
  let t := ({ t with beam := { t.beam with commits := t.beam.commits.put c rec' } } : State).journal (.commit c rec')
  t.each l (fun o u => u.enter o)

/-- `rail_slew` (R471): one rail order, which holds a slot; without a free slot the context waits for one (R227, R259). -/
def State.romRail (s : State) (c : Nat) (args : Nat → Word) : State :=
  match s.openSlot c with
  | none => s.waitSlot c
  | some i =>
    let t := (s.takeSlot c i .rail).setContext c (fun x => { x with romLeft := 1 })
    (t.romOrders c [{ s.railOrder (args 0).toInt (args 1).toInt with slot := some i }]).romWait c

/-- `charge_run` (R471): the orders of a charge; from FAULT only with ARM and `CHG_FLT` all clear. -/
def State.romCharge (s : State) (c m r : Nat) (args : Nat → Word) : State :=
  let ctl := args 2
  let chem := CHG_CTRL.CHEM.of ctl
  let cells := CHG_CTRL.CELLS.of ctl
  let fault := s.chgState == 9
  if fault && !((args 3).toNat.testBit 0 && s.fltClear) then s.romEnd m r 6 0x0A (s.chargeBlock (s.job m r))
  else
    let t := if fault then s.applyArm else s
    let bit := fun (f : Field) => ({ target := .field 0x0C f, master := 0, val := f.of ctl } : Order)
    let cv := if chem = 3 then [] else [t.valueTarget 0x09 CHG_CV.CV (cvRange chem).1 (cvRange chem).2 (args 1)]
    let orders := [({ target := .field 0x0C CHG_CTRL.CHEM, master := 0, val := chem } : Order),
      { target := .field 0x0C CHG_CTRL.CELLS, master := 0, val := cells },
      bit CHG_CTRL.ID_CHK, bit CHG_CTRL.NTC_CHK, bit CHG_CTRL.TERM_EN, t.valueTarget 0x08 CHG_CC.CC 5 6000 (args 0)] ++ cv ++
      [({ target := .field 0x0C CHG_CTRL.EN, master := 0, val := 1 } : Order)]
    (t.romOrders c orders).romWait c

/-- `backup_arm` (R471). -/
def State.romBackup (s : State) (c : Nat) (args : Nat → Word) : State :=
  let t := s.setContext c (fun x => { x with romLeft := 3 })
  let orders := [t.setvOrder .backup (args 0), t.limitOrder .disMax (args 1),
    ({ target := .field 0x0C CHB_CTRL.HOLDUP_EN, master := 0, val := 1 } : Order)]
  (t.romOrders c orders).romWait c

/-- `cell_selftest` and `cell_calibrate` (R270, R471). -/
def State.romCells (s : State) (c : Nat) (args : Nat → Word) (cal : Bool) : State :=
  match s.openSlot c with
  | none => s.waitSlot c
  | some i =>
    let t := s.takeSlot c i .wait
    let t := { t with lom := { t.lom with slots := t.lom.slots.put i (c, .cellTest (t.tagOf i) cal ((args 0).toNat % 2 ^ 18) 0 0) } }
    (t.romWait c).nextTestCell i

/-- `weft_learn` (R191, R250): table `g1`, mode `g2`; its job is done once the learning is requested or aborted (log entry 8). -/
def State.romWeft (s : State) (m r : Nat) (args : Nat → Word) : State :=
  let table := (args 0).toNat % 16
  let mode := (args 1).toNat % 4
  let t := if mode = 1 || mode = 2 then s.requestLearn table mode else if mode = 3 then s.abortTable table 3 else s
  t.romEnd m r 5 0 []

/-- `update_handover` on the twin that is to be updated (R384): the checks in their order, then the share-out starts. -/
def State.romHandover (s : State) (c m r : Nat) (args : Nat → Word) : State :=
  let ps := s.pairState
  let total := (if s.get SRC_STATUS.PRIMARY = 3 then s.blockCurrent .chb else s.blockCurrent .trk) + s.getZ SEL_PEER_I.CURR
  let peerState := s.get SEL_STATUS.PEER_STATE
  let code := if !(s.fullService && s.peerLive && (ps = 2 || ps = 3 || ps = 4)) then 0x0101
    else if !(s.session && (args 0).toNat == s.upd.token && s.beam.stage == 2) then 0x0102
    else if (s.get SEL_PEER_I.CAP : Int) < total then 0x0103
    else if peerState = 5 || peerState = 6 then 0x0104
    else 0
  if code ≠ 0 then s.trap c 0x10 code
  else
    let t := (s.romWait c).set SEL_STATUS.PAIR_STATE 6
    { t with sel := { t.sel with handover := some (m, r), outStart := some t.time, outFrom := (max 0 (t.blockCurrent .trk)).toNat, sentAll := false, sentCtx := 0, sentPicks := 0, matched := 0 } }

/-- Runs the ROM program of a context that a shuttle has taken. -/
def State.runRom (s : State) (c : Nat) : State :=
  let x := s.context c
  match x.rom, x.job with
  | some entry, some (m, r) =>
    let j := s.job m r
    let args := fun k => j.args.getD k 0
    if !j.live then s.stopContext c
    else if entry = 0xFF00 then s.romRail c args
    else if entry = 0xFF01 then s.romCharge c m r args
    else if entry = 0xFF02 then s.romBackup c args
    else if entry = 0xFF03 then s.romCells c args false
    else if entry = 0xFF04 then s.romCells c args true
    else if entry = 0xFF05 then s.romWeft m r args
    else if entry = 0xFF06 then (s.romWait c).portRoleSwap m r ((args 0).toNat % 2)
    else if entry = 0xFF07 then s.romHandover c m r args
    else s
  | _, _ => s

end Sys2Proof.Machine
end

