-- ==== Sys2Proof/Machine/Jobs.lean ====
section
/-!
DEFINITION. The commands of the job interface (R273 to R294): doorbells, descriptor copy, acceptance,
completion entries, start, status read and release.
-/

namespace Sys2Proof.Machine

/-- Whether a write of a ring pointer or of `JOB_RELEASE` is served; while Interface is safe it is refused and
sets DB_REFUSED (R294). Host writes wait outside full service, in the chip safe state and in a held restart (R305, R434). -/
def State.jobWrite (s : State) (m : Nat) (eff : State → State) : State :=
  if !s.fullService || s.chipSafe || (m < 3 && s.is UPD_STATUS.HOLD) then s
  else if s.regionSafe .interface then s.raise JOB_FLAGS.DB_REFUSED
  else eff s

/-- JOB_DOORBELL (R277): a write of TAIL, ignored with SQ_BAD when the ring would hold more than 32 entries or
fewer than before. -/
def execJobDoorbell (m : Fin 4) (tail : BitVec 6) (s : State) : Result State :=
  .next (s.jobWrite m (fun t =>
    let head := t.get (JOB_SQ.HEAD m)
    let old := (t.get (JOB_SQ.TAIL m) + 64 - head) % 64
    let new := (tail.toNat + 64 - head) % 64
    if 32 < new || new < old then t.raise JOB_FLAGS.SQ_BAD else t.set (JOB_SQ.TAIL m) tail.toNat))

/-- CQ_HEAD_WRITE (R277): a write of HEAD frees completion entries, ignored with CQ_BAD when it lies beyond
TAIL. -/
def execCqHeadWrite (m : Fin 4) (head : BitVec 6) (s : State) : Result State :=
  .next (s.jobWrite m (fun t =>
    let tail := t.get (JOB_CQ.TAIL m)
    let old := (tail + 64 - t.get (JOB_CQ.HEAD m)) % 64
    let new := (tail + 64 - head.toNat) % 64
    if old < new then t.raise JOB_FLAGS.CQ_BAD else t.set (JOB_CQ.HEAD m) head.toNat))

/-- Whether the completion ring of a master is full (R277). -/
def State.cqFull (s : State) (m : Nat) : Bool :=
  (s.get (JOB_CQ.TAIL m) + 64 - s.get (JOB_CQ.HEAD m)) % 64 == 32

/-- Word w of entry k of the submission ring of master m (R274). -/
def State.sqWord (s : State) (m k w : Nat) : Word := s.win.get (0x4000 + 0x400 * m + 0x20 * k + 4 * w)

/-- An entry point of R250: program memory, or a ROM program. -/
def entryValid (e : Nat) : Bool := decide (e < 0x4000) || (decide (0xFF00 ≤ e) && decide (e ≤ 0xFF07))

/-- Whether an entry point or its arguments require a unit that the variant lacks (R6). -/
def State.entryAbsent (s : State) (e : Nat) (args : List Word) : Bool :=
  (e == 0xFF05 && !s.hasWrp) || (e == 0xFF07 && !s.hasSel) ||
  ((e == 0xFF03 || e == 0xFF04) &&
    (List.range 18).any (fun n => (args.getD 0 0).toNat.testBit n && !s.cellPresent n))

/-- Whether a master owns a context; the owner of a context of the peer stands in its mirrored record (R366, R373). -/
def State.ownsAny (s : State) (m c : Nat) : Bool :=
  if s.away c then
    match s.beam.mirCommits.find c with
    | some x => (CTX.OWNER 0).of (x.words.get 2) == m
    | none => false
  else s.owns m c

/-- No descriptors are copied (R294, R378, R381, R434): outside full service, with Interface safe, in a held restart, on a detached
twin of role B, and on a returning twin before JOINING. -/
def State.copyHeld (s : State) : Bool :=
  !s.fullService || s.chipSafe || s.regionSafe .interface || s.is UPD_STATUS.HOLD || (s.pairState == 8 && s.roleB) || (s.sel.returning && s.pairState != 5)

/-- Posts the ACK entry of a REJECTED or DUPLICATE descriptor (R275, R276, R288). -/
def State.postAck (s : State) (m : Nat) (j : Job) (record : Nat) : State :=
  s.onlyIf (bitOf (s.get JOB_CTRL.ACK_EN) m) (fun t => t.post m (completionEntry j false record))

/-- DESCRIPTOR_COPY (R277, R279, R282, R288): copies the descriptor at HEAD and applies the checks in order. While
the completion ring is full the device copies none and CQ_FULL is set. -/
def execDescriptorCopy (m : Fin 4) (s : State) : Result State :=
  let head := s.get (JOB_SQ.HEAD m)
  if s.copyHeld || head == s.get (JOB_SQ.TAIL m) then .next s
  else if s.cqFull m then .next (s.raise JOB_FLAGS.CQ_FULL)
  else
    let w := fun k => s.sqWord m (head % 32) k
    let t := s.set (JOB_SQ.HEAD m) ((head + 1) % 64)
    let entry := (w 1).toNat / 65536
    let c := (w 1).toNat % 128
    let args := [w 2, w 3, w 4, w 5]
    let j : Job := { jobId := w 0, entry := entry, ctx := c, args := args, noAck := (w 6).toNat.testBit 1, progOut := (w 6).toNat.testBit 0 }
    let reject := fun cause => t.postAck m { j with state := 7, cause := cause } 0x3F
    if (w 1).toNat / 128 % 512 ≠ 0 || (w 6).toNat / 4 ≠ 0 || w 7 ≠ 0 || w 0 = 0 then .next (reject 0x14)
    else
      match (t.windowOf m).find? (fun e => e.jobId == w 0) with
      | some e =>
        let held := (t.job m e.record).asn == e.asn && (t.job m e.record).state != 0
        .next (t.postAck m { j with state := 11, asn := e.asn } (if held then e.record else 0x3F))
      | none =>
        if !entryValid entry then .next (reject 0x10)
        else if c = 0 || !t.ownsAny m c then .next (reject 0x11)
        else if t.entryAbsent entry args then .next (reject 0x12)
        else
          match t.freeRecord m with
          | none => .next (reject 0x13)
          | some r => .next ((t.setJob m r { j with state := 1 }).mirrorJob m r)

/-- JOB_ACCEPT (R280, R281): the acceptance record of a QUEUED job is committed, and in paired operation the peer
has confirmed its copy; the job is ACCEPTED with an ASN and its ACK entry is due. -/
def execJobAccept (m : Master) (r : Fin 32) (s : State) : Result State :=
  let j := s.job m r
  if j.state = 1 && s.fullService && !s.regionSafe .interface && (!s.paired || j.confirmed) then
    let dup := (s.windowOf m).find? (fun e => e.jobId == j.jobId)
    match dup with
    | some e =>
      -- two descriptors with one JOBID in one doorbell: the second ends DUPLICATE (R293)
      .next ((s.setJob m r {}).postAck m { j with state := 11, asn := e.asn } e.record)
    | none =>
      let t := s.accept m r true
      if m.val < 4 && !j.noAck then .next (t.postAck m (t.job m r) r) else .next t
  else .next s

/-- COMPLETION_POST (R276, R282): the oldest due entry of a master is written at TAIL once the ring has room, and
CQ_POST is set; with a full ring CQ_FULL is set and the entry waits. -/
def execCompletionPost (m : Fin 4) (s : State) : Result State :=
  match s.jobs.posts.find? (fun p => p.1 == m.val) with
  | none => .next s
  | some p =>
    if s.cqFull m then .next (s.raise JOB_FLAGS.CQ_FULL)
    else
      let tail := s.get (JOB_CQ.TAIL m)
      let base := 0x5000 + 0x200 * m.val + 0x10 * (tail % 32)
      let win := (List.range 4).foldl (fun (u : WordMap) k => u.set (base + 4 * k) (p.2.getD k 0)) s.win
      let t := { s with win := win, jobs := { s.jobs with posts := s.jobs.posts.erase p } }
      .next ((t.set (JOB_CQ.TAIL m) ((tail + 1) % 64)).raiseBit JOB_FLAGS.CQ_POST m)

/-- Whether an ACCEPTED job is the first of its master for its context in ASN order (R289). -/
def State.firstForCtx (s : State) (m r : Nat) : Bool :=
  let j := s.job m r
  !((List.range 32).any (fun q =>
    let k := s.job m q
    q != r && k.state == 2 && k.ctx == j.ctx && decide (k.asn < j.asn)))

/-- JOB_START (R231, R289, R366): an ACCEPTED job starts on its context's home once the context is IDLE, in ASN order of its master. -/
def execJobStart (m : Master) (r : Fin 32) (s : State) : Result State :=
  let j := s.job m r
  if s.loomRuns && !s.is UPD_STATUS.HOLD && !s.away j.ctx && j.state == 2 && s.cstate j.ctx == 1 && s.firstForCtx m r then .next (s.beginJob m r)
  else .next s

/-- PICKSTART_RUN (R232, R233): a PICK event on an IDLE context with PICKSTART starts a new job of the owner with
the context's last job's values, once a record is free. -/
def execPickstartRun (c : CtxId) (s : State) : Result State :=
  let x := s.context c
  let m := s.cget (CTX.OWNER c)
  if s.loomRuns && !s.is UPD_STATUS.HOLD && !s.away c && s.cstate c == 1 && s.cget (CTX.PICKSTART c) == 1 && bitOf (s.cget (CTX.EVPEND c)) 0 && x.hasRun then
    match s.freeRecord m with
    | none => .next s
    | some r =>
      let t := s.cset (CTX.EVPEND c) (setBitTo (s.cget (CTX.EVPEND c)) 0 false)
      let j : Job := { state := 1, jobId := BitVec.ofNat 32 (s.cget (CTX.JOBID c)), entry := s.cget (CTX.ENTRY c), ctx := c, args := x.lastArgs, noAck := true, picked := true }
      .next (((t.setJob m r j).accept m r false).beginJob m r)
  else .next s

/-- JOB_STATUS_READ (R283, R286): a read by master m itself increments READS and returns the status word with it,
copies the result block to the snapshot and latches the info registers; a read by another master returns zero. -/
def execJobStatusRead (reader : Master) (m : Fin 4) (r : Fin 32) (s : State) : Result State :=
  if reader.val ≠ m.val || !s.fullService then .next { s with readData := 0 }
  else
    let old := s.job m r
    let j := if old.state = 0 then old else { old with reads := min (old.reads + 1) 15 }
    let win := (List.range 16).foldl (fun (u : WordMap) k =>
      u.set (0x6000 + 0x800 * m.val + 4 * k) (j.result.getD k 0)) s.win
    let t := { s with readData := j.status, win := win }
    let t := t.wr (JOB_INFO0.addr m) (BitVec.ofNat 32 j.asn)
    let t := t.wr (JOB_INFO1.addr m) (BitVec.ofNat 32 (j.asn / 2 ^ 32 * 65536 + j.cause * 256 + j.ctx))
    .next (t.setJob m r j)

/-- JOB_RELEASE (R287): a write of a job ID frees that job's record when it is terminal; 0 OK, 1 UNKNOWN, 2 BUSY
for the writing master. -/
def execJobRelease (m : Master) (jobId : Word) (s : State) : Result State :=
  .next (s.jobWrite m (fun t =>
    let report := fun (u : State) (code : Nat) => { u with jobs := { u.jobs with relres := u.jobs.relres.put m code } }
    let mine := (List.range 32).filter (fun r => (t.job m r).state != 0 && (t.job m r).jobId == jobId)
    match mine.find? (fun r => terminalState (t.job m r).state) with
    | some r => report ((t.setJob m r {}).saveJob m r) 0
    | none => if mine.isEmpty then report (t.raise JOB_FLAGS.REL_BAD) 1 else report t 2))

end Sys2Proof.Machine
end

