-- ==== Sys2Proof/Machine/Measure.lean ====
section
/-!
DEFINITION. The measurement commands (R201 to R210).
-/

namespace Sys2Proof.Machine

/-- ADC_CONVERSION_DONE (R201, R204 to R209, R224, R268): the conversion that the ADC has run for 500 ns delivers
its code, `x` being the pin ratio of R211 in 1/65536 for a thermistor channel; the ADC takes the next request. -/
def execAdcConversionDone (adc : Fin 2) (code x : BitVec 16) (s : State) : Result State :=
  match s.mea.busy.find adc.val with
  | none => .next s
  | some (c, start) =>
    if s.time < start + 50 then .next s
    else
      let t := { s with mea := { s.mea with busy := s.mea.busy.erase adc.val } }
      let t := t.mark (if adc.val = 0 then MEA_STATUS.BUSY_A else MEA_STATUS.BUSY_B) false
      let t := t.deliver c adc.val code.toNat x.toNat start c.late true
      let t := if t.mea.scanNext && t.mea.scanLeft.isEmpty then t.startScan else t
      if t.adcFailed 0 && t.adcFailed 1 then .next t.bothFailed else .next (t.grant adc.val)

/-- The class of a scheduled conversion, if it is scheduled now (R204). -/
def State.scheduled (s : State) (ch adc : Nat) : Option Conversion :=
  let learning := (List.range 16).any (fun t => (s.weft t).learn == 2)
  let one := some { cls := 1, ch := ch, asker := .protect }
  if (ch = 0x01 && learning && s.get SRC_STATUS.PRIMARY = 1) || (ch = 0x03 && learning && s.get SRC_STATUS.PRIMARY = 2) then
    some { cls := 2, ch := ch, asker := .charge }
  else if ch ≤ 0x06 || ch = 0x08 then one
  else if ch = 0x09 then if s.chgState = 1 then some { cls := 2, ch := ch, asker := .charge } else none
  else if decide (0x0A ≤ ch) && decide (ch ≤ 0x0F) then
    if s.get THM_NTC_CFG.TYPE / 4 ^ (ch - 0x0A) % 4 = 0 then none else one
  else if (decide (0x50 ≤ ch) && decide (ch ≤ 0x57)) || (decide (0x60 ≤ ch) && decide (ch ≤ 0x64)) then one
  else if ch = 0x65 || ch = 0x66 then
    if s.is MEA_CTRL.BGCAL_EN && adc ≠ 0 then some { cls := 5, ch := ch, adc := adc, asker := .calib } else none
  else none

/-- SCHEDULED_CONVERSION (R204, R205, R207): a class-1 or class-2 conversion, or one of the background calibration, is
due on its grid and is requested. -/
def execScheduledConversion (ch : BitVec 8) (adc : Fin 3) (s : State) : Result State :=
  match s.scheduled ch.toNat adc.val with
  | some c => if s.mode < 3 then .next (s.ask c) else .next s
  | none => .next s

/-- SCAN_START (R206): with a scan still running SCAN_LATE is set and the next one starts when it completes. -/
def execScanStart (s : State) : Result State :=
  if !s.fullService || !s.is MEA_SCAN_CFG.EN || 3 ≤ s.mode then .next s
  else if s.mea.scanLeft.isEmpty then .next s.startScan
  else .next (({ s with mea := { s.mea with scanNext := true } } : State).raise MEA_FLAGS.SCAN_LATE)

/-- CAL_STARVED (R207): no pair served for 10 x `CAL_INT`. -/
def execCalStarved (adc : Fin 2) (s : State) : Result State :=
  let last := (s.mea.pairAt.find adc.val).getD 0
  if s.is MEA_CTRL.BGCAL_EN && decide (last + 10 * 10000 * max 1 (s.get MEA_CTRL.CAL_INT) ≤ s.time) then
    .next (s.raise MEA_FLAGS.CAL_STARVED)
  else .next s

/-- AUTO_ZERO (R203): the tracking converter of a cell that has been OFF, SPARE or SLEEP for 50 us. -/
def execAutoZero (cell : Cell) (s : State) : Result State :=
  let st := s.cellState cell.val
  match (s.cell cell.val).quietAt with
  | some q =>
    if (st = 0 || st = 1 || st = 4) && q + us 50 ≤ s.time then .next (s.setCell cell.val (fun c => { c with zeroed := true }))
    else .next s
  | none => .next s

/-- QCNT_WRITE (R209): a write of `MEA_QCNT` sets the net count. -/
def execQcntWrite (m : Master) (data : Word) (s : State) : Result State :=
  if !s.mayWrite m then .next s
  else .next ({ s with mea := { s.mea with qNet := data.toInt * 1000000 } }.wr MEA_QCNT.addr data)

/-- QCLR (R209): clears the three counts. -/
def execQclr (m : Master) (s : State) : Result State :=
  if !s.mayWrite m then .next s
  else
    let t := { s with mea := { s.mea with qNet := 0, qIn := 0, qOut := 0 } }
    .next (((t.wr MEA_QCNT.addr 0).wr MEA_QIN.addr 0).wr MEA_QOUT.addr 0)

/-- QCNT_SAVE (R210): firmware saves the net count to the Beam. -/
def execQcntSave (s : State) : Result State :=
  if s.fullService then .next { s with beam := { s.beam with charge := s.rd MEA_QCNT.addr } } else .next s

/-- RESULT_FIFO_READ (R13, R206): a read of `MEA_RES_LO` removes the oldest result and latches its time word for the
reading master; an empty FIFO answers channel 0xFF. -/
def execResultFifoRead (m : Master) (s : State) : Result State :=
  if !s.fullService then .next { s with readData := 0 }
  else
    match s.mea.fifo with
    | [] => .next { s with readData := 0xFF#32, latches := s.latches.put (MEA_RES_HI.addr * 8 + m.val) 0 }
    | (code, tag, ch, start, late) :: rest =>
      let hi := BitVec.ofNat 32 (start % 2 ^ 32 / 2 * 2 + if late then 1 else 0)
      let t := { s with mea := { s.mea with fifo := rest }, readData := BitVec.ofNat 32 (code * 65536 + tag * 256 + ch), latches := s.latches.put (MEA_RES_HI.addr * 8 + m.val) hi }
      .next (t.set MEA_STATUS.RES_LEFT rest.length)

end Sys2Proof.Machine
end

