-- ==== Sys2Proof/Machine/Reads.lean ====
section
/-!
DEFINITION. Reads of the address space (R9, R10, R13, R273, R441 to R444): the value of each register and window word, and the reads
that have an effect.
-/

namespace Sys2Proof.Machine

/-- The latched upper word of a master, if it has read the lower word (R13). -/
def State.latched (s : State) (m a : Nat) (live : Word) : Word := (s.latches.find (a * 8 + m)).getD live

/-- A register word with its RESULT field as a master sees it (R444). -/
def State.withResult (s : State) (f : Field) (code : Nat) : Word := f.put code (s.rd f.addr)

/-- The words of the oldest mark and of the oldest result (R186, R206); an empty FIFO answers zero, and channel 0xFF. -/
def State.markWords (s : State) : Word × Word :=
  match s.red.marks with
  | [] => (0, 0)
  | (time, tag, slot) :: rest => (BitVec.ofNat 32 time, BitVec.ofNat 32 (tag * 2 ^ 24 + slot * 2 ^ 16 + rest.length * 256))
def State.resultWords (s : State) : Word × Word :=
  match s.mea.fifo with
  | [] => (0xFF, 0)
  | (code, tag, ch, start, late) :: _ =>
    (BitVec.ofNat 32 (code * 65536 + tag * 256 + ch), BitVec.ofNat 32 (start % 2 ^ 32 / 2 * 2 + if late then 1 else 0))

/-- `SAF_STATUS` to `SAF_NONCE_HI` where a read differs from the stored word (R389, R396, R410, R413). -/
def State.safWord (s : State) (m a : Nat) : Word :=
  let res := fun (reg : Nat) => (s.saf.results.find (8 * reg + m)).getD 0
  if a = SAF_STATUS.addr then SAF_STATUS.FAULTN.put (if s.faultLow then 1 else 0) (s.rd a)
  else if a = SAF_WDG_STAT.addr then SAF_WDG_STAT.INDEX.put (min s.wdgIndex 1310700) (s.rd a)
  else if a = SAF_RST_CMD.addr then s.withResult SAF_RST_CMD.RESULT (res 0)
  else if a = SAF_FAULT_CLR.addr then s.withResult SAF_FAULT_CLR.RESULT (res 1)
  else if a = SAF_PWR_CMD.addr then s.withResult SAF_PWR_CMD.RESULT (res 2)
  else if a = SAF_LC_CMD.addr then s.withResult SAF_LC_CMD.RESULT (res 3)
  else if a = SAF_NONCE_HI.addr then s.latched m a (s.rd a)
  else if a = SAF_DEVID_LO.addr then Config.deviceId.setWidth 32
  else if a = SAF_DEVID_HI.addr then (Config.deviceId >>> 32).setWidth 32
  else if SAF_TOKEN.addr 0 ≤ a then 0
  else s.rd a

/-- Bit i of a word set where a test holds. -/
def maskOf (p : Nat → Bool) (n : Nat) : Nat := (List.range n).foldl (fun acc i => if p i then acc + 2 ^ i else acc) 0

/-- The Loom's registers (`LOM_STATUS` to `LOM_CTXW`, R225 to R232, R248, R249). -/
def State.lomWord (s : State) (m a : Nat) : Word :=
  if a = LOM_STATUS.addr then
    let t := ((s.set LOM_STATUS.SH_EN (maskOf (fun h => !(s.shuttle h).off) 8)).set LOM_STATUS.SH_RUN (maskOf (fun h => (s.shuttle h).ctx.isSome) 8)).set LOM_STATUS.SLOTS s.lom.slots.length
    (t.set LOM_STATUS.READY ((List.range 128).filter (fun c => s.cstate c == 2)).length).rd a
  else if a = LOM_CTX_CMD.addr then
    match s.lom.cmdResult.find m with
    | some (code, c) => LOM_CTX_CMD.LAST_CTX.put c (LOM_CTX_CMD.RESULT.put code 0)
    | none => 0
  else if a = LOM_DMDATA.addr then s.dm.get (4 * s.get LOM_DMADDR.ADDR)
  else if a = LOM_SLOTS0.addr then BitVec.ofNat 32 (maskOf (fun i => (s.lom.slots.find i).isSome) 32)
  else if a = LOM_SLOTS1.addr then BitVec.ofNat 32 (maskOf (fun i => (s.lom.slots.find (32 + i)).isSome) 32)
  else if LOM_CTXW.addr 0 ≤ a && a ≤ LOM_CTXW.addr 31 then s.ctx.get (32 * s.get LOM_CTXSEL.CTX + (a - LOM_CTXW.addr 0) / 4)
  else s.rd a

/-- The job registers (R272 to R287, `JOB_STATUS`); those of a master read zero to the others. -/
def State.jobWord (s : State) (m a : Nat) : Word :=
  if a = JOB_STATUS.addr then
    BitVec.ofNat 32 ((if s.paired then 256 else 0) + ((s.jobs.recs.filter (fun e => e.2.state == 1)).length) % 256)
  else if a = JOB_ASN_HI.addr then s.latched m a (s.rd a)
  else if a = JOB_RELRES.addr then BitVec.ofNat 32 ((s.jobs.relres.find m).getD 0)
  else if 0x1420 ≤ a && a < 0x1440 then if (a - 0x1420) / 8 = m then s.rd a else 0
  else if 0x1440 ≤ a && a < 0x1460 then if (a - 0x1440) / 8 = m then s.rd a else 0
  else if 0x1460 ≤ a && a < 0x1470 then
    if (a - 0x1460) / 4 = m then BitVec.ofNat 32 (maskOf (fun r => (s.job m r).state != 0) 32) else 0
  else if 0x1600 ≤ a && a < 0x1800 then
    if (a - 0x1600) / 0x80 = m then (s.job m ((a - 0x1600) / 4 % 32)).status else 0
  else s.rd a

/-- The host interface, port, pair, Beam, update and test registers where a read differs from the stored word. -/
def State.hostWord (s : State) (m a : Nat) : Word :=
  let upd := fun (reg : Nat) => (s.upd.results.find (8 * reg + m)).getD 0
  if a = HIF_STATUS.addr then HIF_STATUS.I2C_BUSY.put (if s.is HIF_CTRL.I2C_EN then 0 else 1) (HIF_STATUS.SPI_STATUS.put (s.spiStatus false false) (s.rd a))
  else if a = HIF_INT_SRC.addr then BitVec.ofNat 32 s.intSrc
  else if a = SVC_USB_ID.addr then Config.usbId
  else if a = SEL_CMD.addr then s.withResult SEL_CMD.RESULT ((s.sel.results.find m).getD 0)
  else if a = BEM_JSN_HI.addr then s.latched m a (s.rd a)
  else if a = UPD_SESSION.addr then
    UPD_SESSION.KEY.put (if s.session && s.get UPD_STATUS.OWNER = m then s.upd.token else 0) (s.withResult UPD_SESSION.RESULT (upd 0))
  else if a = UPD_CMD.addr then s.withResult UPD_CMD.RESULT (upd 1)
  else if a = UPD_BLOCK.addr then s.withResult UPD_BLOCK.RESULT (upd 2)
  else if a = 0x1F00 || a = 0x1F04 then if s.is SAF_STATUS.TEST_ACT then s.rd a else 0
  else s.rd a

/-- The angle units (`WRP_STAMP_TIME`, `WRP_Tt_STATE`, `RED_MARK_LO`). -/
def State.angleWord (s : State) (m a : Nat) : Word :=
  if a = WRP_STAMP_TIME.addr then BitVec.ofNat 32 ((s.red.stampTimes.find m).getD 0)
  else if a = RED_MARK_LO.addr then s.markWords.1
  else if a = RED_MARK_HI.addr then s.latched m a s.markWords.2
  else
    match (List.range 16).find? (fun t => a == WRP_T_STATE.addr t) with
    | some t => (WRP_T_STATE.ANGLE t).put (s.trackAngle t) (s.rd a)
    | none => s.rd a

/-- The register at an address of 0x0000 to 0x1FFF as a master reads it, without the effects of the read. The USB clock runs while the
port is attached (R37). -/
def State.registerWord (s : State) (m a : Nat) : Word :=
  if s.absentAddr a || (findSpec a).isNone then 0
  else if a = GLB_SYSTIME_LO.addr then BitVec.ofNat 32 s.time
  else if a = GLB_SYSTIME_HI.addr then s.latched m a (BitVec.ofNat 32 (s.time / 2 ^ 32))
  else if a = GLB_CLK.addr then GLB_CLK.USB_LOCK.put (if s.get SVC_STATUS.TC_STATE = 5 || s.get SVC_STATUS.TC_STATE = 6 then 1 else 0) (s.rd a)
  else if a < 0x0100 then s.rd a
  else if a < 0x0200 then s.safWord m a
  else if a < 0x0D00 then s.rd a
  else if a = MEA_RES_LO.addr then s.resultWords.1
  else if a = MEA_RES_HI.addr then s.latched m a s.resultWords.2
  else if a < 0x0E00 then s.rd a
  else if a < 0x1000 then s.angleWord m a
  else if a < 0x1400 then s.lomWord m a
  else if a < 0x1800 then s.jobWord m a
  else s.hostWord m a

/-- The window word at an address from 0x2000 up (R443). -/
def State.windowWord (s : State) (m a : Nat) : Word :=
  if !s.fullService || s.absentAddr a then 0
  else if a < 0x4000 then 0
  else if a < 0x5000 then if (a - 0x4000) / 0x400 = m then s.win.get a else 0
  else if a < 0x5800 then if (a - 0x5000) / 0x200 = m then s.win.get a else 0
  else if a < 0x6000 then 0
  else if a < 0x8000 then if (a - 0x6000) / 0x800 = m then s.win.get a else 0
  else if a < 0xC000 then s.pm.get (s.get LOM_PMPAGE.PAGE * 4096 + (a - 0x8000) / 4)
  else if a < 0xE000 then s.win.get a
  else 0

/-- The word at an address as a master reads it, without the effects of the read. Accesses are aligned words of the 16-bit space
(R9). -/
def State.readWord (s : State) (m a : Nat) : Word :=
  if a % 4 ≠ 0 || 0x10000 ≤ a then 0 else if a < 0x2000 then s.registerWord m a else s.windowWord m a

/-- Addresses whose read consumes or changes state (R249, R444). -/
def consuming (a : Nat) : Bool :=
  a == RED_MARK_LO.addr || a == MEA_RES_LO.addr || a == LOM_DMDATA.addr || (decide (0x1600 ≤ a) && decide (a < 0x1800))

/-- What RDR reads (R261, R444): as M4, without a side effect; a consuming read gives zero. -/
def State.rdrWord (s : State) (a : Nat) : Word := if consuming a then 0 else s.readWord 4 a

/-- The upper word that a read of a lower word latches (R13, R444), with its address. -/
def State.upperOf (s : State) (a : Nat) : Option (Nat × Word) :=
  if a = GLB_SYSTIME_LO.addr then some (GLB_SYSTIME_HI.addr, BitVec.ofNat 32 (s.time / 2 ^ 32))
  else if a = JOB_ASN_LO.addr then some (JOB_ASN_HI.addr, s.rd JOB_ASN_HI.addr)
  else if a = BEM_JSN_LO.addr then some (BEM_JSN_HI.addr, s.rd BEM_JSN_HI.addr)
  else if a = SAF_NONCE_LO.addr then some (SAF_NONCE_HI.addr, s.rd SAF_NONCE_HI.addr)
  else none

/-- Addresses of latched upper words. -/
def isUpper (a : Nat) : Bool :=
  a == GLB_SYSTIME_HI.addr || a == JOB_ASN_HI.addr || a == BEM_JSN_HI.addr || a == SAF_NONCE_HI.addr || a == RED_MARK_HI.addr || a == MEA_RES_HI.addr

/-- A read by a master over its bus (R13, R444): the word, and the machine after the read's effects. A latched upper word serves
one read. A status read answers with the count of reads that it is part of (R286). -/
def State.busRead (s : State) (m : Master) (a : Nat) : Word × State :=
  let v := s.readWord m.val a
  let t :=
    if a = RED_MARK_LO.addr then stateAfter (execMarkFifoRead m s) s
    else if a = MEA_RES_LO.addr then stateAfter (execResultFifoRead m s) s
    else if a = LOM_DMDATA.addr then stateAfter (execDmDataAccess m none s) s
    else if 0x1600 ≤ a && a < 0x1800 && a % 4 = 0 then
      if h : (a - 0x1600) / 0x80 < 4 then stateAfter (execJobStatusRead m ⟨(a - 0x1600) / 0x80, h⟩ ⟨(a - 0x1600) / 4 % 32, Nat.mod_lt _ (by decide)⟩ s) s else s
    else
      match s.upperOf a with
      | some (hi, w) => { s with latches := s.latches.put (hi * 8 + m.val) w }
      | none => if isUpper a then { s with latches := s.latches.erase (a * 8 + m.val) } else s
  let v := if 0x1600 ≤ a && a < 0x1800 && a % 4 = 0 && (a - 0x1600) / 0x80 = m.val then t.readData else v
  (v, { t with readData := v })

/-- LOW_WORD_READ (R13): a read of the lower word of a wide value latches its upper word for the reading master. -/
def execLowWordRead (m : Master) (a : Nat) (s : State) : Result State := .next (s.busRead m a).2

end Sys2Proof.Machine
end

