-- ==== Sys2Proof/Machine/Pair.lean ====
section
/-!
DEFINITION. A pair of twins (chapter 14): the shares, the mirror of the peer's records, adoption after a loss, resynchronization, the
join ramp, the hand-back and the update handover (R366 to R384).
-/

namespace Sys2Proof.Machine

/-! ### Reports and shares -/

/-- A register field that takes a signed number where it fits; the spec states no report of one that does not: a free value. -/
def State.fitZ (s : State) (f : Field) (v : Int) : State :=
  if -(2 ^ (f.width - 1) : Int) ≤ v ∧ v < 2 ^ (f.width - 1) then s.setZ f v
  else
    let (w, t) := s.draw
    t.set f w.toNat

/-- `WEIGHT` as it acts, 1/128 (`SEL_SHARE`). -/
def State.weight (s : State) : Nat := clampN 16 128 (s.get SEL_SHARE.WEIGHT)

/-- I_reg and I_cap of R369, 10 mA: the block that regulates the rail, its current into the rail and its continuous rating. With BYP or
VBUS primary no block regulates. -/
def State.regCurrent (s : State) : Int × Nat :=
  if s.get SRC_STATUS.PRIMARY = 3 then (-(s.blockCurrent .chb), s.get CHB_CAP.CONT)
  else if s.get SRC_STATUS.PRIMARY = 1 then (s.blockCurrent .trk, s.get TRK_CAP.CONT)
  else (0, s.get TRK_CAP.CONT)

/-- V_own of R369, uV. -/
def State.vOwn (s : State) : Int :=
  let p := s.get SRC_STATUS.PRIMARY
  let (i, cap) := s.regCurrent
  if p ≠ 1 && p ≠ 3 then 500000 else clampZ 500000 3000000 (500000 + quot (2000000 * 128 * i) (s.weight * cap : Nat))

/-- Sources qualified on this twin, bit k for code k (R372; log entry 44). -/
def State.qualMask (s : State) : Nat := ([1, 2, 3, 4].filter s.qualified).foldl (fun acc c => acc + 2 ^ c) 0

/-- The HEARTBEAT of now (R359, R361, R364). -/
def State.heartbeatFrame (s : State) : Heartbeat :=
  let (i, cap) := s.regCurrent
  { t1 := s.sel.gotT3, t2 := s.sel.gotAt, t3 := s.time, pairState := s.pairState, service := s.get GLB_REGION.SERVICE, chip := s.chipSafe, region := (s.rd GLB_REGION.addr).toNat, curr := i, cap := cap, weight := s.weight, intended := s.sel.intended, intendedTick := s.sel.intendedTick, jsnHeld := s.beam.peerJsn, quals := s.qualMask }

/-- The HELLO of now (R359, R363). -/
def State.helloFrame (s : State) : Hello :=
  { roleB := s.roleB, feat := s.rd GLB_FEAT.addr, proto := s.get SEL_VER.PROTO, fwver := s.get SEL_VER.FWVER, pairId := s.rd SEL_PAIR_ID.addr, mode := s.get SEL_CTRL.MODE, epoch := s.beam.epoch, jsnOwn := s.beam.jsn, jsnPeer := s.beam.peerJsn }

/-- The state of a pair in steady operation (R365, R371): SHARED, or the STANDBY state of a twin that carries the rail. -/
def State.steadyState (s : State) (carries : Bool) : Nat :=
  if s.get SEL_CTRL.MODE = 2 then (if carries then 3 else 4) else 2

/-- This twin is the one that `ACTIVE_PREF` names (R371). -/
def State.preferred (s : State) : Bool := s.roleB == s.is SEL_CTRL.ACTIVE_PREF

/-! ### The mirror (R373, R376) -/

/-- A job record that the peer reports: one accepted here keeps its owner and its READS, and its END entry is posted here once it is
terminal (R376). -/
def State.peerJob (s : State) (m r : Nat) (j : Job) : State :=
  let old := s.job m r
  let known := old.state != 0 && old.jobId == j.jobId
  let j' : Job := { j with foreign := if known then old.foreign else true, reads := if known then old.reads else 0, committed := true, confirmed := true }
  let t := s.setJob m r j'
  if known && !old.foreign && !terminalState old.state && terminalState j.state then t.post m (completionEntry j' true r) else t

/-- An acceptance of the peer enters the deduplication window, which the pair shares (R288, R373). -/
def State.shareWindow (s : State) (m r : Nat) (j : Job) : State :=
  if j.state < 2 || (s.windowOf m).any (fun e => e.jobId == j.jobId) then s
  else { s with beam := { s.beam with window := s.beam.window.put m ((Accepted.mk j.jobId j.asn r :: s.windowOf m).take 1024) } }

/-- Stores one record of the peer in the mirror part of the Beam (R373); program memory is applied on both twins (R356). -/
def State.storeRecord (s : State) (rec : BeamRecord) : State :=
  match rec with
  | .job m r j =>
    let t := s.setBeam (fun b => { b with mirJobs := b.mirJobs.put (jobKey m r) j })
    (t.peerJob m r j).shareWindow m r j
  | .release m r =>
    (s.setBeam (fun b => { b with mirJobs := b.mirJobs.erase (jobKey m r), jobs := b.jobs.erase (jobKey m r) })).setJob m r {}
  | .commit c x => s.setBeam (fun b => { b with mirCommits := b.mirCommits.put c x })
  | .free c => s.setBeam (fun b => { b with mirCommits := b.mirCommits.erase c })
  | .pmWord i w => { s with pm := s.pm.set i w }
  | .pmLock page on =>
    let f := if page < 32 then LOM_PMLOCK0.LOCK else LOM_PMLOCK1.LOCK
    let t := s.set f (setBitTo (s.get f) (page % 32) on)
    if on then t.savePage page else t.forgetPage page

/-- Notes a record number of the peer as held here (R373). -/
def State.heldJsn (s : State) (jsn : Nat) : State := (s.setBeam (fun b => { b with peerJsn := max b.peerJsn jsn })).jsnReport

/-! ### Adoption (R378) -/

/-- An adopted job record: this twin runs it and posts its END entries. -/
def State.adoptJob (s : State) (key : Nat) (j : Job) : State :=
  let m := key / 32
  let r := key % 32
  let j' := { j with foreign := false, reads := 0 }
  let t := (s.setJob m r j').raise JOB_FLAGS.RESTORED
  let old := s.job m r
  let t := if terminalState j.state && (old.state == 0 || old.foreign) then t.post m (completionEntry j' true r) else t
  t.saveJob m r

/-- An adopted context with its committed data words (R246, R378). -/
def State.adoptContext (s : State) (c : Nat) (x : Commit) : State :=
  let put := fun (m : WordMap) => x.dm.foldl (fun (acc : WordMap) e => acc.set e.1 e.2) m
  let t := { s with dm := put s.dm }
  let t := t.restoreContext c x true
  let t := t.setBeam (fun b => { b with commits := b.commits.put c x, dm := put b.dm })
  t.journal (.commit c x)

/-- Adopts the peer's work from the mirror (R378): the EPOCH, the jobs, the contexts with their picks and pair-wide orders, and the
time master's duty. -/
def State.adoptPeer (s : State) : State :=
  let t := (s.setBeam (fun b => { b with epoch := b.epoch + 1 })).mark SEL_STATUS.TIME_MASTER true
  let t := t.each t.beam.mirJobs (fun e u => u.adoptJob e.1 e.2)
  let t := t.each t.beam.mirCommits (fun e u => u.adoptContext e.1 e.2)
  t.setBeam (fun b => { b with mirJobs := [], mirCommits := [] })

/-! ### The trunk of a joining twin (R379, R382) -/

/-- The fitted active-set cells of the trunk start together, pre-biased, and the intended source carries the rail here (R372, R382). -/
def State.startTrunk (s : State) : State :=
  let t := { s with sel := { s.sel with idleTrunk := false } }
  let t := t.each ((t.activeSet .trk).filter (fun n => t.fitted n && !t.switching n && t.cellState n != 5 && t.cellState n != 6)) (fun n u => u.sleepCell n .shed)
  let t := t.report .trk
  let c := if t.sel.intended == 0 then t.firstSource.getD 0 else t.sel.intended
  let p := t.get SRC_STATUS.PRIMARY
  if p == 1 then t.wakeBlock .trk
  else if p == 0 && t.qualified c then (t.turnOn c t.railV).becamePrimary c else t

/-- The join ramp starts (R382): the limit rises from zero to this twin's share of the rail current. -/
def State.startJoin (s : State) : State :=
  let t := s.startTrunk
  let (own, cap) := t.regCurrent
  let rail := own + t.getZ SEL_PEER_I.CURR
  let dest := quot (rail * (t.weight * cap : Nat)) (t.weight * cap + t.sel.peerWeight * t.get SEL_PEER_I.CAP : Nat)
  { t with sel := { t.sel with joinStart := some t.time, joinTo := dest.toNat, joinRetryAt := none } }

/-! ### Thawing and loss (R371, R377, R384, R385) -/

/-- Contexts that an update or a handover froze run on (R247, R385). -/
def State.thawUpdate (s : State) : State :=
  s.each (List.range 128) (fun c u =>
    if (u.context c).frozenUpdate then
      (u.setContext c (fun x => { x with frozenUpdate := false, freezeAt := if x.frozenControl || x.frozenOwner then x.freezeAt else none })).unsuspend c
    else u)

/-- The running `update_handover` ends without its peer (R384, R385): its contexts thaw, the trunk runs on and the job traps. -/
def State.dropHandover (s : State) : State :=
  match s.sel.handover with
  | none => s
  | some (m, r) =>
    let t := { s with sel := { s.sel with handover := none, outStart := none, released := false, sentAll := false } }
    let t := t.thawUpdate
    let t := if t.get SRC_STATUS.PRIMARY = 1 then t.wakeBlock .trk else t
    t.trap (t.job m r).ctx 0x10 0x0105

/-- A twin that returned and lost its peer before the hand-back resumes its own contexts (R378, R385; log entry 45). -/
def State.resumeOwn (s : State) : State :=
  s.each (s.beam.commits.filter (fun e => !(s.beam.mirCommits.any (fun q => q.1 == e.1)) && (s.context e.1).job.isNone))
    (fun e u => u.restoreContext e.1 e.2 true)

/-- The peer is declared lost (R377) with its `LOSS` code, or detached: the link is down while the peer drives the rail. -/
def State.losePeer (s : State) (cause : Nat) (detached : Bool) : State :=
  if !s.peerLive then s
  else
    let e := s.sel
    let idle := s.pairState = 4
    let ref := s.refOf .trk
    let t := (s.mark SEL_STATUS.PEER_LIVE false).set SEL_STATUS.LOSS cause
    let t := ((t.wr SEL_LOSS_TIME.addr (BitVec.ofNat 32 t.time)).raise SEL_FLAGS.PEER_LOST).setFault 20
    let t := { t with sel := { t.sel with acks := [], unacked := [], waiting := [], resends := 0, probeAt := none, probeLost := none, joinStart := none, joinRetryAt := none } }
    let t := (t.set BEM_STATUS.MIRROR 3).set SEL_STATUS.PAIR_STATE (if detached then 8 else 7)
    let t := t.each ((List.range 16).filter (fun k => t.get (WRP_T_CFG.SRC k) == 3)) (fun k u => u.loseTrack k false)
    let t := if t.upd.pushing.isSome then (t.setUpd (fun u => { u with pushing := none })).raise UPD_FLAGS.PUSH_FAIL else t
    let t := t.dropHandover
    let t := if e.handBack then t.thawUpdate else t
    -- R371: the reference of the idle twin slews from its standby level to v_ref
    let t := if idle then t.setFleet .trk (fun f => { f with vref := ref, returning := true }) else t
    let t := if t.sel.idleTrunk then t.startTrunk else t
    let done := t.sel.adopted
    let wasBack := t.sel.returning
    let t := { t with sel := { t.sel with returning := false, peerUpdates := false, adopted := false, handBack := false, backReady := false, sentAll := false } }
    if detached then t
    else
      let t := if wasBack then t.resumeOwn else t
      if done then t.mark SEL_STATUS.TIME_MASTER true else t.adoptPeer

/-! ### Rejoin (R381) -/

/-- The records that the peer lacks, in the order of their numbers (R381); locked program pages come first. -/
def State.lacking (s : State) (held : Nat) : List (Nat × BeamRecord) :=
  let b := s.beam
  let pages := b.pages.map (fun e => (0, BeamRecord.pmWord e.1 e.2)) ++ b.lockedPages.map (fun p => (0, BeamRecord.pmLock p true))
  let jobs := (b.jobJsn.filter (fun e => decide (held < e.2))).map (fun e =>
    (e.2, match b.jobs.find e.1 with
      | some j => BeamRecord.job (e.1 / 32) (e.1 % 32) j
      | none => BeamRecord.release (e.1 / 32) (e.1 % 32)))
  let ctxs := (b.commitJsn.filter (fun e => decide (held < e.2))).map (fun e =>
    (e.2, match b.commits.find e.1 with
      | some x => BeamRecord.commit e.1 x
      | none => BeamRecord.free e.1))
  pages ++ (jobs ++ ctxs).foldl (fun (acc : Store BeamRecord) e => Store.insert acc e.1 e.2) []

/-- Sends in RESYNC frames what the peer lacks (R381). -/
def State.sendResync (s : State) (held : Nat) : State :=
  let l := s.lacking held
  (List.range l.length).foldl (fun (t : State) i =>
    match l[i]? with
    | some e => t.transmit (.resync e.1 e.2 (l.length - 1 - i))
    | none => t) s

/-- The returning twin discards its own records beyond those that the authoritative twin holds (R381). -/
def State.discardBeyond (s : State) (held : Nat) : State :=
  let b := s.beam
  let jobs := (b.jobJsn.filter (fun e => decide (held < e.2) && (b.jobs.find e.1).isSome)).map (fun e => e.1)
  let ctxs := (b.commitJsn.filter (fun e => decide (held < e.2) && (b.commits.find e.1).isSome)).map (fun e => e.1)
  let t := s.each jobs (fun k u => (u.setBeam (fun x => { x with jobs := x.jobs.erase k })).setJob (k / 32) (k % 32) {})
  let t := t.setBeam (fun x => { x with commits := x.commits.filter (fun e => !(ctxs.contains e.1)) })
  if jobs.isEmpty && ctxs.isEmpty then t else t.raise BEM_FLAGS.DISCARDED

/-- The returning twin's own contexts stop: the peer has adopted them, and reports their jobs from now on (R378, R381; log entry 45). -/
def State.stopOwn (s : State) : State :=
  let t := s.each ((List.range 128).filter (fun c => c != 0 && s.cstate c != 0)) (fun c u => u.stopContext c)
  { t with jobs := { t.jobs with recs := t.jobs.recs.map (fun e => (e.1, { e.2 with foreign := true })) } }

/-- This twin has caught up with the peer's records (R381): RESYNC_DONE; a returning twin joins (R382), the other goes into steady
operation. -/
def State.resyncDone (s : State) : State :=
  if s.pairState ≠ 1 then s
  else
    let t := (s.raise BEM_FLAGS.RESYNC_DONE).set BEM_RESYNC.LEFT 0
    if t.sel.returning || t.sel.idleTrunk then
      let u := (t.set SEL_STATUS.PAIR_STATE 5).set BEM_STATUS.MIRROR 1
      if u.get SEL_CTRL.MODE = 2 then (u.startTrunk).transmit (.handover .ready) else u.startJoin
    else if t.sel.peerEpoch < t.beam.epoch then t
    else (t.set SEL_STATUS.PAIR_STATE (t.steadyState t.preferred)).set BEM_STATUS.MIRROR 1

/-- The first check of R363 that fails; 0 for none. -/
def State.pairError (s : State) (h : Hello) : Nat :=
  let o := s.helloFrame
  if o.roleB == h.roleB then 1 else if o.feat != h.feat then 2 else if o.proto != h.proto then 3
  else if o.pairId != h.pairId then 4 else if o.mode != h.mode then 5 else 0

/-- The twins pair (R363, R364, R381): a `SYSTIME` more than 1 us behind steps forward, role A is the time master, `SPLIT` and `PAIR_ID`
come into force, and resynchronization starts. -/
def State.pairUp (s : State) (h : Hello) : State :=
  let theta := s.sel.theta
  let t := if 1000 < theta then ({ s with time := s.time + (theta / 10).toNat } : State).raise SEL_FLAGS.TIME_STEP else s
  let t := ((t.mark SEL_STATUS.PEER_LIVE true).raise SEL_FLAGS.PAIRED).set SEL_STATUS.PAIR_STATE 1
  let t := ((t.mark SEL_STATUS.TIME_MASTER (!t.roleB)).set BEM_STATUS.MIRROR 2).set SEL_STATUS.PAIR_ERR 0
  let t := (t.wr BEM_RESYNC.addr 0).transmitNow (.hello t.helloFrame)
  let behind := t.beam.epoch < h.epoch
  let t := { t with sel := { t.sel with lastFrame := some t.time, split := t.get SEL_CTRL.SPLIT, pairId := t.rd SEL_PAIR_ID.addr, peerEpoch := h.epoch, returning := behind, joinTries := 0, aTrim := 0, dTrim := 0, adopted := false, peerUpdates := false, released := false } }
  let t := if behind then (t.discardBeyond h.jsnPeer).stopOwn else t.sendResync h.jsnPeer
  if h.epoch < t.beam.epoch || h.jsnOwn ≤ t.beam.peerJsn then t.resyncDone else t

/-! ### Hand-back and update handover (R383, R384) -/

/-- A context does not run now: it is frozen, shed, idle, trapped or free. -/
def State.quiet (s : State) (c : Nat) : Bool :=
  let k := s.cstate c
  k == 0 || k == 1 || k == 6 || k == 7 || k == 8

/-- Freezes contexts for a hand-back or a handover (R247). -/
def State.freezeFor (s : State) (l : List Nat) : State :=
  s.each l (fun c u => if u.cstate c = 0 then u else (u.setContext c (fun x => { x with frozenUpdate := true })).freezeSoon c)

/-- The pick slots of a context's committed state with their present words. -/
def State.picksNow (s : State) (c : Nat) (x : Commit) : List (Nat × Word × Word × Word × Word) :=
  let w := fun p k => s.win.get (pickAddr p k)
  x.picks.map (fun p => if (s.context c).picks.contains p.1 then (p.1, w p.1 0, w p.1 1, w p.1 2, w p.1 3) else p)

/-- Sends the committed state of contexts with the jobs of their work in HANDOVER frames, and parts with them: they stand in the
mirror, and their pick slots are disarmed. -/
def State.handOver (s : State) (l : List Nat) : State :=
  let mine := s.beam.commits.filter (fun e => l.contains e.1)
  let jobs := s.jobs.recs.filter (fun e => l.contains e.2.ctx && !terminalState e.2.state)
  let t := s.each mine (fun e u => u.transmit (.handover (.context e.1 { e.2 with picks := u.picksNow e.1 e.2 })))
  let t := t.each jobs (fun e u => u.transmit (.handover (.job (e.1 / 32) (e.1 % 32) e.2)))
  let t := t.each l (fun c u => u.each (u.context c).picks (fun p v => v.disarmPick p))
  let t := t.each (l.filter (fun c => t.cstate c != 0)) (fun c u => (u.stopContext c).setContext c (fun _ => {}))
  let t := t.setBeam (fun b => { b with mirCommits := mine.foldl (fun (acc : Store Commit) e => acc.put e.1 e.2) b.mirCommits, commits := b.commits.filter (fun e => !(l.contains e.1)) })
  t

end Sys2Proof.Machine
end

