-- ==== Sys2Proof/Machine/Twin.lean ====
section
/-!
DEFINITION. The commands of the Selvedge link and of the pair (R357 to R387).
-/

namespace Sys2Proof.Machine

/-! ### The link (R357 to R362) -/

/-- LINK_UP (R357): 64 consecutive valid symbols; the link runs in full service in RUN, LIGHT and STANDBY. -/
def execLinkUp (s : State) : Result State :=
  if s.linkRuns && !s.linkUp then .next ((s.set SEL_STATUS.LINK 2).mark GLB_CLK.SELV_LOCK true) else .next s

/-- LINK_DOWN (R357): the receiver loses the SELV clock. -/
def execLinkDown (s : State) : Result State :=
  if s.hasSel then .next ((s.set SEL_STATUS.LINK 0).mark GLB_CLK.SELV_LOCK false) else .next s

/-- HEARTBEAT_SEND (R361): every 10 us on a twin that is not SOLO. -/
def execHeartbeatSend (s : State) : Result State :=
  if s.linkRuns && s.linkUp && !s.soloMode then .next (s.transmitNow (.heartbeat s.heartbeatFrame)) else .next s

/-- HELLO_SEND (R363): once per second while the link is up and the twins are not paired. -/
def execHelloSend (s : State) : Result State :=
  if s.linkRuns && s.linkUp && !s.soloMode && !s.peerLive then .next (s.transmitNow (.hello s.helloFrame)) else .next s

/-- RETRANSMIT_TIMEOUT (R360): the oldest unacknowledged frame is 40 us old. -/
def execRetransmitTimeout (s : State) : Result State :=
  match s.sel.unacked with
  | [] => .next s
  | u :: _ => if s.linkUp && u.at_ + us 40 ≤ s.time then .next s.resendAll else .next s

/-! ### Time and liveness (R361, R364, R365) -/

/-- The time transfer of R364: theta in ns and the round trip; role B of a pair, which is not the time master, leaves a count out or adds
one. -/
def State.timeTransfer (s : State) (h : Heartbeat) : State :=
  let t := { s with sel := { s.sel with gotT3 := h.t3, gotAt := s.time } }
  if h.t1 = 0 then t
  else
    let there : Int := (h.t2 : Int) - h.t1
    let back : Int := (s.time : Int) - h.t3
    let theta := 5 * (there - back)
    let rtt : Int := 10 * (there + back)
    let t := { t with sel := { t.sel with theta := theta } }
    let t := (t.fitZ SEL_TIME.OFFSET theta).set SEL_TIME.RTT (clampZ 0 65535 rtt).toNat
    if t.paired && t.roleB && !t.is SEL_STATUS.TIME_MASTER then
      if 10 ≤ theta && t.time % 100 < 99 then { t with time := t.time + 1 }
      else if theta ≤ -10 then { t with sel := { t.sel with slow := true } }
      else t
    else t

/-- What the peer's pair state means here (R365, R384): its `update_handover`, and the end of resynchronization. -/
def State.followPeer (s : State) (peer : Nat) : State :=
  let ps := s.pairState
  let steady := peer == 2 || peer == 3 || peer == 4
  if peer = 6 && 2 ≤ ps && ps ≤ 4 then
    ({ s with sel := { s.sel with peerUpdates := true, matched := 0 } } : State).set SEL_STATUS.PAIR_STATE 6
  else if ps = 6 && s.sel.peerUpdates && !s.sel.adopted && steady then
    ({ s with sel := { s.sel with peerUpdates := false } } : State).set SEL_STATUS.PAIR_STATE (s.steadyState (peer != 3))
  else if ps = 1 && !s.sel.returning && !s.sel.idleTrunk then
    if peer = 5 then (s.set SEL_STATUS.PAIR_STATE 5).set BEM_STATUS.MIRROR 1
    else if steady then (s.set SEL_STATUS.PAIR_STATE (s.steadyState (peer != 3))).set BEM_STATUS.MIRROR 1
    else s
  else s

/-- HEARTBEAT (R358, R361, R364, R372): time transfer, the peer's reports and role A's choice of the source. -/
def execHeartbeat (hdr : FrameHdr) (h : Heartbeat) (s : State) : Result State :=
  .next (s.receive hdr false (fun t =>
    let t := t.timeTransfer h
    let t := ((t.set SEL_STATUS.PEER_STATE h.pairState).set SEL_STATUS.PEER_SERVICE h.service).mark SEL_STATUS.PEER_CHIP h.chip
    let t := (t.fitZ SEL_PEER_I.CURR h.curr).set SEL_PEER_I.CAP h.cap
    let t := { t with sel := { t.sel with peerWeight := h.weight, peerQuals := h.quals, peerJsnHeld := h.jsnHeld } }
    let t := if t.roleB && t.peerLive then { t with sel := { t.sel with intended := h.intended, intendedTick := h.intendedTick } } else t
    if t.peerLive then t.followPeer h.pairState else t))

/-- HELLO (R363): the checks of pairing; a HELLO that pairs is answered with one (log entry 46). -/
def execHello (hdr : FrameHdr) (h : Hello) (s : State) : Result State :=
  .next (s.receive hdr false (fun t =>
    if t.soloMode || t.peerLive then t
    else
      let t := ((t.set SEL_PEER.VARIANT (h.feat.toNat / 65536 % 256)).set SEL_PEER.PROTO h.proto).set SEL_PEER.FWVER h.fwver
      let e := t.pairError h
      if e ≠ 0 then ((t.set SEL_STATUS.PAIR_ERR e).raise SEL_FLAGS.PAIR_FAIL).set SEL_STATUS.PAIR_STATE (if t.pairState = 8 then 8 else 7)
      else t.pairUp h))

/-! ### Loss (R377) -/

/-- NOTICE_RESET (R377): the peer resets. -/
def execNoticeReset (hdr : FrameHdr) (_kind : Nat) (s : State) : Result State := .next (s.receive hdr false (fun t => t.losePeer 2 false))

/-- NOTICE_SAFE (R377): the peer is in its chip safe state. -/
def execNoticeSafe (hdr : FrameHdr) (s : State) : Result State := .next (s.receive hdr false (fun t => t.losePeer 3 false))

/-- NOTICE_LEAVE (R377). -/
def execNoticeLeave (hdr : FrameHdr) (s : State) : Result State := .next (s.receive hdr false (fun t => t.losePeer 4 false))

/-- SHARE_PROBE_START (R377): role A probes 20 us after the last valid frame, role B after 35 us; the trim of R370 rests. -/
def execShareProbeStart (s : State) : Result State :=
  match s.sel.lastFrame with
  | some t0 =>
    if s.peerLive && s.sel.probeAt.isNone && s.sel.probeLost.isNone && t0 + us (if s.roleB then 35 else 20) ≤ s.time then
      .next { s with sel := { s.sel with probeAt := some s.time } }
    else .next s
  | none => .next s

/-- SHARE_PROBE_END (R377): after 10 us at 3.300 V the bus reads `mv`; from 3.180 V on no peer drives it. -/
def execShareProbeEnd (mv : Nat) (s : State) : Result State :=
  match s.sel.probeAt with
  | some t0 =>
    if t0 + us 10 ≤ s.time then .next { s with sel := { s.sel with probeAt := none, probeLost := some (decide (3180 ≤ mv)) } }
    else .next s
  | none => .next s

/-- PEER_SILENCE (R377): 50 us without a valid frame; by the probe the peer is lost, or the twin is DETACHED. -/
def execPeerSilence (s : State) : Result State :=
  match s.sel.lastFrame, s.sel.probeLost with
  | some t0, some gone =>
    if t0 + us 50 ≤ s.time then .next (if gone then s.losePeer 1 false else s.losePeer 5 true) else .next s
  | _, _ => .next s

/-! ### Orders, records and jobs of the peer (R367, R368, R373 to R376) -/

/-- RESET_REQ (R380): a twin-commanded reset, where the identity matches and `PEER_RST_EN` is 1. -/
def execResetReq (hdr : FrameHdr) (pairId : Word) (s : State) : Result State :=
  .next (s.receive hdr false (fun t =>
    if pairId = t.rd SEL_PAIR_ID.addr && t.is SEL_CTRL.PEER_RST_EN then t.requestReset 6 0 else t))

/-- The tick that a frame of the peer enters: its own, or the next where that has begun (R367). -/
def State.frameTick (s : State) (tick : Nat) : Nat × State :=
  if tick ≤ s.tickNow then (s.tickNow + 1, s.raise SEL_FLAGS.ORDER_LATE) else (tick, s)

/-- ORDER (R367, R368, R387): an order of the peer on a pair-wide target; M4 of the peer acts as M3. -/
def execOrder (hdr : FrameHdr) (w : PairWrite) (s : State) : Result State :=
  .next (s.receive hdr true (fun t =>
    match w with
    | .order o =>
      let (k, t) := t.frameTick o.tick
      if pairWide o.target then t.queueOrder { o with tick := k, master := min o.master 3, slot := none, job := 0 } else t
    | .mode tick data =>
      let (k, t) := t.frameTick tick
      { t with sel := { t.sel with modeAt := t.sel.modeAt ++ [(k, data)] } }))

/-- STAMP (R178). -/
def execStamp (hdr : FrameHdr) (t angle at_ : Nat) (s : State) : Result State :=
  .next (s.receive hdr true (fun u => if u.warpRuns then u.twinStamp t angle (at_ % 2 ^ 32) else u))

/-- COMMIT_ACK (R374, R375): the peer has committed a record, or refuses an acceptance: the job ends DUPLICATE. -/
def execCommitAck (hdr : FrameHdr) (jsn : Nat) (refused : Bool) (s : State) : Result State :=
  .next (s.receive hdr true (fun t =>
    match t.sel.acks.find jsn with
    | none => t
    | some rec =>
      let t := { t with sel := { t.sel with acks := t.sel.acks.erase jsn } }
      let t := (t.setBeam (fun b => { b with ackedJsn := max b.ackedJsn jsn })).jsnReport
      match rec with
      | .job m r j =>
        let own := t.job m r
        if own.state ≠ 1 || own.jobId ≠ j.jobId then t
        else if !refused then t.setJob m r { own with confirmed := true }
        else
          let t := (t.setJob m r {}).raise BEM_FLAGS.DUP_RACE
          match t.beam.mirJobs.find? (fun e => e.1 / 32 == m && e.2.jobId == j.jobId) with
          | some e => t.postAck m { own with state := 11, asn := e.2.asn } (e.1 % 32)
          | none => t.postAck m { own with state := 11 } 0x3F
      | _ => t))

/-- A record of the peer races an acceptance of this twin (R375). -/
def State.races (s : State) (rec : BeamRecord) : Bool :=
  match rec with
  | .job m r j => (List.range 32).any (fun q => q != r && (s.job m q).state != 0 && !(s.job m q).foreign && (s.job m q).jobId == j.jobId)
  | _ => false

/-- MIRROR (R373, R375): one record of the peer, committed here and acknowledged; role A refuses a racing acceptance. -/
def execMirror (hdr : FrameHdr) (jsn : Nat) (rec : BeamRecord) (s : State) : Result State :=
  .next (s.receive hdr true (fun t =>
    let race := t.races rec
    let t := if race then t.raise BEM_FLAGS.DUP_RACE else t
    if race && !t.roleB then (t.heldJsn jsn).transmit (.commitAck jsn true)
    else ((t.storeRecord rec).heldJsn jsn).transmit (.commitAck jsn false)))

/-- STATE (R376): the state and result of a job that the peer runs. -/
def execState (hdr : FrameHdr) (m r : Nat) (job : Job) (s : State) : Result State := .next (s.receive hdr true (fun t => t.peerJob m r job))

/-- SUBMIT (R272, R368): SEL puts a descriptor into the ring of M3; a full ring ignores it with SQ_BAD. -/
def execSubmit (hdr : FrameHdr) (words : List Word) (s : State) : Result State :=
  .next (s.receive hdr true (fun t =>
    let tail := t.get (JOB_SQ.TAIL 3)
    if (tail + 64 - t.get (JOB_SQ.HEAD 3)) % 64 = 32 then t.raise JOB_FLAGS.SQ_BAD
    else
      let t := t.each (List.range 8) (fun k u => u.putWin (0x4C00 + 0x20 * (tail % 32) + 4 * k) (words.getD k 0))
      t.set (JOB_SQ.TAIL 3) ((tail + 1) % 64)))

/-- RESYNC (R381): a record that this twin lacks, with the number still to come. -/
def execResync (hdr : FrameHdr) (jsn : Nat) (rec : BeamRecord) (left : Nat) (s : State) : Result State :=
  .next (s.receive hdr true (fun t =>
    let t := (t.storeRecord rec).heldJsn jsn
    let t := (t.countSat BEM_RESYNC.DONE).set BEM_RESYNC.LEFT (min left 65535)
    if left = 0 then t.resyncDone else t))

/-! ### Hand-back and update handover (R383, R384) -/

/-- The contexts homed on the peer. -/
def State.peerHomes (s : State) : List Nat := (List.range 128).filter s.homedAway

/-- The contexts homed on this twin other than context 0 and one that stays. -/
def State.ownHomes (s : State) (except : Nat) : List Nat := (List.range 128).filter (fun c => c != 0 && c != except && !s.homedAway c)

/-- The state of a LOCKED track as it is sent (R384). -/
def State.trackItem (s : State) (t : Nat) : HandoverItem :=
  .track t (s.rd (WRP_T_CFG.addr t)) (s.trackAngle t) (s.track t).wNum (s.track t).wDen s.time

/-- A track of the peer (R384): an ACQUIRING one of identical configuration takes its angle and speed and locks; a differing
configuration sets TRACK_MISMATCH. -/
def State.takeTrack (s : State) (t : Nat) (cfg : Word) (angle num den at_ : Nat) : State :=
  if s.rd (WRP_T_CFG.addr t) ≠ cfg then s.raise SEL_FLAGS.TRACK_MISMATCH
  else if s.trackState t = 1 then
    let u := s.setTrack t (fun x => { x with wNum := num, wDen := den, times := [4 * at_], stamp := angle })
    let u := u.enterLock t (4 * at_) angle
    { u with sel := { u.sel with matched := setBitTo u.sel.matched t true } }
  else s

/-- A context received by HANDOVER: of the returning twin's own in a hand-back, else of the peer that updates. -/
def State.receiveContext (s : State) (c : Nat) (x : Commit) : State :=
  if s.pairState = 5 then (s.setBeam (fun b => { b with commits := b.commits.put c x, mirCommits := b.mirCommits.erase c })).journal (.commit c x)
  else s.setBeam (fun b => { b with mirCommits := b.mirCommits.put c x })

/-- The peer has sent everything of its `update_handover`: its work is adopted, and the adoption acknowledged (R384). -/
def State.takeOver (s : State) : State :=
  let t := s.adoptPeer
  let t := ({ t with sel := { t.sel with adopted := true } } : State).raise SEL_FLAGS.HANDOVER_DONE
  t.transmit (.handover (.done t.sel.matched))

/-- `update_handover` completes on the twin that is to be updated (R384): its result, and the reset for activation. -/
def State.finishHandover (s : State) (m r matched : Nat) : State :=
  let t := { s with sel := { s.sel with handover := none } }
  let t := t.raise SEL_FLAGS.HANDOVER_DONE
  let blk := [BitVec.ofNat 32 t.sel.sentCtx, BitVec.ofNat 32 t.sel.sentPicks, BitVec.ofNat 32 matched, BitVec.ofNat 32 t.beam.jsn]
  ((t.romEnd m r 5 0 blk).setPending).requestReset 5 8

/-- The hand-back is complete: both twins are in steady operation (R383). -/
def State.rejoined (s : State) (carries : Bool) : State :=
  let t := { s with sel := { s.sel with handBack := false, backReady := false, sentAll := false, returning := false } }
  ((t.raise SEL_FLAGS.REJOINED).set SEL_STATUS.PAIR_STATE (t.steadyState carries)).set BEM_STATUS.MIRROR 1

/-- HANDOVER (R383, R384). -/
def execHandover (hdr : FrameHdr) (item : HandoverItem) (s : State) : Result State :=
  .next (s.receive hdr true (fun t =>
    if !t.peerLive then t
    else
      match item with
      | .ready => ({ t with sel := { t.sel with handBack := true, sentAll := false } } : State).freezeFor t.peerHomes
      | .context c x => t.receiveContext c x
      | .job m r j => if t.pairState = 5 then ((t.peerJob m r j).setBeam (fun b => { b with jobs := b.jobs.put (jobKey m r) j })) else t.storeRecord (.job m r j)
      | .track k cfg angle num den at_ => if k < 16 && t.warpRuns then t.takeTrack k cfg angle num den at_ else t
      | .last _ _ update => if update then t.takeOver else { t with sel := { t.sel with backReady := true } }
      | .done matched =>
        match t.sel.handover with
        | some (m, r) => t.finishHandover m r matched
        | none => if t.sel.handBack then t.rejoined true else t))

/-- HAND_BACK_DONE (R383): every frame of the hand-back is here; the returning twin resumes its contexts by R246. -/
def execHandBackDone (s : State) : Result State :=
  if !s.sel.backReady || s.pairState ≠ 5 then .next s
  else
    let t := s.each (s.beam.commits.filter (fun e => !s.homedAway e.1)) (fun e u => u.restoreContext e.1 e.2 false)
    .next ((t.rejoined false).transmit (.handover (.done 0)))

/-- The carrying twin sends its hand-back once the contexts homed on the peer have frozen (R383). -/
def State.handBackTick (s : State) : State :=
  if !s.sel.handBack || s.sel.sentAll || !s.peerLive || !(s.peerHomes.all s.quiet) then s
  else
    let n := (s.beam.commits.filter (fun e => s.homedAway e.1)).length
    let t := (s.handOver s.peerHomes).transmit (.handover (.last n 0 false))
    { t with sel := { t.sel with sentAll := true } }

/-- `update_handover` after its start (R384): the share-out ends after 64 switching periods, then the contexts freeze, and their state goes
to the peer once they have. -/
def State.handoverTick (s : State) : State :=
  match s.sel.handover with
  | none => s
  | some (m, r) =>
    let c := (s.job m r).ctx
    match s.sel.outStart with
    | some t0 =>
      if s.time < t0 + s.rampPeriod then s
      else
        let t := { s with sel := { s.sel with outStart := none, released := true } }
        let t := if t.get SRC_STATUS.PRIMARY = 1 then t.restBlock .trk else t
        t.freezeFor (t.ownHomes c)
    | none =>
      if s.sel.sentAll || !((s.ownHomes c).all s.quiet) then s
      else
        let l := s.ownHomes c
        let n := (s.beam.commits.filter (fun e => l.contains e.1)).length
        let picks := (l.map (fun q => (s.context q).picks.length)).foldl (fun a b => a + b) 0
        let t := (s.handOver l).each ((List.range 16).filter (fun k => s.trackState k == 2)) (fun k u => u.transmit (.handover (u.trackItem k)))
        let t := { t with sel := { t.sel with sentAll := true, sentCtx := n, sentPicks := picks } }
        t.transmit (.handover (.last n picks true))

/-! ### The push of an image (R427) -/

/-- The words of block n of STAGING. -/
def State.stagingBlock (s : State) (n : Nat) : List Word := (List.range 1024).map (fun k => s.upd.staging.words.get (1024 * n + k))

/-- The peer has taken what was pushed last: the next block, the end, or PUSH_DONE (R427). -/
def State.pushNext (s : State) (ok : Bool) : State :=
  match s.upd.pushing with
  | none => s
  | some k =>
    let total := ceilDiv s.beam.size 4096
    if !ok then (s.setUpd (fun u => { u with pushing := none })).raise UPD_FLAGS.PUSH_FAIL
    else if total < k then (s.setUpd (fun u => { u with pushing := none })).raise UPD_FLAGS.PUSH_DONE
    else (s.setUpd (fun u => { u with pushing := some (k + 1) })).transmit (.update (if k < total then .block k (s.stagingBlock k) else .finish))

/-- UPDATE (R427): image data of a push, and its answers. -/
def execUpdate (hdr : FrameHdr) (item : UpdateItem) (s : State) : Result State :=
  .next (s.receive hdr true (fun t =>
    let mine := t.session && t.get UPD_STATUS.OWNER == 3
    match item with
    | .answer ok => t.pushNext ok
    | .start _ =>
      let r := t.askSession 3
      r.1.transmit (.update (.answer r.2))
    | .block n words =>
      if !mine then t.transmit (.update (.answer false))
      else
        let r := t.takeBlock n words
        if r.2 = 0 && r.1.upd.programming.isSome then r.1 else r.1.transmit (.update (.answer (r.2 == 0)))
    | .finish =>
      let r := if mine then t.complete else (t, false)
      (r.1.onlyIf mine (fun u => u.endSession)).transmit (.update (.answer r.2))))

/-! ### Load sharing (R369 to R371, R379) -/

/-- The trims act: SHARED or ALONE operation with a block that regulates the rail, and `SHARE` driven (R369 to R371). -/
def State.trimming (s : State) : Bool :=
  let p := s.get SRC_STATUS.PRIMARY
  let ps := s.pairState
  s.hasSel && s.fullService && !s.chipSafe && ps != 0 && ps != 3 && ps != 4 && s.get SEL_CTRL.MODE != 2 && (p == 1 || p == 3) &&
    s.sel.joinStart.isNone && !s.sel.released && !s.sel.idleTrunk

/-- Reports the trims; SHARE_SAT is set when their sum has stayed at the clamp for 1 ms (R370). -/
def State.trimReport (s : State) : State :=
  let span : Int := 1000 * (clampN 0 100 (s.get SEL_SHARE.TRIM_SPAN))
  let sum := s.sel.aTrim + s.sel.dTrim
  let at_ := decide (span ≤ sum) || decide (sum ≤ -span)
  let since := if at_ then some (s.sel.satSince.getD s.time) else none
  let t := { s with sel := { s.sel with satSince := since } }
  let t := (t.fitZ SEL_SHARE_ST.ATRIM (quot t.sel.aTrim 1000)).fitZ SEL_SHARE_ST.DTRIM (quot t.sel.dTrim 1000)
  match since with
  | some t0 => if t0 + ms 1 ≤ t.time then t.raise SEL_FLAGS.SHARE_SAT else t
  | none => t

/-- SHARE_TRIM_ANALOG (R370): every 1 us, with the bus at `vshare` mV; the trim rests during a probe and at zero where none acts. -/
def execShareTrimAnalog (vshare : Nat) (s : State) : Result State :=
  if !s.hasSel || !s.fullService then .next s
  else
    let t := s.set SEL_SHARE_ST.VSHARE vshare
    if !t.trimming then .next (({ t with sel := { t.sel with aTrim := 0, dTrim := 0 } } : State).trimReport)
    else if t.sel.probeAt.isSome then .next t
    else
      let g : Int := max 1 (t.get SEL_SHARE.AGAIN)
      let a := t.sel.aTrim + quot (g * (1000 * (vshare : Int) - t.vOwn)) 1000
      .next (({ t with sel := { t.sel with aTrim := a } } : State).trimReport)

/-- SHARE_TRIM_DIGITAL (R370): every 100 us, from the last HEARTBEAT; it holds while the peer is not live. -/
def execShareTrimDigital (s : State) : Result State :=
  if !s.trimming || !s.peerLive then .next s
  else
    let (own, cap) := s.regCurrent
    let peer := s.getZ SEL_PEER_I.CURR
    let wo : Int := (s.weight * cap : Nat)
    let wp : Int := (s.sel.peerWeight * s.get SEL_PEER_I.CAP : Nat)
    let g : Int := max 1 (s.get SEL_SHARE.DGAIN)
    let d := s.sel.dTrim + quot (g * 10000 * 128 * (peer * wo - own * wp)) (wo * wp)
    .next (({ s with sel := { s.sel with dTrim := d } } : State).trimReport)

/-- STANDBY_TAKE (R371): the rail falls below the idle twin's reference. -/
def execStandbyTake (rail : Nat) (s : State) : Result State :=
  if s.pairState = 4 && (10000 * rail : Int) < s.refOf .trk then .next (s.raise SEL_FLAGS.STANDBY_TAKE) else .next s

/-- SHARE_RELEASED (R379): `SHARE` below 0.40 V for 20 us before full service: the ROM starts the trunk. -/
def execShareReleased (mv rail : Nat) (s : State) : Result State :=
  if s.sel.idleTrunk && (s.get GLB_REGION.SERVICE = 1 || s.get GLB_REGION.SERVICE = 3) && !s.chipSafe && mv < 400 then .next (s.romTrunk rail)
  else .next s

/-! ### Link commands and the mode of the pair (R360, R363, R380, R387) -/

/-- The result of `SEL_CMD` for a master: 0 OK, 1 BUSY, 2 BAD. -/
def State.selResult (s : State) (m code : Nat) : State := { s with sel := { s.sel with results := s.sel.results.put m code } }

/-- A write of `SEL_CMD`. -/
def State.selCmd (s : State) (m : Master) (key cmd : Nat) : State :=
  if !s.mayWrite m || !s.hasSel then s
  else if key ≠ 0xB47A then s.selResult m 2
  else if cmd = 1 then
    if s.pairState = 2 || s.pairState = 3 || s.pairState = 4 then (s.transmitNow (.resetReq s.sel.pairId)).selResult m 0
    else s.selResult m 1
  else if cmd = 2 then (s.onlyIf s.linkRuns (fun t => t.retrainLink)).selResult m 0
  else if cmd = 3 then (s.onlyIf (s.linkUp && !s.soloMode) (fun t => t.transmitNow (.hello t.helloFrame))).selResult m 0
  else s.selResult m 2

/-- PEER_RESET (R380). -/
def execPeerReset (m : Master) (key : BitVec 16) (s : State) : Result State := .next (s.selCmd m key.toNat 1)

/-- RETRAIN (R360, `SEL_CMD`). -/
def execRetrain (m : Master) (key : BitVec 16) (s : State) : Result State := .next (s.selCmd m key.toNat 2)

/-- PAIR (`SEL_CMD`): sends HELLO now. -/
def execPair (m : Master) (key : BitVec 16) (s : State) : Result State := .next (s.selCmd m key.toNat 3)

/-- A write of `SEL_CTRL` (R387): `SPLIT` and `PEER_RST_EN` are stored; `MODE`, `SB_OFFSET` and `ACTIVE_PREF` take effect at one tick on
both twins. -/
def State.writeSelCtrl (s : State) (data : Word) : State :=
  let t := (s.set SEL_CTRL.SPLIT (SEL_CTRL.SPLIT.of data)).set SEL_CTRL.PEER_RST_EN (SEL_CTRL.PEER_RST_EN.of data)
  let k := if t.peerLive then t.tickFor + 4 else t.tickFor
  let t := { t with sel := { t.sel with modeAt := t.sel.modeAt ++ [(k, data)] } }
  if t.peerLive then t.transmit (.order (.mode k data)) else t

/-- SEL_MODE_WRITE (R387). -/
def execSelModeWrite (m : Master) (data : Word) (s : State) : Result State :=
  if s.mayWrite m && s.hasSel then .next (s.writeSelCtrl data) else .next s

/-- `MODE`, `SB_OFFSET` and `ACTIVE_PREF` of a `SEL_CTRL` word in force (R365, R371, R387; log entry 47). -/
def State.applySelMode (s : State) (data : Word) : State :=
  let old := s.get SEL_CTRL.MODE
  let t := ((s.set SEL_CTRL.SB_OFFSET (SEL_CTRL.SB_OFFSET.of data)).set SEL_CTRL.ACTIVE_PREF (SEL_CTRL.ACTIVE_PREF.of data)).set SEL_CTRL.MODE (SEL_CTRL.MODE.of data)
  if t.get SEL_CTRL.MODE = old then t
  else if t.soloMode then
    ((t.mark SEL_STATUS.PEER_LIVE false).set SEL_STATUS.PAIR_STATE 0).set BEM_STATUS.MIRROR 0
  else if t.pairState = 0 then (t.set SEL_STATUS.PAIR_STATE 7).set BEM_STATUS.MIRROR 3
  else if 2 ≤ t.pairState && t.pairState ≤ 4 then t.set SEL_STATUS.PAIR_STATE (t.steadyState t.preferred)
  else t

/-- The writes of `SEL_CTRL` that are due at a tick. -/
def State.selModeTick (s : State) : State :=
  let now := s.sel.modeAt.filter (fun e => decide (e.1 ≤ s.tickNow))
  let t := { s with sel := { s.sel with modeAt := s.sel.modeAt.filter (fun e => !decide (e.1 ≤ s.tickNow)) } }
  t.each now (fun e u => u.applySelMode e.2)

/-! ### The join ramp (R382) -/

/-- JOIN_RAMP_DONE (R382): after 64 switching periods the twin drives `SHARE`, its trims start from zero and the hand-back starts. -/
def execJoinRampDone (s : State) : Result State :=
  match s.sel.joinStart with
  | some t0 =>
    if s.time < t0 + s.rampPeriod then .next s
    else
      let t := { s with sel := { s.sel with joinStart := none, joinTries := 0, aTrim := 0, dTrim := 0 } }
      .next ((t.report .trk).transmit (.handover .ready))
  | none => .next s

/-- JOIN_ABORT (R382): the rail, in 10 mV, leaves 1 % of v_ref during the ramp: the trunk stops, and a retry follows after 10 ms unless this was the
third abandonment. -/
def execJoinAbort (rail : Nat) (s : State) : Result State :=
  let v := (s.fleet .trk).vref
  if s.sel.joinStart.isNone || 100 * (10000 * (rail : Int) - v).natAbs ≤ v.natAbs then .next s
  else
    let n := s.sel.joinTries + 1
    let t := (s.trunkOff).set SRC_STATUS.PRIMARY 0
    let t := { t with sel := { t.sel with joinStart := none, idleTrunk := true, joinTries := n, joinRetryAt := if n < 3 then some (t.time + ms 10) else none } }
    .next (t.raise SEL_FLAGS.JOIN_ABORT)

/-- JOIN_RETRY (R382): 10 ms after an abandoned ramp. -/
def execJoinRetry (s : State) : Result State :=
  if s.due s.sel.joinRetryAt && s.pairState = 5 && s.peerLive then .next s.startJoin else .next s

/-- Clearing JOIN_ABORT permits a new attempt (R382, `SEL_FLAGS`). -/
def State.joinAgain (s : State) : State :=
  if s.sel.idleTrunk && s.pairState = 5 && s.sel.joinStart.isNone then
    { s with sel := { s.sel with joinTries := 0, joinRetryAt := some s.time } }
  else s

/-! ### The choice of the source in a pair (R372) -/

/-- Role A chooses the intended primary from the sources qualified on either twin, with a start four ticks ahead; both twins start the
transfer at that tick. A twin without the chosen source keeps its blocks asleep while that source is primary. -/
def State.pairChoose (s : State) : State :=
  let want := (s.prioList.find? (fun c => s.qualified c || bitOf s.sel.peerQuals c)).getD 0
  let s := if s.roleB || want = 0 || want = s.sel.intended then s
    else { s with sel := { s.sel with intended := want, intendedTick := s.tickNow + 4 } }
  let c := s.sel.intended
  let p := s.get SRC_STATUS.PRIMARY
  if c = 0 || s.tickNow < s.sel.intendedTick || s.moving || s.sel.idleTrunk || !s.powered then s
  else if c = p then
    if c = 1 && !s.is TRK_STATUS.ENABLED && s.qualified c && !s.sel.released then s.turnOn c s.railV else s
  else if s.qualified c then (if p = 0 then (s.turnOn c s.railV).becamePrimary c else s.startXfer c 1)
  else (s.turnOff p).becamePrimary c

end Sys2Proof.Machine
end

