-- ==== Sys2Proof/Machine/Writes.lean ====
section
/-!
DEFINITION. Writes of the address space by a master (R9, R10, R441 to R443): the register with its access codes, the fields that
are orders (R469), and the registers whose writes have an effect of their own.
-/

namespace Sys2Proof.Machine

/-! ### Order fields and clamped fields -/

/-- An order field of a register (R235): its target identifier, the field and its range. -/
structure OrderField where
  id : Nat
  field : Field
  lo : Nat
  hi : Nat
  deriving DecidableEq, Repr

/-- `SRC_PRIO` as a whole list (R84, R468). -/
def srcPrioList : Field := ⟨SRC_PRIO.addr, 0, 16⟩

/-- The order fields of R84, R140, R169, R200 and R331; `CHB_ASSIGN` and the order fields of `RED_CTRL` are entered by the operations of
those registers. -/
def orderFields : List OrderField :=
  [⟨0x04, TRK_CTRL.EN, 0, 1⟩, ⟨0x02, TRK_LIMIT.IMAX, 100, 28000⟩, ⟨0x03, TRK_SHED.NMAX, 1, 10⟩,
   ⟨0x0C, CHB_CTRL.EN, 0, 1⟩, ⟨0x0C, CHB_CTRL.HOLDUP_EN, 0, 1⟩, ⟨0x0B, CHB_BACKUP.BACKUP_V, 0, 2800⟩,
   ⟨0x0A, CHB_LIMIT.CHG_MAX, 5, 6000⟩, ⟨0x0A, CHB_LIMIT.DIS_MAX, 100, 10000⟩] ++
  [⟨0x0C, CHG_CTRL.EN, 0, 1⟩, ⟨0x0C, CHG_CTRL.CHEM, 0, 7⟩, ⟨0x0C, CHG_CTRL.CELLS, 0, 31⟩, ⟨0x0C, CHG_CTRL.ID_CHK, 0, 1⟩,
   ⟨0x0C, CHG_CTRL.NTC_CHK, 0, 1⟩, ⟨0x0C, CHG_CTRL.TERM_EN, 0, 1⟩, ⟨0x08, CHG_CC.CC, 5, 6000⟩, ⟨0x08, CHG_CC.TRICKLE, 50, 500⟩,
   ⟨0x09, CHG_CV.CV, 0, 65535⟩, ⟨0x09, CHG_CV.RECHG, 0, 65535⟩] ++
  [⟨0x10, PRT_CTRL.EN, 0, 1⟩, ⟨0x11, PRT_LIM.VMAX, 500, 4800⟩, ⟨0x12, PRT_LIM.IMAX, 50, 500⟩,
   ⟨0x14, SRC_CTRL.SHAVE_EN, 0, 1⟩, ⟨0x15, srcPrioList, 0, 65535⟩, ⟨0x16, SRC_REV.MODE, 0, 3⟩,
   ⟨0x18, RED_WEFT.GAIN, 0, 65535⟩, ⟨0x18, RED_WEFT.WMAX, 10, 6000⟩] ++
  (List.range 16).map (fun t => ⟨0x18, RED_W_CFG.ACT t, 0, 1⟩)

/-- The value that an order field takes for a written one. `BACKUP_V` 0 tracks the trunk; other values start at 5.00 V. -/
def OrderField.value (f : OrderField) (n : Nat) : Nat :=
  if f.field = CHB_BACKUP.BACKUP_V && n ≠ 0 then clampN 500 2800 n else clampN f.lo f.hi n

/-- Fields that are stored within their range where the register's description says that a write is clamped. -/
def clampedFields : List OrderField :=
  [⟨0, SRC_CTRL.PERIOD, 10, 600⟩, ⟨0, SRC_SHUNT.SHUNT12, 100, 10000⟩, ⟨0, SRC_SHUNT.SHUNT48, 100, 10000⟩, ⟨0, TRK_REV.REV_CELLS, 1, 8⟩,
   ⟨0, CHG_WDG.PERIOD, 10, 160⟩, ⟨0, MEA_IPK.SHUNT, 100, 10000⟩, ⟨0, LOM_SHED_CFG.RESTORE_DLY, 10, 60000⟩,
   ⟨0, SEL_SHARE.WEIGHT, 16, 128⟩, ⟨0, SEL_SHARE.TRIM_SPAN, 0, 100⟩, ⟨0, SAF_WDG_CFG.OPEN, 1, 65535⟩, ⟨0, SAF_WDG_CFG.CLOSED, 1, 65535⟩] ++
  (List.range 8).map (fun k => ⟨0, TRK_VSET.VOLT k, 500, 2800⟩) ++ (List.range 18).map (fun n => ⟨0, CEL_FSW.FSW n, 150, 1000⟩)

/-- The bits of a register that are order fields. -/
def orderMask (a : Nat) : Word := (orderFields.filter (fun f => f.field.addr == a)).foldl (fun (m : Word) f => m ||| f.field.mask) 0

/-- A written word with the clamped fields of its register held within their ranges. -/
def clampWord (a : Nat) (data : Word) : Word :=
  (clampedFields.filter (fun f => f.field.addr == a)).foldl (fun (w : Word) f => f.field.put (clampN f.lo f.hi (f.field.of w)) w) data

/-- The write of the bits that are not orders (R10): RW bits stored, W1C bits cleared; a W1S bit acts through its register's own
operation. -/
def State.storeWord (s : State) (r : RegSpec) (a : Nat) (data : Word) : State :=
  let plain : RegSpec := { r with rw := (BitVec.ofNat 32 r.rw &&& ~~~orderMask a).toNat, w1s := 0 }
  s.wr a (plain.apply (s.rd a) (clampWord a data))

/-- One order of the master for each order field of the register whose written value differs from the value in force (R469). -/
def State.enterOrders (s : State) (m a : Nat) (data : Word) : State :=
  s.each (orderFields.filter (fun f => f.field.addr == a)) (fun f t =>
    let n := f.field.of data
    if n = t.get f.field then t
    else t.enter { target := .field f.id f.field, master := m, val := f.value n, clamped := decide (f.value n ≠ n) })

/-- A plain write: bits stored, orders entered. -/
def State.plainWrite (s : State) (r : RegSpec) (m a : Nat) (data : Word) : State := (s.storeWord r a data).enterOrders m a data

/-! ### Registers with an effect of their own -/

/-- The watchdog's configuration may be written (R391). -/
def State.wdgOpen (s : State) (m : Nat) : Bool :=
  !s.is SAF_WDG_CTRL.LOCK && (m == 4 || (decide (m < 3) && s.is SAF_STATUS.TEST_ACT))

/-- Writes of 0x0100 to 0x01FF. -/
def State.writeSaf (s : State) (r : RegSpec) (m : Master) (a : Nat) (data : Word) : State :=
  if a = SAF_WDG_CFG.addr then s.onlyIf (s.wdgOpen m.val) (fun t => t.storeWord r a data)
  else if a = SAF_WDG_CTRL.addr then
    let t := s.onlyIf (s.wdgOpen m.val) (fun t => t.set SAF_WDG_CTRL.DIS (SAF_WDG_CTRL.DIS.of data))
    if SAF_WDG_CTRL.LOCK.of data = 1 then stateAfter (execWdgLock m t) t else t
  else if a = SAF_FAULTN_EN.addr then s.storeWord r a (data ||| 0xFF#32)
  else if SAF_TOKEN.addr 0 ≤ a then s.wr a data
  else s.storeWord r a data

/-- Writes of 0x0200 to 0x02FF: a write of `SRC_PRIO`, or one that clears XFER_FAIL, lets failed sources be tried again (R61). -/
def State.writeSrc (s : State) (r : RegSpec) (m : Master) (a : Nat) (data : Word) : State :=
  let t := s.plainWrite r m a data
  if a = SRC_CTRL.addr && SRC_CTRL.START_SEARCH.of data = 1 then stateAfter (execStartSearch m t) t
  else if a = SRC_PRIO.addr || (a = SRC_FLAGS.addr && SRC_FLAGS.XFER_FAIL.of data = 1) then { t with src := { t.src with fails := [] } }
  else t

/-- Clearing REENTRY_FAIL permits a new attempt of every cell that failed three times (R126). -/
def State.tryAgain (s : State) (b : Block) : State :=
  let failed := (s.fleet b).tries.filter (fun e => decide (3 ≤ e.2) && s.isParked e.1)
  s.setFleet b (fun f => { f with tries := f.tries.filter (fun e => !decide (3 ≤ e.2)), retryAt := failed.foldl (fun (acc : Store (Nat × Nat)) e => acc.put e.1 (s.time, 1)) f.retryAt })

/-- Writes of 0x0300 to 0x05FF. -/
def State.writeBlockReg (s : State) (r : RegSpec) (m : Master) (a : Nat) (data : Word) : State :=
  if a = TRK_CMD.addr then s.enter { s.railOrder (TRK_CMD.VOLT.of data) (TRK_CMD.RATE.of data) with master := m.val }
  else if a = TRK_ASSIGN.addr then stateAfter (execActiveSetWrite m .trk data s) s
  else if a = CHB_ASSIGN.addr then stateAfter (execActiveSetWrite m .chb data s) s
  else
    let t := s.plainWrite r m a data
    if a = TRK_FLAGS.addr && TRK_FLAGS.REENTRY_FAIL.of data = 1 then t.tryAgain .trk
    else if a = CHB_FLAGS.addr && CHB_FLAGS.REENTRY_FAIL.of data = 1 then t.tryAgain .chb
    else if a = PRT_CTRL.addr && t.isSink && s.get PRT_CTRL.SINK_ADD ≠ t.get PRT_CTRL.SINK_ADD && t.svc.contract.isSome then t.sinkOn
    else t

/-- Writes of 0x0600 to 0x0AFF: `FITTED` and `DRVMODE` only while the cell is OFF, SPARE or ISOLATED (R86, R87); `DRVMODE` 0 is
ignored under the GDMODE strap (R42). A cell that is no longer fitted is OFF (R85). -/
def State.writeCell (s : State) (r : RegSpec) (a : Nat) (data : Word) : State :=
  match (List.range 18).find? (fun n => a == CEL_CFG.addr n) with
  | none => s.storeWord r a data
  | some n =>
    let st := s.cellState n
    let idle := st == 0 || st == 1 || st == 5
    let fit := if idle then (CEL_CFG.FITTED n).of data else s.get (CEL_CFG.FITTED n)
    let drv := if idle && !(s.is GLB_STRAP.GDMODE && (CEL_CFG.DRVMODE n).of data = 0) then (CEL_CFG.DRVMODE n).of data else s.get (CEL_CFG.DRVMODE n)
    let t := s.storeWord r a ((CEL_CFG.DRVMODE n).put drv ((CEL_CFG.FITTED n).put fit data))
    if fit = 0 && st ≠ 0 then (t.moveCell n 0).report (blockOf n) else t

/-- Writes of 0x0B00 to 0x0BFF (R147, R148, R155, R157). -/
def State.writeChg (s : State) (r : RegSpec) (m : Master) (a : Nat) (data : Word) : State :=
  if a = CHG_WDG_KICK.addr then stateAfter (execChgWdgKick m data s) s
  else if a = CHG_FLAGS.addr then
    let t := if CHG_FLAGS.WDG_EXP.of data = 1 then stateAfter (execChgWdgExpClear m s) s else s
    t.storeWord r a (CHG_FLAGS.WDG_EXP.put 0 data)
  else
    let t := s.plainWrite r m.val a data
    if a = CHG_CTRL.addr && CHG_CTRL.ARM.of data = 1 && !t.is CHG_CTRL.ARM then stateAfter (execChgArm m t) t
    else if a = CHG_FLT.addr then
      let t := t.chgConfig
      if t.chgState = 9 && t.is CHG_CTRL.ARM && t.fltClear then t.qualify else t
    else t

/-- Writes of 0x0D00 to 0x0DFF (R209). -/
def State.writeMea (s : State) (r : RegSpec) (m : Master) (a : Nat) (data : Word) : State :=
  if a = MEA_QCNT.addr then stateAfter (execQcntWrite m data s) s
  else
    let t := s.storeWord r a data
    if a = MEA_CTRL.addr && MEA_CTRL.QCLR.of data = 1 then stateAfter (execQclr m t) t else t

/-- A write of `WRP_Tt_CFG` writes `SRC` and `INSEL`: a learning of table t ends, a locked track is lost, and acquisition starts anew
(R170, R176, R192). -/
def State.writeTrackCfg (s : State) (r : RegSpec) (t a : Nat) (data : Word) : State :=
  let u := (s.abortTable t 3).loseTrack t false
  let u := u.storeWord r a data
  if u.trackState t = 3 && u.get (WRP_T_CFG.SRC t) ≠ 0 then u.setTrack t (fun x => { x with times := [], count := 0, short := 0, seen := none })
  else u.restartTrack t

/-- Writes of 0x0E00 to 0x0EFF (R170, R177, R179). -/
def State.writeWrp (s : State) (r : RegSpec) (m : Master) (a : Nat) (data : Word) : State :=
  if a = WRP_STAMP_TIME.addr then stateAfter (execWrpStampTimeWrite m data s) s
  else if a = WRP_STAMP.addr then stateAfter (execWrpStamp m ⟨WRP_STAMP.TRACK.of data % 16, Nat.mod_lt _ (by decide)⟩ (data.setWidth 16) s) s
  else if a = WRP_CTRL.addr then
    let t := s.storeWord r a data
    if s.warpRuns && !t.warpRuns then t.stopWarp else if !s.warpRuns && t.warpRuns then t.startWarp else t
  else
    match (List.range 16).find? (fun t => a == WRP_T_CFG.addr t) with
    | some t => s.writeTrackCfg r t a data
    | none => s.storeWord r a data

/-- Eight other tables have `ACT` set (R194). -/
def State.weftFull (s : State) (t : Nat) : Bool := decide (8 ≤ ((List.range 16).filter (fun u => u != t && s.is (RED_W_CFG.ACT u))).length)

/-- Writes of 0x0F00 to 0x0FFF (R182, R191, R194, R200). -/
def State.writeRed (s : State) (r : RegSpec) (m : Master) (a : Nat) (data : Word) : State :=
  if a = RED_CTRL.addr then s.writeRedCtrl m.val data
  else
    match (List.range 16).find? (fun t => a == RED_W_CFG.addr t) with
    | none => s.plainWrite r m a data
    | some t =>
      let mode := (RED_W_CFG.LEARN t).of data
      let full := (RED_W_CFG.ACT t).of data = 1 && !s.is (RED_W_CFG.ACT t) && s.weftFull t
      let u := s.storeWord r a ((RED_W_CFG.LEARN t).put (s.get (RED_W_CFG.LEARN t)) data)
      let u := if full then u.raise RED_FLAGS.WEFT_FULL else u.enterOrders m.val a data
      if mode = 0 then u else if mode = 3 then u.abortTable t 3 else u.requestLearn t mode

/-- A write of `LOM_CTX_CMD` (R232): 1 CLAIM, 2 RELEASE, 3 ABORT, 4 EVENT, 5 FREEZE, 6 THAW. -/
def State.writeCtxCmd (s : State) (m : Master) (data : Word) : State :=
  let c : CtxId := ⟨LOM_CTX_CMD.CTX.of data % 128, Nat.mod_lt _ (by decide)⟩
  let cmd := LOM_CTX_CMD.CMD.of data
  if cmd = 1 then stateAfter (execClaim m c s) s
  else if cmd = 2 then stateAfter (execCtxRelease m c s) s
  else if cmd = 3 then stateAfter (execAbort m c s) s
  else if cmd = 4 then stateAfter (execCtxEvent m c s) s
  else if cmd = 5 then stateAfter (execFreeze m c s) s
  else if cmd = 6 then stateAfter (execThaw m c s) s
  else s

/-- Writes of 0x1000 to 0x13FF (R232, R239, R248, R249). -/
def State.writeLom (s : State) (r : RegSpec) (m : Master) (a : Nat) (data : Word) : State :=
  if a = LOM_CTX_CMD.addr then s.writeCtxCmd m data
  else if a = LOM_DMDATA.addr then stateAfter (execDmDataAccess m (some data) s) s
  else if a = LOM_PMLOCK0.addr then stateAfter (execPageLock m 0 data s) s
  else if a = LOM_PMLOCK1.addr then stateAfter (execPageLock m 1 data s) s
  else if a = LOM_PMUNLOCK.addr then stateAfter (execPageUnlock m ⟨LOM_PMUNLOCK.PAGE.of data % 64, Nat.mod_lt _ (by decide)⟩ s) s
  else if a = LOM_SHED_CMD.addr then
    s.each ((List.range 8).filter (fun k => data.toNat.testBit k || data.toNat.testBit (8 + k))) (fun k t =>
      let t := if data.toNat.testBit k then t.enter { target := .shed k, master := m.val, val := 1 } else t
      if data.toNat.testBit (8 + k) then t.enter { target := .shed k, master := m.val, val := 0 } else t)
  else if LOM_CTXW.addr 0 ≤ a && a ≤ LOM_CTXW.addr 31 then
    stateAfter (execContextRecordWrite m ⟨(a - LOM_CTXW.addr 0) / 4 % 32, Nat.mod_lt _ (by decide)⟩ data s) s
  else s.plainWrite r m a data

/-- Writes of 0x1400 to 0x17FF: the ring pointers of the writing master and releases (R277, R287). -/
def State.writeJob (s : State) (r : RegSpec) (m : Master) (a : Nat) (data : Word) : State :=
  if a = JOB_RELEASE.addr then stateAfter (execJobRelease m data s) s
  else if h : m.val < 4 then
    if a = 0x1420 + 8 * m.val then stateAfter (execJobDoorbell ⟨m.val, h⟩ (data.setWidth 6) s) s
    else if a = 0x1424 + 8 * m.val then stateAfter (execCqHeadWrite ⟨m.val, h⟩ (data.setWidth 6) s) s
    else s.storeWord r a data
  else s.storeWord r a data

/-- A write of `SVC_CTRL` (R333): the port core starts or stops, an unattached port takes the new behavior, and DISABLED ends an attachment. -/
def State.writeSvcCtrl (s : State) (r : RegSpec) (a : Nat) (data : Word) : State :=
  let t := s.storeWord r a data
  if s.is SVC_CTRL.EN && !t.is SVC_CTRL.EN then s.dropPartner.storeWord r a data |>.set SVC_STATUS.TC_STATE 0
  else if !s.is SVC_CTRL.EN && t.is SVC_CTRL.EN then t.portStart
  else if s.get SVC_CTRL.ROLE = t.get SVC_CTRL.ROLE then t
  else if !t.isSink && !t.isSource then t.portRole
  else if t.get SVC_CTRL.ROLE = 3 then t.dropPartner.portRole
  else t

/-- Writes of 0x1800 to 0x1FFF. -/
def State.writeHost (s : State) (r : RegSpec) (m : Master) (a : Nat) (data : Word) : State :=
  if a = AUX_CTRL.addr then s.auxCtrl data
  else if a = AUX_CMD.addr then (if AUX_CMD.GO.of data = 1 then s.auxGo m.val data else s)
  else if AUX_TX.addr 0 ≤ a && a ≤ AUX_TX.addr 3 && s.is AUX_STATUS.BUSY && s.get AUX_STATUS.STATE != 1 then s
  else if a = SVC_CTRL.addr then s.writeSvcCtrl r a data
  else if a = SEL_CTRL.addr then s.writeSelCtrl data
  else if a = SEL_CMD.addr then s.selCmd m (SEL_CMD.KEY.of data) (SEL_CMD.CMD.of data)
  else if a = SEL_FLAGS.addr then
    let t := s.storeWord r a data
    if SEL_FLAGS.JOIN_ABORT.of data = 1 then t.joinAgain else t
  else if a = UPD_SESSION.addr then s.writeSession m data
  else if a = UPD_CMD.addr then s.updCmd m (UPD_CMD.TOKEN.of data) (UPD_CMD.CMD.of data)
  else if a = UPD_BLOCK.addr then s.writeBlock m data
  else if a = TST_AMUX.addr || a = TST_DMUX.addr then s.onlyIf (s.is SAF_STATUS.TEST_ACT) (fun t => t.storeWord r a data)
  else s.storeWord r a data

/-- Writes of 0x2000 to 0xFFFF (R443). -/
def State.writeWindow (s : State) (m : Master) (a : Nat) (data : Word) : State :=
  if a < 0x4000 then s
  else if a < 0x5000 then if (a - 0x4000) / 0x400 = m.val then s.putWin a data else s
  else if a < 0x8000 then s
  else if a < 0xC000 then stateAfter (execProgramMemoryWrite m a data s) s
  else if a < 0xD000 then s.writePick m.val ((a - 0xC000) / 16) (a / 4 % 4) data
  else if a < 0xD800 then s.writeWeft ((a - 0xD000) / 128) (a / 4 % 32) data
  else if a < 0xE000 then s
  else s.writeBuffer m a data

/-- A write of a served master to a register by the row of the map that covers it. -/
def State.writeRegister (s : State) (r : RegSpec) (m : Master) (a : Nat) (data : Word) : State :=
  if a < 0x0100 then s.storeWord r a data
  else if a < 0x0200 then s.writeSaf r m a data
  else if a < 0x0300 then s.writeSrc r m a data
  else if a < 0x0600 then s.writeBlockReg r m a data
  else if a < 0x0B00 then s.writeCell r a data
  else if a < 0x0C00 then s.writeChg r m a data
  else if a < 0x0D00 then s.storeWord r a data
  else if a < 0x0E00 then s.writeMea r m a data
  else if a < 0x0F00 then s.writeWrp r m a data
  else if a < 0x1000 then s.writeRed r m a data
  else if a < 0x1400 then s.writeLom r m a data
  else if a < 0x1800 then s.writeJob r m a data
  else s.writeHost r m a data

/-- The bits of a register that a written word clears as event flags. -/
def RegSpec.clears (r : RegSpec) (data : Word) : Bool := (data &&& BitVec.ofNat 32 r.w1c) != 0

/-- A write by a master over its bus. An unaligned address, one outside the map and a register of an absent unit ignore it (R4, R9,
R441). The supervisor's keyed registers judge the write themselves; every other write takes effect where the master's writes are
served (R23, R305, R434). -/
def State.busWrite (s : State) (m : Master) (a : Nat) (data : Word) : State :=
  if a % 4 ≠ 0 || 0x10000 ≤ a || s.absentAddr a then s
  else if a = SAF_FAULT_CLR.addr then stateAfter (execFaultClear m (SAF_FAULT_CLR.KEY.of data) (SAF_FAULT_CLR.CODE.of data) s) s
  else if a = SAF_RST_CMD.addr then stateAfter (execResetCmd m (SAF_RST_CMD.KEY.of data) (SAF_RST_CMD.CMD.of data) s) s
  else if a = SAF_PWR_CMD.addr then s.askMode m (SAF_PWR_CMD.KEY.of data) (SAF_PWR_CMD.MODE.of data)
  else if a = SAF_LC_CMD.addr then s.askLc m (SAF_LC_CMD.KEY.of data) (SAF_LC_CMD.TARGET.of data)
  else if a = SAF_WDG_KEY.addr then s.wdgKey m (SAF_WDG_KEY.KEY.of data)
  else if !s.mayWrite m then s
  else if 0x2000 ≤ a then s.writeWindow m a data
  else
    match findSpec a with
    | none => s
    | some r => (s.writeRegister r m a data).onlyIf (r.clears data) (fun t => t.rearm m.val)

/-- REGISTER_WRITE (R10): a write by any master. -/
def execRegisterWrite (m : Master) (a : Nat) (data : Word) (s : State) : Result State := .next (s.busWrite m a data)

end Sys2Proof.Machine
end

