-- ==== Sys2Proof/Machine/Hif.lean ====
section
/-!
DEFINITION. The host buses: SPI frames and bursts of M0, I2C transactions of M1, the vendor requests of M2, and the re-arm gap of
`INT_N` (R295 to R317, R352, R446).
-/

namespace Sys2Proof.Machine

/-! ### Checksums -/

/-- One byte of an MSB-first CRC-8 with a polynomial. -/
def crcByte (poly crc byte : BitVec 8) : BitVec 8 :=
  (List.range 8).foldl (fun (c : BitVec 8) _ => if c.msb then (c <<< 1) ^^^ poly else c <<< 1) (crc ^^^ byte)

/-- CRC-8 of a list of bytes. -/
def crc8 (poly init : BitVec 8) (bytes : List (BitVec 8)) : BitVec 8 := bytes.foldl (crcByte poly) init

/-- The bytes of a word, most significant first. -/
def wordBytes (w : Word) : List (BitVec 8) := [w.extractLsb' 24 8, w.extractLsb' 16 8, w.extractLsb' 8 8, w.extractLsb' 0 8]

/-- The word of four bytes, most significant first. -/
def bytesWord (l : List (BitVec 8)) : Word := BitVec.ofNat 32 ((l.take 4).foldl (fun n b => n * 256 + b.toNat) 0)

/-- The CRC of the SPI port (R297). -/
def spiCrc (bytes : List (BitVec 8)) : BitVec 8 := crc8 0x1D 0xFF bytes

/-- The PEC of SMBus (R310). -/
def smbusPec (bytes : List (BitVec 8)) : BitVec 8 := crc8 0x07 0x00 bytes

/-- The six bytes of a frame before its CRC (R296). -/
def frameBytes (cmd : Nat) (a : BitVec 14) (data : Word) : List (BitVec 8) :=
  [BitVec.ofNat 8 (cmd * 64 + a.toNat / 256), a.setWidth 8] ++ wordBytes data

/-! ### What is served -/

/-- The host buses run (R49, R322, R402). -/
def State.busesRun (s : State) : Bool := s.saf.inReset.isNone && !s.saf.vioLow && decide (s.mode < 3)

/-- A read of a host at an address is served (R305). -/
def State.readServed (s : State) (a : Nat) : Bool :=
  if s.chipSafe then decide (a < 0x200)
  else s.fullService || ((s.get GLB_REGION.SERVICE == 1 || s.get GLB_REGION.SERVICE == 3) && decide (a < 0x100))

/-- A write of a host at an address is served (R305, R434). -/
def State.writeServed (s : State) (a : Nat) : Bool :=
  if s.chipSafe then a == SAF_FAULT_CLR.addr || a == SAF_RST_CMD.addr
  else s.fullService && !s.regionSafe .interface && !s.is UPD_STATUS.HOLD

/-! ### SPI -/

/-- The answer of a frame is kept for the next one, unless the frame led to a reset (R298, R300). -/
def State.answer (s : State) (x : SpiAnswer) : State :=
  if s.saf.inReset.isSome then s else { s with hif := { s.hif with answer := x } }

/-- The 56 bits that go out on `SDO` while a frame comes in: the status byte now, and the response to the previous frame (R298). -/
def State.respond (s : State) : State :=
  let x := s.hif.answer
  let bytes := [BitVec.ofNat 8 (s.spiStatus x.frameErr x.accErr), BitVec.ofNat 8 x.tag] ++ wordBytes x.data
  let out := (bytes ++ [spiCrc bytes]).foldl (fun (n : Nat) b => n * 256 + b.toNat) 0
  { s with hif := { s.hif with sdo := BitVec.ofNat 56 out } }

/-- A frame is discarded with its flag (R304). -/
def State.discard (s : State) (f : Field) : State :=
  ((s.raise f).count HIF_SPI_CNT.ERR_CNT).answer { frameErr := true }

/-- An access is refused with ACC_ERR; SPI_ACC is set in full service (R305). -/
def State.refuseSpi (s : State) : State := (s.onlyIf s.fullService (fun t => t.raise HIF_FLAGS.SPI_ACC)).answer { accErr := true }

/-- A frame's checks (R301, R304): its effect follows when length and CRC pass. -/
def State.spiFrame (s : State) (cmd : Nat) (a : BitVec 14) (data : Word) (crc : BitVec 8) (nbits : Nat) (single : Bool) (eff : State → State) : State :=
  if !s.busesRun then s
  else
    let t := s.respond
    if nbits < 56 || (single && nbits ≠ 56) then t.discard HIF_FLAGS.SPI_LEN
    else if spiCrc (frameBytes cmd a data) ≠ crc then t.discard HIF_FLAGS.SPI_CRC
    else eff t

/-- A frame has been served. -/
def State.frameServed (s : State) (x : SpiAnswer) : State :=
  if s.saf.inReset.isSome then s else (s.count HIF_SPI_CNT.FRAMES).answer x

/-- HELD and its TAG (R300). -/
def State.hold (s : State) (tag : Nat) (v : Word) : State := { s with hif := { s.hif with held := v, heldTag := tag } }

/-- ADDR[9:2] of a byte address. -/
def tagOfAddr (a : Nat) : Nat := a / 4 % 256

/-- SPI_READ (R296, R300, R301). -/
def execSpiRead (a : BitVec 14) (data : Word) (crc : BitVec 8) (nbits : Nat) (s : State) : Result State :=
  let addr := 4 * a.toNat
  .next (s.spiFrame 1 a data crc nbits true (fun t =>
    if !t.readServed addr then t.refuseSpi
    else
      let r := t.busRead 0 addr
      (r.2.hold (tagOfAddr addr) r.1).frameServed { tag := tagOfAddr addr, data := r.1 }))

/-- SPI_WRITE (R296, R300, R301). -/
def execSpiWrite (a : BitVec 14) (data : Word) (crc : BitVec 8) (nbits : Nat) (s : State) : Result State :=
  let addr := 4 * a.toNat
  .next (s.spiFrame 2 a data crc nbits true (fun t =>
    if !t.writeServed addr then t.refuseSpi
    else (t.busWrite 0 addr data).frameServed { tag := tagOfAddr addr }))

/-- SPI_NOP (R300): no access; the answer is HELD. -/
def execSpiNop (a : BitVec 14) (data : Word) (crc : BitVec 8) (nbits : Nat) (s : State) : Result State :=
  .next (s.spiFrame 0 a data crc nbits true (fun t => t.frameServed { tag := t.hif.heldTag, data := t.hif.held }))

/-- `HIF_BURST` after a burst. -/
def State.burstReport (s : State) (dir done n : Nat) : State :=
  ((s.set HIF_BURST.DIR dir).set HIF_BURST.DONE done).set HIF_BURST.COUNT n

/-- A burst's end: the report, BURST_ABORT or SPI_LEN, and the answer with `HIF_BURST` (R300, R303). -/
def State.burstEnd (s : State) (a dir done n : Nat) (long : Bool) : State :=
  if s.saf.inReset.isSome then s
  else
    let t := s.burstReport dir done n
    let t := if done < n then t.raise HIF_FLAGS.BURST_ABORT else if long then t.raise HIF_FLAGS.SPI_LEN else t
    t.frameServed { tag := tagOfAddr a, data := t.rd HIF_BURST.addr }

/-- A header of R302 is invalid: reserved bits set, or a last word above 0xFFFC. -/
def badHeader (a : Nat) (hdr : BitVec 31) : Bool := decide (256 ≤ hdr.toNat) || decide (0x10000 < a + 4 * (hdr.toNat % 256 + 1))

/-- `n` reads of a master from an address, oldest first, with the machine after them. -/
def State.readRun (s : State) (m : Master) (a n : Nat) : List Word × State :=
  (List.range n).foldl (fun (acc : List Word × State) k =>
    let r := acc.2.busRead m (a + 4 * k)
    (acc.1 ++ [r.1], r.2)) ([], s)

/-- SPI_BURST_READ (R302, R303): `nbits` bits are clocked in all; when the burst ends early the word after the last delivered one may have
been fetched (`ahead`). -/
def execSpiBurstRead (a : BitVec 14) (hdr : BitVec 31) (crc : BitVec 8) (nbits : Nat) (ahead : Bool) (s : State) : Result State :=
  let addr := 4 * a.toNat
  .next (s.spiFrame 3 a (hdr.setWidth 32) crc nbits false (fun t =>
    let n := hdr.toNat % 256 + 1
    if badHeader addr hdr then t.discard HIF_FLAGS.SPI_CMD
    else if !(List.range n).all (fun k => t.readServed (addr + 4 * k)) then t.refuseSpi
    else
      let done := min n ((nbits - 64) / 40)
      let r := t.readRun 0 addr done
      let u := if done < n && ahead then (r.2.busRead 0 (addr + 4 * done)).2 else r.2
      let u := if done = 0 then u else u.hold (tagOfAddr (addr + 4 * (done - 1))) (r.1.getLastD 0)
      let u := { u with hif := { u.hif with words := r.1 } }
      u.burstEnd addr 0 done n (decide (64 + 40 * n < nbits))))

/-- The segments of a write burst in order: the number of words written, whether a word was refused, and the machine after them. A segment
whose CRC fails, or one refused because Interface has become safe, ends the burst (R303, R322). -/
def State.writeSegments (s : State) (a : Nat) : List (Word × BitVec 8) → Nat → Nat × Bool × State
  | [], done => (done, false, s)
  | (w, crc) :: rest, done =>
    if spiCrc (wordBytes w) ≠ crc then (done, false, s)
    else if !s.writeServed a then (done, true, s)
    else (s.busWrite 0 a w).writeSegments (a + 4) rest (done + 1)

/-- SPI_BURST_WRITE (R302, R303): `nbits` bits are clocked in all, and carry the segments listed. -/
def execSpiBurstWrite (a : BitVec 14) (hdr : BitVec 31) (crc : BitVec 8) (nbits : Nat) (segs : List (Word × BitVec 8)) (s : State) : Result State :=
  let addr := 4 * a.toNat
  .next (s.spiFrame 3 a (0x80000000#32 ||| hdr.setWidth 32) crc nbits false (fun t =>
    let n := hdr.toNat % 256 + 1
    if badHeader addr hdr then t.discard HIF_FLAGS.SPI_CMD
    else if t.chipSafe || !t.writeServed addr then t.refuseSpi
    else
      let (done, refused, u) := t.writeSegments addr (segs.take (min n ((nbits - 64) / 40))) 0
      let u := u.onlyIf (refused && u.saf.inReset.isNone) (fun v => v.raise HIF_FLAGS.SPI_ACC)
      u.burstEnd addr 1 done n (decide (64 + 40 * n < nbits))))

/-! ### I2C -/

/-- An error of R314. -/
def State.i2cError (s : State) (f : Field) : State := (s.raise f).count HIF_I2C_CNT.ERR_CNT

/-- The pointer of R309; it stays at 0xFFFC beyond the space (R446). -/
def State.setPtr (s : State) (a : Nat) : State := s.set HIF_I2C_PTR.PTR (min a 0xFFFC)

/-- The address byte of a write; that of a read is one more (R48). -/
def State.i2cAddr (s : State) : Nat := 2 * s.get GLB_STRAP.I2C_ADDR

/-- The address phase (R307, R308, R311): the effect follows when the target and the register address are acknowledged. -/
def State.i2cStart (s : State) (reg : Nat) (eff : State → State) : State :=
  if !s.busesRun then s
  else if !s.is HIF_CTRL.I2C_EN then s.i2cError HIF_FLAGS.I2C_BUSY_NACK
  else if reg % 4 ≠ 0 then s.i2cError HIF_FLAGS.I2C_ALIGN
  else eff s

/-- One word of M1 is committed. -/
def State.commitWord (s : State) (a : Nat) (bytes : List (BitVec 8)) : State :=
  let t := s.busWrite 1 a (bytesWord bytes)
  if t.saf.inReset.isSome then t else (t.count HIF_I2C_CNT.WORDS).setPtr (a + 4)

/-- The data bytes of a write without PEC (R308, R446): each word of four bytes commits; a rest is discarded. `fuel` bounds the words. -/
def State.i2cWords (s : State) (a : Nat) (bytes : List (BitVec 8)) : Nat → State
  | 0 => s
  | fuel + 1 =>
    if bytes.isEmpty || s.saf.inReset.isSome || 0x10000 ≤ a then s
    else if !s.writeServed a then s.i2cError HIF_FLAGS.I2C_ACC
    else if bytes.length < 4 then s.i2cError HIF_FLAGS.I2C_PARTIAL
    else (s.commitWord a bytes).i2cWords (a + 4) (bytes.drop 4) fuel

/-- I2C_WRITE (R308, R310, R311): the register address and the bytes that follow it up to STOP or a repeated START; with `PEC_EN` the fifth
byte is the PEC. -/
def execI2cWrite (reg : BitVec 16) (bytes : List (BitVec 8)) (s : State) : Result State :=
  let a := reg.toNat
  .next (s.i2cStart a (fun t =>
    if !t.is HIF_CTRL.PEC_EN then t.i2cWords a bytes (bytes.length + 1)
    else if bytes.isEmpty then t
    else if !t.writeServed a then t.i2cError HIF_FLAGS.I2C_ACC
    else if bytes.length < 5 then t.i2cError HIF_FLAGS.I2C_PARTIAL
    else
      let sent := [BitVec.ofNat 8 t.i2cAddr, BitVec.ofNat 8 (a / 256), BitVec.ofNat 8 a] ++ bytes.take 4
      if smbusPec sent ≠ bytes.getD 4 0 then t.i2cError HIF_FLAGS.I2C_PEC else t.commitWord a bytes))

/-- The words that an I2C read fetches (R309, R446): an address beyond the space answers 0xFF bytes without a fetch; a refused address
answers a value that the spec leaves open. -/
def State.i2cFetch (s : State) (a n : Nat) : List Word × State :=
  (List.range n).foldl (fun (acc : List Word × State) k =>
    if 0x10000 ≤ a + 4 * k then (acc.1 ++ [0xFFFFFFFF#32], acc.2)
    else if !acc.2.readServed (a + 4 * k) then
      let d := acc.2.draw
      (acc.1 ++ [d.1], d.2)
    else
      let r := acc.2.busRead 1 (a + 4 * k)
      (acc.1 ++ [r.1], (r.2.count HIF_I2C_CNT.WORDS).setPtr (a + 4 * k + 4))) ([], s)

/-- I2C_READ (R309, R310): `n` bytes are read, from a register address or from the pointer. -/
def execI2cRead (reg : Option (BitVec 16)) (n : Nat) (s : State) : Result State :=
  let a := (reg.map (fun r => r.toNat)).getD (s.get HIF_I2C_PTR.PTR)
  .next (s.i2cStart a (fun t =>
    let pec := t.is HIF_CTRL.PEC_EN
    let r := t.i2cFetch a (if pec then 1 else 1 + (n - 1) / 4)
    let head := match reg with
      | some _ => [BitVec.ofNat 8 t.i2cAddr, BitVec.ofNat 8 (a / 256), BitVec.ofNat 8 a]
      | none => []
    let sent := head ++ [BitVec.ofNat 8 (t.i2cAddr + 1)] ++ wordBytes (r.1.headD 0)
    { r.2 with hif := { r.2.hif with words := r.1, pec := if pec then some (smbusPec sent) else none } }))

/-- The target runs and can detect a bus error. -/
def State.i2cRuns (s : State) : Bool := s.busesRun && s.is HIF_CTRL.I2C_EN

/-- The target waits for a START (R312, R313). -/
def State.i2cIdle (s : State) : State := s.set HIF_STATUS.I2C_STATE 0

/-- I2C_SCL_TIMEOUT (R312). -/
def execI2cSclTimeout (s : State) : Result State :=
  if s.i2cRuns then .next ((s.i2cError HIF_FLAGS.I2C_TO_SCL).i2cIdle) else .next s

/-- I2C_SDA_TIMEOUT (R312). -/
def execI2cSdaTimeout (s : State) : Result State :=
  if s.i2cRuns then .next ((s.i2cError HIF_FLAGS.I2C_TO_SDA).i2cIdle) else .next s

/-- I2C_START_IN_ACK (R313): the target is in the address phase. -/
def execI2cStartInAck (s : State) : Result State :=
  if s.i2cRuns then .next ((s.i2cError HIF_FLAGS.I2C_SR_IN_ACK).set HIF_STATUS.I2C_STATE 1) else .next s

/-! ### INT_N -/

/-- INT_REARM_END (R317): 1 us after the write `INT_N` is driven low again. -/
def execIntRearmEnd (s : State) : Result State :=
  if s.due s.hif.rearmUntil then .next { s with hif := { s.hif with rearmUntil := none } } else .next s

/-! ### The vendor interface (R352) -/

/-- The interface exists: in full service while the USB device runs (R349). -/
def State.vendorUp (s : State) : Bool := s.fullService && s.usbUp && s.saf.inReset.isNone

/-- The two header words of a response and its data words. -/
def State.vendorWords (s : State) (op : Nat) (seq : BitVec 8) (done result : Nat) (data : List Word) : List Word :=
  [BitVec.ofNat 32 ((128 + op) * 2 ^ 24 + seq.toNat * 2 ^ 16 + done), BitVec.ofNat 32 (s.spiStatus false (result == 1) * 2 ^ 24 + result * 2 ^ 16)] ++ data

/-- A request is answered and kept as the last executed one. -/
def State.vendorEnd (s : State) (op : Nat) (seq : BitVec 8) (done result : Nat) (data : List Word) : State :=
  if s.saf.inReset.isSome then s
  else
    let words := s.vendorWords op seq done result data
    s.setSvc (fun v => { v with lastSeq := some seq.toNat, response := words, reply := words })

/-- A request whose SEQ is that of the last executed one is answered with the stored response. -/
def State.vendorAgain (s : State) : State := s.setSvc (fun v => { v with reply := v.response })

/-- A malformed request is answered and not executed: 2 BAD for its count, 3 ADDR for its address. -/
def State.vendorBad (s : State) (op : Nat) (seq : BitVec 8) (count a : Nat) (bad : Bool) : Option State :=
  if bad || count = 0 || 128 < count then some (s.setSvc (fun v => { v with reply := s.vendorWords op seq 0 2 [] }))
  else if a % 4 ≠ 0 then some (s.setSvc (fun v => { v with reply := s.vendorWords op seq 0 3 [] }))
  else none

/-- The words of a vendor READ: those read, the RESULT and the machine after them. A refused word or the end of the space stops it. -/
def State.vendorReads (s : State) (a : Nat) : Nat → List Word → List Word × Nat × State
  | 0, acc => (acc, 0, s)
  | k + 1, acc =>
    if 0x10000 ≤ a then (acc, 3, s)
    else if !s.readServed a then (acc, 1, s)
    else
      let r := s.busRead 2 a
      r.2.vendorReads (a + 4) k (acc ++ [r.1])

/-- VENDOR_READ (R352, R446). -/
def execVendorRead (seq : BitVec 8) (count a : BitVec 16) (s : State) : Result State :=
  if !s.vendorUp then .next s
  else if s.svc.lastSeq = some seq.toNat then .next s.vendorAgain
  else
    match s.vendorBad 1 seq count.toNat a.toNat false with
    | some t => .next t
    | none =>
      let (words, result, t) := s.vendorReads a.toNat count.toNat []
      .next (t.vendorEnd 1 seq words.length result words)

/-- The words of a vendor WRITE: how many were written, the RESULT and the machine after them. -/
def State.vendorWrites (s : State) (a : Nat) : List Word → Nat → Nat × Nat × State
  | [], done => (done, 0, s)
  | w :: rest, done =>
    if 0x10000 ≤ a then (done, 3, s)
    else if !s.writeServed a then (done, 1, s)
    else (s.busWrite 2 a w).vendorWrites (a + 4) rest (done + 1)

/-- VENDOR_WRITE (R352, R446). -/
def execVendorWrite (seq : BitVec 8) (count a : BitVec 16) (words : List Word) (s : State) : Result State :=
  if !s.vendorUp then .next s
  else if s.svc.lastSeq = some seq.toNat then .next s.vendorAgain
  else
    match s.vendorBad 2 seq count.toNat a.toNat (words.length != count.toNat) with
    | some t => .next t
    | none =>
      let (done, result, t) := s.vendorWrites a.toNat words 0
      .next (t.vendorEnd 2 seq done result [])

end Sys2Proof.Machine
end

