-- ==== Sys2Proof/Machine/Shuttles.lean ====
section
/-!
DEFINITION. What a free shuttle takes (R225, R226), and a shuttle that stalls (R228).
-/

namespace Sys2Proof.Machine

/-- A shuttle takes a context; a ROM program runs at once. -/
def State.takeContext (s : State) (h c : Nat) : State :=
  let t := s.dispatch h c
  if (t.context c).rom.isSome && t.cstate c == 3 then t.runRom c else t

/-- CONTEXT_DISPATCH (R226): a free shuttle takes the first READY context; a shuttle that runs the lowest-priority RUNNING
context gives it up to a READY context of higher priority. In a held restart the shuttles stand (R434). -/
def execContextDispatch (sh : Fin 8) (s : State) : Result State :=
  let h := s.shuttle sh.val
  if !s.loomRuns || h.off || s.is UPD_STATUS.HOLD then .next s
  else
    match s.firstBy 2 (fun _ => true) with
    | none => .next s
    | some c =>
      match h.ctx with
      | none => .next (s.takeContext sh.val c)
      | some r =>
        if s.lowestRunning == some r && decide (s.cget (CTX.PRIO r) < s.cget (CTX.PRIO c)) then
          .next ((s.makeReady r).takeContext sh.val c)
        else .next s

end Sys2Proof.Machine
end

