-- ==== Sys2Proof/Machine/Merge.lean ====
section
/-!
DEFINITION. The merge of a decision tick (R235 to R242, R367, R468): which orders it takes, which of them win, and what a winning order
does when it takes effect.
-/

namespace Sys2Proof.Machine

/-! ### Which orders a tick merges (R238) -/

/-- Orders by arrival; orders of one moment keep their place. -/
def byArrival : List Order → List Order
  | [] => []
  | o :: rest =>
    let l := byArrival rest
    l.takeWhile (fun p => decide (p.at_ < o.at_)) ++ o :: l.dropWhile (fun p => decide (p.at_ < o.at_))

/-- The orders of the commit that an order belongs to, itself included; 1 outside a commit. -/
def groupSize (l : List Order) (o : Order) : Nat := if o.group = 0 then 1 else (l.filter (fun p => p.group == o.group)).length

/-- The orders that one tick takes, at most 64, and those that carry over: what a commit released stays together, and once an order
carries over every later one does. -/
def splitTick (l : List Order) : List Order × List Order :=
  l.foldl (fun (acc : List Order × List Order) o =>
    let inside := o.group != 0 && acc.1.any (fun p => p.group == o.group)
    if acc.2.isEmpty && (inside || decide (acc.1.length + groupSize l o ≤ 64)) then (acc.1 ++ [o], acc.2) else (acc.1, acc.2 ++ [o])) ([], [])

/-! ### Who wins (R236, R237) -/

/-- Rank of orders of one master that arrive in one CORE cycle. -/
def orderRank (o : Order) : Nat :=
  match o.origin with
  | .ctx c => c
  | .reg => 1000
  | .policy => 1000
  | .pick p => 2000 + p

/-- Order `o` beats order `p` of the same master: it arrived later, or in the same cycle on the twin of role A (R367) or with a better rank.
Between equals the one placed later counts (log entry 8). -/
def orderBeats (o p : Order) : Bool :=
  if o.at_ ≠ p.at_ then decide (p.at_ < o.at_)
  else if o.fromB ≠ p.fromB then !o.fromB
  else decide (orderRank o ≤ orderRank p)

/-- The winner of a set of orders on one target: the lowest master's last order. -/
def winnerOf (l : List Order) : Option Order :=
  let m := l.foldl (fun (a : Nat) o => min a o.master) 7
  (l.filter (fun o => o.master == m)).foldl (fun (best : Option Order) o =>
    match best with
    | none => some o
    | some b => if orderBeats o b then some o else some b) none

/-- The owner whose context holds a target under lock (R237). -/
def State.lockOwner (s : State) (t : Target) : Option Nat :=
  (s.lom.holders.find? (fun h => h.1 == t && s.cget (CTX.LOCKEN h.2) == 1 && s.cstate h.2 != 0 && s.cstate h.2 != 1 && s.cstate h.2 != 8)).map
    (fun h => s.cget (CTX.OWNER h.2))

/-- The fate of one order that does not win: its outcome code, the winning master, whether it was raising, whether it lost to a lock, and whether a later order of its own job replaced it. -/
structure Verdict where
  order : Order
  code : Nat
  winner : Nat
  raising : Bool
  locked : Bool := false
  own : Bool := false
  deriving DecidableEq, Repr

/-- The merge of one target: the winner, and the verdicts on the other orders in their order of arrival (R25, R236, R237). -/
def State.judge (s : State) (l : List Order) : Option Order × List Verdict :=
  let raising := fun (o : Order) => !s.reducing o
  let dropped := fun (o : Order) => raising o && s.regionSafe o.target.region
  let barred := fun (o : Order) => raising o && (match s.lockOwner o.target with
    | some m => m != o.master
    | none => false)
  let live := l.filter (fun o => !dropped o && !barred o)
  let red := live.filter s.reducing
  let win := winnerOf (if red.isEmpty then live else red)
  let verdict := fun (o : Order) =>
    if dropped o then ({ order := o, code := 3, winner := o.master, raising := true } : Verdict)
    else if barred o then ({ order := o, code := 2, winner := (s.lockOwner o.target).getD 0, raising := true, locked := true } : Verdict)
    else
      match win with
      | none => ({ order := o, code := 2, winner := o.master, raising := raising o } : Verdict)
      | some w =>
        let same := o.master == w.master && decide (o.at_ ≤ w.at_)
        ({ order := o, code := if same then 1 else 2, winner := w.master, raising := raising o, own := same && o.job != 0 && o.job == w.job } : Verdict)
  (win, (l.filter (fun o => win != some o)).map verdict)

/-- The merge of all targets of a tick: the winners by their target's first order, and the verdicts in order of arrival. -/
def State.judgeAll (s : State) (l : List Order) : List Order × List Verdict :=
  let targets := (l.map (fun o => o.target)).eraseDups
  let parts := targets.map (fun t => s.judge (l.filter (fun o => o.target == t)))
  let all := parts.flatMap (fun p => p.2)
  (parts.filterMap (fun p => p.1), l.filterMap (fun o => all.find? (fun v => v.order == o)))

/-- A lost order: LASTCONF and the count (`LOM_LASTCONF`, `LOM_MERGE`, R236). -/
def State.noteConflict (s : State) (v : Verdict) : State :=
  if v.code ≠ 2 then s
  else
    let w : Word := 0
    let w := LOM_LASTCONF.LOSER.put v.order.master (LOM_LASTCONF.WINNER.put v.winner (LOM_LASTCONF.TARGET.put v.order.target.id w))
    let w := LOM_LASTCONF.LOCKED.put (if v.locked then 1 else 0) (LOM_LASTCONF.RAISING.put (if v.raising then 1 else 0) w)
    let t := (s.wr LOM_LASTCONF.addr w).wr LOM_LASTCONF_TICK.addr (BitVec.ofNat 32 s.tickNow)
    (t.raise LOM_FLAGS.CONFLICT).count LOM_MERGE.CONFLICTS

/-- The merge at the end of the running tick: the orders that carry over stay, the losers resolve; answers the winners. -/
def State.mergeTick (s : State) : List Order × State :=
  let n := s.tickNow
  let due := byArrival (s.lom.orders.filter (fun o => decide (o.tick ≤ n)))
  let later := s.lom.orders.filter (fun o => !decide (o.tick ≤ n))
  let (now, excess) := splitTick due
  let (wins, lost) := s.judgeAll now
  let t := { s with lom := { s.lom with orders := excess.map (fun (o : Order) => ({ o with tick := n + 1 } : Order)) ++ later } }
  let t := (t.set LOM_MERGE.ORDERS now.length).set LOM_MERGE.SPILLED excess.length
  let t := t.onlyIf (!excess.isEmpty) (fun u => u.raise LOM_FLAGS.TICK_SPILL)
  let t := t.each lost (fun v u => (u.noteConflict v).resolve v.order v.code v.own)
  (wins, t)

/-! ### Orders in force -/

/-- The context whose order put the value of a target in force (R234). -/
def State.holdTarget (s : State) (o : Order) : State :=
  let l := s.lom.holders.filter (fun h => h.1 != o.target)
  match o.origin with
  | .ctx c => { s with lom := { s.lom with holders := l ++ [(o.target, c)] } }
  | _ => { s with lom := { s.lom with holders := l } }

/-- A new rail set-point (R116, R119): it supersedes a running slew, and burst mode ends (R99). -/
def State.applyRail (s : State) (o : Order) : State :=
  let t := match s.mod.order with
    | some p => ({ s with mod := { s.mod with order := none } } : State).resolve p 1 (p.job != 0 && p.job == o.job)
    | none => s
  let t := (t.set TRK_REF.TARGET o.val.toNat).set TRK_RATE.ACT_RATE o.aux.toNat
  ({ t with mod := { t.mod with order := some o } } : State).leaveBurst .trk

/-- A new contract point of the port (R331): a sink contract is a source with its ceiling, a source contract a converter set-point. -/
def State.applyContract (s : State) (o : Order) : State :=
  let volt := o.val.toNat % 0x10000
  let t := (s.set PRT_CONTRACT.VOLT volt).set PRT_CONTRACT.CURR o.aux.toNat
  if o.val.toNat / 0x10000 = 1 then
    let t := (t.set SRC_CEIL_VBUS.CEIL o.aux.toNat).set SRC_CEIL_VBUS.VOLT volt
    (t.mark SRC_STATUS.VBUS_QUAL true).sinkOn
  else t.setFleet .prt (fun f => { f with vref := 10000 * (volt : Int) })

/-- `EN` of the trunk (R140): enabled, the cells of the active set re-enter; disabled, the block turns off once it no longer carries the rail. -/
def State.applyTrunkEn (s : State) (n : Nat) : State :=
  let t := s.set TRK_CTRL.EN n
  if n = 1 && !s.is TRK_CTRL.EN && !t.sel.idleTrunk && t.mode < 2 then t.reenterAll else t

/-- `EN` of the charge block (R169). -/
def State.applyChargeEn (s : State) (n : Nat) : State :=
  let t := s.set CHB_CTRL.EN n
  if n = 1 && !s.is CHB_CTRL.EN then t.chargeCellsOn.refreshPack else t.refreshPack

/-- `ACT` of a weft table (R194, R200): the table fades in or out; a ninth active table is refused. -/
def State.applyAct (s : State) (k n : Nat) : State :=
  if n = 1 && !s.is (RED_W_CFG.ACT k) && s.weftFull k then s.raise RED_FLAGS.WEFT_FULL
  else
    let was := s.get (RED_W_CFG.ACT k)
    let t := s.set (RED_W_CFG.ACT k) n
    if was = n then t else if n = 1 then t.fadeIn k else t.fadeWeft k false

/-- A field of R235 takes its ordered value, with what follows from it. -/
def State.applyField (s : State) (f : Field) (n : Nat) : State :=
  if f = SRC_REV.MODE then s.applyRev n
  else if f = CHG_CTRL.CHEM then s.applyChem n
  else if f = CHG_CTRL.ARM then s.applyArm
  else if f = CHB_ASSIGN.DEF_ACTIVE then s.applyAssign .chb n
  else if f = TRK_CTRL.EN then s.applyTrunkEn n
  else if f = CHB_CTRL.EN then s.applyChargeEn n
  else
    match (List.range 16).find? (fun k => f == RED_W_CFG.ACT k) with
    | some k => s.applyAct k n
    | none =>
      let t := s.set f n
      if f.addr = CHG_CTRL.addr || f.addr = CHG_CV.addr then t.chgConfig
      else if f = PRT_CTRL.EN then t.portEnabled
      else if f.addr = PRT_LIM.addr then t.capChanged
      else if f = CHB_BACKUP.BACKUP_V then
        if t.get CHB_STATUS.MODE = 3 then { t with chg := { t.chg with backupSet := t.backupPoint } } else t.refreshPack
      else t

/-! ### Shed classes (R239 to R243) -/

/-- A reducing order of M4 on a field (R234, R239). -/
def State.policyOrder (s : State) (id : Nat) (f : Field) (n : Nat) : State :=
  s.enter { target := .field id f, master := 4, val := n, origin := .policy }

/-- Charging at zero current (R234, R239). -/
def State.zeroCharge (s : State) : State := (s.policyOrder 0x08 CHG_CC.CC 0).policyOrder 0x08 CHG_CC.TRICKLE 0

/-- The contexts of a class. -/
def State.classContexts (s : State) (k : Nat) : List Nat :=
  (List.range 128).filter (fun c => s.cstate c != 0 && s.cget (CTX.SHED c) == k)

/-- A context whose class has become shed is suspended (R243): at the next boundary, in a transaction after 100 us at the latest. -/
def State.shedContext (s : State) (c : Nat) : State :=
  if !s.shedHolds c then s
  else if s.cget (CTX.TX c) = 1 then s.setContext c (fun x => { x with shedAt := some (x.shedAt.getD (s.time + us 100)) })
  else s.boundary c false

/-- What happens when a class becomes shed (R239). -/
def State.classBecomesShed (s : State) (k : Nat) : State :=
  let act := s.get (LOM_SHED.ACT k)
  let t := s.onlyIf (bitOf act 0) (fun u => u.zeroCharge)
  let t := t.onlyIf (bitOf act 1) (fun u => u.policyOrder 0x10 PRT_CTRL.EN 0)
  let t := t.onlyIf (bitOf act 2) (fun u => u.policyOrder 0x16 SRC_REV.MODE 0)
  let t := t.onlyIf (bitOf act 3) (fun u => u.policyOrder 0x18 RED_CTRL.WEFT_EN 0)
  let t := t.each ((List.range 128).filter (fun c => t.cstate c != 0)) (fun c u => u.event c 1)
  (t.each (t.classContexts k) (fun c u => u.shedContext c)).raise LOM_FLAGS.SHED_CHG

/-- What happens when a class is restored (R241, R242). -/
def State.classRestored (s : State) (k : Nat) : State :=
  let t := s.raise LOM_FLAGS.SHED_CHG
  t.each (t.classContexts k) (fun c u => ((u.event c 2).setContext c (fun x => { x with shedAt := none })).unsuspend c)

/-- A shed or restore order in force (R239, R241): one by policy acts on the automatic mark, any other on the mark by order. -/
def State.applyShed (s : State) (o : Order) (k : Nat) : State :=
  if k = 0 then s
  else
    let f := if o.origin == .policy then LOM_SHED_STATE.BY_AUTO else LOM_SHED_STATE.BY_ORDER
    let was := bitOf (s.get LOM_SHED_STATE.SHED) k
    let t := s.set f (setBitTo (s.get f) k (o.val == 1))
    let now := bitOf (t.get LOM_SHED_STATE.BY_AUTO) k || bitOf (t.get LOM_SHED_STATE.BY_ORDER) k
    let t := t.set LOM_SHED_STATE.SHED (setBitTo (t.get LOM_SHED_STATE.SHED) k now)
    if now && !was then t.classBecomesShed k else if was && !now then t.classRestored k else t

/-- A winning order takes effect (R236); a rail order resolves when its slew ends, every other one now (R258). -/
def State.applyOrder (s : State) (o : Order) : State :=
  let t := s.holdTarget o
  match o.target with
  | .rail => t.applyRail o
  | .contract => (t.applyContract o).resolve o 0 false
  | .shed k => (t.applyShed o k).resolve o 0 false
  | .field _ f => (t.applyField f o.val.toNat).resolve o 0 false

/-- The classes that the Loom sheds automatically, once per tick (R240): the largest request decides; classes shed by an order are
only marked. -/
def State.autoShed (s : State) : State :=
  let need := s.lom.requests.foldl (fun (a : Nat) r => max a r.excess) 0
  let asked := s.lom.orders.filterMap (fun o => match o.target with
    | .shed k => if o.origin == .policy && o.val == 1 then some k else none
    | _ => none)
  let inSet := fun (t : State) (k : Nat) => bitOf (t.get LOM_SHED_STATE.BY_AUTO) k || asked.contains k
  let have0 := ((List.range 8).filter (inSet s)).foldl (fun (a : Nat) k => a + s.get (LOM_SHED.DECL_I k)) 0
  let auto := (List.range 8).reverse.filter (fun k => k != 0 && bitOf (s.get LOM_SHED_CFG.AUTO) k)
  if need ≤ have0 then s
  else
    let shed := fun (k : Nat) => bitOf (s.get LOM_SHED_STATE.SHED) k
    let pass1 := (auto.filter (fun k => shed k && !inSet s k)).foldl (fun (acc : State × Nat) k =>
      if need ≤ acc.2 then acc
      else (acc.1.set LOM_SHED_STATE.BY_AUTO (setBitTo (acc.1.get LOM_SHED_STATE.BY_AUTO) k true), acc.2 + s.get (LOM_SHED.DECL_I k))) (s, have0)
    let pass2 := (auto.filter (fun k => !shed k && !inSet s k)).foldl (fun (acc : State × Nat) k =>
      if need ≤ acc.2 then acc
      else (acc.1.enter { target := .shed k, master := 4, val := 1, origin := .policy }, acc.2 + s.get (LOM_SHED.DECL_I k))) pass1
    if pass2.2 < need then pass2.1.raise LOM_FLAGS.SHED_SHORT else pass2.1

end Sys2Proof.Machine
end

