-- ==== Sys2Proof/Machine/Tick.lean ====
section
/-!
DEFINITION. DECISION_TICK (R33, R236): the merge, the change of tick, and what the units do once per tick (R27, R59, R69 to R71, R77,
R107, R112, R114, R117, R118, R122, R128, R132, R134, R152, R155, R234, R240, R387, R403, R431; log entry 2). Currents are in
10 mA and voltages in 10 mV.
-/

namespace Sys2Proof.Machine

/-! ### Set-points -/

/-- The pin selection of a tick (R49, R117, R132): while `VIO` is low the last sample stands; the ROM path takes the selection without the
three-sample rule. -/
def State.pinTick (s : State) (k : Nat) : State :=
  let k := if s.saf.vioLow then s.get TRK_PIN.LIVE else k
  if s.fullService then s.vselTick k
  else if s.get GLB_REGION.SERVICE = 0 then s
  else
    let t := (s.set TRK_PIN.LIVE k).set TRK_PIN.SEL k
    (t.set TRK_REF.TARGET (t.get (TRK_VSET.VOLT k))).set TRK_RATE.ACT_RATE (t.get TRK_PIN.PIN_RATE)

/-- A reference one microsecond nearer to its target, uV. -/
def approach (ref target rate : Int) : Int := if ref < target then min target (ref + rate) else max target (ref - rate)

/-- The charge block's reference in BACKUP (R60, R165). -/
def State.backupSlew (s : State) : State :=
  if s.get CHB_STATUS.MODE ≠ 3 then s
  else
    let goal : Int := if s.moving then s.src.xferRef else s.chg.backupSet
    let rate : Int := if s.moving then 10000 else 100 * clampN 1 1000 (s.get TRK_RATE.DEF_RATE)
    (s.setFleet .chb (fun f => { f with vref := approach f.vref (10000 * goal) rate })).set CHB_BACKUP.ACT_V (if s.moving then s.src.xferRef else s.chg.backupSet)

/-- The port converter's reference as a source of the rail (R60, R132, R327). -/
def State.portSlew (s : State) : State :=
  let mode := s.get PRT_STATUS.MODE
  if mode ≠ 1 && mode ≠ 2 then s
  else
    let goal : Int := if s.moving then s.src.xferRef else s.get TRK_REF.TARGET
    let rate : Int := if s.moving then 10000 else 100 * clampN 1 1000 (if mode = 1 then s.get TRK_PIN.PIN_RATE else s.get TRK_RATE.ACT_RATE)
    s.setFleet .prt (fun f => { f with vref := approach f.vref (10000 * goal) rate })

/-! ### The source ceiling (R27, R69 to R71, R77, R372) -/

/-- Ceiling of a source (R69, R77). -/
def State.ceilingOf (s : State) (code eff : Nat) : Nat :=
  if code = 1 then
    let v := s.get SRC_IN48_MEAS.VOLT
    if v < 3000 then min (s.searched 1) (quot (32000 * 65536 * (v - 2000) : Nat) (v * eff : Nat)).toNat else s.searched 1
  else if code = 2 then s.searched 2
  else if code = 3 then min (clampN 100 10000 (s.get CHB_LIMIT.DIS_MAX)) (s.contRating .chb)
  else if code = 4 then s.get SRC_CEIL_VBUS.CEIL
  else 0

/-- Reports the ceilings in force; frozen while North Power is safe (R23, R77). -/
def State.ceilingReport (s : State) (eff : Nat) : State :=
  if s.regionSafe .north then s else (s.set SRC_CEIL48.CEIL (s.ceilingOf 1 eff)).set SRC_CEIL12.CEIL (s.ceilingOf 2 eff)

/-- The ceiling that this device enforces for its primary: in a pair its share of it (R372). -/
def State.enforced (s : State) (eff : Nat) : Nat :=
  let p := s.get SRC_STATUS.PRIMARY
  let c := if p = 1 then s.get SRC_CEIL48.CEIL else if p = 2 then s.get SRC_CEIL12.CEIL else s.ceilingOf p eff
  let own := s.weight * s.regCurrent.2
  let peer := s.sel.peerWeight * s.get SEL_PEER_I.CAP
  if s.paired && decide (2 ≤ s.pairState) && decide (s.pairState ≤ 4) then (quot (c * own : Nat) (own + peer : Nat)).toNat else c

/-- Voltage and input current of the primary source. -/
def State.primaryNet (s : State) (x : TickIn) : Nat × Int :=
  let p := s.get SRC_STATUS.PRIMARY
  if p = 1 then (s.get SRC_IN48_MEAS.VOLT, s.getZ SRC_IN48_MEAS.CURR)
  else if p = 2 then (s.get SRC_IN12_MEAS.VOLT, s.getZ SRC_IN12_MEAS.CURR)
  else if p = 3 then (s.get CHG_PACK.VPACK, -(s.blockCurrent .chb))
  else if p = 4 then (x.vbus, -x.ibus)
  else (0, 0)

/-- Efficiency between the primary source and the rail, 2^-16: measured for the trunk and for the charge block (R70; log entry 48). -/
def State.pathEff (s : State) (x : TickIn) : Nat :=
  let p := s.get SRC_STATUS.PRIMARY
  if p = 1 then x.effTrk else if p = 3 then x.effChb else 65536

/-- An input current of the primary source as rail current. -/
def State.toRail (s : State) (x : TickIn) (i : Int) : Int := quot (i * (s.primaryNet x).1 * s.pathEff x) (s.railV * 65536 : Nat)

/-- A rail current as pack current at the efficiency of the charge block (R70). -/
def State.toPack (s : State) (x : TickIn) (i : Int) : Int := quot (i * s.railV * 65536) (s.get CHG_PACK.VPACK * x.effChb : Nat)

/-- The discharge limit L_dis as rail current (R143). -/
def State.shaveCap (s : State) (x : TickIn) : Nat :=
  let lim := min (min (clampN 100 10000 (s.get CHB_LIMIT.DIS_MAX)) (s.effLimit .chb)) (s.get THM_LIM.CHB * s.contRating .chb / 100)
  (quot (lim * s.get CHG_PACK.VPACK * x.effChb : Nat) (s.railV * 65536 : Nat)).toNat

/-- Number under which SRC asks the Loom to shed (R27). -/
def srcAsker : Nat := 4

/-- Peak shaving and what it does not cover (R27, R70). -/
def State.shaveTick (s : State) (x : TickIn) (limit : Nat) : State :=
  let p := s.get SRC_STATUS.PRIMARY
  let (_, i) := s.primaryNet x
  let e := if p = 0 then 0 else s.toRail x (i - limit)
  let ask := s.is SRC_CTRL.SHAVE_EN && s.is CHG_STATUS.SHAVE_AVAIL && p != 0 && p != 3
  let old := s.get SRC_SHAVE.SHAVE_I
  let cap := s.shaveCap x
  let new := if ask then min cap (clampZ 0 65535 (old + clampZ (-10) 10 e)).toNat else 0
  let left := if ask && old < cap then 0 else e.toNat
  let t := (s.set SRC_SHAVE.SHAVE_I new).mark SRC_STATUS.SHAVING (decide (0 < new))
  let t := { t with chg := { t.chg with iShave := if new = 0 then 0 else t.toPack x new }, src := { t.src with excess := left } }
  let t := t.onlyIf (decide (0 < left) && !s.is SRC_STATUS.OVER_CEIL) (fun u => u.raise SRC_FLAGS.OVER_CEIL)
  let t := t.mark SRC_STATUS.OVER_CEIL (decide (0 < left))
  if left = 0 && !(t.lom.requests.any (fun r => r.who == srcAsker)) then t else t.askShed srcAsker left

/-- The hard limit (R71), and the pack current that a search step asks for (R66). -/
def State.hardTick (s : State) (x : TickIn) (limit : Nat) : State :=
  let p := s.get SRC_STATUS.PRIMARY
  let hard := if s.is SRC_CTRL.HARD_LIMIT && p = 1 then some (s.toRail x (quot (limit * (100 + clampN 1 50 (s.get SRC_SHAVE.MARGIN)) : Nat) 100)).toNat else none
  let draw := if s.src.draw = 0 then 0 else quot (s.src.draw * (s.primaryNet x).1 * s.pathEff x * x.effChb : Nat) (s.get CHG_PACK.VPACK * 2 ^ 32 : Nat)
  { s with src := { s.src with hard := hard }, chg := { s.chg with iSearch := draw } }

/-- South Power's share of the ceiling (R27): what the trunk leaves, as pack current after the power that the port sources. -/
def State.southShareOf (s : State) (x : TickIn) : Int :=
  let p := s.get SRC_STATUS.PRIMARY
  if p = 0 || p = 3 then 0
  else
    let rail := quot (s.src.southShare * (s.primaryNet x).1 * s.pathEff x : Nat) 65536
    let port : Int := if s.get PRT_STATUS.MODE = 4 then 10 * x.pBus else 0
    max 0 (quot ((rail - port) * x.effChb) (s.get CHG_PACK.VPACK * 65536 : Nat))

/-- The allocation of the source ceiling and the charge reference (R27, R143). -/
def State.allocate (s : State) (x : TickIn) : State :=
  let t := s.ceilingReport x.effTrk
  let limit := t.enforced x.effTrk
  let t := { t with src := { t.src with southShare := limit - x.need } }
  let t := (t.shaveTick x limit).hardTick x limit
  t.refUpdate (t.weftTerm x.kIn x.kPack) (t.southShareOf x)

/-- Spare rail current that every requester reports (R241). -/
def State.spareTick (s : State) (x : TickIn) : State :=
  let (_, i) := s.primaryNet x
  let src := (s.toRail x ((s.enforced x.effTrk : Int) - i)).toNat
  let trk := if s.get SRC_STATUS.PRIMARY = 1 then ((s.effLimit .trk : Int) - s.blockCurrent .trk).toNat else src
  { s with lom := { s.lom with spare := min src trk } }

/-! ### Energy budgets (R234) -/

/-- The charged targets that a context holds: charge current, port converter, trunk reverse. -/
def State.charged (s : State) (c : Nat) : Bool × Bool × Bool :=
  let ids := (s.lom.holders.filter (fun h => h.2 == c)).map (fun h => h.1.id)
  (ids.contains 0x08, ids.any (fun n => decide (0x10 ≤ n) && decide (n ≤ 0x13)), ids.contains 0x16)

/-- One microsecond of the budget of a context; at its end it traps and M4 returns what it holds to zero or OFF. -/
def State.energyTick (s : State) (x : TickIn) (c : Nat) : State :=
  let (chg, prt, rev) := s.charged c
  let p := (if chg then x.pPack else 0) + (if prt then x.pBus else 0) + (if rev then x.pRev else 0)
  let nj := (s.context c).nanojoule + p
  let t := s.setContext c (fun y => { y with nanojoule := nj % 1000000 })
  let t := t.cset (CTX.USED c) (min (t.cget (CTX.USED c) + nj / 1000000) (2 ^ 32 - 1))
  let budget := t.cget (CTX.BUDGET c)
  if budget = 0 || t.cget (CTX.USED c) < budget || t.cstate c = 8 then t
  else
    let t := (t.trap c 0x06 0).onlyIf chg (fun u => u.zeroCharge)
    let t := t.onlyIf prt (fun u => u.policyOrder 0x10 PRT_CTRL.EN 0)
    t.onlyIf rev (fun u => u.policyOrder 0x16 SRC_REV.MODE 0)

/-- The budgets of every context that holds a charged target. -/
def State.energy (s : State) (x : TickIn) : State :=
  let l := (s.lom.holders.map (fun h => h.2)).eraseDups.filter (fun c => s.cstate c != 0)
  s.each (l.filter (fun c => s.charged c != (false, false, false))) (fun c t => t.energyTick x c)

/-! ### Cells and blocks -/

/-- Fitted cells in ISOLATED or OFF without cause bits become spares of an enabled block, and re-enter while the active set is short of a
cell (R107, R128; log entry 27). -/
def State.returnCells (s : State) (b : Block) : State :=
  if !s.blockEnabled b || (b == .trk && s.sel.idleTrunk) then s
  else
    let l := s.cellsWhere b (fun n => s.fitted n && s.causes n == 0 && (s.cellState n == 5 || s.cellState n == 0))
    let back := fun (n : Nat) (t : State) =>
      let t := (t.moveCell n 1).set (CEL_STATUS.CAUSE n) 0
      let f := t.fleet b
      let have' := (t.availCells b).length + f.queue.length + (if f.ramp.isSome then 1 else 0)
      if have' < (t.activeSet b).length then t.queueRamp b n 1 else t
    if l.isEmpty then s else (s.each l back).report b

/-- A disabled block turns off once it does not carry the rail (R85, R140; log entry 28). -/
def State.disabledBlocks (s : State) : State :=
  let runs := fun (b : Block) => (blockCells b).any (fun n => s.cellPresent n && s.cellState n != 0 && s.cellState n != 5 && s.cellState n != 6)
  let p := s.get SRC_STATUS.PRIMARY
  let t := if s.blockEnabled .trk || s.moving then s
    else if p = 1 then (if (s.prioList.any (fun c => c != 1 && s.qualified c)) then s else s.holdUp 2)
    else if s.is SRC_STATUS.REV_ACTIVE || !runs .trk then s
    else s.blockOff .trk
  let t := t.mark CHB_STATUS.ENABLED (t.blockEnabled .chb)
  if t.blockEnabled .chb || t.moving || !runs .chb || t.get SRC_STATUS.PRIMARY = 3 then t
  else ((t.chbMode 0).blockOff .chb).mark CHB_STATUS.ENABLED false

/-- What the blocks do once per tick in full service. -/
def State.blockTick (s : State) : State :=
  let t := match s.mod.trk.assignNext with
    | some bits => (s.setFleet .trk (fun f => { f with assignNext := none })).applyAssign .trk bits
    | none => s
  let t := ((t.returnCells .trk).returnCells .chb).disabledBlocks
  let t := (t.restoreCells .trk).restoreCells .chb
  (t.budgetTick .trk).budgetTick .chb

/-! ### Sources -/

/-- A net whose use has ended is no longer qualified (R58). -/
def State.sourceConditions (s : State) : State :=
  let t := if s.is SRC_STATUS.IN48_QUAL && !s.is SRC_CTRL.IN48_USED then s.disqualify 1 else s
  if t.is SRC_STATUS.IN12_QUAL && (!t.is SRC_CTRL.IN12_USED || decide (1600 < t.get TRK_REF.TARGET)) then t.disqualify 2 else t

/-- The choice of the source (R59, R63, R372); a pack that may no longer carry the rail and has no successor is lost. -/
def State.sourceTick (s : State) : State :=
  let t := s.sourceConditions
  let ps := t.pairState
  let t := if t.paired && decide (2 ≤ ps) && decide (ps ≤ 4) then t.pairChoose else t.chooseSource
  if t.get SRC_STATUS.PRIMARY = 3 && !t.moving && !t.qualified 3 && t.firstSource.isNone then t.leaveBackup.holdUp 2 else t

/-! ### Charge engine, port, pair and safety -/

/-- The current limit of the port's mode, 10 mA (R327). -/
def State.portLimit (s : State) : Nat :=
  let cap := min (clampN 50 500 (s.get PRT_LIM.IMAX)) (5 * s.get THM_LIM.PRT)
  if s.get PRT_STATUS.MODE = 4 then
    match s.svc.contract with
    | some (p, _, i) => if p.kind = .pps then min i cap else min (quot (110 * i : Nat) 100 + 10).toNat cap
    | none => cap
  else if s.get PRT_STATUS.MODE = 1 then s.get SRC_CEIL_VBUS.CEIL
  else min (s.get SRC_CEIL_VBUS.CEIL) cap

/-- The port's measurement and whether it is at its current limit (`PRT_MEAS`, R327). -/
def State.portTick (s : State) (vbus : Nat) (ibus : Int) : State :=
  let t := (s.set PRT_MEAS.VBUS (min 65535 vbus)).setZ PRT_MEAS.CURR (clampZ (-32768) 32767 ibus)
  let mode := s.get PRT_STATUS.MODE
  let i := if mode = 4 then ibus else -ibus
  let at_ := decide (1 ≤ mode) && decide (mode ≤ 4) && decide ((s.portLimit : Int) ≤ i)
  (t.onlyIf (at_ && !s.is PRT_STATUS.ILIMIT) (fun u => u.raise PRT_FLAGS.ILIMIT)).mark PRT_STATUS.ILIMIT at_

/-- The charge engine's tick (R147, R152, R155, R166). -/
def State.chargeTick (s : State) (x : TickIn) : State :=
  let t := match s.chg.chemHeld with
    | some c => if s.get CHB_STATUS.MODE = 3 then s else ({ s with chg := { s.chg with chemHeld := none } } : State).loadChem c
    | none => s
  ((t.chgConfig).refreshPack).chgTimers x.i1s

/-- A region that the state of its blocks escalates (R21). -/
def State.escalation (s : State) : State :=
  s.each [Region.north, .south] (fun r t =>
    if t.escalates r then
      ({ t with saf := { t.saf with escalatedAt := t.saf.escalatedAt.put (regionFault r) t.time } } : State).safeRegion r
    else t)

/-- The healthy time of a trial (R431). -/
def State.healthyTick (s : State) : State :=
  let bad := decide (s.get SAF_FAULT.FAULT % 128 ≠ 0) || [Region.north, .south, .control, .interface].any s.regionSafe
  let h := if !s.beam.trial || bad then 0 else s.upd.healthy + 1
  ({ s with upd := { s.upd with healthy := h } } : State).set UPD_TRIAL.HEALTHY (min 300 (h / 1000000))

/-- What the units do once per tick in full service. -/
def State.fullTick (s : State) (x : TickIn) : State :=
  let t := s.selModeTick
  let t := if t.powered then t.blockTick else t
  let t := t.chargeTick x
  let t := if t.powered then t.allocate x else t
  let t := if t.powered then t.spareTick x else t
  let t := t.energy x
  let t := ((t.swapReleased).packResume).weftReport
  let t := (t.handBackTick).handoverTick
  let t := if t.powered && t.mode < 3 then t.escalation else t
  let t := t.healthyTick
  match t.saf.modeReq with
  | some m => t.applyMode m
  | none => t

/-- What the units do once per tick while the converters are powered. -/
def State.powerTick (s : State) (x : TickIn) : State :=
  if !s.powered then s
  else
    let t := (((s.slewTick (min 10000 x.droop)).backupSlew).portSlew).ovrTick
    t.sourceTick

/-- The clocks go on to the next tick: `SYSTIME` to its first count, the AON tick by one (R29, R31). -/
def State.nextTick (s : State) : State := { s with time := 100 * (s.tickNow + 1), aon := s.aon + 1 }

/-- Merges that do not complete in their tick (R22): the orders wait, and the tenth in a row puts Control in its safe state. -/
def State.mergeLate (s : State) : State :=
  let k := s.lom.overruns + 1
  let t := { s with lom := { s.lom with overruns := k } }
  if 10 ≤ k then t.safeRegion .control else t

/-- A merge in time. -/
def State.mergeDone (s : State) : State :=
  if s.lom.overruns = 0 then s else { s with lom := { s.lom with overruns := 0, mergeGoodSince := s.time } }

/-- The merge of the running tick, the change of tick and the winning orders in force (R33, R236). -/
def State.turn (s : State) (inTime : Bool) : State :=
  if !s.fullService then s.nextTick
  else if !inTime then s.mergeLate.nextTick
  else
    let (wins, t) := s.mergeDone.mergeTick
    (t.nextTick.each wins (fun o u => u.applyOrder o)).autoShed

/-- DECISION_TICK (R33, R236): the running tick ends and the next one starts. In reset and in DEEP SLEEP only the clocks go on; in OFF nothing
does. -/
def execDecisionTick (x : TickIn) (s : State) : Result State :=
  if s.mode = 4 then .next s
  else if s.saf.inReset.isSome || s.mode = 3 then .next s.nextTick
  else
    let t := (s.pinTick x.vsel.val).turn x.inTime
    let t := t.portTick x.vbus x.ibus
    let t := t.mark TRK_STATUS.REDUCED (t.get GLB_REGION.SERVICE == 1 || t.get GLB_REGION.SERVICE == 3)
    let t := t.powerTick x
    .next (if t.fullService then t.fullTick x else t)

end Sys2Proof.Machine
end

