-- ==== Sys2Proof/Machine/Verk.lean ====
section
/-!
DEFINITION. The Verk instructions (R254 to R271). A command is the instruction that the shuttle of
a RUNNING context has fetched: it acts only when the word at the context's PC is its encoding.
-/

namespace Sys2Proof.Machine

/-- Whether the shuttle of context c issues the instruction word w now (R225, R257). -/
def State.issues (s : State) (c : Nat) (w : Word) : Bool :=
  s.loomRuns && s.cstate c == 3 && decide (s.cget (CTX.PC c) < 0x4000) && s.pm.get (s.cget (CTX.PC c)) == w

/-- Runs the effect of an instruction when the shuttle issues it. -/
def State.verk (s : State) (c : Nat) (i : Instr) (eff : State → State) : State :=
  match verkWord i with
  | some w => if s.issues c w then eff s else s
  | none => s

/-- Counts an instruction of the shuttle that runs the context (R226). -/
def State.countInstr (s : State) (c : Nat) : State :=
  let sh := s.lom.shuttles.map (fun (h : Shuttle) => if h.ctx = some c then { h with count := h.count + 1 } else h)
  { s with lom := { s.lom with shuttles := sh } }

/-- The instruction retires with the given next PC: a fetch at 0x4000 traps with ADDR (R262), and a
pending freeze or shed takes effect at this boundary (R243, R247). -/
def State.retireTo (s : State) (c pc : Nat) : State :=
  let t := (s.countInstr c).cset (CTX.PC c) pc
  if pc = 0x4000 && t.cstate c == 3 then t.trap c 0x0B 0 else t.boundary c false

/-- The instruction retires and the next word follows. -/
def State.retire (s : State) (c : Nat) : State := s.retireTo c (s.cget (CTX.PC c) + 1)

/-- The instruction retires into WAIT with its wait and destination register (R266). -/
def State.retireWait (s : State) (c d : Nat) (w : Wait) : State :=
  let t := ((s.countInstr c).cset (CTX.PC c) (s.cget (CTX.PC c) + 1)).park c 4
  let t := t.setContext c (fun x => { x with wait := some w, waitReg := d })
  t.boundary c false

/-- A register result: written, then the instruction retires. -/
def State.compute (s : State) (c : CtxId) (d : Reg) (i : Instr) (v : State → Word) : State :=
  s.verk c i (fun t => (t.setG c d.val (v t)).retire c)

/-! ### Arithmetic and logic (R260) -/

/-- ILLEGAL_ENCODING (R256): the fetched word is no defined encoding; the context traps with ILLEGAL. -/
def execIllegalEncoding (c : CtxId) (w : Word) (s : State) : Result State :=
  if s.issues c w && (verkDecode c w).isNone then .next (s.trap c 0x01 0) else .next s

/-- ADD: gD gets gA + Y. -/
def execAdd (c : CtxId) (d a : Reg) (y : Operand) (s : State) : Result State :=
  .next (s.compute c d (.add c d a y) (fun t => t.g c a.val + t.yval c y))

/-- SUB: gD gets gA − Y. -/
def execSub (c : CtxId) (d a : Reg) (y : Operand) (s : State) : Result State :=
  .next (s.compute c d (.sub c d a y) (fun t => t.g c a.val - t.yval c y))

/-- AND. -/
def execAnd (c : CtxId) (d a : Reg) (y : Operand) (s : State) : Result State :=
  .next (s.compute c d (.and c d a y) (fun t => t.g c a.val &&& t.yval c y))

/-- OR. -/
def execOr (c : CtxId) (d a : Reg) (y : Operand) (s : State) : Result State :=
  .next (s.compute c d (.or c d a y) (fun t => t.g c a.val ||| t.yval c y))

/-- XOR. -/
def execXor (c : CtxId) (d a : Reg) (y : Operand) (s : State) : Result State :=
  .next (s.compute c d (.xor c d a y) (fun t => t.g c a.val ^^^ t.yval c y))

/-- SHL: by Y[4:0]. -/
def execShl (c : CtxId) (d a : Reg) (y : Operand) (s : State) : Result State :=
  .next (s.compute c d (.shl c d a y) (fun t => t.g c a.val <<< ((t.yval c y).toNat % 32)))

/-- SHR: by Y[4:0], zero fill, or sign fill with Y[5] at 1. -/
def execShr (c : CtxId) (d a : Reg) (y : Operand) (s : State) : Result State :=
  .next (s.compute c d (.shr c d a y) (fun t =>
    let n := (t.yval c y).toNat
    if n.testBit 5 then (t.g c a.val).sshiftRight (n % 32) else t.g c a.val >>> (n % 32)))

/-- MUL: low 32 bits of the product. -/
def execMul (c : CtxId) (d a : Reg) (y : Operand) (s : State) : Result State :=
  .next (s.compute c d (.mul c d a y) (fun t => t.g c a.val * t.yval c y))

/-- Signed minimum. -/
def minS (a b : Word) : Word := if a.toInt ≤ b.toInt then a else b

/-- Signed maximum. -/
def maxS (a b : Word) : Word := if a.toInt ≤ b.toInt then b else a

/-- MIN. -/
def execMin (c : CtxId) (d a : Reg) (y : Operand) (s : State) : Result State :=
  .next (s.compute c d (.min c d a y) (fun t => minS (t.g c a.val) (t.yval c y)))

/-- MAX. -/
def execMax (c : CtxId) (d a : Reg) (y : Operand) (s : State) : Result State :=
  .next (s.compute c d (.max c d a y) (fun t => maxS (t.g c a.val) (t.yval c y)))

/-- CLAMP: min(max(gD, gA), Y). -/
def execClamp (c : CtxId) (d a : Reg) (y : Operand) (s : State) : Result State :=
  .next (s.compute c d (.clamp c d a y) (fun t => minS (maxS (t.g c d.val) (t.g c a.val)) (t.yval c y)))

/-- MOVI: imm22 sign-extended. -/
def execMovi (c : CtxId) (d : Reg) (imm : BitVec 22) (s : State) : Result State :=
  .next (s.compute c d (.movi c d imm) (fun _ => imm.signExtend 32))

/-- MOVHI: the upper half gets imm16. -/
def execMovhi (c : CtxId) (d : Reg) (imm : BitVec 16) (s : State) : Result State :=
  .next (s.compute c d (.movhi c d imm) (fun t => (t.g c d.val &&& 0x0000FFFF#32) ||| (imm.setWidth 32 <<< 16)))

/-! ### Data memory and registers (R261) -/

/-- LD: gD gets the data word at gA + Y; any address but a multiple of 4 below 0x4000 traps with ADDR. -/
def execLd (c : CtxId) (d a : Reg) (y : Operand) (s : State) : Result State :=
  .next (s.verk c (.ld c d a y) (fun t =>
    let adr := (t.sumAY c a.val y).toNat
    if dataAddress adr then (t.setG c d.val (t.dataWord c adr)).retire c else t.trap c 0x0B 0))

/-- A data word stored by a context: at once outside a transaction; logged inside one, where a 33rd
distinct word traps with TX_FULL (R244, R245). -/
def State.storeData (s : State) (c adr : Nat) (v : Word) : Option State :=
  if s.cget (CTX.TX c) = 0 then some { s with dm := s.dm.set adr v }
  else
    let x := s.context c
    if x.txAddrs.contains adr then
      some (s.setContext c (fun x => { x with txWords := x.txWords.set adr v }))
    else if 32 ≤ x.txAddrs.length then none
    else
      let t := s.setContext c (fun x => { x with txWords := x.txWords.set adr v, txAddrs := adr :: x.txAddrs })
      some (t.cset (CTX.TXWORDS c) (x.txAddrs.length + 1))

/-- ST: the data word at gA + Y gets gD. -/
def execSt (c : CtxId) (d a : Reg) (y : Operand) (s : State) : Result State :=
  .next (s.verk c (.st c d a y) (fun t =>
    let adr := (t.sumAY c a.val y).toNat
    if dataAddress adr then
      match t.storeData c adr (t.g c d.val) with
      | some u => u.retire c
      | none => t.trap c 0x09 0
    else t.trap c 0x0B 0))

/-- RDR: gD gets the device register at gA + Y, read as M4 without side effects; a register of an absent
unit traps with ABSENT. -/
def execRdr (c : CtxId) (d a : Reg) (y : Operand) (s : State) : Result State :=
  .next (s.verk c (.rdr c d a y) (fun t =>
    let adr := (t.sumAY c a.val y).toNat
    if !(decide (adr % 4 = 0) && decide (adr < 0x2000)) then t.trap c 0x0B 0
    else if t.absentAddr adr then t.trap c 0x02 0
    else (t.setG c d.val (t.rdrWord adr)).retire c))

/-! ### Control flow (R262, R263) -/

/-- A branch: the target lies in 0x0000 to 0x3FFF, or the instruction traps with ADDR. -/
def State.branch (s : State) (c target : Nat) : State :=
  if target < 0x4000 then s.retireTo c target else s.trap c 0x0B 0

/-- BR: PC gets gA + addr14. -/
def execBr (c : CtxId) (a : Reg) (addr : BitVec 14) (s : State) : Result State :=
  .next (s.verk c (.br c a addr) (fun t => t.branch c (t.g c a.val + addr.setWidth 32).toNat))

/-- Whether a condition holds (R262). -/
def condHolds (k : Cond) (a b : Word) : Bool :=
  match k with
  | .eq => a == b
  | .ne => a != b
  | .lt => decide (a.toInt < b.toInt)
  | .ge => decide (b.toInt ≤ a.toInt)
  | .ltu => decide (a.toNat < b.toNat)
  | .geu => decide (b.toNat ≤ a.toNat)

/-- BRC: when gA COND gB holds, PC gets PC + off14. -/
def execBrc (c : CtxId) (cond : Cond) (a b : Reg) (off : BitVec 14) (s : State) : Result State :=
  .next (s.verk c (.brc c cond a b off) (fun t =>
    if condHolds cond (t.g c a.val) (t.g c b.val) then
      t.branch c (BitVec.ofNat 32 (t.cget (CTX.PC c)) + off.signExtend 32).toNat
    else t.retire c))

/-- CALL: pushes PC + 1 and branches; depth 8 traps with STACK. -/
def execCall (c : CtxId) (a : Reg) (addr : BitVec 14) (s : State) : Result State :=
  .next (s.verk c (.call c a addr) (fun t =>
    let n := t.cget (CTX.DEPTH c)
    let target := (t.g c a.val + addr.setWidth 32).toNat
    if 8 ≤ n then t.trap c 0x0A 0
    else if 0x4000 ≤ target then t.trap c 0x0B 0
    else
      let u := t.cset (CTX.RET c n) (t.cget (CTX.PC c) + 1)
      (u.cset (CTX.DEPTH c) (n + 1)).branch c target))

/-- RET: PC gets the popped address; depth 0 traps with STACK. -/
def execRet (c : CtxId) (s : State) : Result State :=
  .next (s.verk c (.ret c) (fun t =>
    let n := t.cget (CTX.DEPTH c)
    if n = 0 then t.trap c 0x0A 0
    else
      let target := t.cget (CTX.RET c (n - 1))
      if 0x4000 ≤ target then t.trap c 0x0B 0
      else (t.cset (CTX.DEPTH c) (n - 1)).branch c target))

/-- YIELD: the context returns to READY behind contexts of equal priority (R226). -/
def execYield (c : CtxId) (s : State) : Result State :=
  .next (s.verk c (.yield c) (fun t =>
    let u := t.retire c
    if u.cstate c = 3 then u.makeReady c else u))

/-- TRAP: cause USER with the operand in TRAPARG. -/
def execTrap (c : CtxId) (imm : BitVec 16) (s : State) : Result State :=
  .next (s.verk c (.trap c imm) (fun t => t.trap c 0x10 imm.toNat))

/-! ### Power orders (R258, R259, R264, R265) -/

/-- How many rail orders the open transaction has buffered (R259). -/
def State.txRails (s : State) (c : Nat) : Nat :=
  ((s.context c).txOrders.filter (fun b => match b with
    | .power o => o.target == .rail
    | _ => false)).length

/-- Buffers an order of the open transaction; a 17th traps with TX_FULL (R244). -/
def State.buffer (s : State) (c : Nat) (b : Buffered) (done : State → State) : State :=
  if 16 ≤ (s.context c).txOrders.length then s.trap c 0x09 0
  else
    let t := s.setContext c (fun x => { x with txOrders := x.txOrders ++ [b] })
    (done (t.cset (CTX.TXORD c) (t.context c).txOrders.length)).retire c

/-- An order with its owner, origin and job (R235). -/
def State.signed (s : State) (c : Nat) (o : Order) : Order :=
  { o with master := s.cget (CTX.OWNER c), origin := .ctx c, job := s.jobOfCtx c }

/-- A power order of a context: buffered inside a transaction, else entered at once; a rail order takes
its slot at issue outside a transaction and counts toward the commit's slots inside one (R258, R259). -/
def State.powerOrder (s : State) (c : Nat) (o : Order) : State :=
  let o := s.signed c o
  if s.cget (CTX.TX c) = 1 then
    if o.target == .rail && decide (8 < s.txRails c + 2) then s.trap c 0x09 0
    else s.buffer c (.power o) id
  else if o.target == .rail then
    match s.openSlot c with
    | none => s.waitSlot c
    | some i => ((s.takeSlot c i .rail).enter { o with slot := some i }).retire c
  else (s.enter o).retire c

/-- SETV (R264, R265). -/
def execSetv (c : CtxId) (sel : SetvSel) (a : Reg) (y : Operand) (s : State) : Result State :=
  .next (s.verk c (.setv c sel a y) (fun t => t.powerOrder c (t.setvOrder sel (t.sumAY c a.val y))))

/-- SETI (R264, R265). -/
def execSeti (c : CtxId) (sel : SetiSel) (a : Reg) (y : Operand) (s : State) : Result State :=
  .next (s.verk c (.seti c sel a y) (fun t => t.powerOrder c (t.setiOrder sel (t.sumAY c a.val y))))

/-- SLEW (R265): rail order with voltage gA and rate Y. -/
def execSlew (c : CtxId) (a : Reg) (y : Operand) (s : State) : Result State :=
  .next (s.verk c (.slew c a y) (fun t =>
    t.powerOrder c (t.railOrder (t.g c a.val).toInt (t.yval c y).toInt)))

/-- LIMIT (R264, R265). -/
def execLimit (c : CtxId) (sel : LimitSel) (a : Reg) (y : Operand) (s : State) : Result State :=
  .next (s.verk c (.limit c sel a y) (fun t =>
    if t.limitAbsent sel then t.trap c 0x02 0 else t.powerOrder c (t.limitOrder sel (t.sumAY c a.val y))))

/-- PHASES (R265): order on NMAX, clamped to 1 to 10. -/
def execPhases (c : CtxId) (a : Reg) (y : Operand) (s : State) : Result State :=
  .next (s.verk c (.phases c a y) (fun t =>
    t.powerOrder c (t.valueTarget 0x03 TRK_SHED.NMAX 1 10 (t.sumAY c a.val y))))

/-- ENABLE (R264, R265). -/
def execEnable (c : CtxId) (sel : EnableSel) (a : Reg) (y : Operand) (s : State) : Result State :=
  .next (s.verk c (.enable c sel a y) (fun t =>
    if t.enableAbsent sel then t.trap c 0x02 0 else t.powerOrder c (t.enableOrder sel (t.sumAY c a.val y))))

/-- The shed or restore order of a class by a context (R239, R241). -/
def State.shedOrder (s : State) (c k : Nat) (on : Bool) : State :=
  let o : Order := s.signed c { target := .shed k, master := 0, val := if on then 1 else 0 }
  if s.cget (CTX.TX c) = 1 then s.buffer c (.shed k on) id else (s.enter o).retire c

/-- SHED (R265): shed order on class (gA + Y)[2:0]. -/
def execShed (c : CtxId) (a : Reg) (y : Operand) (s : State) : Result State :=
  .next (s.verk c (.shed c a y) (fun t => t.shedOrder c ((t.sumAY c a.val y).toNat % 8) true))

/-- RESTORE (R265): restore order on class (gA + Y)[2:0]. -/
def execRestore (c : CtxId) (a : Reg) (y : Operand) (s : State) : Result State :=
  .next (s.verk c (.restore c a y) (fun t => t.shedOrder c ((t.sumAY c a.val y).toNat % 8) false))

/-! ### Time, events and picks (R266, R267) -/

/-- A timeout operand in microseconds; 0 means none (R266). -/
def State.timeout (s : State) (n : Nat) : Option Nat := if n = 0 then none else some (s.time + us n)

/-- Takes a slot for a wait, or enters WAIT_SLOT (R227). -/
def State.waitWith (s : State) (c d : Nat) (w : Wait) : State :=
  match s.openSlot c with
  | none => s.waitSlot c
  | some i => (s.takeSlot c i .wait).retireWait c d w

/-- WAITT (R266): waits until SYSTIME reaches its value at issue plus the delay; a delay of 0 completes
at once. -/
def execWaitt (c : CtxId) (d a : Reg) (y : Operand) (s : State) : Result State :=
  .next (s.verk c (.waitt c d a y) (fun t =>
    let n := (t.sumAY c a.val y).toNat
    if n = 0 then (t.setG c d.val (BitVec.ofNat 32 t.time)).retire c
    else t.waitWith c d.val (.time (t.time + us n))))

/-- Completes the wait of a context with a value and frees its slot. -/
def State.finishWait (s : State) (c : Nat) (v : Word) : State :=
  let slots := (s.lom.slots.filter (fun p => p.2.1 == c && p.2.2 == .wait)).map (·.1)
  (s.each (slots.take 1) (fun i t => t.freeSlot i)).endWait c (some v)

/-- WAITT_DEADLINE (R266): SYSTIME has reached the deadline; gD gets SYSTIME[31:0]. -/
def execWaittDeadline (c : CtxId) (s : State) : Result State :=
  match (s.context c).wait with
  | some (.time t) =>
    if t ≤ s.time && s.loomRuns then .next (s.finishWait c (BitVec.ofNat 32 s.time)) else .next s
  | _ => .next s

/-- WAITA (R266): waits for the bound track to cross the angle; with no bound track gD gets 2 at once. -/
def execWaita (c : CtxId) (d a : Reg) (y : Operand) (s : State) : Result State :=
  .next (s.verk c (.waita c d a y) (fun t =>
    if !t.hasWrp then t.trap c 0x02 0
    else if t.cget (CTX.WBIND c) = 0 then (t.setG c d.val 2).retire c
    else t.waitWith c d.val (.angle ((t.yval c y).toNat % 65536) ((t.track (t.cget (CTX.WARP c))).phaseAt t.time) (t.timeout (t.g c a.val).toNat))))

/-- WAITA_CROSSING (R266): the bound track, LOCKED, crosses the awaited angle; gD gets 0. -/
def execWaitaCrossing (c : CtxId) (s : State) : Result State :=
  match (s.context c).wait with
  | some (.angle a seen _) =>
    let n := s.cget (CTX.WARP c)
    let x := s.track n
    let crossed := decide (nextCrossing a 0 (max seen x.lockPhase) ≤ x.phaseAt s.time)
    if s.loomRuns && s.trackState n == 2 && crossed then .next (s.finishWait c 0) else .next s
  | _ => .next s

/-- WAITE (R266): EVMASK gets the mask; pending shared events complete it at once. -/
def execWaite (c : CtxId) (d a : Reg) (y : Operand) (s : State) : Result State :=
  .next (s.verk c (.waite c d a y) (fun t =>
    let mask := (t.yval c y).toNat % 32
    let u := t.cset (CTX.EVMASK c) mask
    let shared := u.cget (CTX.EVPEND c) &&& mask
    if shared ≠ 0 then
      ((u.cset (CTX.EVPEND c) (u.cget (CTX.EVPEND c) - shared)).setG c d.val (BitVec.ofNat 32 shared)).retire c
    else
      match t.openSlot c with
      | none => t.waitSlot c
      | some i => (u.takeSlot c i .wait).retireWait c d.val (.event (u.timeout (u.g c a.val).toNat))))

/-- WAIT_TIMEOUT (R266): the timeout of a WAITA or WAITE has come; gD gets 1 or 0. -/
def execWaitTimeout (c : CtxId) (s : State) : Result State :=
  match (s.context c).wait with
  | some (.angle _ _ t) => if s.due t && s.loomRuns then .next (s.finishWait c 1) else .next s
  | some (.event t) => if s.due t && s.loomRuns then .next (s.finishWait c 0) else .next s
  | _ => .next s

/-- Whether a pick slot is allocated to some context (R267). -/
def State.pickAllocated (s : State) (p : Nat) : Bool :=
  s.lom.ctxs.any (fun e => e.2.picks.contains p)

/-- The lowest free pick slot from LOOM_BASE up (R266): not armed and not allocated. -/
def State.freePick (s : State) : Option Nat :=
  (List.range 256).find? (fun p => decide (s.get RED_CTRL.LOOM_BASE ≤ p) && s.ownNumber p &&
    !(s.win.get (0xC000 + 16 * p)).toNat.testBit 31 && !s.pickAllocated p)

/-- PICK (R266, R267): reserves the lowest free Loom pick slot and arms it from a template. -/
def execPick (c : CtxId) (d a : Reg) (y : Operand) (s : State) : Result State :=
  .next (s.verk c (.pick c d a y) (fun t =>
    let adr := (t.sumAY c a.val y).toNat
    if !t.hasWrp then t.trap c 0x02 0
    else if !(decide (adr % 4 = 0) && decide (adr ≤ 0x3FF0)) then t.trap c 0x0B 0
    else
      match t.freePick with
      | none => (t.setG c d.val 0xFFFFFFFF#32).retire c
      | some p =>
        let w := fun k => t.dataWord c (adr + 4 * k)
        let inTx := t.cget (CTX.TX c) == 1
        if inTx then
          t.buffer c (.pick p (w 0) (w 1) (w 2) (w 3)) (fun u =>
            (u.setContext c (fun x => { x with picks := p :: x.picks, txPicks := p :: x.txPicks })).setG c d.val (BitVec.ofNat 32 p))
        else
          let u := t.setContext c (fun x => { x with picks := p :: x.picks })
          let u := u.armPick p (t.cget (CTX.OWNER c)) (w 0) (w 1) (w 2) (w 3)
          (u.setG c d.val (BitVec.ofNat 32 p)).retire c))

/-- A pick slot of a context disarmed and freed (R266). -/
def State.dropPick (s : State) (c p : Nat) : State :=
  (s.disarmPick p).setContext c (fun x => { x with picks := x.picks.filter (fun q => q != p) })

/-- UNPICK (R266): disarms and frees a slot that this context allocated; otherwise gD gets 1 and DENIED. -/
def execUnpick (c : CtxId) (d a : Reg) (y : Operand) (s : State) : Result State :=
  .next (s.verk c (.unpick c d a y) (fun t =>
    let p := (t.sumAY c a.val y).toNat % 256
    if !t.hasWrp then t.trap c 0x02 0
    else if (t.context c).picks.contains p then
      if t.cget (CTX.TX c) = 1 then t.buffer c (.unpick p) (fun u => u.setG c d.val 0)
      else ((t.dropPick c p).setG c d.val 0).retire c
    else ((t.setG c d.val 1).raise RED_FLAGS.DENIED).retire c))

/-! ### Measurements and tagged results (R268) -/

/-- MEAS: a conversion request in class 4 at the context's priority; gD gets the tag. A channel that is
not defined is answered at once without a conversion (R202). -/
def execMeas (c : CtxId) (d a : Reg) (y : Operand) (s : State) : Result State :=
  .next (s.verk c (.meas c d a y) (fun t =>
    match t.openSlot c with
    | none => t.waitSlot c
    | some i =>
      let r := (t.sumAY c a.val y).toNat
      let ch := r % 256
      let dl := if r / 256 % 256 = 0 then 256 else r / 256 % 256
      let adc := if r / 65536 % 4 = 3 then 0 else r / 65536 % 4
      let u := t.takeSlot c i .wait
      let tag := u.tagOf i
      let u := { u with lom := { u.lom with slots := u.lom.slots.put i (c.val, .measure tag) } }
      let u := u.setG c d.val (BitVec.ofNat 32 tag)
      let u := u.setContext c (fun x => { x with tags := tag :: x.tags.filter (fun z => z != tag), results := x.results.filter (fun p => p.1 != tag), displaced := x.displaced.filter (fun z => z != tag) })
      let u := if definedChannel ch then
          u.ask { cls := 4, prio := u.cget (CTX.PRIO c), ch := ch, adc := adc, deadline := some (u.time + us dl), asker := .ctx c tag }
        else
          let shown := if 0xFC ≤ ch then 0xFB else ch
          let v := (u.freeSlot i).storeResult c tag (BitVec.ofNat 32 (tag * 256 + shown)) (BitVec.ofNat 32 (u.time / 2 * 2))
          v.raise MEA_FLAGS.CH_BAD
      u.retire c))

/-- The record of a tag (R268). -/
def State.record (s : State) (c tag : Nat) : Word × Word :=
  let x := s.context c
  match x.results.find? (fun p => p.1 == tag) with
  | some p => p.2
  | none =>
    if x.tags.contains tag then (0xFE#32, 0)
    else if x.displaced.contains tag then (0xFD#32, 0)
    else (0xFF#32, 0)

/-- GETM: gD and gD + 1 get the record of the tag (gA + Y)[7:0]; D 0 or 15 traps with ILLEGAL. -/
def execGetm (c : CtxId) (d a : Reg) (y : Operand) (s : State) : Result State :=
  .next (s.verk c (.getm c d a y) (fun t =>
    if d.val = 0 || d.val = 15 then t.trap c 0x01 0
    else
      let r := t.record c ((t.sumAY c a.val y).toNat % 256)
      ((t.setG c d.val r.1).setG c (d.val + 1) r.2).retire c))

/-! ### Journal (R244, R269) -/

/-- TXB: opens a transaction; inside one it traps with TX_NEST. -/
def execTxb (c : CtxId) (s : State) : Result State :=
  .next (s.verk c (.txb c) (fun t =>
    if t.cget (CTX.TX c) = 1 then t.trap c 0x07 0
    else ((t.dropTx c).cset (CTX.TX c) 1).retire c))

/-- The power orders among the buffered orders of a transaction, signed (R244, R246). -/
def Context.powerOrders (x : Context) : List Order :=
  x.txOrders.filterMap (fun b => match b with
    | .power o => some o
    | _ => none)

/-- The context's pick slots as they stand once its open transaction has committed: slot and four words (R244, R267). -/
def State.commitPicks (s : State) (c : Nat) : List (Nat × Word × Word × Word × Word) :=
  let x := s.context c
  let fresh := x.txOrders.filterMap (fun b => match b with
    | .pick p w0 w1 w2 w3 => some (p, w0 ||| 0x80000000#32, w1, w2, w3)
    | _ => none)
  let gone := x.txOrders.filterMap (fun b => match b with
    | .unpick p => some p
    | _ => none)
  let w := fun p k => s.win.get (pickAddr p k)
  let kept := (x.picks.filter (fun p => !(gone.contains p) && !(fresh.any (fun e => e.1 == p)))).map (fun p => (p, w p 0, w p 1, w p 2, w p 3))
  kept ++ fresh.filter (fun e => !(gone.contains e.1))

/-- The commit record of R244 as it stands after the commit: the record's words with the advanced TXSEQ in its register, the call
depth that belongs to the return stack, the orders, and the data words the context's transactions have written. -/
def State.commitRecord (s : State) (c : Nat) (idle : Bool) : Commit :=
  let old := (s.beam.commits.find c).getD {}
  let x := s.context c
  let tx := s.cget (CTX.TX c) == 1
  let n := (s.cget (CTX.TXSEQ c) + 1) % 65536
  let s := if tx then s.cset (CTX.TXSEQ c) n else s
  let s := if idle then s else s.setG c x.waitReg (BitVec.ofNat 32 n)
  let kept := ([0, 1, 2, 3, 4, 6] ++ (List.range 21).map (· + 8)).foldl (fun (m : WordMap) w => m.set w (s.ctx.get (32 * c + w))) ([] : WordMap)
  let orders := x.powerOrders
  let held := old.held.filter (fun h => !(orders.any (fun o => o.target == h.target))) ++ orders
  let dm := x.txAddrs.foldl (fun (m : WordMap) a => Store.put m a (x.txWords.get a)) old.dm
  { old with words := kept, orders := orders, held := held, dm := dm, idle := idle, committed := !idle, job := if idle then none else x.job, picks := s.commitPicks c }

/-- Puts a commit record into the Beam; it is numbered here unless it has gone to the peer already (R373, R374). -/
def State.writeCommit (s : State) (c : Nat) (idle : Bool) : State :=
  let rec' := s.commitRecord c idle
  let x := s.context c
  let dm := x.txAddrs.foldl (fun (m : WordMap) a => m.set a (x.txWords.get a)) s.beam.dm
  let t := { s with beam := { s.beam with commits := s.beam.commits.put c rec', dm := dm } }
  if x.sentCommit then t.setContext c (fun y => { y with sentCommit := false }) else t.journal (.commit c rec')

/-- In paired operation the records of a commit go to the peer when it begins (R373, R374). -/
def State.mirrorCommit (s : State) (c : Nat) (halt : Bool) : State :=
  if !s.paired then s
  else
    let t := s.setContext c (fun x => { x with sentCommit := true })
    let t := match halt, (t.context c).job with
      | true, some (m, r) => if (t.job m r).live then t.journal (.job m r { t.job m r with state := 5 }) else t
      | _, _ => t
    t.journal (.commit c (s.commitRecord c halt))

/-- TXC and the commit part of HALT: one slot for the commit and one for each buffered rail order, all
before it commits (R244, R259); the context waits for the Beam. -/
def State.beginCommit (s : State) (c d : Nat) (w : Wait) : State :=
  let rails := s.txRails c
  if s.openSlots c < 1 + rails then s.waitSlot c
  else
    let t := (List.range (1 + rails)).foldl (fun u n =>
      match u.openSlot c with
      | some i => u.takeSlot c i (if n = 0 then .commit else .rail)
      | none => u) s
    let t := ((t.countInstr c).cset (CTX.PC c) (t.cget (CTX.PC c) + 1)).park c 4
    let t := t.setContext c (fun x => { x with wait := some w, waitReg := d })
    (t.mirrorCommit c (w == .halt)).boundary c true

/-- TXC: commits the transaction; outside one it traps with TX_NONE. -/
def execTxc (c : CtxId) (d : Reg) (s : State) : Result State :=
  .next (s.verk c (.txc c d) (fun t =>
    if t.cget (CTX.TX c) = 0 then t.trap c 0x08 0 else t.beginCommit c d.val .commit))

/-- The result block of EMIT and DONE: 16 data words, copied at issue (R269). -/
def State.block (s : State) (c adr : Nat) : List Word :=
  (List.range 16).map (fun k => s.dataWord c (adr + 4 * k))

/-- An EMIT or DONE order of a context takes effect (R269). -/
def State.emitNow (s : State) (c : Nat) (block : List Word) (progress : Option Nat) (final saved : Bool) : State :=
  match (s.context c).job with
  | none => s
  | some (m, r) =>
    if final then s.finalResult m r block (progress.getD 255) saved else s.putResult m r block progress saved

/-- EMIT and DONE: an order, buffered inside a transaction, else at once. -/
def State.emitOrder (s : State) (c : Nat) (adr : Nat) (progress : Option Nat) (final : Bool) : State :=
  if !(decide (adr % 4 = 0) && decide (adr ≤ 0x3FC0)) then s.trap c 0x0B 0
  else if s.cget (CTX.TX c) = 1 then s.buffer c (.emit progress (s.block c adr) final) id
  else (s.emitNow c (s.block c adr) progress final false).retire c

/-- EMIT: the 16 words at gA + Y become the partial result; PROGRESS gets gD[7:0], unchanged with D 0. -/
def execEmit (c : CtxId) (d a : Reg) (y : Operand) (s : State) : Result State :=
  .next (s.verk c (.emit c d a y) (fun t =>
    t.emitOrder c (t.sumAY c a.val y).toNat (if d.val = 0 then none else some ((t.g c d.val).toNat % 256)) false))

/-- DONE: the final result with PROGRESS 255. -/
def execDone (c : CtxId) (a : Reg) (y : Operand) (s : State) : Result State :=
  .next (s.verk c (.done c a y) (fun t => t.emitOrder c (t.sumAY c a.val y).toNat (some 255) true))

/-- HALT (R263): commits an open transaction and writes the completion record, holding the context in
WAIT; it waits for tagged operations as FENCE does (R271). -/
def execHalt (c : CtxId) (s : State) : Result State :=
  .next (s.verk c (.halt c) (fun t => t.beginCommit c 0 .halt))

/-- FENCE (R270): waits until the context holds no slot; gD gets the outcome summary, which is cleared. -/
def execFence (c : CtxId) (d : Reg) (s : State) : Result State :=
  .next (s.verk c (.fence c d) (fun t =>
    if (t.slotsOf c).isEmpty then
      let u := t.setG c d.val (t.context c).summary
      let u := (u.setContext c (fun x => { x with summary := 0 })).retire c
      u.boundary c true
    else
      let u := t.retireWait c d.val .fence
      u.boundary c true))

/-- FENCE_COMPLETE (R270): the last slot is freed; FENCE returns and clears the summary. -/
def execFenceComplete (c : CtxId) (s : State) : Result State :=
  if (s.context c).wait = some .fence && (s.slotsOf c).isEmpty then
    let v := (s.context c).summary
    let t := s.endWait c (some v)
    .next (t.setContext c (fun x => { x with summary := 0 }))
  else .next s

/-! ### Commits -/

/-- The slot of the rail order whose slew runs (R259). -/
def State.heldRailSlot (s : State) : Option Nat := s.mod.order.bind (fun o => o.slot)

/-- The buffered orders of a committed transaction enter the next tick together (R238, R244). -/
def State.release (s : State) (c : Nat) : State :=
  let x := s.context c
  let rails := (s.lom.slots.filter (fun p => p.2.1 == c && p.2.2 == .rail)).map (fun p => p.1)
  let used := (s.lom.orders.filterMap (fun o => o.slot))
  let freeRails := rails.filter (fun i => !(used.contains i) && !(s.heldRailSlot == some i))
  let (n, s) := s.nextSeq
  let r := x.txOrders.foldl (fun (acc : State × List Nat) b =>
    match b with
    | .power o =>
      if o.target == .rail then
        match acc.2 with
        | i :: rest => (acc.1.enter { o with group := n, slot := some i }, rest)
        | [] => (acc.1.enter { o with group := n }, [])
      else (acc.1.enter { o with group := n }, acc.2)
    | .shed k on => (acc.1.enter (s.signed c { target := .shed k, master := 0, val := if on then 1 else 0, group := n }), acc.2)
    | .pick p w0 w1 w2 w3 => (acc.1.armPick p (s.cget (CTX.OWNER c)) w0 w1 w2 w3, acc.2)
    | .unpick p => (acc.1.dropPick c p, acc.2)
    | .emit pr blk fin => (acc.1.emitNow c blk pr fin true, acc.2)) (s, freeRails)
  r.1

/-- A transaction commits: the record is in the Beam, the logged words are written, TXSEQ increments, the
commit's slot is freed and the orders are released (R244). -/
def State.commitTx (s : State) (c : Nat) : State :=
  let x := s.context c
  let t := s.cset (CTX.TXSEQ c) (s.cget (CTX.TXSEQ c) + 1)
  let t := { t with dm := x.txAddrs.foldl (fun (m : WordMap) a => m.set a (x.txWords.get a)) t.dm }
  let t := t.each ((t.lom.slots.filter (fun p => p.2.1 == c && p.2.2 == .commit)).map (fun p => p.1)) (fun i u => u.freeSlot i)
  let t := t.release c
  let t := t.setContext c (fun y => { y with txPicks := [] })
  t.dropTx c

/-- TXC_COMMIT_DONE (R244, R252): the commit record, and in paired operation the peer's copy, are
committed; TXC completes with TXSEQ in gD, and an ABORT that waited follows. -/
def execTxcCommitDone (c : CtxId) (s : State) : Result State :=
  if (s.context c).wait = some .commit && !s.commitWaitsPeer c then
    let t := (s.writeCommit c false).commitTx c
    let t := t.endWait c (some (BitVec.ofNat 32 (t.cget (CTX.TXSEQ c))))
    if (s.context c).aborting then .next (t.abortContext c) else .next t
  else .next s

/-- HALT_COMMIT_DONE (R263): the transaction, if one was open, and the completion record are committed; the
job is DONE if it was not, and the context becomes IDLE. HALT waits for the tagged operations (R271). -/
def execHaltCommitDone (c : CtxId) (s : State) : Result State :=
  if (s.context c).wait = some .halt && (s.context c).tags.isEmpty && !s.commitWaitsPeer c then
    let sent := (s.context c).sentCommit
    let t := s.writeCommit c true
    let t := if s.cget (CTX.TX c) = 1 then t.commitTx c else t
    let t := match (t.context c).job with
      | some (m, r) => t.endJobAs m r 5 0 (fun u => if sent then u.keepJob m r else u.saveJob m r)
      | none => t
    .next (t.stopContext c)
  else .next s

/-! ### Cell tests (R270) -/

/-- The start of SELFTEST or CAL on a mask: a tag, a slot and the first cell; an empty mask completes at
once; a mask that names an absent cell traps with ABSENT. -/
def State.beginCellTest (s : State) (c d mask : Nat) (cal : Bool) : State :=
  if (List.range 18).any (fun n => mask.testBit n && !s.cellPresent n) then s.trap c 0x02 0
  else
    match s.openSlot c with
    | none => s.waitSlot c
    | some i =>
      let t := s.takeSlot c i .wait
      let tag := t.tagOf i
      let t := { t with lom := { t.lom with slots := t.lom.slots.put i (c, .cellTest tag cal mask 0 0) } }
      let t := t.setG c d (BitVec.ofNat 32 tag)
      let t := t.setContext c (fun x => { x with tags := tag :: x.tags.filter (fun z => z != tag), results := x.results.filter (fun p => p.1 != tag), displaced := x.displaced.filter (fun z => z != tag) })
      (t.nextTestCell i).retire c

/-- SELFTEST (R270). -/
def execSelftest (c : CtxId) (d a : Reg) (y : Operand) (s : State) : Result State :=
  .next (s.verk c (.selftest c d a y) (fun t =>
    t.beginCellTest c d.val ((t.sumAY c a.val y).toNat % 2 ^ 18) false))

/-- CAL (R270). -/
def execCal (c : CtxId) (d a : Reg) (y : Operand) (s : State) : Result State :=
  .next (s.verk c (.cal c d a y) (fun t =>
    t.beginCellTest c d.val ((t.sumAY c a.val y).toNat % 2 ^ 18) true))

end Sys2Proof.Machine
end

