-- ==== Sys2Proof/Machine/Dispatch.lean ====
section
/-!
DEFINITION. The dispatch of a command to its meaning: one arm per constructor of `Instr`.
-/

namespace Sys2Proof.Machine

def exec (i : Instr) (s : State) : Host.Outcome State Fault Refusal :=
  match i with
  | .registerWrite m a data => Sys2Proof.Machine.execRegisterWrite m a data s
  | .lowWordRead m a => Sys2Proof.Machine.execLowWordRead m a s
  | .decisionTick x => Sys2Proof.Machine.execDecisionTick x s
  | .portWatchdogExpiry => Sys2Proof.Machine.execPortWatchdogExpiry s
  | .shuttleStall sh => Sys2Proof.Machine.execShuttleStall sh s
  | .regulationLoss b v => Sys2Proof.Machine.execRegulationLoss b v s
  | .regionSafeTimeout r => Sys2Proof.Machine.execRegionSafeTimeout r s
  | .chipSafeReset => Sys2Proof.Machine.execChipSafeReset s
  | .clockFault => Sys2Proof.Machine.execClockFault s
  | .beamCommitFailure => Sys2Proof.Machine.execBeamCommitFailure s
  | .interfaceTestRecord ok => Sys2Proof.Machine.execInterfaceTestRecord ok s
  | .memoryUncorrectable site => Sys2Proof.Machine.execMemoryUncorrectable site s
  | .vioLow => Sys2Proof.Machine.execVioLow s
  | .vioRecover => Sys2Proof.Machine.execVioRecover s
  | .strapCompare live => Sys2Proof.Machine.execStrapCompare live s
  | .sourceQualified src v => Sys2Proof.Machine.execSourceQualified src v s
  | .srcMeasure v48 i48 v12 i12 => Sys2Proof.Machine.execSrcMeasure v48 i48 v12 i12 s
  | .xferPrepDone rail => Sys2Proof.Machine.execXferPrepDone rail s
  | .xferOverlapDone => Sys2Proof.Machine.execXferOverlapDone s
  | .xferReleaseDone => Sys2Proof.Machine.execXferReleaseDone s
  | .xferAbandon rail => Sys2Proof.Machine.execXferAbandon rail s
  | .xferRetry => Sys2Proof.Machine.execXferRetry s
  | .holdupTransfer v => Sys2Proof.Machine.execHoldupTransfer v s
  | .bypassOvercurrent cur => Sys2Proof.Machine.execBypassOvercurrent cur s
  | .backfeedTurnOff net12 cur => Sys2Proof.Machine.execBackfeedTurnOff net12 cur s
  | .searchInitial => Sys2Proof.Machine.execSearchInitial s
  | .searchPeriod => Sys2Proof.Machine.execSearchPeriod s
  | .searchEvtSettle => Sys2Proof.Machine.execSearchEvtSettle s
  | .startSearch m => Sys2Proof.Machine.execStartSearch m s
  | .searchPendingRun => Sys2Proof.Machine.execSearchPendingRun s
  | .searchStep v cur => Sys2Proof.Machine.execSearchStep v cur s
  | .searchCollapse v => Sys2Proof.Machine.execSearchCollapse v s
  | .ceilingDrop v cur => Sys2Proof.Machine.execCeilingDrop v cur s
  | .keepaliveGood inputs => Sys2Proof.Machine.execKeepaliveGood inputs s
  | .brownOut => Sys2Proof.Machine.execBrownOut s
  | .in48UvStop v => Sys2Proof.Machine.execIn48UvStop v s
  | .in48UvRelease v => Sys2Proof.Machine.execIn48UvRelease v s
  | .in48OvLockout v => Sys2Proof.Machine.execIn48OvLockout v s
  | .in48OvRelease v => Sys2Proof.Machine.execIn48OvRelease v s
  | .in12UvLockout v => Sys2Proof.Machine.execIn12UvLockout v s
  | .in12UvRelease v => Sys2Proof.Machine.execIn12UvRelease v s
  | .in12OvLockout v => Sys2Proof.Machine.execIn12OvLockout v s
  | .in12OvRelease v => Sys2Proof.Machine.execIn12OvRelease v s
  | .reversePrecharge m => Sys2Proof.Machine.execReversePrecharge m s
  | .reverseSupport m => Sys2Proof.Machine.execReverseSupport m s
  | .reverseOff m => Sys2Proof.Machine.execReverseOff m s
  | .prechargeTargetReached v => Sys2Proof.Machine.execPrechargeTargetReached v s
  | .prechargeTimeout => Sys2Proof.Machine.execPrechargeTimeout s
  | .prechargeShortCheck v => Sys2Proof.Machine.execPrechargeShortCheck v s
  | .prechargeNetConnected v => Sys2Proof.Machine.execPrechargeNetConnected v s
  | .loopComparatorFire b vfb iac vi vo boot => Sys2Proof.Machine.execLoopComparatorFire b vfb iac vi vo boot s
  | .onTimeEnd cell => Sys2Proof.Machine.execOnTimeEnd cell s
  | .freqLoopUpdate cell fmeas => Sys2Proof.Machine.execFreqLoopUpdate cell fmeas s
  | .cbcLimit cell cur => Sys2Proof.Machine.execCbcLimit cell cur s
  | .zeroCrossDetect cell cur => Sys2Proof.Machine.execZeroCrossDetect cell cur s
  | .truncation b vfb => Sys2Proof.Machine.execTruncation b vfb s
  | .truncationRelease b vfb => Sys2Proof.Machine.execTruncationRelease b vfb s
  | .burstEntry b avg => Sys2Proof.Machine.execBurstEntry b avg s
  | .burstPacket b vfb => Sys2Proof.Machine.execBurstPacket b vfb s
  | .burstExit b vfb avg8 => Sys2Proof.Machine.execBurstExit b vfb avg8 s
  | .syncQualify f => Sys2Proof.Machine.execSyncQualify f s
  | .syncGlideStep => Sys2Proof.Machine.execSyncGlideStep s
  | .syncLock => Sys2Proof.Machine.execSyncLock s
  | .syncLoss => Sys2Proof.Machine.execSyncLoss s
  | .cellFaultIsolate cell hs ls sense opened => Sys2Proof.Machine.execCellFaultIsolate cell hs ls sense opened s
  | .gateDriveCheck => Sys2Proof.Machine.execGateDriveCheck s
  | .gateDriveLimit => Sys2Proof.Machine.execGateDriveLimit s
  | .activeSetWrite m b data => Sys2Proof.Machine.execActiveSetWrite m b data s
  | .overloadBudgetExhausted b => Sys2Proof.Machine.execOverloadBudgetExhausted b s
  | .currentLimitExceeded b => Sys2Proof.Machine.execCurrentLimitExceeded b s
  | .currentLimitRelease b => Sys2Proof.Machine.execCurrentLimitRelease b s
  | .droopTimeout => Sys2Proof.Machine.execDroopTimeout s
  | .trkCmd m volt rate => Sys2Proof.Machine.execTrkCmd m volt rate s
  | .balanceUpdate b => Sys2Proof.Machine.execBalanceUpdate b s
  | .phaseShed b => Sys2Proof.Machine.execPhaseShed b s
  | .substitutionStart b => Sys2Proof.Machine.execSubstitutionStart b s
  | .reentryDone b => Sys2Proof.Machine.execReentryDone b s
  | .reentryAbort b vfb => Sys2Proof.Machine.execReentryAbort b vfb s
  | .reentryRetry b => Sys2Proof.Machine.execReentryRetry b s
  | .shareOutDone b => Sys2Proof.Machine.execShareOutDone b s
  | .crowbarFire rail => Sys2Proof.Machine.execCrowbarFire rail s
  | .crowbarCauseGone rail => Sys2Proof.Machine.execCrowbarCauseGone rail s
  | .cvLoopUpdate vpack => Sys2Proof.Machine.execCvLoopUpdate vpack s
  | .packNodeReady vnode vpack => Sys2Proof.Machine.execPackNodeReady vnode vpack s
  | .packNodeTimeout => Sys2Proof.Machine.execPackNodeTimeout s
  | .qualifyRetry => Sys2Proof.Machine.execQualifyRetry s
  | .headroomPause vpack rail => Sys2Proof.Machine.execHeadroomPause vpack rail s
  | .headroomResume vpack rail => Sys2Proof.Machine.execHeadroomResume vpack rail s
  | .headroomDisconnect vpack rail => Sys2Proof.Machine.execHeadroomDisconnect vpack rail s
  | .headroomReconnect vpack rail => Sys2Proof.Machine.execHeadroomReconnect vpack rail s
  | .chemWrite m chem => Sys2Proof.Machine.execChemWrite m chem s
  | .chgArm m => Sys2Proof.Machine.execChgArm m s
  | .qualifyComplete => Sys2Proof.Machine.execQualifyComplete s
  | .trickleDone => Sys2Proof.Machine.execTrickleDone s
  | .chgPrechargeDone => Sys2Proof.Machine.execChgPrechargeDone s
  | .cvEntry vpack => Sys2Proof.Machine.execCvEntry vpack s
  | .cvHoldEntry vpack => Sys2Proof.Machine.execCvHoldEntry vpack s
  | .chgTermination v16 peak dtdt => Sys2Proof.Machine.execChgTermination v16 peak dtdt s
  | .chgRecharge => Sys2Proof.Machine.execChgRecharge s
  | .chgPause => Sys2Proof.Machine.execChgPause s
  | .chgResume => Sys2Proof.Machine.execChgResume s
  | .packOvervoltage vpack => Sys2Proof.Machine.execPackOvervoltage vpack s
  | .jeitaZoneChange => Sys2Proof.Machine.execJeitaZoneChange s
  | .safetyTimerExpiry => Sys2Proof.Machine.execSafetyTimerExpiry s
  | .chgWdgKick m data => Sys2Proof.Machine.execChgWdgKick m data s
  | .chgWdgExpiry => Sys2Proof.Machine.execChgWdgExpiry s
  | .chgWdgExpClear m => Sys2Proof.Machine.execChgWdgExpClear m s
  | .packRemoval => Sys2Proof.Machine.execPackRemoval s
  | .packInserted => Sys2Proof.Machine.execPackInserted s
  | .angEdge pin rising sub held => Sys2Proof.Machine.execAngEdge pin rising sub held s
  | .trackTimeout t => Sys2Proof.Machine.execTrackTimeout t s
  | .flywheelEnd t => Sys2Proof.Machine.execFlywheelEnd t s
  | .wrpStampTimeWrite m data => Sys2Proof.Machine.execWrpStampTimeWrite m data s
  | .wrpStamp m t angle => Sys2Proof.Machine.execWrpStamp m t angle s
  | .pickSlotWrite m slot word data => Sys2Proof.Machine.execPickSlotWrite m slot word data s
  | .loomBaseWrite m data => Sys2Proof.Machine.execLoomBaseWrite m data s
  | .anglePickMatch slot => Sys2Proof.Machine.execAnglePickMatch slot s
  | .timePickMatch slot => Sys2Proof.Machine.execTimePickMatch slot s
  | .sampleConversionStart quiet => Sys2Proof.Machine.execSampleConversionStart quiet s
  | .keepOutEnd b vi vo boot => Sys2Proof.Machine.execKeepOutEnd b vi vo boot s
  | .chgRefAddEnd => Sys2Proof.Machine.execChgRefAddEnd s
  | .weftTableWrite m t word data => Sys2Proof.Machine.execWeftTableWrite m t word data s
  | .weftLearnFresh m t => Sys2Proof.Machine.execWeftLearnFresh m t s
  | .weftLearnRefine m t => Sys2Proof.Machine.execWeftLearnRefine m t s
  | .weftLearnAbort m t => Sys2Proof.Machine.execWeftLearnAbort m t s
  | .weftLearnBegin t => Sys2Proof.Machine.execWeftLearnBegin t s
  | .weftLearnRevolution t => Sys2Proof.Machine.execWeftLearnRevolution t s
  | .weftLearnComplete t => Sys2Proof.Machine.execWeftLearnComplete t s
  | .weftFadeDone t => Sys2Proof.Machine.execWeftFadeDone t s
  | .markFifoRead m => Sys2Proof.Machine.execMarkFifoRead m s
  | .adcConversionDone adc code x => Sys2Proof.Machine.execAdcConversionDone adc code x s
  | .scheduledConversion ch adc => Sys2Proof.Machine.execScheduledConversion ch adc s
  | .scanStart => Sys2Proof.Machine.execScanStart s
  | .calStarved adc => Sys2Proof.Machine.execCalStarved adc s
  | .autoZero cell => Sys2Proof.Machine.execAutoZero cell s
  | .qcntWrite m data => Sys2Proof.Machine.execQcntWrite m data s
  | .qclr m => Sys2Proof.Machine.execQclr m s
  | .qcntSave => Sys2Proof.Machine.execQcntSave s
  | .resultFifoRead m => Sys2Proof.Machine.execResultFifoRead m s
  | .thermalModelUpdate samples => Sys2Proof.Machine.execThermalModelUpdate samples s
  | .dieTempCheck => Sys2Proof.Machine.execDieTempCheck s
  | .dieThrottleStep => Sys2Proof.Machine.execDieThrottleStep s
  | .stageThrottleStep b => Sys2Proof.Machine.execStageThrottleStep b s
  | .gateDriveCapStep => Sys2Proof.Machine.execGateDriveCapStep s
  | .contextDispatch sh => Sys2Proof.Machine.execContextDispatch sh s
  | .quantumExpiry sh => Sys2Proof.Machine.execQuantumExpiry sh s
  | .slotGrant => Sys2Proof.Machine.execSlotGrant s
  | .claim m c => Sys2Proof.Machine.execClaim m c s
  | .ctxRelease m c => Sys2Proof.Machine.execCtxRelease m c s
  | .abort m c => Sys2Proof.Machine.execAbort m c s
  | .ctxEvent m c => Sys2Proof.Machine.execCtxEvent m c s
  | .freeze m c => Sys2Proof.Machine.execFreeze m c s
  | .thaw m c => Sys2Proof.Machine.execThaw m c s
  | .contextRecordWrite m w data => Sys2Proof.Machine.execContextRecordWrite m w data s
  | .pickstartRun c => Sys2Proof.Machine.execPickstartRun c s
  | .shedDeferTimeout c => Sys2Proof.Machine.execShedDeferTimeout c s
  | .freezeDeferTimeout c => Sys2Proof.Machine.execFreezeDeferTimeout c s
  | .autoRestore => Sys2Proof.Machine.execAutoRestore s
  | .lomShedOrder m k => Sys2Proof.Machine.execLomShedOrder m k s
  | .lomRestoreOrder m k => Sys2Proof.Machine.execLomRestoreOrder m k s
  | .programMemoryWrite m a data => Sys2Proof.Machine.execProgramMemoryWrite m a data s
  | .pageLock m k bits => Sys2Proof.Machine.execPageLock m k bits s
  | .pageUnlock m page => Sys2Proof.Machine.execPageUnlock m page s
  | .dmDataAccess m data => Sys2Proof.Machine.execDmDataAccess m data s
  | .context0Restart => Sys2Proof.Machine.execContext0Restart s
  | .illegalEncoding c w => Sys2Proof.Machine.execIllegalEncoding c w s
  | .add c d a y => Sys2Proof.Machine.execAdd c d a y s
  | .sub c d a y => Sys2Proof.Machine.execSub c d a y s
  | .and c d a y => Sys2Proof.Machine.execAnd c d a y s
  | .or c d a y => Sys2Proof.Machine.execOr c d a y s
  | .xor c d a y => Sys2Proof.Machine.execXor c d a y s
  | .shl c d a y => Sys2Proof.Machine.execShl c d a y s
  | .shr c d a y => Sys2Proof.Machine.execShr c d a y s
  | .mul c d a y => Sys2Proof.Machine.execMul c d a y s
  | .min c d a y => Sys2Proof.Machine.execMin c d a y s
  | .max c d a y => Sys2Proof.Machine.execMax c d a y s
  | .clamp c d a y => Sys2Proof.Machine.execClamp c d a y s
  | .movi c d imm => Sys2Proof.Machine.execMovi c d imm s
  | .movhi c d imm => Sys2Proof.Machine.execMovhi c d imm s
  | .ld c d a y => Sys2Proof.Machine.execLd c d a y s
  | .st c d a y => Sys2Proof.Machine.execSt c d a y s
  | .rdr c d a y => Sys2Proof.Machine.execRdr c d a y s
  | .br c a addr => Sys2Proof.Machine.execBr c a addr s
  | .brc c cond a b off => Sys2Proof.Machine.execBrc c cond a b off s
  | .call c a addr => Sys2Proof.Machine.execCall c a addr s
  | .ret c => Sys2Proof.Machine.execRet c s
  | .yield c => Sys2Proof.Machine.execYield c s
  | .halt c => Sys2Proof.Machine.execHalt c s
  | .haltCommitDone c => Sys2Proof.Machine.execHaltCommitDone c s
  | .trap c imm => Sys2Proof.Machine.execTrap c imm s
  | .setv c sel a y => Sys2Proof.Machine.execSetv c sel a y s
  | .seti c sel a y => Sys2Proof.Machine.execSeti c sel a y s
  | .slew c a y => Sys2Proof.Machine.execSlew c a y s
  | .limit c sel a y => Sys2Proof.Machine.execLimit c sel a y s
  | .phases c a y => Sys2Proof.Machine.execPhases c a y s
  | .enable c sel a y => Sys2Proof.Machine.execEnable c sel a y s
  | .shed c a y => Sys2Proof.Machine.execShed c a y s
  | .restore c a y => Sys2Proof.Machine.execRestore c a y s
  | .waitt c d a y => Sys2Proof.Machine.execWaitt c d a y s
  | .waittDeadline c => Sys2Proof.Machine.execWaittDeadline c s
  | .waita c d a y => Sys2Proof.Machine.execWaita c d a y s
  | .waitaCrossing c => Sys2Proof.Machine.execWaitaCrossing c s
  | .waite c d a y => Sys2Proof.Machine.execWaite c d a y s
  | .waitTimeout c => Sys2Proof.Machine.execWaitTimeout c s
  | .pick c d a y => Sys2Proof.Machine.execPick c d a y s
  | .unpick c d a y => Sys2Proof.Machine.execUnpick c d a y s
  | .meas c d a y => Sys2Proof.Machine.execMeas c d a y s
  | .getm c d a y => Sys2Proof.Machine.execGetm c d a y s
  | .txb c => Sys2Proof.Machine.execTxb c s
  | .txc c d => Sys2Proof.Machine.execTxc c d s
  | .txcCommitDone c => Sys2Proof.Machine.execTxcCommitDone c s
  | .emit c d a y => Sys2Proof.Machine.execEmit c d a y s
  | .done c a y => Sys2Proof.Machine.execDone c a y s
  | .selftest c d a y => Sys2Proof.Machine.execSelftest c d a y s
  | .cal c d a y => Sys2Proof.Machine.execCal c d a y s
  | .cellTestDone cell pass newCal => Sys2Proof.Machine.execCellTestDone cell pass newCal s
  | .fence c d => Sys2Proof.Machine.execFence c d s
  | .fenceComplete c => Sys2Proof.Machine.execFenceComplete c s
  | .jobDoorbell m tail => Sys2Proof.Machine.execJobDoorbell m tail s
  | .cqHeadWrite m head => Sys2Proof.Machine.execCqHeadWrite m head s
  | .descriptorCopy m => Sys2Proof.Machine.execDescriptorCopy m s
  | .jobAccept m r => Sys2Proof.Machine.execJobAccept m r s
  | .completionPost m => Sys2Proof.Machine.execCompletionPost m s
  | .jobStart m r => Sys2Proof.Machine.execJobStart m r s
  | .jobStatusRead reader m r => Sys2Proof.Machine.execJobStatusRead reader m r s
  | .jobRelease m jobId => Sys2Proof.Machine.execJobRelease m jobId s
  | .spiRead a data crc nbits => Sys2Proof.Machine.execSpiRead a data crc nbits s
  | .spiWrite a data crc nbits => Sys2Proof.Machine.execSpiWrite a data crc nbits s
  | .spiNop a data crc nbits => Sys2Proof.Machine.execSpiNop a data crc nbits s
  | .spiBurstRead a hdr crc nbits ahead => Sys2Proof.Machine.execSpiBurstRead a hdr crc nbits ahead s
  | .spiBurstWrite a hdr crc nbits segs => Sys2Proof.Machine.execSpiBurstWrite a hdr crc nbits segs s
  | .i2cWrite reg bytes => Sys2Proof.Machine.execI2cWrite reg bytes s
  | .i2cRead reg n => Sys2Proof.Machine.execI2cRead reg n s
  | .i2cSclTimeout => Sys2Proof.Machine.execI2cSclTimeout s
  | .i2cSdaTimeout => Sys2Proof.Machine.execI2cSdaTimeout s
  | .i2cStartInAck => Sys2Proof.Machine.execI2cStartInAck s
  | .intRearmEnd => Sys2Proof.Machine.execIntRearmEnd s
  | .auxGo m cmd => Sys2Proof.Machine.execAuxGo m cmd s
  | .auxTransactionDone addrW addrR acked rx => Sys2Proof.Machine.execAuxTransactionDone addrW addrR acked rx s
  | .auxEnable m cmd => Sys2Proof.Machine.execAuxEnable m cmd s
  | .auxBusClearDone scl pulses => Sys2Proof.Machine.execAuxBusClearDone scl pulses s
  | .auxTimeout => Sys2Proof.Machine.execAuxTimeout s
  | .auxArbLost => Sys2Proof.Machine.execAuxArbLost s
  | .typecAttach level cc2 => Sys2Proof.Machine.execTypecAttach level cc2 s
  | .typecDetach => Sys2Proof.Machine.execTypecDetach s
  | .drpToggle => Sys2Proof.Machine.execDrpToggle s
  | .vbusOvervoltage v => Sys2Proof.Machine.execVbusOvervoltage v s
  | .portBackfeed cur => Sys2Proof.Machine.execPortBackfeed cur s
  | .vbusLoss v => Sys2Proof.Machine.execVbusLoss v s
  | .deadBatterySink level => Sys2Proof.Machine.execDeadBatterySink level s
  | .pdSourceCapabilities pdos epr => Sys2Proof.Machine.execPdSourceCapabilities pdos epr s
  | .pdRequest pos volt curr => Sys2Proof.Machine.execPdRequest pos volt curr s
  | .pdAccept => Sys2Proof.Machine.execPdAccept s
  | .pdReject => Sys2Proof.Machine.execPdReject s
  | .pdWait => Sys2Proof.Machine.execPdWait s
  | .pdPsRdy => Sys2Proof.Machine.execPdPsRdy s
  | .pdPrSwap => Sys2Proof.Machine.execPdPrSwap s
  | .pdDrSwap => Sys2Proof.Machine.execPdDrSwap s
  | .pdHardReset => Sys2Proof.Machine.execPdHardReset s
  | .pdSoftReset sent => Sys2Proof.Machine.execPdSoftReset sent s
  | .pdEprModeEntry ok => Sys2Proof.Machine.execPdEprModeEntry ok s
  | .pdCableIdentity emarked epr cur vmax => Sys2Proof.Machine.execPdCableIdentity emarked epr cur vmax s
  | .pdVconnSwap => Sys2Proof.Machine.execPdVconnSwap s
  | .pdUnsupported => Sys2Proof.Machine.execPdUnsupported s
  | .sinkRequestRetry => Sys2Proof.Machine.execSinkRequestRetry s
  | .sinkTxWaitEnd => Sys2Proof.Machine.execSinkTxWaitEnd s
  | .srcTransitionEnd => Sys2Proof.Machine.execSrcTransitionEnd s
  | .hardResetRecover => Sys2Proof.Machine.execHardResetRecover s
  | .prSwapRetry => Sys2Proof.Machine.execPrSwapRetry s
  | .softResetWaitEnd => Sys2Proof.Machine.execSoftResetWaitEnd s
  | .errorRecoveryEnd => Sys2Proof.Machine.execErrorRecoveryEnd s
  | .portResume => Sys2Proof.Machine.execPortResume s
  | .pcapUpdate rail => Sys2Proof.Machine.execPcapUpdate rail s
  | .pdoReduce => Sys2Proof.Machine.execPdoReduce s
  | .pdoRaise => Sys2Proof.Machine.execPdoRaise s
  | .vconnOvercurrent cur => Sys2Proof.Machine.execVconnOvercurrent cur s
  | .dischargeDone v => Sys2Proof.Machine.execDischargeDone v s
  | .packPrimaryPortStop => Sys2Proof.Machine.execPackPrimaryPortStop s
  | .usbBusReset => Sys2Proof.Machine.execUsbBusReset s
  | .dfuDnload n words => Sys2Proof.Machine.execDfuDnload n words s
  | .dfuManifest => Sys2Proof.Machine.execDfuManifest s
  | .dfuDetach => Sys2Proof.Machine.execDfuDetach s
  | .dfuGetstatus => Sys2Proof.Machine.execDfuGetstatus s
  | .dfuClrstatus => Sys2Proof.Machine.execDfuClrstatus s
  | .dfuUpload => Sys2Proof.Machine.execDfuUpload s
  | .vendorRead seq count a => Sys2Proof.Machine.execVendorRead seq count a s
  | .vendorWrite seq count a words => Sys2Proof.Machine.execVendorWrite seq count a words s
  | .linkUp => Sys2Proof.Machine.execLinkUp s
  | .heartbeatSend => Sys2Proof.Machine.execHeartbeatSend s
  | .heartbeat hdr h => Sys2Proof.Machine.execHeartbeat hdr h s
  | .helloSend => Sys2Proof.Machine.execHelloSend s
  | .hello hdr h => Sys2Proof.Machine.execHello hdr h s
  | .noticeReset hdr kind => Sys2Proof.Machine.execNoticeReset hdr kind s
  | .noticeSafe hdr => Sys2Proof.Machine.execNoticeSafe hdr s
  | .noticeLeave hdr => Sys2Proof.Machine.execNoticeLeave hdr s
  | .resetReq hdr pairId => Sys2Proof.Machine.execResetReq hdr pairId s
  | .order hdr w => Sys2Proof.Machine.execOrder hdr w s
  | .stamp hdr t angle at_ => Sys2Proof.Machine.execStamp hdr t angle at_ s
  | .commitAck hdr jsn refused => Sys2Proof.Machine.execCommitAck hdr jsn refused s
  | .mirror hdr jsn rec => Sys2Proof.Machine.execMirror hdr jsn rec s
  | .state hdr m r job => Sys2Proof.Machine.execState hdr m r job s
  | .submit hdr words => Sys2Proof.Machine.execSubmit hdr words s
  | .resync hdr jsn rec left => Sys2Proof.Machine.execResync hdr jsn rec left s
  | .handover hdr item => Sys2Proof.Machine.execHandover hdr item s
  | .update hdr item => Sys2Proof.Machine.execUpdate hdr item s
  | .retransmitTimeout => Sys2Proof.Machine.execRetransmitTimeout s
  | .shareProbeStart => Sys2Proof.Machine.execShareProbeStart s
  | .shareProbeEnd mv => Sys2Proof.Machine.execShareProbeEnd mv s
  | .peerSilence => Sys2Proof.Machine.execPeerSilence s
  | .shareTrimAnalog vshare => Sys2Proof.Machine.execShareTrimAnalog vshare s
  | .shareTrimDigital => Sys2Proof.Machine.execShareTrimDigital s
  | .standbyTake rail => Sys2Proof.Machine.execStandbyTake rail s
  | .shareReleased mv rail => Sys2Proof.Machine.execShareReleased mv rail s
  | .peerReset m key => Sys2Proof.Machine.execPeerReset m key s
  | .retrain m key => Sys2Proof.Machine.execRetrain m key s
  | .pair m key => Sys2Proof.Machine.execPair m key s
  | .selModeWrite m data => Sys2Proof.Machine.execSelModeWrite m data s
  | .joinRampDone => Sys2Proof.Machine.execJoinRampDone s
  | .joinAbort rail => Sys2Proof.Machine.execJoinAbort rail s
  | .joinRetry => Sys2Proof.Machine.execJoinRetry s
  | .handBackDone => Sys2Proof.Machine.execHandBackDone s
  | .wdgKeyFirst m => Sys2Proof.Machine.execWdgKeyFirst m s
  | .wdgKeySecond m => Sys2Proof.Machine.execWdgKeySecond m s
  | .wdgKeyInvalid m key => Sys2Proof.Machine.execWdgKeyInvalid m key s
  | .wdgKeyTimeout => Sys2Proof.Machine.execWdgKeyTimeout s
  | .wdgExpiry => Sys2Proof.Machine.execWdgExpiry s
  | .wdgLock m => Sys2Proof.Machine.execWdgLock m s
  | .faultClear m key code => Sys2Proof.Machine.execFaultClear m key code s
  | .resetCmd m key cmd => Sys2Proof.Machine.execResetCmd m key cmd s
  | .pwrRun m key => Sys2Proof.Machine.execPwrRun m key s
  | .pwrLight m key => Sys2Proof.Machine.execPwrLight m key s
  | .pwrStandby m key => Sys2Proof.Machine.execPwrStandby m key s
  | .pwrDeepSleep m key => Sys2Proof.Machine.execPwrDeepSleep m key s
  | .pwrOff m key => Sys2Proof.Machine.execPwrOff m key s
  | .wake src vbus => Sys2Proof.Machine.execWake src vbus s
  | .wakeTimer => Sys2Proof.Machine.execWakeTimer s
  | .lcProvisioned m key => Sys2Proof.Machine.execLcProvisioned m key s
  | .lcField m key => Sys2Proof.Machine.execLcField m key s
  | .lcReturn m key => Sys2Proof.Machine.execLcReturn m key s
  | .lcScrapped m key => Sys2Proof.Machine.execLcScrapped m key s
  | .lcDebug m key => Sys2Proof.Machine.execLcDebug m key s
  | .tokenVerifyDone => Sys2Proof.Machine.execTokenVerifyDone s
  | .lcWipeDone => Sys2Proof.Machine.execLcWipeDone s
  | .resetNAssert ns => Sys2Proof.Machine.execResetNAssert ns s
  | .resetRelease straps records => Sys2Proof.Machine.execResetRelease straps records s
  | .nvmStepDone ok erase => Sys2Proof.Machine.execNvmStepDone ok erase s
  | .reducedServiceStart v48 v12 rail pins share => Sys2Proof.Machine.execReducedServiceStart v48 v12 rail pins share s
  | .firmwareStart => Sys2Proof.Machine.execFirmwareStart s
  | .fullServiceStart defaults records => Sys2Proof.Machine.execFullServiceStart defaults records s
  | .updSessionOpen m data => Sys2Proof.Machine.execUpdSessionOpen m data s
  | .updateBufferWrite m a data => Sys2Proof.Machine.execUpdateBufferWrite m a data s
  | .updBlock m data => Sys2Proof.Machine.execUpdBlock m data s
  | .sessionIdleTimeout => Sys2Proof.Machine.execSessionIdleTimeout s
  | .activateNext m token => Sys2Proof.Machine.execActivateNext m token s
  | .activateNow m token => Sys2Proof.Machine.execActivateNow m token s
  | .heldRestartResume records => Sys2Proof.Machine.execHeldRestartResume records s
  | .updateConfirm m token => Sys2Proof.Machine.execUpdateConfirm m token s
  | .trialAutoConfirm => Sys2Proof.Machine.execTrialAutoConfirm s
  | .discard m token => Sys2Proof.Machine.execDiscard m token s
  | .push m token => Sys2Proof.Machine.execPush m token s
  | .close m token => Sys2Proof.Machine.execClose m token s
  | .complete m token => Sys2Proof.Machine.execComplete m token s
  | .vdrvUndervoltage mv => Sys2Proof.Machine.execVdrvUndervoltage mv s
  | .vdrvRecovery mv => Sys2Proof.Machine.execVdrvRecovery mv s
  | .linkDown => Sys2Proof.Machine.execLinkDown s
  | .vbusRestored v level => Sys2Proof.Machine.execVbusRestored v level s
  | .trySnkTimeout rd => Sys2Proof.Machine.execTrySnkTimeout rd s
  | .packGRampDone => Sys2Proof.Machine.execPackGRampDone s
  | .keepaliveInputChange inputs => Sys2Proof.Machine.execKeepaliveInputChange inputs s

end Sys2Proof.Machine
end

