-- ==== Sys2Proof/Machine/Idle.lean ====
section
/-!
DEFINITION. What the block does when no command waits: `SYSTIME` counts on by one within its
decision tick (R31); the tick itself is the command DECISION_TICK (log entry 2).
-/

namespace Sys2Proof.Machine

/-- Idling: `SYSTIME` counts by 1 up to the last count of its decision tick; role B of a pair may leave a count out (R364). -/
def idle (s : State) : State :=
  if s.sel.slow then { s with sel := { s.sel with slow := false } }
  else if s.time % 100 = 99 then s else { s with time := s.time + 1 }

end Sys2Proof.Machine
end

