-- ==== Sys2Proof/Safety.lean ====
section
/-!
DEFINITION. The words in which claims are stated: a safe step, what a command leaves unchanged, and the canonical form
of the stores.
-/

namespace Sys2Proof.Machine

/-- The outcome is a next state, no fault and no refusal. -/
def isNext : Host.Outcome State Fault Refusal → Bool
  | .next _ => true
  | _ => false

/-- Program memory, data memory, the context records and the windows from 0x4000 up are the same, word for word. -/
def SameMemories (s t : State) : Prop := t.pm = s.pm ∧ t.dm = s.dm ∧ t.ctx = s.ctx ∧ t.win = s.win

/-- Every register but those at the listed addresses keeps its word. -/
def SameRegistersBut (l : List Nat) (s t : State) : Prop := ∀ a, a ∉ l → t.rd a = s.rd a

/-- Nothing changes but registers at the listed addresses. -/
def OnlyRegisters (l : List Nat) (s t : State) : Prop := t = { s with regs := t.regs } ∧ SameRegistersBut l s t

/-- Nothing changes but registers and the working values of the cells and blocks. -/
def OnlyCells (s t : State) : Prop := t = { s with regs := t.regs, mod := t.mod }

/-- Every store of words is in its canonical form: keys rise, and no listed word is what an unlisted one reads as. -/
def storesOk (s : State) : Prop :=
  s.regs.wf = true ∧ s.pm.wf = true ∧ s.dm.wf = true ∧ s.ctx.wf = true ∧ s.win.wf = true ∧ s.calArea.wf = true ∧
    s.beam.pages.wf = true ∧ s.beam.dm.wf = true

/-- Exactly one order enters, for the tick that R33 gives a write that arrives now: its target, value, second value and master. -/
def EntersOrder (s t : State) (m : Nat) (target : Target) (val aux : Int) : Prop :=
  ∃ o : Order, t.lom.orders = s.lom.orders ++ [o] ∧ o.target = target ∧ o.val = val ∧ o.aux = aux ∧ o.master = m ∧
    o.at_ = s.time ∧ o.tick = s.tickFor

/-- The shuttle of context c issues the Verk instruction i now, and no freeze or shed waits for its end. -/
def Issues (s : State) (c : CtxId) (i : Instr) : Prop :=
  (∃ w, verkWord i = some w ∧ s.issues c w = true) ∧ s.cget (CTX.PC c) < 0x3FFF ∧ (s.context c).frozen = false ∧ s.shedHolds c = false

/-- Context c leaves the instruction with the given PC; of its record nothing else changes but general register d, which reads v,
and no register, memory word or window changes. `g0` stays zero. -/
def RetiresAt (c : CtxId) (pc d : Nat) (v : Word) (s t : State) : Prop :=
  t.g c d = (if d = 0 then 0 else v) ∧ t.cget (CTX.PC c) = pc ∧
    (∀ k, k ≠ 32 * c.val + 1 → (d = 0 ∨ k ≠ 32 * c.val + 7 + d) → t.ctx.get k = s.ctx.get k) ∧
    SameRegistersBut [] s t ∧ t.pm = s.pm ∧ t.dm = s.dm ∧ t.win = s.win

/-- As `RetiresAt`, at the next word. -/
def Retires (c : CtxId) (d : Nat) (v : Word) (s t : State) : Prop := RetiresAt c (s.cget (CTX.PC c) + 1) d v s t

/-- Context c is TRAPPED with its cause and argument; its PC stays in TRAPPC, its transaction is gone, and it holds no slot and no job. -/
def Trapped (c : Nat) (cause arg : Nat) (s t : State) : Prop :=
  t.cstate c = 8 ∧ t.cget (CTX.CAUSE c) = cause ∧ t.cget (CTX.TRAPARG c) = arg ∧ t.cget (CTX.TRAPPC c) = s.cget (CTX.PC c) ∧
    t.cget (CTX.TX c) = 0 ∧ (t.context c).wait = none ∧ (t.context c).job = none ∧ t.slotsOf c = [] ∧ t.is LOM_FLAGS.CTX_TRAP = true

/-- Context c has issued an instruction that waits: it stands in WAIT at the next word, its destination is d, and no register of the
device, no data word and no window changes. -/
def Waits (c : CtxId) (d : Nat) (w : Wait) (s t : State) : Prop :=
  t.cstate c = 4 ∧ (t.context c).wait = some w ∧ (t.context c).waitReg = d ∧ t.cget (CTX.PC c) = s.cget (CTX.PC c) + 1 ∧
    (t.slotsOf c).length = (s.slotsOf c).length + 1 ∧ SameRegistersBut [] s t ∧ t.pm = s.pm ∧ t.dm = s.dm ∧ t.win = s.win

/-- Context c finds no slot and stands in WAIT_SLOT without having executed its instruction. -/
def WaitsForSlot (c : CtxId) (s t : State) : Prop :=
  t.cstate c = 5 ∧ t.cget (CTX.PC c) = s.cget (CTX.PC c) ∧ t.is LOM_FLAGS.SLOT_WAIT = true ∧ (∀ d : Reg, t.g c d.val = s.g c d.val) ∧
    SameRegistersBut [LOM_FLAGS.addr] s t ∧ t.pm = s.pm ∧ t.dm = s.dm ∧ t.win = s.win

/-- Writes of ring pointers and of `JOB_RELEASE` by master m are served: full service, no safe chip or Interface, and for a host no held
restart. -/
def RingsServed (s : State) (m : Nat) : Prop :=
  s.fullService = true ∧ s.chipSafe = false ∧ s.regionSafe .interface = false ∧ (m < 3 → s.is UPD_STATUS.HOLD = false)

/-- Exactly one completion entry is added to those due for master m: an ACK entry with the job ID, state, cause and record index. -/
def PostsAck (s t : State) (m : Nat) (jobId : Word) (state cause record : Nat) : Prop :=
  ∃ asn, t.jobs.posts = s.jobs.posts ++ [(m, [jobId, BitVec.ofNat 32 (state * 2 ^ 28), BitVec.ofNat 32 (asn % 2 ^ 32),
    BitVec.ofNat 32 (asn / 2 ^ 32 * 65536 + cause * 256 + record)])]

/-- A frame with the header h is received in full and carries nothing for the transmitter: the link is up, the frame is valid, no NAK
stands in it, and this twin waits for no acknowledgement. -/
def Arrives (s : State) (h : FrameHdr) : Prop :=
  s.linkUp = true ∧ h.valid = true ∧ h.nak = false ∧ s.sel.unacked = [] ∧ s.sel.waiting = []

/-- The state in which the frame of `Arrives` takes effect: the silence of the peer starts anew and a probe of `SHARE` ends. -/
def State.heard (s : State) : State := { s with sel := { s.sel with lastFrame := some s.time, probeAt := none, probeLost := none } }

/-- As `Arrives`, for a sequenced frame: its number is the one expected. -/
def ArrivesInTurn (s : State) (h : FrameHdr) : Prop := Arrives s h ∧ h.seq.toNat = s.sel.rxSeq

/-- As `heard`, with the number of the sequenced frame taken. -/
def State.heardInTurn (s : State) : State := { s.heard with sel := { s.heard.sel with rxSeq := (s.sel.rxSeq + 1) % 65536 } }

end Sys2Proof.Machine
end

