-- ==== Sys2Proof/Certificates/Slice0/Obligations.lean ====
section
/-!
DEFINITION. The statements for the provers. Each formalises rules of the spec (OBLIGATIONS.json cites them); a clause that
rests on a choice of the model names its log entry.
-/

open Sys2Proof Sys2Proof.Machine

/-- One step: with a command at the front of the queue, `step` is `exec` of it on the machine with the rest of the queue. -/
def Obligations.StepRunsTheFrontCommand : Prop :=
  ∀ (s : State) (c : Instr) (rest : List Instr), s.pending = c :: rest → step s = exec c { s with pending := rest }

/-- The step on an empty queue (log entry 2, the model's choice): `SYSTIME` counts on within its decision tick (R31), and nothing else changes but the note of a
count that role B leaves out (R364). -/
def Obligations.IdleStep : Prop :=
  (∀ s : State, s.pending = [] → s.sel.slow = false → s.time % 100 ≠ 99 → step s = .next { s with time := s.time + 1 }) ∧
  (∀ s : State, s.pending = [] → s.sel.slow = false → s.time % 100 = 99 → step s = .next s) ∧
  (∀ s : State, s.pending = [] → s.sel.slow = true → step s = .next { s with sel := { s.sel with slow := false } })

/-- No command changes the queue of those that wait behind it. -/
def Obligations.CommandsLeaveTheQueue : Prop := ∀ (i : Instr) (s t : State), exec i s = .next t → t.pending = s.pending

/-- Every step keeps the stores of registers, memories, windows, calibration words and of the Beam in their canonical form. -/
def Obligations.StepKeepsTheStores : Prop := ∀ s t : State, storesOk s → step s = .next t → storesOk t

/-- The machine after a power-on reset: every store is canonical, so `StepKeepsTheStores` starts from here. -/
def Obligations.ResetMeetsTheInvariant : Prop := storesOk State.reset

/-- R14, R31 and the register map: after a power-on reset every register of the map reads its POR word, the clocks stand at zero, memories and windows are empty,
no command waits, and the device is held in reset. -/
def Obligations.ResetState : Prop :=
  (∀ r ∈ regTable, ∀ k, k < r.count → State.reset.rd (r.base + r.stride * k) = BitVec.ofNat 32 r.por) ∧
  State.reset.time = 0 ∧ State.reset.aon = 0 ∧ State.reset.pm = [] ∧ State.reset.dm = [] ∧ State.reset.ctx = [] ∧ State.reset.win = [] ∧
  State.reset.pending = [] ∧ State.reset.saf.inReset = some 1 ∧ State.reset.get GLB_REGION.SERVICE = 0

/-- R254, R256: the encoding of the Verk instructions. Every well-formed instruction decodes from its word, and a word that decodes is the word of what it
decodes to: no bit of an encoding is dropped. -/
def Obligations.VerkEncodingRoundTrip : Prop :=
  (∀ (i : Instr) (w : Word), i.wf = true → verkWord i = some w → ∃ c, verkDecode c w = some i) ∧
  (∀ (c : CtxId) (w : Word) (i : Instr), verkDecode c w = some i → i.wf = true ∧ verkWord i = some w)

/-- R4: on a variant without a unit every register and window of the unit reads as zero and ignores writes, for every master. UX4863-S lacks SEL; UX4863-L lacks
WRP and RED and the pick and weft window. -/
def Obligations.AbsentUnits : Prop :=
  ∀ (s : State) (m : Master) (a : Nat) (w : Word),
    (s.is GLB_FEAT.SEL_PRESENT = false ∧ 0x1C00 ≤ a ∧ a < 0x1D00 ∨
      s.is GLB_FEAT.WRP_PRESENT = false ∧ (0x0E00 ≤ a ∧ a < 0x1000 ∨ 0xC000 ≤ a ∧ a < 0xE000)) → a % 4 = 0 →
    exec (.registerWrite m a w) s = .next s ∧ ∃ t, exec (.lowWordRead m a) s = .next t ∧ t.readData = 0 ∧ SameRegistersBut [] s t ∧ SameMemories s t

/-- R326: the block rating of the port converter is 5.00 A, in 10 mA, at which burst mode, `THM_LIM` PRT and I_th take it. -/
def Obligations.PortRating : Prop := ∀ s : State, s.contRating .prt = 500 ∧ s.ratingFor .prt (s.availCells .prt).length = (500, 500)

/-- R21, R23, R25, R377: safe states. Entering a region safe state makes it read SAFE with its fault set, entering the chip safe state opens every input
FET and turns every converter off, and a second region safe at once escalates to the chip. -/
def Obligations.SafeStates : Prop :=
  (∀ (s : State) (r : Region), (s.safeRegion r).regionSafe r = true) ∧
  (∀ (s : State) (r : Region), s.regionSafe r = false → bitOf ((s.safeRegion r).get SAF_FAULT.FAULT) (regionFault r) = true) ∧
  (∀ (s : State) (q r : Region), q ≠ r → s.regionSafe q = true → s.regionSafe r = false → (s.safeRegion r).chipSafe = true) ∧
  (∀ (s : State) (code : Nat), code < 22 → (s.safeChip code).chipSafe = true ∧ bitOf ((s.safeChip code).get SAF_FAULT.FAULT) code = true) ∧
  (∀ (s : State) (code : Nat), s.chipSafe = false → (s.safeChip code).is SRC_STATUS.G48_ON = false ∧ (s.safeChip code).is SRC_STATUS.G12_ON = false ∧
    (s.safeChip code).is SRC_STATUS.GBYP_ON = false ∧ (s.safeChip code).is PRT_STATUS.VBUS_G_ON = false ∧ (s.safeChip code).get SRC_STATUS.PRIMARY = 0 ∧
    (s.safeChip code).get CHB_STATUS.MODE = 0) ∧
  (∀ (s : State) (code : Nat), s.chipSafe = false → s.peerLive = true → s.linkUp = true → (s.safeChip code).sel.sent = some (.notice 2 0))

/-- R25, R236, R237: the merge of one target in a tick. The winner is one of its orders; no raising order wins while a reducing one competes, while the target's
region is safe, or against another owner's lock; among those that compete the lowest master wins, and of its orders one that arrived last. The other orders
end REGION_SAFE (code 3), CONFLICT (2) or SUPERSEDED (1). -/
def Obligations.MergeOfOneTarget : Prop :=
  (∀ (s : State) (l : List Order) (o : Order), (s.judge l).1 = some o →
    o ∈ l ∧ (s.reducing o = false → (∀ p ∈ l, s.reducing p = false) ∧ s.regionSafe o.target.region = false ∧
      ∀ n, s.lockOwner o.target = some n → o.master = n)) ∧
  (∀ (s : State) (l : List Order) (o p : Order), (∀ q ∈ l, q.master < 5) → (s.judge l).1 = some o → p ∈ l → s.reducing p = s.reducing o →
    (s.reducing p = true ∨ s.regionSafe p.target.region = false ∧ ∀ n, s.lockOwner p.target = some n → p.master = n) →
    o.master ≤ p.master ∧ (p.master = o.master → p.at_ ≤ o.at_ ∧ (p.at_ = o.at_ → p.fromB = o.fromB → orderRank o ≤ orderRank p))) ∧
  (∀ (s : State) (l : List Order) (p : Order), (∀ q ∈ l, q.master < 5) → p ∈ l →
    (s.reducing p = true ∨ s.regionSafe p.target.region = false ∧ ∀ n, s.lockOwner p.target = some n → p.master = n) → ∃ o, (s.judge l).1 = some o) ∧
  (∀ (s : State) (l : List Order) (v : Verdict), v ∈ (s.judge l).2 → v.order ∈ l ∧ (s.judge l).1 ≠ some v.order ∧
    (s.reducing v.order = false → s.regionSafe v.order.target.region = true → v.code = 3) ∧
    (∀ n, s.reducing v.order = false → s.regionSafe v.order.target.region = false → s.lockOwner v.order.target = some n → n ≠ v.order.master →
      v.code = 2 ∧ v.locked = true ∧ v.winner = n) ∧
    (∀ o, (s.reducing v.order = true ∨ s.regionSafe v.order.target.region = false ∧ s.lockOwner v.order.target = none) → (s.judge l).1 = some o →
      v.winner = o.master ∧ v.code = (if v.order.master = o.master ∧ v.order.at_ ≤ o.at_ then 1 else 2)))

/-- R56, R58, R64: what the nets' measurements and qualifications do, each with its frame. -/
def Obligations.SourceNets : Prop :=
  (∀ (s : State) (v : Nat), s.powered = true → s.is SRC_CTRL.IN48_USED = true → 2400 ≤ v → v ≤ 6000 → s.get SRC_REV.MODE = 0 →
    (s.src.need48 = true → s.floorOf 1 + 200 ≤ v) → s.is SRC_STATUS.IN48_UVL = false → s.is SRC_STATUS.IN48_OVL = false → s.trunkLost = false →
    ∃ t, exec (.sourceQualified .trk v) s = .next t ∧ t.is SRC_STATUS.IN48_QUAL = true ∧ t.is SRC_STATUS.G48_ON = true ∧
      SameRegistersBut [SRC_STATUS.addr] s t ∧ SameMemories s t) ∧
  (∀ (s : State) (v : Nat), s.powered = true → s.is SRC_CTRL.IN12_USED = true → 650 ≤ v → v ≤ 1600 → s.get TRK_REF.TARGET ≤ 1600 →
    (s.src.need12 = true → s.floorOf 2 + 100 ≤ v) → s.is SRC_STATUS.IN12_UVL = false → s.is SRC_STATUS.IN12_OVL = false →
    ∃ t, exec (.sourceQualified .byp v) s = .next t ∧ t.is SRC_STATUS.IN12_QUAL = true ∧ t.is SRC_STATUS.G12_ON = true ∧
      SameRegistersBut [SRC_STATUS.addr] s t ∧ SameMemories s t) ∧
  (∀ (s : State) (v : Nat), s.powered = true →
    ∃ t, exec (.sourceQualified .pack v) s = .next t ∧ t.is SRC_STATUS.PACK_QUAL = s.revAvail ∧ OnlyRegisters [SRC_STATUS.addr, CHG_STATUS.addr] s t) ∧
  (∀ (s : State) (v : Nat), s.powered = true →
    ∃ t, exec (.sourceQualified .vbus v) s = .next t ∧ t.is SRC_STATUS.VBUS_QUAL = (s.rd SRC_CEIL_VBUS.addr != 0) ∧ OnlyRegisters [SRC_STATUS.addr] s t) ∧
  (∀ (s : State) (v48 v12 : Nat) (i48 i12 : Int), v48 < 65536 → v12 < 65536 → s.get GLB_REGION.SERVICE = 0 →
    ∃ t, exec (.srcMeasure v48 i48 v12 i12) s = .next t ∧ t.get SRC_IN48_MEAS.VOLT = v48 ∧ t.get SRC_IN12_MEAS.VOLT = v12 ∧
      OnlyRegisters [SRC_IN48_MEAS.VOLT.addr, SRC_IN12_MEAS.VOLT.addr] s t) ∧
  (∀ (s : State) (v48 v12 : Nat) (i48 i12 : Int), v48 < 65536 → v12 < 65536 → s.powered = true → s.src.evaluated48 = true → s.src.evaluated12 = true →
    s.is SRC_STATUS.IN48_QUAL = false → s.is SRC_STATUS.IN12_QUAL = false → s.is SRC_STATUS.REV_ACTIVE = false →
    ∃ t, exec (.srcMeasure v48 i48 v12 i12) s = .next t ∧ t.get SRC_IN48_MEAS.VOLT = v48 ∧ t.get SRC_IN12_MEAS.VOLT = v12 ∧
      SameRegistersBut [SRC_IN48_MEAS.VOLT.addr, SRC_IN12_MEAS.VOLT.addr, SRC_STATUS.addr] s t ∧ SameMemories s t) ∧
  (∀ (s : State) (i : Int), i < -50 → s.is SRC_STATUS.G12_ON = true →
    ∃ t, exec (.backfeedTurnOff true i) s = .next t ∧ t.is SRC_STATUS.G12_ON = false ∧ t.is SRC_FLAGS.BACKFEED = true ∧
      OnlyRegisters [SRC_STATUS.addr, SRC_FLAGS.addr] s t) ∧
  (∀ (s : State) (i : Int), i < -100 → s.is SRC_STATUS.G48_ON = true → s.is SRC_STATUS.REV_ACTIVE = false →
    ∃ t, exec (.backfeedTurnOff false i) s = .next t ∧ t.is SRC_STATUS.G48_ON = false ∧ t.is SRC_FLAGS.BACKFEED = true ∧
      OnlyRegisters [SRC_STATUS.addr, SRC_FLAGS.addr] s t)

/-- R75 and R76: the stops and lockouts of the nets. Where the net is not the primary source and no transfer runs, the flag and the
report are set, the FETs open, the source is no longer qualified and nothing else changes; else the path that R63 gives a lost primary
follows from there. A release clears the report alone, and on the primary net it is a voltage event (R68). -/
def Obligations.NetLockouts : Prop :=
  (∀ (s : State) (v : Nat), s.powered = true → v < 2000 → s.is SRC_STATUS.IN48_UVL = false → s.get SRC_STATUS.PRIMARY ≠ 1 → s.moving = false →
    ∃ t, exec (.in48UvStop v) s = .next t ∧ t.is SRC_STATUS.IN48_UVL = true ∧ t.is SRC_FLAGS.IN48_UV = true ∧ t.is SRC_STATUS.IN48_QUAL = false ∧
      t.is SRC_STATUS.G48_ON = false ∧ OnlyRegisters [SRC_STATUS.addr, SRC_FLAGS.addr] s t) ∧
  (∀ (s : State) (v : Nat), s.powered = true → v < 2000 → s.is SRC_STATUS.IN48_UVL = false →
    exec (.in48UvStop v) s = .next (((s.mark SRC_STATUS.IN48_UVL true).raise SRC_FLAGS.IN48_UV).stop48 5)) ∧
  (∀ (s : State) (v : Nat), s.powered = true → 6200 ≤ v → s.is SRC_STATUS.IN48_OVL = false → s.get SRC_STATUS.PRIMARY ≠ 1 → s.moving = false →
    s.is SRC_STATUS.REV_ACTIVE = false →
    ∃ t, exec (.in48OvLockout v) s = .next t ∧ t.is SRC_STATUS.IN48_OVL = true ∧ t.is SRC_FLAGS.IN48_OV = true ∧ t.is SRC_STATUS.IN48_QUAL = false ∧
      t.is SRC_STATUS.G48_ON = false ∧ OnlyRegisters [SRC_STATUS.addr, SRC_FLAGS.addr] s t) ∧
  (∀ (s : State) (v : Nat), s.powered = true → 6200 ≤ v → s.is SRC_STATUS.IN48_OVL = false →
    exec (.in48OvLockout v) s = .next (((s.mark SRC_STATUS.IN48_OVL true).raise SRC_FLAGS.IN48_OV).stop48 4)) ∧
  (∀ (s : State) (v : Nat), s.powered = true → v < 600 → s.is SRC_STATUS.IN12_UVL = false → s.get SRC_STATUS.PRIMARY ≠ 2 → s.moving = false →
    ∃ t, exec (.in12UvLockout v) s = .next t ∧ t.is SRC_STATUS.IN12_UVL = true ∧ t.is SRC_FLAGS.IN12_UV = true ∧ t.is SRC_STATUS.IN12_QUAL = false ∧
      t.is SRC_STATUS.G12_ON = false ∧ t.is SRC_STATUS.GBYP_ON = false ∧ OnlyRegisters [SRC_STATUS.addr, SRC_FLAGS.addr] s t) ∧
  (∀ (s : State) (v : Nat), s.powered = true → v < 600 → s.is SRC_STATUS.IN12_UVL = false →
    exec (.in12UvLockout v) s = .next (((s.mark SRC_STATUS.IN12_UVL true).raise SRC_FLAGS.IN12_UV).stop12 5)) ∧
  (∀ (s : State) (v : Nat), s.powered = true → 1650 ≤ v → s.is SRC_STATUS.IN12_OVL = false → s.get SRC_STATUS.PRIMARY ≠ 2 → s.moving = false →
    ∃ t, exec (.in12OvLockout v) s = .next t ∧ t.is SRC_STATUS.IN12_OVL = true ∧ t.is SRC_FLAGS.IN12_OV = true ∧ t.is SRC_STATUS.IN12_QUAL = false ∧
      t.is SRC_STATUS.G12_ON = false ∧ t.is SRC_STATUS.GBYP_ON = false ∧ OnlyRegisters [SRC_STATUS.addr, SRC_FLAGS.addr] s t) ∧
  (∀ (s : State) (v : Nat), s.powered = true → 1650 ≤ v → s.is SRC_STATUS.IN12_OVL = false →
    exec (.in12OvLockout v) s = .next (((s.mark SRC_STATUS.IN12_OVL true).raise SRC_FLAGS.IN12_OV).stop12 4)) ∧
  (∀ (s : State) (v : Nat), 2400 < v → s.is SRC_STATUS.IN48_UVL = true →
    ∃ t, exec (.in48UvRelease v) s = .next t ∧ t.is SRC_STATUS.IN48_UVL = false ∧ (s.get SRC_STATUS.PRIMARY ≠ 1 → OnlyRegisters [SRC_STATUS.addr] s t) ∧
      (s.get SRC_STATUS.PRIMARY = 1 → t.src.settleAt = some (s.time + ms (10 * max 1 (s.get SRC_CTRL.EVT_SETTLE)))) ∧ SameRegistersBut [SRC_STATUS.addr] s t ∧ SameMemories s t) ∧
  (∀ (s : State) (v : Nat), v < 5900 → s.is SRC_STATUS.IN48_OVL = true →
    ∃ t, exec (.in48OvRelease v) s = .next t ∧ t.is SRC_STATUS.IN48_OVL = false ∧ (s.get SRC_STATUS.PRIMARY ≠ 1 → OnlyRegisters [SRC_STATUS.addr] s t) ∧
      (s.get SRC_STATUS.PRIMARY = 1 → t.src.settleAt = some (s.time + ms (10 * max 1 (s.get SRC_CTRL.EVT_SETTLE)))) ∧ SameRegistersBut [SRC_STATUS.addr] s t ∧ SameMemories s t) ∧
  (∀ (s : State) (v : Nat), 650 ≤ v → s.is SRC_STATUS.IN12_UVL = true →
    ∃ t, exec (.in12UvRelease v) s = .next t ∧ t.is SRC_STATUS.IN12_UVL = false ∧ (s.get SRC_STATUS.PRIMARY ≠ 2 → OnlyRegisters [SRC_STATUS.addr] s t) ∧
      (s.get SRC_STATUS.PRIMARY = 2 → t.src.settleAt = some (s.time + ms (10 * max 1 (s.get SRC_CTRL.EVT_SETTLE)))) ∧ SameRegistersBut [SRC_STATUS.addr] s t ∧ SameMemories s t) ∧
  (∀ (s : State) (v : Nat), v ≤ 1600 → s.is SRC_STATUS.IN12_OVL = true →
    ∃ t, exec (.in12OvRelease v) s = .next t ∧ t.is SRC_STATUS.IN12_OVL = false ∧ (s.get SRC_STATUS.PRIMARY ≠ 2 → OnlyRegisters [SRC_STATUS.addr] s t) ∧
      (s.get SRC_STATUS.PRIMARY = 2 → t.src.settleAt = some (s.time + ms (10 * max 1 (s.get SRC_CTRL.EVT_SETTLE)))) ∧ SameRegistersBut [SRC_STATUS.addr] s t ∧ SameMemories s t)

/-- R60 to R63: the steps of a transfer, its abandonment and retry, and the hold-up transfers. In PREP the incoming source turns on at the
transfer reference once the rail is within 1 % of it; RELEASE follows OVERLAP and changes nothing else; at its end the incoming source
becomes primary. -/
def Obligations.Transfers : Prop :=
  (∀ (s : State) (rail : Nat), s.get SRC_STATUS.XFER = 1 → s.get SRC_STATUS.TARGET = 2 → 100 * ((rail : Int) - s.src.xferRef).natAbs ≤ s.src.xferRef →
    ∃ t, exec (.xferPrepDone rail) s = .next t ∧ t.get SRC_STATUS.XFER = 2 ∧ t.is SRC_STATUS.GBYP_ON = true ∧ OnlyRegisters [SRC_STATUS.addr] s t) ∧
  (∀ (s : State) (rail : Nat), s.get SRC_STATUS.XFER = 1 → 100 * ((rail : Int) - s.src.xferRef).natAbs ≤ s.src.xferRef →
    ∃ t, exec (.xferPrepDone rail) s = .next t ∧ t.get SRC_STATUS.XFER = 2 ∧ t = (s.turnOn (s.get SRC_STATUS.TARGET) s.src.xferRef).set SRC_STATUS.XFER 2) ∧
  (∀ (s : State), s.get SRC_STATUS.XFER = 2 →
    ∃ t, exec .xferOverlapDone s = .next t ∧ t.get SRC_STATUS.XFER = 3 ∧ t.get SRC_STATUS.PRIMARY = s.get SRC_STATUS.PRIMARY ∧ OnlyRegisters [SRC_STATUS.addr] s t) ∧
  (∀ (s : State), s.get SRC_STATUS.XFER = 3 → exec .xferReleaseDone s = .next s.completeXfer) ∧
  (∀ (s : State) (rail : Nat), s.moving = true → s.qualified (s.get SRC_STATUS.TARGET) = false → exec (.xferAbandon rail) s = .next (s.abandonXfer 9)) ∧
  (∀ (s : State) (rail : Nat), s.qualified (s.get SRC_STATUS.TARGET) = true → (s.get SRC_STATUS.XFER = 2 ∨ s.get SRC_STATUS.XFER = 3) →
    s.src.xferRef < 100 * ((rail : Int) - s.src.xferRef).natAbs → exec (.xferAbandon rail) s = .next (s.abandonXfer 8)) ∧
  (∀ (s : State) (at_ : Nat), s.get SRC_STATUS.XFER = 5 → s.src.retryAt = some at_ → at_ ≤ s.time → s.get SRC_STATUS.PRIMARY = s.src.retryTo →
    ∃ t, exec .xferRetry s = .next t ∧ t.get SRC_STATUS.XFER = 0 ∧ t.src.retryAt = none ∧ SameRegistersBut [SRC_STATUS.addr] s t ∧ SameMemories s t) ∧
  (∀ (s : State) (v : Nat), s.fullService = true → s.powered = true → s.get SRC_STATUS.PRIMARY = 2 → v < s.floorOf 2 →
    exec (.holdupTransfer v) s = .next ((s.mark SRC_STATUS.IN12_QUAL false).holdUp 3)) ∧
  (∀ (s : State) (v : Nat), s.fullService = true → s.powered = true → s.get SRC_STATUS.PRIMARY = 1 → v < s.floorOf 1 → s.revAvail = true →
    exec (.holdupTransfer v) s = .next ((s.mark SRC_STATUS.IN48_QUAL false).holdUp 3)) ∧
  (∀ (s : State) (v : Nat), s.get SRC_STATUS.PRIMARY = 1 → s.revAvail = false → exec (.holdupTransfer v) s = .next s) ∧
  (∀ (s : State) (i : Nat), s.fullService = true → s.get SRC_STATUS.PRIMARY = 2 → 5 * s.get SRC_CEIL12.MAX < 4 * i →
    exec (.bypassOvercurrent i) s = .next (((s.raise SRC_FLAGS.BYP_OCP).mark SRC_STATUS.IN12_QUAL false).holdUp 6))

/-- R65 to R72: the starts of a search and its steps. A start that a condition of R68 holds back stays pending; a step at which the draw
falls short of the target by more than half a `STEP` ends the search PARTIAL, a collapse ends it one `STEP` below the last good draw,
and a sag outside a search lowers the ceiling by one `STEP`. -/
def Obligations.CapabilitySearch : Prop :=
  (∀ (s : State) (at_ : Nat), s.src.initialAt = some at_ → at_ ≤ s.time →
    exec .searchInitial s = .next ({ s with src := { s.src with initialAt := none } } : State).wantSearch) ∧
  (∀ (s : State) (at_ : Nat), s.src.periodAt = some at_ → at_ ≤ s.time →
    exec .searchPeriod s = .next ({ s with src := { s.src with periodAt := some (s.time + ms (1000 * clampN 10 600 (s.get SRC_CTRL.PERIOD))) } } : State).wantSearch) ∧
  (∀ (s : State) (at_ : Nat), s.src.settleAt = some at_ → at_ ≤ s.time →
    exec .searchEvtSettle s = .next ({ s with src := { s.src with settleAt := none } } : State).wantSearch) ∧
  (∀ (s : State), s.fullService = true → s.is SRC_CTRL.SEARCH_EN = true → s.get SRC_STATUS.PRIMARY = 1 → s.src.search = none → s.searchBlocked = true →
    ∃ t, s.wantSearch = t ∧ t.src.pending = true ∧ t.get SRC_STATUS.SEARCH = 4 ∧ SameRegistersBut [SRC_STATUS.addr] s t) ∧
  (∀ (s : State) (m : Master), s.mayWrite m = true → (s.wantSearch.src.search.isSome = true ∨ s.wantSearch.src.pending = true) →
    ∃ t, exec (.startSearch m) s = .next t ∧ t.is SRC_CTRL.START_SEARCH = true ∧ t = s.wantSearch.mark SRC_CTRL.START_SEARCH true) ∧
  (∀ (s : State), s.src.pending = true → s.searchBlocked = false →
    exec .searchPendingRun s = .next ((({ s with src := { s.src with pending := false } } : State).set SRC_STATUS.SEARCH 0).wantSearch)) ∧
  (∀ (s : State) (v i : Nat) (x : Search), s.src.search = some x → 2 * x.target ≤ 2 * i + (s.searchCfg x.source).1 →
    x.target + (s.searchCfg x.source).1 ≤ (s.searchCfg x.source).2.2 →
    ∃ t, exec (.searchStep v i) s = .next t ∧ t.src.search = some { x with pairs := x.pairs ++ [(v, i)], lastGood := x.target, target := x.target + (s.searchCfg x.source).1 } ∧
      SameRegistersBut [] s t ∧ SameMemories s t) ∧
  (∀ (s : State) (v i : Nat) (x : Search), s.src.search = some x → 2 * i + (s.searchCfg x.source).1 < 2 * x.target →
    ∃ t, exec (.searchStep v i) s = .next t ∧ t.get SRC_STATUS.SEARCH = 0 ∧ t.is SRC_FLAGS.SEARCH_PART = true ∧ t.src.search = none ∧
      (s.regionSafe .north = false → x.source = 1 → t.src.ceil48 = some (max (s.searched 1) x.lastGood)) ∧ SameMemories s t) ∧
  (∀ (s : State) (v : Nat) (x : Search), s.src.search = some x → v < x.vth →
    ∃ t, exec (.searchCollapse v) s = .next t ∧ t.get SRC_STATUS.SEARCH = 3 ∧ t.is SRC_FLAGS.SEARCH_DONE = true ∧ t.src.search = none ∧ t.src.draw = 0 ∧
      (s.regionSafe .north = false → x.source = 1 → t.src.ceil48 = some (x.lastGood - (s.searchCfg 1).1)) ∧ SameMemories s t) ∧
  (∀ (s : State) (v i : Nat), s.fullService = true → s.src.search = none → s.get SRC_STATUS.PRIMARY = 1 → s.regionSafe .north = false → v < s.collapseAt 1 s.src.ref48 →
    ∃ t, exec (.ceilingDrop v i) s = .next t ∧ t.is SRC_FLAGS.CEIL_DROP = true ∧ t.src.ceil48 = some (i - (s.searchCfg 1).1) ∧
      t.src.settleAt = some (s.time + ms (10 * max 1 (s.get SRC_CTRL.EVT_SETTLE))) ∧ SameRegistersBut [SRC_CEIL48.CEIL.addr, SRC_FLAGS.addr] s t ∧ SameMemories s t)

/-- R79 to R81, R84: a write of `MODE` that differs from the value in force enters one order, and nothing else changes; the stops of a
pre-charge, each with its cause, and its target. -/
def Obligations.TrunkReverse : Prop :=
  (∀ (s : State) (m : Master), s.mayWrite m = true → s.get SRC_REV.MODE ≠ 1 → s.peerLive = false →
    ∃ t, exec (.reversePrecharge m) s = .next t ∧ EntersOrder s t m.val (.field 0x16 SRC_REV.MODE) 1 0 ∧ SameRegistersBut [] s t ∧ SameMemories s t) ∧
  (∀ (s : State) (m : Master), s.mayWrite m = true → s.get SRC_REV.MODE ≠ 2 → s.peerLive = false →
    ∃ t, exec (.reverseSupport m) s = .next t ∧ EntersOrder s t m.val (.field 0x16 SRC_REV.MODE) 2 0 ∧ SameRegistersBut [] s t ∧ SameMemories s t) ∧
  (∀ (s : State) (m : Master), s.mayWrite m = true → s.get SRC_REV.MODE ≠ 0 → s.peerLive = false →
    ∃ t, exec (.reverseOff m) s = .next t ∧ EntersOrder s t m.val (.field 0x16 SRC_REV.MODE) 0 0 ∧ SameRegistersBut [] s t ∧ SameMemories s t) ∧
  (∀ (s : State) (v : Nat), s.get SRC_REV.STATE = 2 → clampN 2400 5400 (s.get SRC_REV_TGT.PRECH_V) ≤ v →
    ∃ t, exec (.prechargeTargetReached v) s = .next t ∧ t.is SRC_FLAGS.REV_DONE = true ∧ t.get SRC_REV.STATE = 3 ∧
      OnlyRegisters [SRC_FLAGS.addr, SRC_REV.addr] s t) ∧
  (∀ (s : State) (at_ : Nat), s.get SRC_REV.STATE = 2 → s.src.revAt = some at_ → at_ + ms (10 * max 1 (s.get SRC_REV.TIMEOUT)) ≤ s.time →
    ∃ t, exec .prechargeTimeout s = .next t ∧ t.get SRC_REV.STATE = 5 ∧ t.get SRC_REV.CAUSE = 2 ∧ t.get SRC_REV.MODE = 0 ∧ t.is SRC_FLAGS.REV_FAULT = true) ∧
  (∀ (s : State) (v at_ : Nat), s.get SRC_REV.STATE = 2 → s.src.revAt = some at_ → at_ + ms 10 ≤ s.time → v < 500 →
    ∃ t, exec (.prechargeShortCheck v) s = .next t ∧ t.get SRC_REV.STATE = 5 ∧ t.get SRC_REV.CAUSE = 3 ∧ t.get SRC_REV.MODE = 0 ∧ t.is SRC_FLAGS.REV_FAULT = true) ∧
  (∀ (s : State) (v : Nat), (s.get SRC_REV.STATE = 2 ∨ s.get SRC_REV.STATE = 3) → clampN 2400 5400 (s.get SRC_REV_TGT.PRECH_V) + 200 < v →
    ∃ t, exec (.prechargeNetConnected v) s = .next t ∧ t.get SRC_REV.STATE = 0 ∧ t.get SRC_REV.MODE = 0)

/-- R89, R91 to R94, R96, R97, R187: pulses of a cell. A pulse that is due goes to the cell that the dealer gives it to; without an
eligible cell it waits, and a keep-out window counts it as held. The on-time stands in `TON`. At its end the rectifying switch turns on
and the period counts; a limited pulse ends, counts in `CBC_CNT` and sets CBC. -/
def Obligations.Pulses : Prop :=
  (∀ (s : State) (b : Block) (vfb iac : Int) (vi vo boot n : Nat), b ≠ .prt → (s.fleet b).packet = none → (s.fleet b).waits = true → s.keptOut b = false →
    s.dealt b = some n → exec (.loopComparatorFire b vfb iac vi vo boot) s = .next (s.firePulse n vi vo boot)) ∧
  (∀ (s : State) (n vi vo boot : Nat), n < 18 → s.direct n = false → s.burst (blockOf n) = false →
    ((s.firePulse n vi vo boot).cell n).pulse = some s.time ∧ ((s.firePulse n vi vo boot).cell n).refresh = 0 ∧
      (s.firePulse n vi vo boot).get (CEL_TON.TON n) = s.onTime n vi vo ∧ (s.firePulse n vi vo boot).is (CEL_STATUS.CBC n) = false ∧
      SameRegistersBut [CEL_TON.addr n, CEL_STATUS.addr n] s (s.firePulse n vi vo boot) ∧ OnlyCells s (s.firePulse n vi vo boot)) ∧
  (∀ (s : State) (b : Block) (vfb iac : Int) (vi vo boot : Nat), b ≠ .prt → (s.fleet b).packet = none → vfb ≤ s.refOf b → (s.fleet b).last = none →
    s.keptOut b = false → s.dealt b = none →
    ∃ t, exec (.loopComparatorFire b vfb iac vi vo boot) s = .next t ∧ (t.fleet b).waits = true ∧ SameRegistersBut [] s t ∧ OnlyCells s t) ∧
  (∀ (s : State) (b : Block) (vfb iac : Int) (vi vo boot : Nat), (s.fleet b).packet = none → (s.fleet b).waits = false → (s.fleet b).last = none →
    s.refOf b < vfb → exec (.loopComparatorFire b vfb iac vi vo boot) s = .next s) ∧
  (∀ (s : State) (b : Block) (vfb iac : Int) (vi vo boot : Nat) (k : KeepOut), b ≠ .prt → (s.fleet b).packet = none → (s.fleet b).waits = true →
    s.red.keep.find (blockNum b) = some k → k.isOpen = true → s.time < k.ends →
    ∃ t, exec (.loopComparatorFire b vfb iac vi vo boot) s = .next t ∧ t.red.keep.find (blockNum b) = some { k with held := k.held + 1 } ∧
      SameRegistersBut [] s t ∧ SameMemories s t ∧ t.mod = s.mod) ∧
  (∀ (s : State) (n : Cell) (t0 : Nat), (s.cell n.val).pulse = some t0 → (s.cell n.val).refresh = 0 → 64 * t0 + s.get (CEL_TON.TON n.val) ≤ 64 * s.time →
    s.thm.toPark.contains n.val = false →
    ∃ t, exec (.onTimeEnd n) s = .next t ∧ (t.cell n.val).pulse = none ∧ (t.cell n.val).rect = true ∧ (t.cell n.val).offAt = some s.time ∧
      (t.cell n.val).pulses = (s.cell n.val).pulses + 1 ∧ SameRegistersBut [TRK_REENTRY.PERIODS.addr] s t ∧ OnlyCells s t) ∧
  (∀ (s : State) (n : Cell) (t0 : Nat), (s.cell n.val).pulse = some t0 → (s.cell n.val).refresh = 0 → 64 * s.time < 64 * t0 + s.get (CEL_TON.TON n.val) →
    exec (.onTimeEnd n) s = .next s) ∧
  (∀ (s : State) (n : Cell) (f : Nat), 64 ≤ (s.cell n.val).pulses → s.burst (blockOf n.val) = false → (s.fleet (blockOf n.val)).holdOff = false →
    s.is (CEL_STATUS.CBC n.val) = false →
    ∃ t, exec (.freqLoopUpdate n f) s = .next t ∧ (t.cell n.val).pulses = 0 ∧ (t.cell n.val).fmeas = f ∧
      t.getZ (CEL_TON.CF n.val) = clampZ (-128) 127 (s.getZ (CEL_TON.CF n.val) + quot (128 * ((f : Int) - s.fset n.val)) (s.fset n.val)) ∧
      SameRegistersBut [CEL_TON.addr n.val] s t ∧ OnlyCells s t) ∧
  (∀ (s : State) (n : Cell) (f : Nat), 64 ≤ (s.cell n.val).pulses → s.is (CEL_STATUS.CBC n.val) = true →
    ∃ t, exec (.freqLoopUpdate n f) s = .next t ∧ (t.cell n.val).fmeas = f ∧ SameRegistersBut [] s t ∧ OnlyCells s t) ∧
  (∀ (s : State) (n : Cell) (i : Int) (t0 : Nat), (s.cell n.val).latched = false → (s.cell n.val).pulse = some t0 → (s.cell n.val).refresh = 0 →
    s.reverse (blockOf n.val) = false → (s.limits n.val).1 ≤ i →
    ∃ t, exec (.cbcLimit n i) s = .next t ∧ t.is (CEL_STATUS.CBC n.val) = true ∧
      t = ((s.endPulse n.val).count (CEL_CNT.CBC_CNT n.val)).mark (CEL_STATUS.CBC n.val) true) ∧
  (∀ (s : State) (n : Cell) (i : Int) (t0 : Nat), (s.cell n.val).latched = false → (s.cell n.val).pulse = some t0 → (s.cell n.val).refresh = 0 →
    s.reverse (blockOf n.val) = false → i < (s.limits n.val).1 → exec (.cbcLimit n i) s = .next s) ∧
  (∀ (s : State) (n : Cell) (i : Int), i ≤ 0 → s.reverse (blockOf n.val) = false → s.is (CEL_CFG.ZCD_EN n.val) = true → (s.cell n.val).rect = true →
    ∃ t, exec (.zeroCrossDetect n i) s = .next t ∧ (t.cell n.val).rect = false ∧ SameRegistersBut [] s t ∧ OnlyCells s t) ∧
  (∀ (s : State) (b : Block) (vfb : Int), (s.fleet b).holdOff = false → s.refOf b * (400 + (clampN 4 40 (s.get (blockField b TRK_MODCFG.TRUNC)) : Int)) < 400 * vfb →
    ∃ t, exec (.truncation b vfb) s = .next t ∧ (t.fleet b).holdOff = true ∧ (t.fleet b).packetLeft = 0 ∧ SameMemories s t) ∧
  (∀ (s : State) (b : Block) (vfb : Int), (s.fleet b).holdOff = true → 800 * vfb < s.refOf b * (800 + (clampN 4 40 (s.get (blockField b TRK_MODCFG.TRUNC)) : Int)) →
    ∃ t, exec (.truncationRelease b vfb) s = .next t ∧ (t.fleet b).holdOff = false ∧ (∀ n ∈ blockCells b, t.is (CEL_STATUS.TRUNC n) = false) ∧ OnlyCells s t)

/-- R98 to R101: burst mode and synchronization. At entry the first active cell is the packet cell and the others sleep; a packet starts
at the lower bound with `BURST_N` + 1 pulses; any of three conditions ends the mode. A qualified `SYNC_IN` is measured into FMEAS, its
loss clears FMEAS and the lock and starts the glide back. -/
def Obligations.BurstAndSync : Prop :=
  (∀ (s : State) (b : Block) (avg : Int) (p : Nat) (rest : List Nat), s.cellsWhere b (fun n => s.cellState n == 3) = p :: rest → s.fullService = true →
    s.is (blockField b TRK_MODCFG.BURST_EN) = true → s.burst b = false →
    400 * avg.natAbs < clampN 4 80 (s.get (blockField b (TRK_BAND_L.BURST_ENT (s.topBand b)))) * s.contRating b →
    ∃ t, exec (.burstEntry b avg) s = .next t ∧ (t.fleet b).packet = some p ∧ (t.fleet b).atEntry = p :: rest ∧ t.is (CEL_STATUS.BURST p) = true ∧ OnlyCells s t) ∧
  (∀ (s : State) (b : Block) (avg : Int), s.is (blockField b TRK_MODCFG.BURST_EN) = false → exec (.burstEntry b avg) s = .next s) ∧
  (∀ (s : State) (b : Block) (vfb : Int) (p : Nat), (s.fleet b).packet = some p → (s.fleet b).packetFired = false → (s.fleet b).packetLeft = 0 → s.belowBurst b vfb = true →
    ∃ t, exec (.burstPacket b vfb) s = .next t ∧ (t.fleet b).packet = some p ∧ (t.fleet b).packetFired = true ∧
      (t.fleet b).packetLeft = s.get (blockField b TRK_MODCFG.BURST_N) + 1 ∧ OnlyCells s t) ∧
  (∀ (s : State) (b : Block) (vfb : Int), 0 < (s.fleet b).packetLeft → exec (.burstPacket b vfb) s = .next s) ∧
  (∀ (s : State) (b : Block) (vfb avg : Int) (p : Nat), (s.fleet b).packet = some p → 100 * vfb < 99 * s.refOf b →
    ∃ t, exec (.burstExit b vfb avg) s = .next t ∧ (t.fleet b).packet = none ∧ (t.fleet b).atEntry = [] ∧ SameMemories s t ∧
      (t.saf.loadWake = true ↔ s.saf.loadWake = true ∨ (b = .trk ∧ s.mode = 2))) ∧
  (∀ (s : State) (f : Nat), s.fullService = true → s.is GLB_SYNC.SYNC_EN = true → 150 ≤ f → f ≤ 1000 →
    ∃ t, exec (.syncQualify f) s = .next t ∧ t.get GLB_SYNC.FMEAS = f ∧ t.is GLB_CLK.SYNC_GLIDE = false ∧ t.mod.syncOk = true ∧ OnlyCells s t) ∧
  (∀ (s : State) (f : Nat), (f < 150 ∨ 1000 < f) → exec (.syncQualify f) s = .next s) ∧
  (∀ (s : State), s.fullService = true → s.mod.syncOk = true →
    ∃ t, exec .syncGlideStep s = .next t ∧ t.is GLB_CLK.SYNC_GLIDE = s.is GLB_CLK.SYNC_GLIDE ∧
      t = s.each (List.range 18) (fun n u => if u.cellPresent n then u.glideCell n else u)) ∧
  (∀ (s : State) (n : Nat), n < 18 → s.target n < s.goal n →
    ∃ t, s.glideCell n = t ∧ t.target n = min (s.goal n) (s.target n + s.fswOf n / 5000) ∧ SameRegistersBut [CEL_STATUS.addr n] s t ∧ OnlyCells s t) ∧
  (∀ (s : State) (n : Cell), s.mod.syncOk = true → s.cellPresent n.val = true → s.switching n.val = true → (s.syncGoal (blockOf n.val)).isSome = true →
    (∀ k : Cell, s.switching k.val = true → 200 * (((s.cell k.val).fmeas : Int) - s.target k.val).natAbs ≤ s.target k.val) →
    ∃ t, exec .syncLock s = .next t ∧ t.is GLB_CLK.SYNC_LOCK = true ∧ OnlyRegisters [GLB_CLK.addr] s t) ∧
  (∀ (s : State), s.mod.syncOk = true →
    ∃ t, exec .syncLoss s = .next t ∧ t.mod.syncOk = false ∧ t.is GLB_CLK.SYNC_LOCK = false ∧ t.is GLB_CLK.SYNC_GLIDE = true ∧ t.is GLB_SYNC.LOSS = true ∧
      t.get GLB_SYNC.FMEAS = 0 ∧ OnlyCells s t)

/-- R105 to R109, R187, R449: faults of a cell, the gate-drive supply and the end of a keep-out window. A cell in TEST that fails is
isolated with its cause and reported to the test only; detection is suspended while `VDRV` is low. -/
def Obligations.CellFaults : Prop :=
  (∀ (s : State) (n : Cell), s.cellState n.val = 6 → s.mod.vdrvLow = false →
    ∃ t, exec (.cellFaultIsolate n true false false false) s = .next t ∧ t.cellState n.val = 5 ∧ t.get (CEL_STATUS.CAUSE n.val) = 3 ∧
      t.is (CEL_FAULT.DESAT_HS n.val) = true ∧ t.is (CEL_FAULT.ISO n.val) = true ∧
      SameRegistersBut [CEL_STATUS.addr n.val, CEL_FAULT.addr n.val] s t ∧ OnlyCells s t) ∧
  (∀ (s : State) (n : Cell), (s.cellState n.val = 3 ∨ s.cellState n.val = 2 ∨ s.cellState n.val = 6) → s.mod.vdrvLow = false →
    exec (.cellFaultIsolate n false false true true) s =
      .next (((s.raise (CEL_FAULT.SENSE_FAIL n.val)).raise (CEL_FAULT.OPEN_PHASE n.val)).isolate n.val 2)) ∧
  (∀ (s : State) (n : Cell), (s.cellState n.val = 3 ∨ s.cellState n.val = 2 ∨ s.cellState n.val = 6) → s.mod.vdrvLow = false →
    exec (.cellFaultIsolate n false false false true) s = .next ((s.raise (CEL_FAULT.OPEN_PHASE n.val)).isolate n.val 1)) ∧
  (∀ (s : State) (n : Cell) (hs ls sense opened : Bool), s.mod.vdrvLow = true → exec (.cellFaultIsolate n hs ls sense opened) s = .next s) ∧
  (∀ (s : State) (mv : Nat), mv < 8500 → s.mod.vdrvLow = false →
    ∃ t, exec (.vdrvUndervoltage mv) s = .next t ∧ t.mod.vdrvLow = true ∧ (t.fleet .trk).ramp = none ∧ (t.fleet .chb).ramp = none ∧
      (∀ n, n < 18 → (t.cell n).pulse = none ∧ (t.cell n).rect = false) ∧ (∀ n, (t.cell n).latched = (s.cell n).latched) ∧ OnlyCells s t) ∧
  (∀ (s : State) (mv : Nat), 8500 ≤ mv → exec (.vdrvUndervoltage mv) s = .next s) ∧
  (∀ (s : State) (mv : Nat), 9000 ≤ mv →
    ∃ t, exec (.vdrvRecovery mv) s = .next t ∧ t.mod.vdrvLow = false ∧ SameRegistersBut [] s t ∧ OnlyCells s t) ∧
  (∀ (s : State), s.gateBudget < s.gatePower (fun _ => true) (fun n => (s.cell n).fmeas) → s.mod.overDriveSince = none →
    ∃ t, exec .gateDriveCheck s = .next t ∧ t.mod.driveUsed = s.gatePower (fun _ => true) (fun n => (s.cell n).fmeas) ∧ t.mod.overDriveSince = some s.time ∧
      SameRegistersBut [] s t ∧ OnlyCells s t) ∧
  (∀ (s : State), s.gatePower (fun _ => true) (fun n => (s.cell n).fmeas) ≤ s.gateBudget →
    ∃ t, exec .gateDriveCheck s = .next t ∧ t.mod.overDriveSince = none ∧ SameRegistersBut [] s t ∧ OnlyCells s t) ∧
  (∀ (s : State) (t0 : Nat), s.mod.overDriveSince = some t0 → t0 + ms 1 ≤ s.time → 0 < s.mod.driveUsed →
    ∃ t, exec .gateDriveLimit s = .next t ∧ t.mod.overDriveSince = some s.time ∧
      (∀ n, n < 18 → s.cellPresent n = true → s.direct n = true → s.switching n = true →
        (t.cell n).gdGoal = some (max 1500000 (quot (s.target n * s.gateBudget : Nat) s.mod.driveUsed).toNat) ∧ t.is (CEL_STATUS.FLIM n) = true) ∧ OnlyCells s t) ∧
  (∀ (s : State) (b : Block) (vi vo boot : Nat) (k : KeepOut), s.red.keep.find (blockNum b) = some k → k.ends ≤ s.time → k.held = 0 →
    ∃ t, exec (.keepOutEnd b vi vo boot) s = .next t ∧ t.red.keep.find (blockNum b) = none ∧ SameRegistersBut [] s t ∧ SameMemories s t ∧ t.mod = s.mod) ∧
  (∀ (s : State) (b : Block) (vi vo boot : Nat) (k : KeepOut), s.red.keep.find (blockNum b) = some k → k.ends ≤ s.time → 0 < k.held → k.released = none → s.dealt b = none →
    ∃ t, exec (.keepOutEnd b vi vo boot) s = .next t ∧ t.red.keep.find (blockNum b) = some { k with isOpen := false, held := k.held - 1, released := some s.time } ∧
      (t.fleet b).waits = true ∧ SameRegistersBut [] s t)

/-- R112 to R122, R141, R169, R240: what the blocks' limits and sharing do. The trunk's active set takes effect at the next tick with bits 0
and 5 set, the charge block's is an order; `TRK_CMD` enters a rail order with voltage and rate clamped. Above its limit a block sets
ILIMIT, asks the Loom to shed the excess and the trunk droops. -/
def Obligations.BlockCommands : Prop :=
  (∀ (s : State) (m : Master) (w : Word), s.mayWrite m = true →
    ∃ t, exec (.activeSetWrite m .trk w) s = .next t ∧ t.mod.trk.assignNext = some ((w.toNat % 1024) ||| 0x21) ∧ SameRegistersBut [] s t ∧ OnlyCells s t) ∧
  (∀ (s : State) (m : Master) (w : Word), s.mayWrite m = true → CHB_ASSIGN.DEF_ACTIVE.of w ≠ s.get CHB_ASSIGN.DEF_ACTIVE →
    ∃ t, exec (.activeSetWrite m .chb w) s = .next t ∧ EntersOrder s t m.val (.field 0x0C CHB_ASSIGN.DEF_ACTIVE) (CHB_ASSIGN.DEF_ACTIVE.of w) 0 ∧
      SameRegistersBut [] s t ∧ SameMemories s t) ∧
  (∀ (s : State) (m : Master) (b : Block) (w : Word), s.mayWrite m = false → exec (.activeSetWrite m b w) s = .next s) ∧
  (∀ (s : State), s.mod.trk.budget = 0 →
    ∃ t, exec (.overloadBudgetExhausted .trk) s = .next t ∧ t.mod.trk.exhausted = true ∧ t.is TRK_FLAGS.OVLD = true ∧ OnlyCells s t) ∧
  (∀ (s : State), s.mod.chb.budget = 0 →
    ∃ t, exec (.overloadBudgetExhausted .chb) s = .next t ∧ t.mod.chb.exhausted = true ∧ t.is CHB_FLAGS.OVLD = true ∧ OnlyCells s t) ∧
  (∀ (s : State), s.reverse .trk = false → (s.effLimit .trk : Int) < s.blockCurrent .trk →
    ∃ t, exec (.currentLimitExceeded .trk) s = .next t ∧ t.is TRK_FLAGS.ILIMIT = true ∧ t.is TRK_STATUS.ILIMIT = true ∧
      t.mod.trk.droopSince = some (s.mod.trk.droopSince.getD s.time) ∧ t.mod.trk.returning = false ∧
      ({ who := 1, excess := (s.blockCurrent .trk - s.effLimit .trk).toNat } : ShedRequest) ∈ t.lom.requests ∧
      SameRegistersBut [TRK_FLAGS.addr, TRK_STATUS.addr] s t ∧ SameMemories s t) ∧
  (∀ (s : State), (s.effLimit .chb : Int) < s.blockCurrent .chb →
    ∃ t, exec (.currentLimitExceeded .chb) s = .next t ∧ t.is CHB_FLAGS.ILIMIT = true ∧ t.is CHB_STATUS.ILIMIT = true ∧ t.mod.chb.droopSince = s.mod.chb.droopSince ∧
      SameRegistersBut [CHB_FLAGS.addr, CHB_STATUS.addr] s t ∧ SameMemories s t) ∧
  (∀ (s : State), s.reverse .trk = false → s.blockCurrent .trk ≤ (s.effLimit .trk : Int) → exec (.currentLimitExceeded .trk) s = .next s) ∧
  (∀ (s : State), s.reverse .trk = false → s.is TRK_STATUS.ILIMIT = true → 100 * s.blockCurrent .trk ≤ 98 * (s.effLimit .trk : Int) →
    ∃ t, exec (.currentLimitRelease .trk) s = .next t ∧ t.mod.trk.returning = true ∧ (∀ r ∈ t.lom.requests, r.who ≠ 1) ∧ SameRegistersBut [] s t ∧ SameMemories s t) ∧
  (∀ (s : State), s.is CHB_STATUS.ILIMIT = true → 100 * s.blockCurrent .chb ≤ 98 * (s.effLimit .chb : Int) →
    ∃ t, exec (.currentLimitRelease .chb) s = .next t ∧ t.is CHB_STATUS.ILIMIT = false ∧ (∀ r ∈ t.lom.requests, r.who ≠ 2) ∧
      SameRegistersBut [CHB_STATUS.addr] s t ∧ SameMemories s t) ∧
  (∀ (s : State) (t0 : Nat), s.mod.trk.droopSince = some t0 → (t0 + ms 100 ≤ s.time ∨ 10 * s.mod.trk.vref < 9 * (10000 * (s.get TRK_REF.TARGET : Int))) →
    exec .droopTimeout s = .next (s.safeRegion .north)) ∧
  (∀ (s : State), s.mod.trk.droopSince = none → exec .droopTimeout s = .next s) ∧
  (∀ (s : State) (m : Master) (volt rate : BitVec 16), s.mayWrite m = true → s.peerLive = false →
    ∃ t, exec (.trkCmd m volt rate) s = .next t ∧
      EntersOrder s t m.val .rail (clampZ 500 2800 volt.toNat) (clampZ 1 1000 (if rate = 0 then s.get TRK_RATE.DEF_RATE else rate.toNat : Nat)) ∧
      SameRegistersBut [] s t ∧ SameMemories s t) ∧
  (∀ (s : State), s.fullService = true →
    ∃ t, exec (.balanceUpdate .trk) s = .next t ∧
      (∀ n ∈ s.cellsWhere .trk s.switching, t.getZ (CEL_TON.TRIM n) = clampZ (-128) 127 (s.getZ (CEL_TON.TRIM n) +
        quot ((s.get TRK_BAL.BAL_GAIN : Int) * ((s.shareTarget .trk n).1 - (s.shareTarget .trk n).2 * s.getZ (CEL_IMEAS.AVG n))) ((s.shareTarget .trk n).2 * 100))) ∧
      OnlyCells s t) ∧
  (∀ (s : State) (b : Block), s.sheds b = true → (s.fleet b).ramp = none → 1 < (s.cellsWhere b s.switching).length →
    s.blockCurrent b < (((s.cellsWhere b s.switching).length - 1) * (s.shedLevels b).1 : Nat) → exec (.phaseShed b) s = .next (s.shedOne b)) ∧
  (∀ (s : State) (n : Nat) (l : List Nat), s.thermalShare .trk = false → s.cellsWhere .trk (fun n => s.cellState n == 3 && s.rampCell .trk != some n) = l ++ [n] →
    (s.shedOne .trk).cellState n = 4 ∧ ((s.shedOne .trk).cell n).sleep = .shed ∧ OnlyCells s (s.shedOne .trk))

/-- R124 to R130, R134 to R136: substitution and re-entry of cells, the end of a cell test, and the crowbar. A ramp that is given up parks
its cell and is tried again after 10 ms, after the third time not. The crowbar latches the low sides of the active set that are not
isolated, through the chip safe state that follows. -/
def Obligations.CellReentry : Prop :=
  (∀ (s : State) (x n : Nat) (rest : List Nat), s.mod.trk.lost = x :: rest → s.mod.trk.ramp = none → s.spareAuto .trk = true → s.pickSubstitute .trk = some n →
    ∃ t, exec (.substitutionStart .trk) s = .next t ∧ t.mod.trk.ramp = some { cell := n, cls := 0 } ∧ t.mod.trk.lost = rest ∧ t.is TRK_FLAGS.SUBST = true ∧
      t.is TRK_STATUS.RAMPING = true ∧ OnlyCells s t) ∧
  (∀ (s : State) (x : Nat) (rest : List Nat), s.mod.trk.lost = x :: rest → s.mod.trk.ramp = none → (s.spareAuto .trk = false ∨ s.pickSubstitute .trk = none) →
    ∃ t, exec (.substitutionStart .trk) s = .next t ∧ t.is TRK_FLAGS.DERATED = true ∧ t.is TRK_STATUS.DERATED = true ∧ t.mod.trk.lost = rest ∧
      (s.get GLB_REGION.NORTH = 1 → t.get GLB_REGION.NORTH = 2) ∧ SameMemories s t) ∧
  (∀ (s : State) (b : Block) (r : Ramp), (s.fleet b).ramp = some r → r.cls = 0 → exec (.substitutionStart b) s = .next s) ∧
  (∀ (s : State) (r : Ramp), s.mod.trk.ramp = some r → r.cell < 10 → 64 ≤ r.periods → s.mod.trk.queue = [] → s.mod.trk.swaps.find r.cell = none →
    ∃ t, exec (.reentryDone .trk) s = .next t ∧ t.cellState r.cell = 3 ∧ t.mod.trk.ramp = none ∧ t.mod.trk.tries.find r.cell = none ∧
      t.is TRK_FLAGS.REENTRY_DONE = true ∧ t.is TRK_STATUS.RAMPING = false ∧ OnlyCells s t) ∧
  (∀ (s : State) (b : Block) (r : Ramp), (s.fleet b).ramp = some r → r.periods < 64 → exec (.reentryDone b) s = .next s) ∧
  (∀ (s : State) (r : Ramp) (vfb : Int), s.mod.trk.ramp = some r → r.cell < 10 → (s.refOf .trk).natAbs < 100 * (vfb - s.refOf .trk).natAbs → s.mod.trk.queue = [] →
    s.mod.trk.tries.find r.cell = none →
    ∃ t, exec (.reentryAbort .trk vfb) s = .next t ∧ t.cellState r.cell = 4 ∧ (t.cell r.cell).sleep = .parked ∧ t.mod.trk.ramp = none ∧
      t.mod.trk.tries.find r.cell = some 1 ∧ t.mod.trk.retryAt.find r.cell = some (s.time + ms 10, r.cls) ∧ t.is TRK_FLAGS.REENTRY_ABORT = true ∧ OnlyCells s t) ∧
  (∀ (s : State) (r : Ramp) (vfb : Int), s.mod.trk.ramp = some r → r.cell < 10 → (s.refOf .trk).natAbs < 100 * (vfb - s.refOf .trk).natAbs → s.mod.trk.queue = [] →
    s.mod.trk.tries.find r.cell = some 2 →
    ∃ t, exec (.reentryAbort .trk vfb) s = .next t ∧ t.mod.trk.retryAt.find r.cell = none ∧ t.is TRK_FLAGS.REENTRY_FAIL = true ∧ OnlyCells s t) ∧
  (∀ (s : State) (n at_ cls : Nat), n < 10 → s.mod.trk.retryAt = [(n, at_, cls)] → at_ ≤ s.time → s.isParked n = true → s.mod.trk.ramp = none → s.mod.trk.queue = [] →
    ∃ t, exec (.reentryRetry .trk) s = .next t ∧ t.mod.trk.ramp = some { cell := n, cls := cls } ∧ t.cellState n = 3 ∧ t.get (CEL_TON.TRIM n) = 0 ∧
      (t.cell n).needRefresh = true ∧ t.mod.trk.retryAt = [] ∧ OnlyCells s t) ∧
  (∀ (s : State) (n p : Nat), n < 10 → s.mod.trk.leaving = [(n, Leaving.remove, p)] → 64 ≤ p →
    ∃ t, exec (.shareOutDone .trk) s = .next t ∧ t.cellState n = 1 ∧ t.mod.trk.leaving = [] ∧ OnlyCells s t) ∧
  (∀ (s : State) (n p : Nat), n < 10 → s.mod.trk.leaving = [(n, Leaving.rotate, p)] → 64 ≤ p →
    ∃ t, exec (.shareOutDone .trk) s = .next t ∧ t.cellState n = 4 ∧ (t.cell n).sleep = .parked ∧ t.mod.trk.leaving = [] ∧ OnlyCells s t) ∧
  (∀ (s : State) (n : Fin 18) (slot c tag : Nat) (w : Word), s.lom.slots = [(slot, c, .cellTest tag false (2 ^ n.val) 0 0)] → s.cellState n.val = 6 →
    (s.cell n.val).testFrom ≠ 0 → (s.context c).rom = none →
    ∃ t, exec (.cellTestDone n true w) s = .next t ∧ t.cellState n.val = 1 ∧ t.rd (CEL_FAULT.addr n.val) = s.rd (CEL_FAULT.addr n.val) &&& 1 ∧ t.lom.slots = []) ∧
  (∀ (s : State) (n : Fin 18) (slot c tag : Nat) (w : Word), s.lom.slots = [(slot, c, .cellTest tag true (2 ^ n.val) 0 0)] → s.cellState n.val = 6 →
    (s.cell n.val).testFrom ≠ 0 → (s.context c).rom = none → s.causes n.val = 0 →
    ∃ t, exec (.cellTestDone n true w) s = .next t ∧ t.cellState n.val = 1 ∧ t.rd (CEL_CAL.addr n.val) = w ∧ t.calArea.get (CEL_CAL.addr n.val) = w ∧ t.lom.slots = []) ∧
  (∀ (s : State) (n : Fin 18) (p : Bool) (w : Word), s.cellState n.val ≠ 6 → s.cellState n.val ≠ 5 → exec (.cellTestDone n p w) s = .next s) ∧
  (∀ (s : State) (rail : Nat), s.is TRK_OVP.CROWBAR = false → s.crowbarLevel < 10000 * (rail : Int) →
    ∃ t, exec (.crowbarFire rail) s = .next t ∧ t.chipSafe = true ∧ t.is TRK_OVP.CROWBAR = true ∧ t.is TRK_FLAGS.CROWBAR = true ∧
      (∀ n ∈ s.activeSet .trk, s.cellState n ≠ 5 → (t.cell n).latched = true)) ∧
  (∀ (s : State) (rail : Nat), 10000 * (rail : Int) ≤ s.crowbarLevel → exec (.crowbarFire rail) s = .next s) ∧
  (∀ (s : State) (rail : Nat), s.is TRK_OVP.CROWBAR = true → rail < 100 →
    ∃ t, exec (.crowbarCauseGone rail) s = .next t ∧ t.is TRK_OVP.CAUSE_GONE = true ∧ OnlyRegisters [TRK_OVP.addr] s t)

/-- R142 to R147, R165: the outer loop, the pack switch and the headroom rule. The law of the outer loop is not given, so its current is a
free value between zero and the programmed current (log entry 5); above CV_eff it is zero. -/
def Obligations.ChargeLoop : Prop :=
  (∀ (s : State) (v : Nat), (s.chgState = 5 ∨ s.chgState = 6) → s.get CHB_STATUS.MODE = 1 → s.cvEffPack < v →
    ∃ t, exec (.cvLoopUpdate v) s = .next t ∧ t.chg.iLoop = 0 ∧ t = { s with chg := t.chg }) ∧
  (∀ (s : State) (v : Nat), (s.chgState = 5 ∨ s.chgState = 6) → s.get CHB_STATUS.MODE = 1 → v ≤ s.cvEffPack →
    ∃ t, exec (.cvLoopUpdate v) s = .next t ∧ 0 ≤ t.chg.iLoop ∧ t.chg.iLoop ≤ (s.programmed 4 / 10 : Nat) ∧ t = { s with chg := t.chg, freeCount := s.freeCount + 1 }) ∧
  (∀ (s : State) (vn vp : Nat), s.chg.nodeAt.isSome = true → ((vn : Int) - vp).natAbs ≤ 20 →
    ∃ t, exec (.packNodeReady vn vp) s = .next t ∧ t.chg.nodeAt = none ∧ t.chg.rampAt = some s.time ∧ t = { s with chg := t.chg }) ∧
  (∀ (s : State) (t0 : Nat), s.chg.nodeAt = some t0 → t0 + ms 20 ≤ s.time →
    ∃ t, exec .packNodeTimeout s = .next t ∧ t.chg.nodeAt = none ∧ t.chg.retryAt = some (s.time + ms 1000) ∧ t = { s with chg := t.chg }) ∧
  (∀ (s : State) (t0 : Nat), s.chg.nodeAt = some t0 → s.time < t0 + ms 20 → exec .packNodeTimeout s = .next s) ∧
  (∀ (s : State) (t0 : Nat), s.chg.rampAt = some t0 → t0 + ms 1 ≤ s.time → s.chgState ≠ 1 →
    ∃ t, exec .packGRampDone s = .next t ∧ t.is CHB_STATUS.PACK_G_ON = true ∧ t.chg.rampAt = none ∧ t.chg.headOpen = false ∧
      SameRegistersBut [CHB_STATUS.addr, CHG_STATUS.addr, SRC_STATUS.addr] s t ∧ SameMemories s t) ∧
  (∀ (s : State) (t0 : Nat), s.chg.retryAt = some t0 → t0 ≤ s.time →
    ∃ t, exec .qualifyRetry s = .next t ∧ t.chgState = 1 ∧ t.is CHG_CTRL.ARM = false ∧ t.rd CHG_ELAPSED.addr = 0 ∧ t.chg.qualifyAt = some s.time ∧ t.chg.retryAt = none) ∧
  (∀ (s : State) (vp rail : Nat), s.chemValid = true → 10 * (s.railRefV rail : Int) - 1000 < vp → s.chg.headPause = false →
    ∃ t, exec (.headroomPause vp rail) s = .next t ∧ t.chg.headPause = true ∧ t.is CHG_FLAGS.HEADROOM = true ∧ t.is CHG_STATUS.HEADROOM = true ∧
      (chargingState s.chgState = true → t.chgState = 8 ∧ t.chg.kept = s.chgState)) ∧
  (∀ (s : State) (vp rail : Nat), s.chg.headPause = true → exec (.headroomPause vp rail) s = .next s) ∧
  (∀ (s : State) (vp rail : Nat), s.chg.headPause = true → (vp : Int) ≤ 10 * (s.railRefV rail : Int) - 1100 →
    ∃ t, exec (.headroomResume vp rail) s = .next t ∧ t.chg.headPause = false ∧ t.is CHG_STATUS.HEADROOM = (s.chg.headOpen || s.headroomClamps)) ∧
  (∀ (s : State) (vp rail : Nat), s.get CHB_STATUS.MODE ≠ 3 → s.chg.holdupAt = none → s.is CHB_STATUS.PACK_G_ON = true → 10 * (rail : Int) - 500 < vp →
    ∃ t, exec (.headroomDisconnect vp rail) s = .next t ∧ t.is CHB_STATUS.PACK_G_ON = false ∧ t.is CHB_FLAGS.PACK_G_OPEN = true ∧ t.is CHG_FLAGS.HEADROOM = true ∧
      t.chg.headOpen = true ∧ t.is CHG_STATUS.REV_AVAIL = false ∧
      SameRegistersBut [CHB_STATUS.addr, CHB_FLAGS.addr, CHG_FLAGS.addr, CHG_STATUS.addr, SRC_STATUS.addr] s t ∧ SameMemories s t) ∧
  (∀ (s : State) (vp rail : Nat), s.get CHB_STATUS.MODE = 3 → exec (.headroomDisconnect vp rail) s = .next s) ∧
  (∀ (s : State) (vp rail : Nat), s.chg.headOpen = true → s.chg.nodeAt = none → (vp : Int) ≤ 10 * (rail : Int) - 1000 → s.chgState ≠ 0 → s.chgState ≠ 10 →
    ∃ t, exec (.headroomReconnect vp rail) s = .next t ∧ t.chg.nodeAt = some s.time ∧ t = { s with chg := t.chg }) ∧
  (∀ (s : State) (m : Master) (c : BitVec 3), s.mayWrite m = true → c.toNat ≠ s.get CHG_CTRL.CHEM →
    ∃ t, exec (.chemWrite m c) s = .next t ∧ EntersOrder s t m.val (.field 0x0C CHG_CTRL.CHEM) c.toNat 0 ∧ SameRegistersBut [] s t ∧ SameMemories s t) ∧
  (∀ (s : State) (m : Master), s.mayWrite m = true → s.is CHG_CTRL.ARM = false →
    ∃ t, exec (.chgArm m) s = .next t ∧ EntersOrder s t m.val (.field 0x0C CHG_CTRL.ARM) 1 0 ∧ SameRegistersBut [] s t ∧ SameMemories s t)

/-- R148 to R151, R166: the states of the charge engine. Each transition sets PHASE_CHG; a pause keeps the state it interrupts and a resume
returns to it. -/
def Obligations.ChargePhases : Prop :=
  (∀ (s : State) (t0 : Nat), s.chgState = 1 → s.chg.qualifyAt = some t0 → t0 + ms 10 ≤ s.time → s.is CHG_CTRL.ID_CHK = true →
    (s.get CHG_PRES.ID_MEAS < s.get CHG_PRES.ID_MIN ∨ s.get CHG_PRES.ID_MAX < s.get CHG_PRES.ID_MEAS) →
    ∃ t, exec .qualifyComplete s = .next t ∧ t.chgState = 9 ∧ t.is CHG_FLT.ID_MISMATCH = true ∧ t.is CHG_FLAGS.PHASE_CHG = true) ∧
  (∀ (s : State) (t0 : Nat), s.chgState = 1 → s.chg.qualifyAt = some t0 → t0 + ms 10 ≤ s.time → s.is CHG_CTRL.ID_CHK = false →
    (s.chg.absentSeen = true ∨ s.is CHG_STATUS.PACK_PRESENT = false) →
    ∃ t, exec .qualifyComplete s = .next t ∧ t.chgState = 10 ∧ t.is CHG_STATUS.PACK_ABSENT = true ∧ t.is CHG_STATUS.REV_AVAIL = false) ∧
  (∀ (s : State) (t0 : Nat), s.chgState = 1 → s.chg.qualifyAt = some t0 → t0 + ms 10 ≤ s.time → s.is CHG_CTRL.ID_CHK = false →
    s.chg.absentSeen = false → s.is CHG_STATUS.PACK_PRESENT = true → s.is CHB_STATUS.PACK_G_ON = false →
    ∃ t, exec .qualifyComplete s = .next t ∧ t.chg.goalState = s.qualifyGoal ∧ t.chg.nodeAt = some s.time ∧ t.chg.qualifyAt = none ∧ t = { s with chg := t.chg }) ∧
  (∀ (s : State), s.chgState = 2 → s.get CHG_THRESH.V_DEEP ≤ s.get CHG_PACK.VCELL →
    ∃ t, exec .trickleDone s = .next t ∧ t.chgState = 3 ∧ t.is CHG_FLAGS.PHASE_CHG = true) ∧
  (∀ (s : State), s.get CHG_PACK.VCELL < s.get CHG_THRESH.V_DEEP → exec .trickleDone s = .next s) ∧
  (∀ (s : State), s.chgState = 3 → s.get CHG_THRESH.V_PRE ≤ s.get CHG_PACK.VCELL →
    ∃ t, exec .chgPrechargeDone s = .next t ∧ t.chgState = 4 ∧ t.is CHG_FLAGS.PHASE_CHG = true ∧ t.chg.ccSince = some s.time) ∧
  (∀ (s : State) (v : Nat), s.chgState = 4 → (s.get CHG_CTRL.CHEM = 1 ∨ s.get CHG_CTRL.CHEM = 2) → s.cvEffPack ≤ v →
    ∃ t, exec (.cvEntry v) s = .next t ∧ t.chgState = 5 ∧ t.is CHG_FLAGS.PHASE_CHG = true ∧ t.chg.termSince = none) ∧
  (∀ (s : State) (v : Nat), s.chgState = 4 → s.get CHG_CTRL.CHEM = 4 → s.cvEffPack ≤ v →
    ∃ t, exec (.cvHoldEntry v) s = .next t ∧ t.chgState = 6 ∧ t.is CHG_FLAGS.PHASE_CHG = true) ∧
  (∀ (s : State) (v16 pk t0 : Nat) (dt : Int), s.chgState = 5 → (s.get CHG_CTRL.CHEM = 1 ∨ s.get CHG_CTRL.CHEM = 2) → s.is CHG_CTRL.TERM_EN = true →
    s.chg.termSince = some t0 → t0 + ms (1000 * max 1 (s.get CHG_TERM.TERM_T)) ≤ s.time →
    ∃ t, exec (.chgTermination v16 pk dt) s = .next t ∧ t.chgState = 7 ∧ t.get CHG_STATUS.TERM = 1 ∧ t.is CHG_FLAGS.DONE = true) ∧
  (∀ (s : State) (v16 pk t0 : Nat) (dt : Int), s.chgState = 4 → s.get CHG_CTRL.CHEM = 3 → s.is CHG_CTRL.TERM_EN = true → s.chg.ccSince = some t0 →
    t0 + ms 480000 ≤ s.time → v16 + max 1 (s.get CHG_TERM.NDV) * s.chgCells < max s.chg.vPeak pk →
    ∃ t, exec (.chgTermination v16 pk dt) s = .next t ∧ t.chgState = 7 ∧ t.get CHG_STATUS.TERM = 2 ∧ t.is CHG_FLAGS.DONE = true) ∧
  (∀ (s : State), s.chgState = 7 → s.get CHG_CTRL.CHEM ≠ 4 → s.get CHG_PACK.VCELL * s.chgCells < s.rechgPack →
    ∃ t, exec .chgRecharge s = .next t ∧ t.chgState = 1 ∧ t.is CHG_FLAGS.RECHARGE = true ∧ t.chg.qualifyAt = some s.time) ∧
  (∀ (s : State), chargingState s.chgState = true → s.pauseCause ≠ 0 →
    ∃ t, exec .chgPause s = .next t ∧ t.chgState = 8 ∧ t.get CHG_STATUS.PAUSE = s.pauseCause ∧ t.chg.kept = s.chgState ∧ t.chg.termSince = none) ∧
  (∀ (s : State), s.pauseCause = 0 → exec .chgPause s = .next s) ∧
  (∀ (s : State), s.chgState = 8 → s.pauseCause = 0 → chargingState s.chg.kept = true →
    ∃ t, exec .chgResume s = .next t ∧ t.chgState = s.chg.kept ∧ t.is CHG_FLAGS.PHASE_CHG = true ∧ t.get CHG_STATUS.PAUSE = 0) ∧
  (∀ (s : State), s.pauseCause ≠ 0 → exec .chgResume s = .next s) ∧
  (∀ (s : State) (v : Nat), chargingState s.chgState = true → s.get CHG_CTRL.CHEM = 1 → (s.get CHG_CV.CV + 100) * s.chgCells < v →
    ∃ t, exec (.packOvervoltage v) s = .next t ∧ t.chgState = 9 ∧ t.is CHG_FLT.PACK_OV = true) ∧
  (∀ (s : State), s.chgState ≠ 0 → (s.get CHG_CTRL.CHEM = 1 ∨ s.get CHG_CTRL.CHEM = 2) → s.chg.ntcBad = false → s.get CHG_STATUS.JEITA ≠ 7 → s.chg.zonePlaced = true →
    jeitaNext (s.get CHG_STATUS.JEITA) s.packTemp ≠ s.get CHG_STATUS.JEITA →
    ∃ t, exec .jeitaZoneChange s = .next t ∧ t.get CHG_STATUS.JEITA = jeitaNext (s.get CHG_STATUS.JEITA) s.packTemp ∧ t.is CHG_FLAGS.JEITA_CHG = true)

/-- R152 to R160, R186, R394: the safety timers, the charge watchdog with its overlay, pack removal and insertion, and the end of a
`CHG_REF_ADD` step. A clear of WDG_EXP before a valid serve changes nothing. -/
def Obligations.ChargeSafety : Prop :=
  (∀ (s : State) (src : Nat), chargingState s.chgState = true → s.timerExpired = some src → s.currentDone = false →
    ∃ t, exec .safetyTimerExpiry s = .next t ∧ t.chgState = 9 ∧ t.is CHG_FLT.TIMER = true ∧ t.get CHG_FLT.TIMER_SRC = src) ∧
  (∀ (s : State), s.timerExpired = none → exec .safetyTimerExpiry s = .next s) ∧
  (∀ (s : State) (m : Master) (w : Word), s.mayWrite m = true → w.toNat % 65536 = 0x6B29 →
    ∃ t, exec (.chgWdgKick m w) s = .next t ∧ t.chg.wdgLeft = 1000000 * clampN 10 160 (s.get CHG_WDG.PERIOD) ∧ t.chg.served = true ∧
      t.get CHG_WDG.REMAIN = 100 * clampN 10 160 (s.get CHG_WDG.PERIOD) ∧ SameRegistersBut [CHG_WDG.REMAIN.addr] s t ∧ SameMemories s t) ∧
  (∀ (s : State) (m : Master) (w : Word), s.mayWrite m = true → w.toNat % 65536 ≠ 0x6B29 →
    ∃ t, exec (.chgWdgKick m w) s = .next t ∧ t.get CHG_WDG.KICK_ERR = min (s.get CHG_WDG.KICK_ERR + 1) (2 ^ CHG_WDG.KICK_ERR.width - 1) ∧
      OnlyRegisters [CHG_WDG.KICK_ERR.addr] s t) ∧
  (∀ (s : State), s.fullService = true → s.chemValid = true → s.chg.wdgLeft = 0 → s.is CHG_STATUS.WDG_SAFE = false →
    ∃ t, exec .chgWdgExpiry s = .next t ∧ t.is CHG_FLAGS.WDG_EXP = true ∧ t.is CHG_STATUS.WDG_SAFE = true ∧ bitOf (t.get SAF_FAULT.FAULT) 16 = true ∧
      t.is CHG_STATUS.SHAVE_AVAIL = false ∧ t.chg.tOverlay = 0 ∧ t.chg.served = false ∧
      SameRegistersBut [CHG_FLAGS.addr, CHG_STATUS.addr, SAF_FAULT.addr, SAF_STATUS.addr, SAF_FLAGS.addr, SRC_STATUS.addr] s t ∧ SameMemories s t) ∧
  (∀ (s : State), 0 < s.chg.wdgLeft → exec .chgWdgExpiry s = .next s) ∧
  (∀ (s : State) (m : Master), s.mayWrite m = true → s.is CHG_FLAGS.WDG_EXP = true → s.chg.served = true →
    ∃ t, exec (.chgWdgExpClear m) s = .next t ∧ t.is CHG_FLAGS.WDG_EXP = false ∧ t.is CHG_STATUS.WDG_SAFE = false ∧ bitOf (t.get SAF_FAULT.FAULT) 16 = false ∧
      SameRegistersBut [CHG_FLAGS.addr, CHG_STATUS.addr, SAF_FAULT.addr, SAF_STATUS.addr, SRC_STATUS.addr] s t ∧ SameMemories s t) ∧
  (∀ (s : State) (m : Master), s.chg.served = false → exec (.chgWdgExpClear m) s = .next s) ∧
  (∀ (s : State), 2 ≤ s.chg.failing → s.chgState ≠ 0 → s.chgState ≠ 10 → s.get SRC_STATUS.PRIMARY ≠ 3 →
    ∃ t, exec .packRemoval s = .next t ∧ t.chgState = 10 ∧ t.is CHG_FLAGS.PACK_REMOVED = true ∧ t.is CHB_STATUS.PACK_G_ON = false ∧ t.is CHG_STATUS.REV_AVAIL = false ∧
      t.rd CHG_ELAPSED.addr = 0 ∧ t.chg.failing = 0) ∧
  (∀ (s : State), 2 ≤ s.chg.failing → s.chgState ≠ 0 → s.chgState ≠ 10 → s.get SRC_STATUS.PRIMARY = 3 →
    ∃ u : State, exec .packRemoval s = .next (u.holdUp 2) ∧ u.chgState = 10 ∧ u.is CHG_FLAGS.PACK_REMOVED = true ∧ u.is CHB_STATUS.PACK_G_ON = false) ∧
  (∀ (s : State), s.chgState = 10 → exec .packRemoval s = .next s) ∧
  (∀ (s : State) (t0 : Nat), s.chgState = 10 → s.chg.presentSince = some t0 → t0 + ms 500 ≤ s.time →
    ∃ t, exec .packInserted s = .next t ∧ t.chgState = 1 ∧ t.is CHG_FLAGS.PACK_INSERTED = true ∧ t.chg.qualifyAt = some s.time) ∧
  (∀ (s : State), ∃ t, exec .chgRefAddEnd s = .next t ∧ t.red.steps = s.red.steps.filter (fun p => decide (s.time < p.2.2)) ∧ SameRegistersBut [] s t ∧ SameMemories s t ∧ t.chg = s.chg)

/-- R170 to R179: edges, time-outs and stamps of the warp tracks. An edge of a level that does not persist for `FILT`, or within 2 us of
the last, has no effect; the first edge of an acquisition is edge 0. A stamp without a latched time, or for a track that does not take
stamps, sets STAMP_BAD. -/
def Obligations.AngleTracks : Prop :=
  (∀ (s : State) (pin : Fin 8) (r : Bool) (sub : Fin 4) (held : Nat), held < s.get WRP_CTRL.FILT → exec (.angEdge pin r sub held) s = .next s) ∧
  (∀ (s : State) (pin : Fin 8) (r : Bool) (sub : Fin 4) (held : Nat), s.get WRP_CTRL.FILT ≤ held → s.warpRuns = true →
    exec (.angEdge pin r sub held) s = .next (s.each (List.range 16) (fun t u => if u.takesEdge t pin.val r then u.edge t (4 * u.time + sub.val) else u))) ∧
  (∀ (s : State) (t stamp last : Nat) (older : List Nat), (s.track t).times = last :: older → stamp < last + 800 → s.edge t stamp = s) ∧
  (∀ (s : State) (t stamp : Nat), t < 16 → s.trackState t = 1 → (s.track t).times = [] → (s.track t).count = 0 → s.get (WRP_T_CFG.SRC t) = 1 →
    ((s.edge t stamp).track t).times = [stamp] ∧ ((s.edge t stamp).track t).first = stamp ∧ ((s.edge t stamp).track t).count = 1 ∧
      (s.edge t stamp).trackState t = 1 ∧ (s.edge t stamp).get (WRP_T_STATE.EDGE t) = 0) ∧
  (∀ (s : State) (t : Fin 16) (last : Nat) (older : List Nat), s.trackState t.val = 2 → (s.track t.val).times = last :: older →
    (3 + s.get (WRP_T_CFG.AGE t.val)) * s.expected t.val ≤ 2 * (4 * s.time - last) →
    ∃ u, exec (.trackTimeout t) s = .next u ∧ u.trackState t.val = 3 ∧ bitOf (u.get WRP_FLAGS.LOST) t.val = true ∧
      (u.track t.val).flyEnd = some (s.time + (s.track t.val).revolution) ∧ (u.track t.val).times = [] ∧ bitOf (u.get WRP_LOCK.LOCKED) t.val = false) ∧
  (∀ (s : State) (t : Fin 16), s.trackState t.val ≠ 2 → exec (.trackTimeout t) s = .next s) ∧
  (∀ (s : State) (t : Fin 16) (e : Nat), s.trackState t.val = 3 → (s.track t.val).flyEnd = some e → e ≤ s.time → s.gathered t.val = false →
    ∃ u, exec (.flywheelEnd t) s = .next u ∧ u.trackState t.val = 1 ∧ u.rd (WRP_T_SPEED.addr t.val) = 0 ∧ (u.track t.val).inc = 0 ∧ (u.track t.val).flyEnd = none ∧
      SameRegistersBut [WRP_T_STATE.addr t.val, WRP_LOCK.addr, WRP_T_SPEED.addr t.val] s u ∧ SameMemories s u) ∧
  (∀ (s : State) (t : Fin 16) (e : Nat), s.trackState t.val = 3 → (s.track t.val).flyEnd = some e → e ≤ s.time → s.gathered t.val = true →
    exec (.flywheelEnd t) s = .next ((s.setTrack t.val (fun y => { y.setInc s.time 0 with flyEnd := none })).enterLock t.val ((s.track t.val).times.getD 0 0) (s.track t.val).stamp)) ∧
  (∀ (s : State) (t stamp angle : Nat), t < 16 → (s.enterLock t stamp angle).trackState t = 2 ∧ bitOf ((s.enterLock t stamp angle).get WRP_FLAGS.LOCK) t = true ∧
      ((s.enterLock t stamp angle).track t).lockAt = s.time) ∧
  (∀ (s : State) (m : Master) (w : Word), s.mayWrite m = true → s.hasWrp = true →
    ∃ u, exec (.wrpStampTimeWrite m w) s = .next u ∧ u.red.stampTimes.find m.val = some w.toNat ∧ SameRegistersBut [] s u ∧ SameMemories s u) ∧
  (∀ (s : State) (m : Master) (t : Fin 16) (a : BitVec 16) (low : Nat), s.mayWrite m = true → s.hasWrp = true → s.red.stampTimes.find m.val = some low →
    s.get (WRP_T_CFG.SRC t.val) = 2 → exec (.wrpStamp m t a) s = .next (s.stamp t.val a.toNat low)) ∧
  (∀ (s : State) (m : Master) (t : Fin 16) (a : BitVec 16), s.mayWrite m = true → s.hasWrp = true →
    (s.red.stampTimes.find m.val = none ∨ s.get (WRP_T_CFG.SRC t.val) ≠ 2 ∨ s.trackState t.val = 0) →
    ∃ u, exec (.wrpStamp m t a) s = .next u ∧ bitOf (u.get WRP_ERR.STAMP_BAD) t.val = true ∧ OnlyRegisters [WRP_ERR.addr] s u)

/-- R180 to R189: the pick slots. A host write at or above `LOOM_BASE` is DENIED, a write of words 1 to 3 of an armed slot SLOT_BUSY;
arming stores the owner. A pick that fires counts FIRES, and without EN set to stay its slot disarms. -/
def Obligations.Picks : Prop :=
  (∀ (s : State) (m : Master) (p : BitVec 8) (k : Fin 4) (w : Word), s.mayWrite m = true → s.hasWrp = true → m.val < 4 → s.get RED_CTRL.LOOM_BASE ≤ p.toNat →
    ∃ t, exec (.pickSlotWrite m p k w) s = .next t ∧ t.is RED_FLAGS.DENIED = true ∧ OnlyRegisters [RED_FLAGS.addr] s t) ∧
  (∀ (s : State) (m : Master) (p : BitVec 8) (w : Word), s.mayWrite m = true → s.hasWrp = true → p.toNat < s.get RED_CTRL.LOOM_BASE →
    s.armed p.toNat = false → w.toNat.testBit 31 = true →
    ∃ t, exec (.pickSlotWrite m p 0 w) s = .next t ∧ t.armed p.toNat = true ∧
      t.win.get (pickAddr p.toNat 0) = (w &&& 0x7FC0FFFF#32) ||| BitVec.ofNat 32 (2 ^ 31 + m.val * 2 ^ 19) ∧
      t.win.get (pickAddr p.toNat 3) = s.win.get (pickAddr p.toNat 3) &&& 0xFFFF0000#32 ∧
      SameRegistersBut [RED_STATUS.addr] s t ∧ t.pm = s.pm ∧ t.dm = s.dm ∧ t.ctx = s.ctx) ∧
  (∀ (s : State) (m : Master) (p : BitVec 8) (k : Fin 4) (w : Word), s.mayWrite m = true → s.hasWrp = true → p.toNat < s.get RED_CTRL.LOOM_BASE →
    s.armed p.toNat = true → k ≠ 0 →
    ∃ t, exec (.pickSlotWrite m p k w) s = .next t ∧ t.is RED_FLAGS.SLOT_BUSY = true ∧ OnlyRegisters [RED_FLAGS.addr] s t) ∧
  (∀ (s : State) (m : Master) (p : BitVec 8) (w : Word), s.mayWrite m = true → s.hasWrp = true → p.toNat < s.get RED_CTRL.LOOM_BASE →
    s.armed p.toNat = false →
    ∃ t, exec (.pickSlotWrite m p 1 w) s = .next t ∧ t.win.get (pickAddr p.toNat 1) = w ∧ (∀ a, a ≠ pickAddr p.toNat 1 → t.win.get a = s.win.get a) ∧
      SameRegistersBut [] s t ∧ t.pm = s.pm ∧ t.dm = s.dm ∧ t.ctx = s.ctx) ∧
  (∀ (s : State) (m : Master) (w : Word), s.mayWrite m = true → s.hasWrp = true → RED_CTRL.WEFT_EN.of w = s.get RED_CTRL.WEFT_EN →
    (∀ p, p < 256 → s.armed p = false ∧ s.allocated p = false) →
    ∃ t, exec (.loomBaseWrite m w) s = .next t ∧ t.get RED_CTRL.LOOM_BASE = RED_CTRL.LOOM_BASE.of w ∧ t.get RED_CTRL.EN = RED_CTRL.EN.of w ∧
      OnlyRegisters [RED_CTRL.addr] s t) ∧
  (∀ (s : State) (m : Master) (w : Word) (p : Nat), s.mayWrite m = true → s.hasWrp = true → p < 256 → s.armed p = true →
    s.get RED_CTRL.LOOM_BASE ≤ p → p < RED_CTRL.LOOM_BASE.of w →
    ∃ t, exec (.loomBaseWrite m w) s = .next t ∧ t.get RED_CTRL.LOOM_BASE = s.get RED_CTRL.LOOM_BASE ∧ t.is RED_FLAGS.SLOT_BUSY = true) ∧
  (∀ (s : State) (p : BitVec 8), bitOf (s.pickWord p.toNat 0) 29 = false → s.trackState (s.pickWord p.toNat 0 / 2 ^ 22 % 16) = 2 → s.mayFire p.toNat = true →
    nextCrossing (s.pickWord p.toNat 0 % 65536) (s.pickWord p.toNat 1 % 64) ((s.red.picks.find p.toNat).getD {}).seen ≤
      (s.track (s.pickWord p.toNat 0 / 2 ^ 22 % 16)).phaseAt s.time →
    ∃ t, exec (.anglePickMatch p) s = .next t ∧ t.pickWord p.toNat 3 % 256 = (s.pickWord p.toNat 3 + 1) % 256 ∧
      t.armed p.toNat = bitOf (s.pickWord p.toNat 0) 30 ∧
      ((t.red.picks.find p.toNat).getD {}).seen = nextCrossing (s.pickWord p.toNat 0 % 65536) (s.pickWord p.toNat 1 % 64) ((s.red.picks.find p.toNat).getD {}).seen) ∧
  (∀ (s : State) (p : BitVec 8), s.mayFire p.toNat = false → exec (.anglePickMatch p) s = .next s) ∧
  (∀ (s : State) (p : BitVec 8), bitOf (s.pickWord p.toNat 0) 29 = true → s.mayFire p.toNat = true → ((s.red.picks.find p.toNat).getD {}).due ≤ s.time →
    ∃ t, exec (.timePickMatch p) s = .next t ∧ t.pickWord p.toNat 3 % 256 = (s.pickWord p.toNat 3 + 1) % 256 ∧
      t.armed p.toNat = bitOf (s.pickWord p.toNat 0) 30 ∧
      ((t.red.picks.find p.toNat).getD {}).due = ((s.red.picks.find p.toNat).getD {}).due + us (max 1 (s.pickWord p.toNat 3 / 65536))) ∧
  (∀ (s : State) (p : BitVec 8), s.time < ((s.red.picks.find p.toNat).getD {}).due → exec (.timePickMatch p) s = .next s) ∧
  (∀ (s : State) (w : SampleWait) (rest : List SampleWait), s.red.samples = w :: rest → w.mask = 0 →
    exec (.sampleConversionStart true) s = .next (({ s with red := { s.red with samples := rest } } : State).ask
      { cls := 3, ch := w.ch, adc := w.adc, asker := .sample w.tag w.slot })) ∧
  (∀ (s : State) (w : SampleWait) (rest : List SampleWait), s.red.samples = w :: rest → s.time < w.at_ + us 2 → exec (.sampleConversionStart false) s = .next s) ∧
  (∀ (s : State) (m : Master) (time tag slot : Nat) (rest : List (Nat × Nat × Nat)), s.fullService = true → s.hasWrp = true → s.red.marks = (time, tag, slot) :: rest →
    ∃ t, exec (.markFifoRead m) s = .next t ∧ t.readData = BitVec.ofNat 32 time ∧ t.red.marks = rest ∧
      t.latches.find (RED_MARK_HI.addr * 8 + m.val) = some (BitVec.ofNat 32 (tag * 2 ^ 24 + slot * 2 ^ 16 + rest.length * 256)) ∧
      SameRegistersBut [] s t ∧ SameMemories s t) ∧
  (∀ (s : State) (m : Master), s.fullService = true → s.hasWrp = true → s.red.marks = [] →
    ∃ t, exec (.markFifoRead m) s = .next t ∧ t.readData = 0 ∧ t.red = s.red ∧ SameRegistersBut [] s t ∧ SameMemories s t)

/-- R190 to R197: the weft tables. A write of an active or learning table is refused with WEFT_BUSY; a learning ends without changing its
table with its cause in ACAUSE, or completes after 256 revolutions. -/
def Obligations.WeftTables : Prop :=
  (∀ (s : State) (m : Master) (t : Fin 16) (k : Fin 32) (w : Word), s.mayWrite m = true → s.hasWrp = true →
    (s.is (RED_W_CFG.ACT t.val) = true ∨ (s.weft t.val).learn ≠ 0) →
    ∃ u, exec (.weftTableWrite m t k w) s = .next u ∧ u.is RED_FLAGS.WEFT_BUSY = true ∧ OnlyRegisters [RED_FLAGS.addr] s u) ∧
  (∀ (s : State) (m : Master) (t : Fin 16) (k : Fin 32) (w : Word), s.mayWrite m = true → s.hasWrp = true →
    s.is (RED_W_CFG.ACT t.val) = false → (s.weft t.val).learn = 0 →
    ∃ u, exec (.weftTableWrite m t k w) s = .next u ∧ u.win.get (0xD000 + 128 * t.val + 4 * k.val) = w ∧ u.lstate t.val = 3 ∧
      (∀ a, a ≠ 0xD000 + 128 * t.val + 4 * k.val → u.win.get a = s.win.get a) ∧ u.pm = s.pm ∧ u.dm = s.dm ∧ u.ctx = s.ctx) ∧
  (∀ (s : State) (m : Master) (t : Fin 16), s.mayWrite m = true → s.hasWrp = true → (s.weft t.val).learn = 0 → s.is (RED_W_CFG.ACT t.val) = false →
    ∃ u, exec (.weftLearnFresh m t) s = .next u ∧ (u.weft t.val).learn = 1 ∧ u.get (RED_W_CFG.LEARN t.val) = 1 ∧ u.lstate t.val = 1 ∧
      u.get (RED_W_STATUS.ACAUSE t.val) = 0 ∧ SameRegistersBut [RED_W_CFG.addr t.val, RED_W_STATUS.addr t.val] s u ∧ SameMemories s u) ∧
  (∀ (s : State) (m : Master) (t : Fin 16), s.mayWrite m = true → s.hasWrp = true → (s.weft t.val).learn = 0 → s.is (RED_W_CFG.ACT t.val) = true →
    ∃ u, exec (.weftLearnFresh m t) s = .next u ∧ (u.weft t.val).learn = 1 ∧ u.get (RED_W_CFG.LEARN t.val) = 1 ∧ (u.weft t.val).fadeUp = false) ∧
  (∀ (s : State) (m : Master) (t : Fin 16), s.mayWrite m = true → s.hasWrp = true → (s.weft t.val).learn = 0 →
    ∃ u, exec (.weftLearnRefine m t) s = .next u ∧ (u.weft t.val).learn = 1 ∧ u.get (RED_W_CFG.LEARN t.val) = 2 ∧ u.lstate t.val = 1 ∧
      SameRegistersBut [RED_W_CFG.addr t.val, RED_W_STATUS.addr t.val] s u ∧ SameMemories s u) ∧
  (∀ (s : State) (m : Master) (t : Fin 16), s.mayWrite m = true → s.hasWrp = true → (s.weft t.val).learn ≠ 0 →
    ∃ u, exec (.weftLearnAbort m t) s = .next u ∧ (u.weft t.val).learn = 0 ∧ u.lstate t.val = 5 ∧ u.get (RED_W_STATUS.ACAUSE t.val) = 3 ∧
      u.get (RED_W_CFG.LEARN t.val) = 0 ∧ u.is RED_FLAGS.LEARN_ABORT = true ∧
      SameRegistersBut [RED_W_CFG.addr t.val, RED_W_STATUS.addr t.val, RED_FLAGS.addr] s u ∧ SameMemories s u) ∧
  (∀ (s : State) (t : Fin 16), (s.weft t.val).learn = 1 → s.trackState t.val = 2 → (s.weft t.val).fadeLen = 0 →
    (s.weft t.val).revPhase / 2 ^ 48 < (s.track t.val).phaseAt s.time / 2 ^ 48 →
    ∃ u, exec (.weftLearnBegin t) s = .next u ∧ (u.weft t.val).learn = 2 ∧ (u.weft t.val).revs = 0 ∧ (u.weft t.val).beganAt = s.time ∧
      u.get (RED_W_STATUS.REVS t.val) = 0 ∧ SameRegistersBut [RED_W_STATUS.addr t.val] s u ∧ SameMemories s u) ∧
  (∀ (s : State) (t : Fin 16), s.trackState t.val ≠ 2 → exec (.weftLearnBegin t) s = .next s) ∧
  (∀ (s : State) (t : Fin 16), (s.weft t.val).learn = 2 → (s.weft t.val).revs < 256 → (s.weft t.val).revPhase + 2 ^ 48 ≤ (s.track t.val).phaseAt s.time →
    ∃ u, exec (.weftLearnRevolution t) s = .next u ∧ (u.weft t.val).revs = (s.weft t.val).revs + 1 ∧ (u.weft t.val).revPhase = (s.weft t.val).revPhase + 2 ^ 48 ∧
      u.get (RED_W_STATUS.REVS t.val) = min 255 ((s.weft t.val).revs + 1) ∧ SameRegistersBut [RED_W_STATUS.addr t.val] s u) ∧
  (∀ (s : State) (t : Fin 16), (s.weft t.val).learn = 2 → 256 ≤ (s.weft t.val).revs → s.aliased t.val = true →
    ∃ u, exec (.weftLearnComplete t) s = .next u ∧ u.lstate t.val = 5 ∧ u.get (RED_W_STATUS.ACAUSE t.val) = 5 ∧ u.is RED_FLAGS.LEARN_ABORT = true ∧ SameMemories s u) ∧
  (∀ (s : State) (t : Fin 16), (s.weft t.val).learn = 2 → 256 ≤ (s.weft t.val).revs → s.aliased t.val = false →
    (s.weft t.val).bins.any (fun b => decide (b.2 < 4)) = true →
    ∃ u, exec (.weftLearnComplete t) s = .next u ∧ u.lstate t.val = 5 ∧ u.get (RED_W_STATUS.ACAUSE t.val) = 6 ∧ SameMemories s u) ∧
  (∀ (s : State) (t : Fin 16), (s.weft t.val).learn = 2 → 256 ≤ (s.weft t.val).revs → s.aliased t.val = false →
    (s.weft t.val).bins.any (fun b => decide (b.2 < 4)) = false →
    ∃ u, exec (.weftLearnComplete t) s = .next u ∧ u.lstate t.val = 2 ∧ u.get (RED_W_CFG.LEARN t.val) = 0 ∧ (u.weft t.val).learn = 0 ∧ u.is RED_FLAGS.LEARN_DONE = true ∧
      (s.is (RED_W_CFG.SAVE t.val) = false → u.beam = s.beam) ∧ u.pm = s.pm ∧ u.dm = s.dm ∧ u.ctx = s.ctx) ∧
  (∀ (s : State) (t : Fin 16), (s.weft t.val).fadeLen ≠ 0 → (s.weft t.val).fadeAt + (s.weft t.val).fadeLen ≤ s.time →
    ∃ u, exec (.weftFadeDone t) s = .next u ∧ (u.weft t.val).fade = (if (s.weft t.val).fadeUp then 65536 else 0) ∧ (u.weft t.val).fadeLen = 0 ∧ SameMemories s u) ∧
  (∀ (s : State) (t : Fin 16), (s.weft t.val).fadeLen = 0 → exec (.weftFadeDone t) s = .next s)

/-- R201 to R211: the measurement subsystem. A conversion takes 500 ns and delivers its code to `last` and to its asker; a request waits for
a free ADC; charge counters are written, cleared and saved; a result read takes the oldest entry and latches its time. -/
def Obligations.Measurements : Prop :=
  (∀ (s : State) (adc : Fin 2) (code x : BitVec 16) (c : Conversion) (start : Nat), s.mea.busy.find adc.val = some (c, start) → start + 50 ≤ s.time →
    c.ch = 0 → c.asker = .protect → c.late = false → s.mea.scanNext = false → s.adcFailed 0 = false → s.mea.requests = [] →
    ∃ t, exec (.adcConversionDone adc code x) s = .next t ∧ t.mea.last.find 0 = some code.toNat ∧ t.mea.busy.find adc.val = none ∧
      t.is (if adc.val = 0 then MEA_STATUS.BUSY_A else MEA_STATUS.BUSY_B) = false ∧ SameRegistersBut [MEA_STATUS.addr] s t ∧ SameMemories s t) ∧
  (∀ (s : State) (adc : Fin 2) (code x : BitVec 16) (c : Conversion) (start pos : Nat), s.mea.busy.find adc.val = some (c, start) → start + 50 ≤ s.time →
    c.ch = 0 → c.asker = .scan pos → pos < 16 → c.late = false → s.mea.scanNext = false → s.adcFailed 0 = false → s.mea.requests = [] →
    ∃ t, exec (.adcConversionDone adc code x) s = .next t ∧ t.get (MEA_SCAN_RES.CODE pos) = code.toNat ∧ t.is (MEA_SCAN_RES.LATE pos) = false ∧
      t.get (MEA_SCAN_RES.CH pos) = 0 ∧ SameRegistersBut [MEA_STATUS.addr, MEA_SCAN_RES.addr pos] s t ∧ SameMemories s t) ∧
  (∀ (s : State) (adc : Fin 2) (code x : BitVec 16) (c : Conversion) (start : Nat), s.mea.busy.find adc.val = some (c, start) → s.time < start + 50 →
    exec (.adcConversionDone adc code x) s = .next s) ∧
  (∀ (s : State) (ch : BitVec 8) (adc : Fin 3) (c : Conversion), s.scheduled ch.toNat adc.val = some c → s.mode < 3 →
    exec (.scheduledConversion ch adc) s = .next (s.ask c)) ∧
  (∀ (s : State) (ch : BitVec 8) (adc : Fin 3), s.scheduled ch.toNat adc.val = none → exec (.scheduledConversion ch adc) s = .next s) ∧
  (∀ (s : State) (c : Conversion), definedChannel c.ch = true → s.adcFailed 0 = false → (s.mea.busy.find 0).isSome = true → (s.mea.busy.find 1).isSome = true →
    (s.ask c).mea.requests = s.mea.requests ++ [{ c with made := s.time }] ∧ SameMemories s (s.ask c)) ∧
  (∀ (s : State) (c : Conversion), definedChannel c.ch = false → (s.ask c).is MEA_FLAGS.CH_BAD = true) ∧
  (∀ (s : State), s.fullService = true → s.is MEA_SCAN_CFG.EN = true → s.mode < 3 → s.mea.scanLeft = [] → exec .scanStart s = .next s.startScan) ∧
  (∀ (s : State), s.fullService = true → s.is MEA_SCAN_CFG.EN = true → s.mode < 3 → s.mea.scanLeft ≠ [] →
    ∃ t, exec .scanStart s = .next t ∧ t.mea.scanNext = true ∧ t.is MEA_FLAGS.SCAN_LATE = true ∧ SameRegistersBut [MEA_FLAGS.addr] s t ∧ SameMemories s t) ∧
  (∀ (s : State) (adc : Fin 2), s.is MEA_CTRL.BGCAL_EN = true → (s.mea.pairAt.find adc.val).getD 0 + 10 * 10000 * max 1 (s.get MEA_CTRL.CAL_INT) ≤ s.time →
    ∃ t, exec (.calStarved adc) s = .next t ∧ t.is MEA_FLAGS.CAL_STARVED = true ∧ OnlyRegisters [MEA_FLAGS.addr] s t) ∧
  (∀ (s : State) (n : Cell) (q : Nat), (s.cell n.val).quietAt = some q → q + us 50 ≤ s.time → (s.cellState n.val = 0 ∨ s.cellState n.val = 1 ∨ s.cellState n.val = 4) →
    ∃ t, exec (.autoZero n) s = .next t ∧ (t.cell n.val).zeroed = true ∧ SameRegistersBut [] s t ∧ OnlyCells s t) ∧
  (∀ (s : State) (n : Cell), s.cellState n.val = 3 → exec (.autoZero n) s = .next s) ∧
  (∀ (s : State) (m : Master) (w : Word), s.mayWrite m = true →
    ∃ t, exec (.qcntWrite m w) s = .next t ∧ t.rd MEA_QCNT.addr = w ∧ t.mea.qNet = w.toInt * 1000000 ∧ SameRegistersBut [MEA_QCNT.addr] s t ∧ SameMemories s t) ∧
  (∀ (s : State) (m : Master), s.mayWrite m = true →
    ∃ t, exec (.qclr m) s = .next t ∧ t.rd MEA_QCNT.addr = 0 ∧ t.rd MEA_QIN.addr = 0 ∧ t.rd MEA_QOUT.addr = 0 ∧
      SameRegistersBut [MEA_QCNT.addr, MEA_QIN.addr, MEA_QOUT.addr] s t ∧ SameMemories s t) ∧
  (∀ (s : State), s.fullService = true →
    ∃ t, exec .qcntSave s = .next t ∧ t.beam.charge = s.rd MEA_QCNT.addr ∧ SameRegistersBut [] s t ∧ SameMemories s t) ∧
  (∀ (s : State) (m : Master) (code tag ch start : Nat) (late : Bool) (rest : List (Nat × Nat × Nat × Nat × Bool)), s.fullService = true →
    s.mea.fifo = (code, tag, ch, start, late) :: rest →
    ∃ t, exec (.resultFifoRead m) s = .next t ∧ t.readData = BitVec.ofNat 32 (code * 65536 + tag * 256 + ch) ∧ t.mea.fifo = rest ∧
      t.latches.find (MEA_RES_HI.addr * 8 + m.val) = some (BitVec.ofNat 32 (start % 2 ^ 32 / 2 * 2 + if late then 1 else 0)) ∧
      SameRegistersBut [MEA_STATUS.addr] s t ∧ SameMemories s t) ∧
  (∀ (s : State) (m : Master), s.fullService = true → s.mea.fifo = [] →
    ∃ t, exec (.resultFifoRead m) s = .next t ∧ t.readData = 0xFF#32 ∧ SameRegistersBut [] s t ∧ SameMemories s t)

/-- R212 to R222: the thermal unit. The summary bits follow the cells' level registers; the die's levels act with their hysteresis and at
shutdown the chip enters its safe state; throttling lowers the limits in the order of R218 in steps of 10 percent and R219 in steps of 5,
and lifts them again. -/
def Obligations.Thermal : Prop :=
  (∀ (s : State) (l : List CellSample),
    ∃ t, exec (.thermalModelUpdate l) s = .next t ∧ t.is THM_STATUS.STG_WARN = (t.get THM_CELL_WARN.CELLS != 0) ∧
      t.is THM_STATUS.STG_THR = (t.get THM_CELL_THR.CELLS != 0) ∧ t.time = s.time) ∧
  (∀ (s : State), s.getZ THM_STATUS.TDIE_MAX < s.getZ THM_DIE_SHUT.RISE → s.getZ THM_DIE_WARN.RISE ≤ s.getZ THM_STATUS.TDIE_MAX → s.is THM_STATUS.DIE_WARN = false →
    ∃ t, exec .dieTempCheck s = .next t ∧ t.is THM_STATUS.DIE_WARN = true ∧ t.is THM_FLAGS.DIE_WARN = true ∧ OnlyRegisters [THM_STATUS.addr, THM_FLAGS.addr] s t) ∧
  (∀ (s : State), s.getZ THM_STATUS.TDIE_MAX < s.getZ THM_DIE_SHUT.RISE → s.getZ THM_DIE_THR.RISE ≤ s.getZ THM_STATUS.TDIE_MAX → s.is THM_STATUS.DIE_THR = false →
    ∃ t, exec .dieTempCheck s = .next t ∧ t.is THM_STATUS.DIE_THR = true ∧ t.is THM_FLAGS.DIE_THR = true ∧ OnlyRegisters [THM_STATUS.addr, THM_FLAGS.addr] s t) ∧
  (∀ (s : State), s.getZ THM_STATUS.TDIE_MAX < s.getZ THM_DIE_SHUT.RISE → s.getZ THM_STATUS.TDIE_MAX < s.getZ THM_DIE_WARN.FALL →
    s.getZ THM_STATUS.TDIE_MAX < s.getZ THM_DIE_WARN.RISE →
    ∃ t, exec .dieTempCheck s = .next t ∧ t.is THM_STATUS.DIE_WARN = false ∧ OnlyRegisters [THM_STATUS.addr, THM_FLAGS.addr] s t) ∧
  (∀ (s : State), s.getZ THM_DIE_SHUT.RISE ≤ s.getZ THM_STATUS.TDIE_MAX →
    ∃ t, exec .dieTempCheck s = .next t ∧ t.chipSafe = true ∧ bitOf (t.get SAF_FAULT.FAULT) 3 = true) ∧
  (∀ (s : State), s.fullService = true → s.is THM_STATUS.DIE_THR = true → s.thm.dieLast < s.getZ THM_STATUS.TDIE_MAX + 8 → 80 < s.get THM_LIM.PDRV →
    ∃ t, exec .dieThrottleStep s = .next t ∧ t.get THM_LIM.PDRV = s.get THM_LIM.PDRV - 10 ∧ t.thm.dieLast = s.getZ THM_STATUS.TDIE_MAX ∧ t.thm.dieAt = s.time) ∧
  (∀ (s : State), s.fullService = true → s.is THM_STATUS.DIE_THR = true → s.thm.dieLast < s.getZ THM_STATUS.TDIE_MAX + 8 → s.get THM_LIM.PDRV ≤ 80 →
    0 < limOf s.thm.dieLim .chb →
    ∃ t, exec .dieThrottleStep s = .next t ∧ limOf t.thm.dieLim .chb = limOf s.thm.dieLim .chb - 10 ∧ limOf t.thm.dieLim .trk = limOf s.thm.dieLim .trk) ∧
  (∀ (s : State), s.fullService = true → s.is THM_STATUS.DIE_THR = true → s.getZ THM_STATUS.TDIE_MAX + 8 ≤ s.thm.dieLast →
    ∃ t, exec .dieThrottleStep s = .next t ∧ t.thm.dieLim = s.thm.dieLim ∧ SameRegistersBut [] s t ∧ SameMemories s t) ∧
  (∀ (s : State), s.fullService = true → s.is THM_STATUS.DIE_THR = false → limOf s.thm.dieLim .trk < 100 →
    ∃ t, exec .dieThrottleStep s = .next t ∧ limOf t.thm.dieLim .trk = limOf s.thm.dieLim .trk + 10 ∧ limOf t.thm.dieLim .chb = limOf s.thm.dieLim .chb) ∧
  (∀ (s : State) (b : Block), s.fullService = true → s.get THM_CELL_THR.CELLS = 0 →
    ∃ t, exec (.stageThrottleStep b) s = .next t ∧ limOf t.thm.stageLim b = min 100 (limOf s.thm.stageLim b + 5) ∧ t.thm.stageAt.find (blockNum b) = some s.time) ∧
  (∀ (s : State) (n : Nat), s.fullService = true → n < 10 → s.cellPresent n = true → bitOf (s.get THM_CELL_THR.CELLS) n = true → s.thm.stageLast.find n = none →
    ∃ t, exec (.stageThrottleStep .trk) s = .next t ∧ limOf t.thm.stageLim .trk = max 50 (limOf s.thm.stageLim .trk - 5)) ∧
  (∀ (s : State) (b : Block), s.fullService = false → exec (.stageThrottleStep b) s = .next s) ∧
  (∀ (s : State), s.fullService = true → (∀ n, n < 18 → s.target n ≤ 1500000) →
    s.gateBudget < s.cappedPower (fun b => match b with | .trk => s.get THM_NCAP.TRK | .chb => s.get THM_NCAP.CHB | .prt => s.get THM_NCAP.PRT) (fun n => (s.cell n).fmeas) →
    ∃ t, exec .gateDriveCapStep s = .next t ∧ t.is THM_FLAGS.GD_CAP = true ∧ t.thm.capAt = s.time)

/-- R225 to R227, R233, R240 to R243, R247, R251: what puts contexts on shuttles and takes them off. The first READY context by R226 goes to a
free shuttle; a quantum, a freed slot or a restart makes a context READY behind the others; a deferral that has run out suspends. -/
def Obligations.LoomScheduling : Prop :=
  (∀ (s : State) (sh : Fin 8) (c : Nat), s.loomRuns = true → s.is UPD_STATUS.HOLD = false → (s.shuttle sh.val).off = false → (s.shuttle sh.val).ctx = none →
    sh.val < s.lom.shuttles.length → s.firstBy 2 (fun _ => true) = some c → (s.context c).rom = none → s.cget (CTX.PC c) < 0x4000 →
    ∃ t, exec (.contextDispatch sh) s = .next t ∧ t.cstate c = 3 ∧ t.cget (CTX.SHUTTLE c) = sh.val ∧ (t.shuttle sh.val).ctx = some c ∧ (t.shuttle sh.val).count = 0 ∧
      SameRegistersBut [] s t ∧ t.pm = s.pm ∧ t.dm = s.dm ∧ t.win = s.win) ∧
  (∀ (s : State) (sh : Fin 8) (c r : Nat), s.loomRuns = true → s.is UPD_STATUS.HOLD = false → (s.shuttle sh.val).off = false → (s.shuttle sh.val).ctx = some r →
    s.firstBy 2 (fun _ => true) = some c → s.lowestRunning = some r → s.cget (CTX.PRIO r) < s.cget (CTX.PRIO c) →
    exec (.contextDispatch sh) s = .next ((s.makeReady r).takeContext sh.val c)) ∧
  (∀ (s : State) (sh : Fin 8), (s.loomRuns = false ∨ s.firstBy 2 (fun _ => true) = none) → exec (.contextDispatch sh) s = .next s) ∧
  (∀ (s : State) (sh : Fin 8) (c : Nat), (s.shuttle sh.val).ctx = some c → s.get LOM_CTRL.QUANTUM ≤ (s.shuttle sh.val).count →
    (s.firstBy 2 (fun d => decide (s.cget (CTX.PRIO c) ≤ s.cget (CTX.PRIO d)))).isSome = true →
    ∃ t, exec (.quantumExpiry sh) s = .next t ∧ t.cstate c = 2 ∧ (t.context c).readySeq = s.lom.seq ∧ (t.shuttle sh.val).ctx = none ∧
      SameRegistersBut [] s t ∧ t.pm = s.pm ∧ t.dm = s.dm ∧ t.win = s.win) ∧
  (∀ (s : State) (sh : Fin 8), (s.shuttle sh.val).count < s.get LOM_CTRL.QUANTUM → exec (.quantumExpiry sh) s = .next s) ∧
  (∀ (s : State) (c : Nat), s.firstBy 5 (fun c => (s.openSlot c).isSome) = some c →
    ∃ t, exec .slotGrant s = .next t ∧ t.cstate c = 2 ∧ (t.context c).readySeq = s.lom.seq ∧ SameRegistersBut [] s t ∧ t.pm = s.pm ∧ t.dm = s.dm ∧ t.win = s.win) ∧
  (∀ (s : State), s.firstBy 5 (fun c => (s.openSlot c).isSome) = none → exec .slotGrant s = .next s) ∧
  (∀ (s : State) (c : CtxId) (r : Nat), s.loomRuns = true → s.is UPD_STATUS.HOLD = false → s.away c = false → s.cstate c = 1 → s.cget (CTX.PICKSTART c) = 1 →
    bitOf (s.cget (CTX.EVPEND c)) 0 = true → (s.context c).hasRun = true → s.freeRecord (s.cget (CTX.OWNER c)) = some r →
    ∃ t, exec (.pickstartRun c) s = .next t ∧ t.cstate c = 2 ∧ t.cget (CTX.PC c) = s.cget (CTX.ENTRY c) ∧ bitOf (t.cget (CTX.EVPEND c)) 0 = false ∧
      (t.job (s.cget (CTX.OWNER c)) r).state = 3 ∧ (t.context c).job = some (s.cget (CTX.OWNER c), r)) ∧
  (∀ (s : State) (c : CtxId), (s.cstate c ≠ 1 ∨ s.cget (CTX.PICKSTART c) ≠ 1) → exec (.pickstartRun c) s = .next s) ∧
  (∀ (s : State) (c : CtxId) (t0 : Nat), (s.context c).shedAt = some t0 → t0 ≤ s.time → s.shedHolds c = true → (2 ≤ s.cstate c ∧ s.cstate c ≤ 5) →
    ∃ t, exec (.shedDeferTimeout c) s = .next t ∧ t.cstate c = 7 ∧ (t.context c).shedAt = none ∧ (t.context c).wait = (s.context c).wait ∧
      SameRegistersBut [] s t ∧ t.pm = s.pm ∧ t.dm = s.dm ∧ t.win = s.win) ∧
  (∀ (s : State) (c : CtxId), (s.context c).shedAt = none → exec (.shedDeferTimeout c) s = .next s) ∧
  (∀ (s : State) (c : CtxId) (t0 : Nat), (s.context c).freezeAt = some t0 → t0 ≤ s.time → (s.context c).frozen = true → (2 ≤ s.cstate c ∧ s.cstate c ≤ 5) →
    ∃ t, exec (.freezeDeferTimeout c) s = .next t ∧ t.cstate c = 6 ∧ (t.context c).freezeAt = none ∧ (t.context c).wait = (s.context c).wait ∧
      SameRegistersBut [] s t ∧ t.pm = s.pm ∧ t.dm = s.dm ∧ t.win = s.win) ∧
  (∀ (s : State) (c : CtxId), (s.context c).freezeAt = none → exec (.freezeDeferTimeout c) s = .next s) ∧
  (∀ (s : State) (k : Nat), s.lom.requests = [] → s.lom.quietSince + ms (clampN 10 60000 (s.get LOM_SHED_CFG.RESTORE_DLY)) ≤ s.time →
    s.lom.lastRestore + ms (clampN 10 60000 (s.get LOM_SHED_CFG.RESTORE_DLY)) ≤ s.time → s.peerLive = false →
    (List.range 8).find? (fun k => bitOf (s.get LOM_SHED_STATE.BY_AUTO) k) = some k → 11 * s.declared k ≤ 10 * s.lom.spare →
    ∃ t, exec .autoRestore s = .next t ∧ EntersOrder s t 4 (.shed k) 0 1 ∧ t.lom.lastRestore = s.time ∧ SameRegistersBut [] s t ∧ SameMemories s t) ∧
  (∀ (s : State), s.lom.requests ≠ [] → exec .autoRestore s = .next s) ∧
  (∀ (s : State), s.cstate 0 = 8 →
    ∃ t, exec .context0Restart s = .next t ∧ t.cstate 0 = 2 ∧ t.cget (CTX.PC 0) = s.cget (CTX.ENTRY 0) ∧ t.cget (CTX.CAUSE 0) = 0 ∧ t.cget (CTX.DEPTH 0) = 0 ∧
      t.lom.ctx0Restart = some s.time ∧ SameRegistersBut [] s t ∧ t.pm = s.pm ∧ t.dm = s.dm ∧ t.win = s.win) ∧
  (∀ (s : State), s.cstate 0 ≠ 8 → exec .context0Restart s = .next s)

/-- R232, R247, R252, R284, R289: the commands on a context, with the result that its master reads in `RESULT` (0 OK, 1 DENIED, 2 BUSY). A
claim of a FREE context makes it IDLE with the configuration of R232; a command of a master that does not own the context is DENIED. -/
def Obligations.ContextCommands : Prop :=
  (∀ (s : State) (m : Master) (c : CtxId), s.mayWrite m = true → s.away c = false → c.val ≠ 0 → s.cstate c = 0 →
    ∃ t, exec (.claim m c) s = .next t ∧ t.cstate c = 1 ∧ t.cget (CTX.OWNER c) = m.val ∧ t.cget (CTX.PRIO c) = 8 ∧ t.cget (CTX.SHED c) = 7 ∧
      t.cget (CTX.LOCKEN c) = 0 ∧ t.cget (CTX.WBIND c) = 0 ∧ t.cget (CTX.PICKSTART c) = 0 ∧ t.cget (CTX.BUDGET c) = 0 ∧
      t.lom.cmdResult.find m.val = some (0, c.val) ∧
      SameRegistersBut [BEM_JSN_LO.addr, BEM_JSN_HI.addr, BEM_ACKED_LO.addr, BEM_PEER_LO.addr] s t ∧ t.pm = s.pm ∧ t.dm = s.dm ∧ t.win = s.win) ∧
  (∀ (s : State) (m : Master) (c : CtxId), s.mayWrite m = true → s.away c = false → s.cstate c ≠ 0 → s.cget (CTX.OWNER c) ≠ m.val →
    ∃ t, exec (.claim m c) s = .next t ∧ t.lom.cmdResult.find m.val = some (1, c.val) ∧ t.is LOM_FLAGS.CTX_DENIED = true ∧
      SameRegistersBut [LOM_FLAGS.addr] s t ∧ SameMemories s t) ∧
  (∀ (s : State) (m : Master) (c : CtxId), s.mayWrite m = true → s.away c = false → c.val ≠ 0 → s.owns m c = true → (s.cstate c = 1 ∨ s.cstate c = 8) →
    ∃ t, exec (.ctxRelease m c) s = .next t ∧ t.cstate c = 0 ∧ (t.context c).picks = [] ∧ t.lom.cmdResult.find m.val = some (0, c.val) ∧
      t.beam.commits.find c.val = none ∧ t.pm = s.pm ∧ t.dm = s.dm) ∧
  (∀ (s : State) (m : Master) (c : CtxId), s.mayWrite m = true → s.away c = false → c.val ≠ 0 → s.owns m c = true → s.cstate c ≠ 1 → s.cstate c ≠ 8 →
    ∃ t, exec (.ctxRelease m c) s = .next t ∧ t.lom.cmdResult.find m.val = some (2, c.val) ∧ SameRegistersBut [] s t ∧ SameMemories s t) ∧
  (∀ (s : State) (m : Master) (c : CtxId), s.mayWrite m = true → s.away c = false → s.owns m c = true → (s.context c).wait ≠ some .commit →
    ∃ t, exec (.abort m c) s = .next t ∧ t.cstate c = 1 ∧ t.cget (CTX.TX c) = 0 ∧ (t.context c).job = none ∧ (t.context c).wait = none ∧
      t.slotsOf c = [] ∧ t.lom.cmdResult.find m.val = some (0, c.val)) ∧
  (∀ (s : State) (m : Master) (c : CtxId), s.mayWrite m = true → s.away c = false → s.owns m c = true → (s.context c).wait = some .commit →
    ∃ t, exec (.abort m c) s = .next t ∧ (t.context c).aborting = true ∧ (t.context c).wait = some .commit ∧ SameRegistersBut [] s t ∧ SameMemories s t) ∧
  (∀ (s : State) (m : Master) (c : CtxId), s.mayWrite m = true → s.away c = false → s.owns m c = true → (s.context c).wait = none →
    ∃ t, exec (.ctxEvent m c) s = .next t ∧ t.cget (CTX.EVPEND c) = setBitTo (s.cget (CTX.EVPEND c)) 3 true ∧ t.cstate c = s.cstate c ∧
      t.lom.cmdResult.find m.val = some (0, c.val) ∧ SameRegistersBut [] s t ∧ t.pm = s.pm ∧ t.dm = s.dm ∧ t.win = s.win) ∧
  (∀ (s : State) (m : Master) (c : CtxId), s.mayWrite m = true → s.away c = false → s.owns m c = false →
    exec (.ctxEvent m c) s = .next ((s.raise LOM_FLAGS.CTX_DENIED).ctxResult m c 1) ∧ exec (.abort m c) s = .next ((s.raise LOM_FLAGS.CTX_DENIED).ctxResult m c 1) ∧
      exec (.freeze m c) s = .next ((s.raise LOM_FLAGS.CTX_DENIED).ctxResult m c 1) ∧ exec (.thaw m c) s = .next ((s.raise LOM_FLAGS.CTX_DENIED).ctxResult m c 1) ∧
      exec (.ctxRelease m c) s = .next ((s.raise LOM_FLAGS.CTX_DENIED).ctxResult m c 1)) ∧
  (∀ (s : State) (m : Master) (c : CtxId), s.mayWrite m = true → s.away c = false → s.owns m c = true → s.cget (CTX.TX c) = 0 → (2 ≤ s.cstate c ∧ s.cstate c ≤ 5) →
    ∃ t, exec (.freeze m c) s = .next t ∧ t.cstate c = 6 ∧ (t.context c).frozenOwner = true ∧ (t.context c).wait = (s.context c).wait ∧
      t.lom.cmdResult.find m.val = some (0, c.val) ∧ SameRegistersBut [] s t ∧ t.pm = s.pm ∧ t.dm = s.dm ∧ t.win = s.win) ∧
  (∀ (s : State) (m : Master) (c : CtxId), s.mayWrite m = true → s.away c = false → s.owns m c = true → s.cget (CTX.TX c) = 1 →
    ∃ t, exec (.freeze m c) s = .next t ∧ (t.context c).freezeAt = some ((s.context c).freezeAt.getD (s.time + us 100)) ∧ t.cstate c = s.cstate c ∧
      SameRegistersBut [] s t ∧ SameMemories s t) ∧
  (∀ (s : State) (m : Master) (c : CtxId), s.mayWrite m = true → s.away c = false → s.owns m c = true → s.cstate c = 6 → (s.context c).frozenControl = false →
    (s.context c).frozenUpdate = false → s.shedHolds c = false → (s.context c).wait = none →
    ∃ t, exec (.thaw m c) s = .next t ∧ t.cstate c = 2 ∧ (t.context c).frozen = false ∧ t.lom.cmdResult.find m.val = some (0, c.val) ∧
      SameRegistersBut [] s t ∧ t.pm = s.pm ∧ t.dm = s.dm ∧ t.win = s.win) ∧
  (∀ (s : State) (m : Master) (w : Word), s.mayWrite m = true → s.owns m (s.get LOM_CTXSEL.CTX) = true → s.cstate (s.get LOM_CTXSEL.CTX) = 1 →
    ∃ t, exec (.contextRecordWrite m 3 w) s = .next t ∧ t.cget (CTX.ENTRY (s.get LOM_CTXSEL.CTX)) = w.toNat % 65536 ∧
      SameRegistersBut [BEM_JSN_LO.addr, BEM_JSN_HI.addr, BEM_ACKED_LO.addr, BEM_PEER_LO.addr] s t ∧ t.pm = s.pm ∧ t.dm = s.dm ∧ t.win = s.win) ∧
  (∀ (s : State) (m : Master) (k : Fin 32) (w : Word), s.mayWrite m = true → (k.val < 2 ∨ 4 < k.val ∨ s.cstate (s.get LOM_CTXSEL.CTX) ≠ 1) →
    ∃ t, exec (.contextRecordWrite m k w) s = .next t ∧ t.is LOM_FLAGS.CTX_DENIED = true ∧ OnlyRegisters [LOM_FLAGS.addr] s t)

/-- R235, R239, R241, R248, R249: shed and restore orders, program memory with its locks, and the window on data memory. A write of a locked
page is PM_DENIED, of a page that a context runs PM_BUSY; the data window moves on by one word with each access. -/
def Obligations.LoomMemory : Prop :=
  (∀ (s : State) (m : Master) (k : Fin 8), s.mayWrite m = true → s.peerLive = false →
    ∃ t, exec (.lomShedOrder m k) s = .next t ∧ EntersOrder s t m.val (.shed k.val) 1 0 ∧ SameRegistersBut [] s t ∧ SameMemories s t) ∧
  (∀ (s : State) (m : Master) (k : Fin 8), s.mayWrite m = true → s.peerLive = false →
    ∃ t, exec (.lomRestoreOrder m k) s = .next t ∧ EntersOrder s t m.val (.shed k.val) 0 0 ∧ SameRegistersBut [] s t ∧ SameMemories s t) ∧
  (∀ (s : State) (m : Master) (a : Nat) (w : Word), s.mayWrite m = true → 0x8000 ≤ a → a < 0xC000 →
    s.pageLocked ((s.get LOM_PMPAGE.PAGE * 4096 + (a - 0x8000) / 4) / 256) = false → s.pageUsed ((s.get LOM_PMPAGE.PAGE * 4096 + (a - 0x8000) / 4) / 256) = false →
    ∃ t, exec (.programMemoryWrite m a w) s = .next t ∧ t.pm.get (s.get LOM_PMPAGE.PAGE * 4096 + (a - 0x8000) / 4) = w ∧
      (∀ i, i ≠ s.get LOM_PMPAGE.PAGE * 4096 + (a - 0x8000) / 4 → t.pm.get i = s.pm.get i) ∧ t.dm = s.dm ∧ t.ctx = s.ctx ∧ t.win = s.win ∧
      SameRegistersBut [BEM_JSN_LO.addr, BEM_JSN_HI.addr, BEM_ACKED_LO.addr, BEM_PEER_LO.addr] s t) ∧
  (∀ (s : State) (m : Master) (a : Nat) (w : Word), s.mayWrite m = true → 0x8000 ≤ a → a < 0xC000 →
    s.pageLocked ((s.get LOM_PMPAGE.PAGE * 4096 + (a - 0x8000) / 4) / 256) = true →
    ∃ t, exec (.programMemoryWrite m a w) s = .next t ∧ t.is LOM_FLAGS.PM_DENIED = true ∧ OnlyRegisters [LOM_FLAGS.addr] s t) ∧
  (∀ (s : State) (m : Master) (a : Nat) (w : Word), s.mayWrite m = true → 0x8000 ≤ a → a < 0xC000 →
    s.pageLocked ((s.get LOM_PMPAGE.PAGE * 4096 + (a - 0x8000) / 4) / 256) = false → s.pageUsed ((s.get LOM_PMPAGE.PAGE * 4096 + (a - 0x8000) / 4) / 256) = true →
    ∃ t, exec (.programMemoryWrite m a w) s = .next t ∧ t.is LOM_FLAGS.PM_BUSY = true ∧ OnlyRegisters [LOM_FLAGS.addr] s t) ∧
  (∀ (s : State) (m : Master) (a : Nat) (w : Word), (s.mayWrite m = false ∨ a < 0x8000 ∨ 0xC000 ≤ a) → exec (.programMemoryWrite m a w) s = .next s) ∧
  (∀ (s : State) (m : Master) (w : Word), s.mayWrite m = true →
    ∃ t, exec (.pageLock m 0 w) s = .next t ∧ t.rd LOM_PMLOCK0.addr = s.rd LOM_PMLOCK0.addr ||| w ∧ SameMemories s t ∧
      SameRegistersBut [LOM_PMLOCK0.addr, BEM_JSN_LO.addr, BEM_JSN_HI.addr, BEM_ACKED_LO.addr, BEM_PEER_LO.addr] s t) ∧
  (∀ (s : State) (m : Master) (w : Word), s.mayWrite m = true →
    ∃ t, exec (.pageLock m 1 w) s = .next t ∧ t.rd LOM_PMLOCK1.addr = s.rd LOM_PMLOCK1.addr ||| w ∧ SameMemories s t ∧
      SameRegistersBut [LOM_PMLOCK1.addr, BEM_JSN_LO.addr, BEM_JSN_HI.addr, BEM_ACKED_LO.addr, BEM_PEER_LO.addr] s t) ∧
  (∀ (s : State) (m : Master) (p : Fin 64), s.mayWrite m = true → s.pageUsed p.val = false →
    ∃ t, exec (.pageUnlock m p) s = .next t ∧ t.pageLocked p.val = false ∧ (∀ q : Fin 64, q ≠ p → t.pageLocked q.val = s.pageLocked q.val) ∧ SameMemories s t) ∧
  (∀ (s : State) (m : Master) (p : Fin 64), s.mayWrite m = true → s.pageUsed p.val = true →
    ∃ t, exec (.pageUnlock m p) s = .next t ∧ t.is LOM_FLAGS.PM_BUSY = true ∧ OnlyRegisters [LOM_FLAGS.addr] s t) ∧
  (∀ (s : State) (m : Master) (w : Word), s.mayWrite m = true →
    ∃ t, exec (.dmDataAccess m (some w)) s = .next t ∧ t.dm.get (4 * s.get LOM_DMADDR.ADDR) = w ∧ t.get LOM_DMADDR.ADDR = (s.get LOM_DMADDR.ADDR + 1) % 4096 ∧
      (∀ a, a ≠ 4 * s.get LOM_DMADDR.ADDR → t.dm.get a = s.dm.get a) ∧ t.pm = s.pm ∧ t.ctx = s.ctx ∧ t.win = s.win ∧ SameRegistersBut [LOM_DMADDR.addr] s t) ∧
  (∀ (s : State) (m : Master), s.fullService = true →
    ∃ t, exec (.dmDataAccess m none) s = .next t ∧ t.readData = s.dm.get (4 * s.get LOM_DMADDR.ADDR) ∧ t.get LOM_DMADDR.ADDR = (s.get LOM_DMADDR.ADDR + 1) % 4096 ∧
      SameMemories s t ∧ SameRegistersBut [LOM_DMADDR.addr] s t)

/-- R255, R260: the arithmetic and logic instructions. Outside a freeze or shed that waits, the instruction retires: gD reads the result, the
PC is the next word, and nothing else of the machine that a program sees changes. Arithmetic wraps, `g0` stays zero. Cycles are timing,
which the model leaves out. -/
def Obligations.VerkArithmetic : Prop :=
  (∀ (s : State) (c : CtxId) (d a : Reg) (y : Operand), Issues s c (.add c d a y) →
    ∃ t, exec (.add c d a y) s = .next t ∧ Retires c d.val (s.g c a.val + s.yval c y) s t) ∧
  (∀ (s : State) (c : CtxId) (d a : Reg) (y : Operand), Issues s c (.sub c d a y) →
    ∃ t, exec (.sub c d a y) s = .next t ∧ Retires c d.val (s.g c a.val - s.yval c y) s t) ∧
  (∀ (s : State) (c : CtxId) (d a : Reg) (y : Operand), Issues s c (.and c d a y) →
    ∃ t, exec (.and c d a y) s = .next t ∧ Retires c d.val (s.g c a.val &&& s.yval c y) s t) ∧
  (∀ (s : State) (c : CtxId) (d a : Reg) (y : Operand), Issues s c (.or c d a y) →
    ∃ t, exec (.or c d a y) s = .next t ∧ Retires c d.val (s.g c a.val ||| s.yval c y) s t) ∧
  (∀ (s : State) (c : CtxId) (d a : Reg) (y : Operand), Issues s c (.xor c d a y) →
    ∃ t, exec (.xor c d a y) s = .next t ∧ Retires c d.val (s.g c a.val ^^^ s.yval c y) s t) ∧
  (∀ (s : State) (c : CtxId) (d a : Reg) (y : Operand), Issues s c (.shl c d a y) →
    ∃ t, exec (.shl c d a y) s = .next t ∧ Retires c d.val (s.g c a.val <<< ((s.yval c y).toNat % 32)) s t) ∧
  (∀ (s : State) (c : CtxId) (d a : Reg) (y : Operand), Issues s c (.shr c d a y) →
    ∃ t, exec (.shr c d a y) s = .next t ∧ Retires c d.val (if (s.yval c y).getLsbD 5 then (s.g c a.val).sshiftRight ((s.yval c y).toNat % 32) else s.g c a.val >>> ((s.yval c y).toNat % 32)) s t) ∧
  (∀ (s : State) (c : CtxId) (d a : Reg) (y : Operand), Issues s c (.mul c d a y) →
    ∃ t, exec (.mul c d a y) s = .next t ∧ Retires c d.val (s.g c a.val * s.yval c y) s t) ∧
  (∀ (s : State) (c : CtxId) (d a : Reg) (y : Operand), Issues s c (.min c d a y) →
    ∃ t, exec (.min c d a y) s = .next t ∧ Retires c d.val (if (s.g c a.val).toInt ≤ (s.yval c y).toInt then s.g c a.val else s.yval c y) s t) ∧
  (∀ (s : State) (c : CtxId) (d a : Reg) (y : Operand), Issues s c (.max c d a y) →
    ∃ t, exec (.max c d a y) s = .next t ∧ Retires c d.val (if (s.g c a.val).toInt ≤ (s.yval c y).toInt then s.yval c y else s.g c a.val) s t) ∧
  (∀ (s : State) (c : CtxId) (d a : Reg) (y : Operand), Issues s c (.clamp c d a y) →
    ∃ t, exec (.clamp c d a y) s = .next t ∧ Retires c d.val (minS (maxS (s.g c d.val) (s.g c a.val)) (s.yval c y)) s t) ∧
  (∀ (s : State) (c : CtxId) (d : Reg) (imm : BitVec 22), Issues s c (.movi c d imm) →
    ∃ t, exec (.movi c d imm) s = .next t ∧ Retires c d.val (imm.signExtend 32) s t) ∧
  (∀ (s : State) (c : CtxId) (d : Reg) (imm : BitVec 16), Issues s c (.movhi c d imm) →
    ∃ t, exec (.movhi c d imm) s = .next t ∧ Retires c d.val ((s.g c d.val &&& 0x0000FFFF#32) ||| (imm.setWidth 32 <<< 16)) s t) ∧
  (∀ (s : State) (c : CtxId) (d a : Reg) (b : Reg) (v : BitVec 17), s.yval c (.reg b) = s.g c b.val ∧ s.yval c (.imm v) = v.signExtend 32 ∧
    s.g c 0 = 0 ∧ s.sumAY c a.val (.imm v) = s.g c a.val + v.signExtend 32 ∧ s.sumAY c a.val (.reg b) = s.g c a.val + s.g c b.val ∧
    (s.issues c ((verkWord (.add c d a (.reg b))).getD 0) = false → exec (.add c d a (.reg b)) s = .next s))

/-- R251, R256, R261, R244: fetched words that are no instruction, and the memory instructions. A load and a register read write gD; a store
writes one data word at once outside a transaction and only logs it inside one (a 33rd word traps with TX_FULL); a bad address traps with
ADDR and a register of an absent unit with ABSENT. Context 0 after a restart is in `VerkControl`. -/
def Obligations.VerkMemory : Prop :=
  (∀ (s : State) (c : CtxId) (w : Word), s.issues c w = true → verkDecode c w = none → (c.val = 0 → s.lom.ctx0Restart = none) →
    ∃ t, exec (.illegalEncoding c w) s = .next t ∧ Trapped c 0x01 0 s t ∧ t.pm = s.pm ∧ t.dm = s.dm ∧ t.win = s.win) ∧
  (∀ (s : State) (c : CtxId) (w : Word), (s.issues c w = false ∨ (verkDecode c w).isSome = true) → exec (.illegalEncoding c w) s = .next s) ∧
  (∀ (s : State) (c : CtxId) (d a : Reg) (y : Operand), Issues s c (.ld c d a y) → dataAddress (s.sumAY c a.val y).toNat = true →
    s.cget (CTX.TX c) = 0 → (s.context c).txAddrs = [] →
    ∃ t, exec (.ld c d a y) s = .next t ∧ Retires c d.val (s.dm.get (s.sumAY c a.val y).toNat) s t) ∧
  (∀ (s : State) (c : CtxId) (d a : Reg) (y : Operand), Issues s c (.ld c d a y) → dataAddress (s.sumAY c a.val y).toNat = true →
    (s.context c).txAddrs.contains (s.sumAY c a.val y).toNat = true →
    ∃ t, exec (.ld c d a y) s = .next t ∧ Retires c d.val ((s.context c).txWords.get (s.sumAY c a.val y).toNat) s t) ∧
  (∀ (s : State) (c : CtxId) (d a : Reg) (y : Operand), Issues s c (.ld c d a y) → dataAddress (s.sumAY c a.val y).toNat = false →
    (c.val = 0 → s.lom.ctx0Restart = none) → ∃ t, exec (.ld c d a y) s = .next t ∧ Trapped c 0x0B 0 s t) ∧
  (∀ (s : State) (c : CtxId) (d a : Reg) (y : Operand), Issues s c (.st c d a y) → dataAddress (s.sumAY c a.val y).toNat = true →
    s.cget (CTX.TX c) = 0 →
    ∃ t, exec (.st c d a y) s = .next t ∧ t.dm.get (s.sumAY c a.val y).toNat = s.g c d.val ∧
      (∀ a', a' ≠ (s.sumAY c a.val y).toNat → t.dm.get a' = s.dm.get a') ∧ t.cget (CTX.PC c) = s.cget (CTX.PC c) + 1 ∧
      (∀ k, k ≠ 32 * c.val + 1 → t.ctx.get k = s.ctx.get k) ∧ SameRegistersBut [] s t ∧ t.pm = s.pm ∧ t.win = s.win) ∧
  (∀ (s : State) (c : CtxId) (d a : Reg) (y : Operand), Issues s c (.st c d a y) → dataAddress (s.sumAY c a.val y).toNat = true →
    s.cget (CTX.TX c) = 1 → (s.context c).txAddrs.length < 32 → (s.context c).txAddrs.contains (s.sumAY c a.val y).toNat = false →
    ∃ t, exec (.st c d a y) s = .next t ∧ (t.context c).txWords.get (s.sumAY c a.val y).toNat = s.g c d.val ∧
      (t.context c).txAddrs = (s.sumAY c a.val y).toNat :: (s.context c).txAddrs ∧ t.cget (CTX.TXWORDS c) = (s.context c).txAddrs.length + 1 ∧
      t.cget (CTX.PC c) = s.cget (CTX.PC c) + 1 ∧ t.dm = s.dm ∧ SameRegistersBut [] s t ∧ t.pm = s.pm ∧ t.win = s.win) ∧
  (∀ (s : State) (c : CtxId) (d a : Reg) (y : Operand), Issues s c (.st c d a y) → dataAddress (s.sumAY c a.val y).toNat = true →
    s.cget (CTX.TX c) = 1 → 32 ≤ (s.context c).txAddrs.length → (s.context c).txAddrs.contains (s.sumAY c a.val y).toNat = false →
    (c.val = 0 → s.lom.ctx0Restart = none) → ∃ t, exec (.st c d a y) s = .next t ∧ Trapped c 0x09 0 s t ∧ t.dm = s.dm) ∧
  (∀ (s : State) (c : CtxId) (d a : Reg) (y : Operand), Issues s c (.st c d a y) → dataAddress (s.sumAY c a.val y).toNat = false →
    (c.val = 0 → s.lom.ctx0Restart = none) → ∃ t, exec (.st c d a y) s = .next t ∧ Trapped c 0x0B 0 s t ∧ t.dm = s.dm) ∧
  (∀ (s : State) (c : CtxId) (d a : Reg) (y : Operand), Issues s c (.rdr c d a y) → (s.sumAY c a.val y).toNat % 4 = 0 →
    (s.sumAY c a.val y).toNat < 0x2000 → s.absentAddr (s.sumAY c a.val y).toNat = false →
    ∃ t, exec (.rdr c d a y) s = .next t ∧ Retires c d.val (s.rdrWord (s.sumAY c a.val y).toNat) s t) ∧
  (∀ (s : State) (c : CtxId) (d a : Reg) (y : Operand), Issues s c (.rdr c d a y) → (s.sumAY c a.val y).toNat % 4 = 0 →
    (s.sumAY c a.val y).toNat < 0x2000 → s.absentAddr (s.sumAY c a.val y).toNat = true → (c.val = 0 → s.lom.ctx0Restart = none) →
    ∃ t, exec (.rdr c d a y) s = .next t ∧ Trapped c 0x02 0 s t) ∧
  (∀ (s : State) (c : CtxId) (d a : Reg) (y : Operand), Issues s c (.rdr c d a y) →
    ((s.sumAY c a.val y).toNat % 4 ≠ 0 ∨ 0x2000 ≤ (s.sumAY c a.val y).toNat) → (c.val = 0 → s.lom.ctx0Restart = none) →
    ∃ t, exec (.rdr c d a y) s = .next t ∧ Trapped c 0x0B 0 s t)

/-- R226, R251, R262, R263, R252: control flow, YIELD, TRAP and HALT. A branch goes to its target or traps with ADDR; CALL and RET keep the
return stack of 8 entries; an instruction at the last word of program memory that falls through traps at 0x4000; HALT waits for its commit
and then leaves the context IDLE and its job DONE. -/
def Obligations.VerkControl : Prop :=
  (∀ (s : State) (c : CtxId) (a : Reg) (addr : BitVec 14), Issues s c (.br c a addr) → (s.g c a.val + addr.setWidth 32).toNat < 0x4000 →
    ∃ t, exec (.br c a addr) s = .next t ∧ RetiresAt c (s.g c a.val + addr.setWidth 32).toNat 0 0 s t) ∧
  (∀ (s : State) (c : CtxId) (a : Reg) (addr : BitVec 14), Issues s c (.br c a addr) → 0x4000 ≤ (s.g c a.val + addr.setWidth 32).toNat →
    (c.val = 0 → s.lom.ctx0Restart = none) → ∃ t, exec (.br c a addr) s = .next t ∧ Trapped c 0x0B 0 s t) ∧
  (∀ (s : State) (c : CtxId) (k : Cond) (a b : Reg) (off : BitVec 14), Issues s c (.brc c k a b off) →
    condHolds k (s.g c a.val) (s.g c b.val) = false →
    ∃ t, exec (.brc c k a b off) s = .next t ∧ Retires c 0 0 s t) ∧
  (∀ (s : State) (c : CtxId) (k : Cond) (a b : Reg) (off : BitVec 14), Issues s c (.brc c k a b off) →
    condHolds k (s.g c a.val) (s.g c b.val) = true → 0 ≤ (s.cget (CTX.PC c) : Int) + off.toInt → (s.cget (CTX.PC c) : Int) + off.toInt < 0x4000 →
    ∃ t, exec (.brc c k a b off) s = .next t ∧ RetiresAt c ((s.cget (CTX.PC c) : Int) + off.toInt).toNat 0 0 s t) ∧
  (∀ (s : State) (c : CtxId) (k : Cond) (a b : Reg) (off : BitVec 14), Issues s c (.brc c k a b off) →
    condHolds k (s.g c a.val) (s.g c b.val) = true → ((s.cget (CTX.PC c) : Int) + off.toInt < 0 ∨ 0x4000 ≤ (s.cget (CTX.PC c) : Int) + off.toInt) →
    (c.val = 0 → s.lom.ctx0Restart = none) → ∃ t, exec (.brc c k a b off) s = .next t ∧ Trapped c 0x0B 0 s t) ∧
  (∀ (x y : Word), condHolds .eq x y = decide (x = y) ∧ condHolds .ne x y = decide (x ≠ y) ∧ condHolds .lt x y = x.slt y ∧
    condHolds .ge x y = y.sle x ∧ condHolds .ltu x y = x.ult y ∧ condHolds .geu x y = y.ule x) ∧
  (∀ (s : State) (c : CtxId) (a : Reg) (addr : BitVec 14), Issues s c (.call c a addr) → s.cget (CTX.DEPTH c) < 8 →
    (s.g c a.val + addr.setWidth 32).toNat < 0x4000 →
    ∃ t, exec (.call c a addr) s = .next t ∧ t.cget (CTX.PC c) = (s.g c a.val + addr.setWidth 32).toNat ∧
      t.cget (CTX.DEPTH c) = s.cget (CTX.DEPTH c) + 1 ∧ t.cget (CTX.RET c (s.cget (CTX.DEPTH c))) = s.cget (CTX.PC c) + 1 ∧
      (∀ n, n < s.cget (CTX.DEPTH c) → t.cget (CTX.RET c n) = s.cget (CTX.RET c n)) ∧ (∀ d : Reg, t.g c d.val = s.g c d.val) ∧
      SameRegistersBut [] s t ∧ t.pm = s.pm ∧ t.dm = s.dm ∧ t.win = s.win) ∧
  (∀ (s : State) (c : CtxId) (a : Reg) (addr : BitVec 14), Issues s c (.call c a addr) → 8 ≤ s.cget (CTX.DEPTH c) →
    (c.val = 0 → s.lom.ctx0Restart = none) → ∃ t, exec (.call c a addr) s = .next t ∧ Trapped c 0x0A 0 s t) ∧
  (∀ (s : State) (c : CtxId) (a : Reg) (addr : BitVec 14), Issues s c (.call c a addr) → s.cget (CTX.DEPTH c) < 8 →
    0x4000 ≤ (s.g c a.val + addr.setWidth 32).toNat →
    (c.val = 0 → s.lom.ctx0Restart = none) → ∃ t, exec (.call c a addr) s = .next t ∧ Trapped c 0x0B 0 s t) ∧
  (∀ (s : State) (c : CtxId), Issues s c (.ret c) → 0 < s.cget (CTX.DEPTH c) → s.cget (CTX.RET c (s.cget (CTX.DEPTH c) - 1)) < 0x4000 →
    ∃ t, exec (.ret c) s = .next t ∧ t.cget (CTX.PC c) = s.cget (CTX.RET c (s.cget (CTX.DEPTH c) - 1)) ∧
      t.cget (CTX.DEPTH c) = s.cget (CTX.DEPTH c) - 1 ∧ (∀ d : Reg, t.g c d.val = s.g c d.val) ∧ SameRegistersBut [] s t ∧ t.pm = s.pm ∧ t.dm = s.dm ∧ t.win = s.win) ∧
  (∀ (s : State) (c : CtxId), Issues s c (.ret c) → s.cget (CTX.DEPTH c) = 0 → (c.val = 0 → s.lom.ctx0Restart = none) →
    ∃ t, exec (.ret c) s = .next t ∧ Trapped c 0x0A 0 s t) ∧
  (∀ (s : State) (c : CtxId), Issues s c (.yield c) →
    ∃ t, exec (.yield c) s = .next t ∧ t.cstate c = 2 ∧ (t.context c).readySeq = s.lom.seq ∧ t.cget (CTX.PC c) = s.cget (CTX.PC c) + 1 ∧
      (∀ d : Reg, t.g c d.val = s.g c d.val) ∧ SameRegistersBut [] s t ∧ t.pm = s.pm ∧ t.dm = s.dm ∧ t.win = s.win) ∧
  (∀ (s : State) (c : CtxId) (imm : BitVec 16), Issues s c (.trap c imm) → (c.val = 0 → s.lom.ctx0Restart = none) →
    ∃ t, exec (.trap c imm) s = .next t ∧ Trapped c 0x10 imm.toNat s t ∧ t.pm = s.pm ∧ t.dm = s.dm ∧ t.win = s.win ∧
      (c.val = 0 → bitOf (t.get SAF_FAULT.FAULT) 18 = true)) ∧
  (∀ (s : State) (imm : BitVec 16) (t0 : Nat), Issues s 0 (.trap 0 imm) → s.lom.ctx0Restart = some t0 → s.time < t0 + ms 1000 →
    ∃ t, exec (.trap 0 imm) s = .next t ∧ t.regionSafe .control = true) ∧
  (∀ (s : State) (c : CtxId) (d a : Reg) (y : Operand) (w : Word), verkWord (.add c d a y) = some w → s.issues c w = true →
    s.cget (CTX.PC c) = 0x3FFF → c.val ≠ 0 →
    ∃ t, exec (.add c d a y) s = .next t ∧ t.cstate c = 8 ∧ t.cget (CTX.CAUSE c) = 0x0B ∧ t.cget (CTX.TRAPPC c) = 0x4000) ∧
  (∀ (s : State) (c : CtxId), Issues s c (.halt c) → 1 + s.txRails c ≤ s.openSlots c →
    ∃ t, exec (.halt c) s = .next t ∧ t.cstate c = 4 ∧ (t.context c).wait = some .halt ∧ t.cget (CTX.PC c) = s.cget (CTX.PC c) + 1 ∧
      (∀ d : Reg, t.g c d.val = s.g c d.val) ∧ SameRegistersBut [BEM_JSN_LO.addr, BEM_JSN_HI.addr, BEM_ACKED_LO.addr, BEM_PEER_LO.addr] s t ∧
      t.pm = s.pm ∧ t.dm = s.dm ∧ t.win = s.win) ∧
  (∀ (s : State) (c : CtxId), Issues s c (.halt c) → s.openSlots c < 1 + s.txRails c →
    ∃ t, exec (.halt c) s = .next t ∧ WaitsForSlot c s t) ∧
  (∀ (s : State) (c : CtxId), (s.context c).wait = some .halt → (s.context c).tags = [] → s.commitWaitsPeer c = false →
    ∃ t, exec (.haltCommitDone c) s = .next t ∧ t.cstate c = 1 ∧ (t.context c).job = none ∧ (t.context c).wait = none ∧ t.slotsOf c = [] ∧
      (s.cget (CTX.TX c) = 0 → ∀ m r, (s.context c).job = some (m, r) → (s.job m r).live = true →
        (t.job m r).state = 5 ∧ (t.job m r).cause = 0)) ∧
  (∀ (s : State) (c : CtxId), ((s.context c).wait ≠ some .halt ∨ (s.context c).tags ≠ [] ∨ s.commitWaitsPeer c = true) →
    exec (.haltCommitDone c) s = .next s)

/-- R116, R146, R235, R244, R258, R259, R264, R265: the order instructions, outside a transaction and inside one. An order names its target
and its value, clamped to the range of R116, R146 and R264, and is the owner's; only a rail order holds a slot, and without one the context
waits for it. Inside a transaction the order is buffered (a 17th traps with TX_FULL). With a live peer `PairWideOrder` covers the pair-wide
targets. -/
def Obligations.VerkOrders : Prop :=
  (∀ (s : State) (c : CtxId) (a : Reg) (y : Operand) (i : Nat), Issues s c (.setv c .rail a y) → s.cget (CTX.TX c) = 0 → s.peerLive = false → s.openSlot c = some i →
    ∃ t, exec (.setv c .rail a y) s = .next t ∧ EntersOrder s t (s.cget (CTX.OWNER c)) .rail (clampZ 500 2800 (s.sumAY c a.val y).toInt) (clampZ 1 1000 (s.get TRK_RATE.DEF_RATE)) ∧
      t.lom.slots.find i = some (c.val, .rail) ∧ t.cget (CTX.PC c) = s.cget (CTX.PC c) + 1 ∧ (∀ d : Reg, t.g c d.val = s.g c d.val) ∧
      SameRegistersBut [] s t ∧ t.pm = s.pm ∧ t.dm = s.dm ∧ t.win = s.win) ∧
  (∀ (s : State) (c : CtxId) (a : Reg) (y : Operand) (i : Nat), Issues s c (.slew c a y) → s.cget (CTX.TX c) = 0 → s.peerLive = false → s.openSlot c = some i →
    ∃ t, exec (.slew c a y) s = .next t ∧ EntersOrder s t (s.cget (CTX.OWNER c)) .rail (clampZ 500 2800 (s.g c a.val).toInt) (clampZ 1 1000 (if (s.yval c y).toInt = 0 then (s.get TRK_RATE.DEF_RATE : Int) else (s.yval c y).toInt)) ∧
      t.lom.slots.find i = some (c.val, .rail) ∧ t.cget (CTX.PC c) = s.cget (CTX.PC c) + 1 ∧ (∀ d : Reg, t.g c d.val = s.g c d.val) ∧
      SameRegistersBut [] s t ∧ t.pm = s.pm ∧ t.dm = s.dm ∧ t.win = s.win) ∧
  (∀ (s : State) (c : CtxId) (a : Reg) (y : Operand), s.cget (CTX.TX c) = 0 → s.openSlot c = none →
    (Issues s c (.setv c .rail a y) → ∃ t, exec (.setv c .rail a y) s = .next t ∧ WaitsForSlot c s t ∧ t.lom.orders = s.lom.orders) ∧
    (Issues s c (.slew c a y) → ∃ t, exec (.slew c a y) s = .next t ∧ WaitsForSlot c s t ∧ t.lom.orders = s.lom.orders)) ∧
  (∀ (s : State) (c : CtxId) (a : Reg) (y : Operand), Issues s c (.setv c .cv a y) → s.cget (CTX.TX c) = 0 → s.get CHG_CTRL.CHEM = 1 →
    ∃ t, exec (.setv c .cv a y) s = .next t ∧ EntersOrder s t (s.cget (CTX.OWNER c)) (.field 0x09 CHG_CV.CV) (clampZ 3400 4400 (s.sumAY c a.val y).toInt) 0 ∧ Retires c 0 0 s t) ∧
  (∀ (s : State) (c : CtxId) (a : Reg) (y : Operand), Issues s c (.setv c .cv a y) → s.cget (CTX.TX c) = 0 → s.get CHG_CTRL.CHEM = 2 →
    ∃ t, exec (.setv c .cv a y) s = .next t ∧ EntersOrder s t (s.cget (CTX.OWNER c)) (.field 0x09 CHG_CV.CV) (clampZ 3450 3650 (s.sumAY c a.val y).toInt) 0 ∧ Retires c 0 0 s t) ∧
  (∀ (s : State) (c : CtxId) (a : Reg) (y : Operand), Issues s c (.setv c .cv a y) → s.cget (CTX.TX c) = 0 → s.get CHG_CTRL.CHEM = 4 →
    ∃ t, exec (.setv c .cv a y) s = .next t ∧ EntersOrder s t (s.cget (CTX.OWNER c)) (.field 0x09 CHG_CV.CV) (clampZ 1000 27000 (s.sumAY c a.val y).toInt) 0 ∧ Retires c 0 0 s t) ∧
  (∀ (s : State) (c : CtxId) (a : Reg) (y : Operand), Issues s c (.setv c .cv a y) → s.cget (CTX.TX c) = 0 → s.get CHG_CTRL.CHEM = 0 →
    ∃ t, exec (.setv c .cv a y) s = .next t ∧ EntersOrder s t (s.cget (CTX.OWNER c)) (.field 0x09 CHG_CV.CV) (clampZ 0 65535 (s.sumAY c a.val y).toInt) 0 ∧ Retires c 0 0 s t) ∧
  (∀ (s : State) (c : CtxId) (a : Reg) (y : Operand), Issues s c (.setv c .backup a y) → s.cget (CTX.TX c) = 0 → 
    ∃ t, exec (.setv c .backup a y) s = .next t ∧ EntersOrder s t (s.cget (CTX.OWNER c)) (.field 0x0B CHB_BACKUP.BACKUP_V) (if (s.sumAY c a.val y) = 0 then 0 else clampZ 500 2800 (s.sumAY c a.val y).toInt) 0 ∧ Retires c 0 0 s t) ∧
  (∀ (s : State) (c : CtxId) (a : Reg) (y : Operand), Issues s c (.setv c .vbus a y) → s.cget (CTX.TX c) = 0 → 
    ∃ t, exec (.setv c .vbus a y) s = .next t ∧ EntersOrder s t (s.cget (CTX.OWNER c)) (.field 0x11 PRT_LIM.VMAX) (clampZ 500 4800 (s.sumAY c a.val y).toInt) 0 ∧ Retires c 0 0 s t) ∧
  (∀ (s : State) (c : CtxId) (a : Reg) (y : Operand), Issues s c (.seti c .cc a y) → s.cget (CTX.TX c) = 0 → 
    ∃ t, exec (.seti c .cc a y) s = .next t ∧ EntersOrder s t (s.cget (CTX.OWNER c)) (.field 0x08 CHG_CC.CC) (clampZ 5 6000 (s.sumAY c a.val y).toInt) 0 ∧ Retires c 0 0 s t) ∧
  (∀ (s : State) (c : CtxId) (a : Reg) (y : Operand), Issues s c (.seti c .trickle a y) → s.cget (CTX.TX c) = 0 → 
    ∃ t, exec (.seti c .trickle a y) s = .next t ∧ EntersOrder s t (s.cget (CTX.OWNER c)) (.field 0x08 CHG_CC.TRICKLE) (clampZ 50 500 (s.sumAY c a.val y).toInt) 0 ∧ Retires c 0 0 s t) ∧
  (∀ (s : State) (c : CtxId) (a : Reg) (y : Operand), Issues s c (.seti c .vbusI a y) → s.cget (CTX.TX c) = 0 → 
    ∃ t, exec (.seti c .vbusI a y) s = .next t ∧ EntersOrder s t (s.cget (CTX.OWNER c)) (.field 0x12 PRT_LIM.IMAX) (clampZ 50 500 (s.sumAY c a.val y).toInt) 0 ∧ Retires c 0 0 s t) ∧
  (∀ (s : State) (c : CtxId) (a : Reg) (y : Operand), Issues s c (.limit c .imax a y) → s.cget (CTX.TX c) = 0 → 
    ∃ t, exec (.limit c .imax a y) s = .next t ∧ EntersOrder s t (s.cget (CTX.OWNER c)) (.field 0x02 TRK_LIMIT.IMAX) (clampZ 100 28000 (s.sumAY c a.val y).toInt) 0 ∧ Retires c 0 0 s t) ∧
  (∀ (s : State) (c : CtxId) (a : Reg) (y : Operand), Issues s c (.limit c .chgMax a y) → s.cget (CTX.TX c) = 0 → 
    ∃ t, exec (.limit c .chgMax a y) s = .next t ∧ EntersOrder s t (s.cget (CTX.OWNER c)) (.field 0x0A CHB_LIMIT.CHG_MAX) (clampZ 5 6000 (s.sumAY c a.val y).toInt) 0 ∧ Retires c 0 0 s t) ∧
  (∀ (s : State) (c : CtxId) (a : Reg) (y : Operand), Issues s c (.limit c .disMax a y) → s.cget (CTX.TX c) = 0 → 
    ∃ t, exec (.limit c .disMax a y) s = .next t ∧ EntersOrder s t (s.cget (CTX.OWNER c)) (.field 0x0A CHB_LIMIT.DIS_MAX) (clampZ 100 10000 (s.sumAY c a.val y).toInt) 0 ∧ Retires c 0 0 s t) ∧
  (∀ (s : State) (c : CtxId) (a : Reg) (y : Operand), Issues s c (.limit c .wmax a y) → s.cget (CTX.TX c) = 0 → s.hasWrp = true →
    ∃ t, exec (.limit c .wmax a y) s = .next t ∧ EntersOrder s t (s.cget (CTX.OWNER c)) (.field 0x18 RED_WEFT.WMAX) (clampZ 10 6000 (s.sumAY c a.val y).toInt) 0 ∧ Retires c 0 0 s t) ∧
  (∀ (s : State) (c : CtxId) (a : Reg) (y : Operand), Issues s c (.phases c a y) → s.cget (CTX.TX c) = 0 → 
    ∃ t, exec (.phases c a y) s = .next t ∧ EntersOrder s t (s.cget (CTX.OWNER c)) (.field 0x03 TRK_SHED.NMAX) (clampZ 1 10 (s.sumAY c a.val y).toInt) 0 ∧ Retires c 0 0 s t) ∧
  (∀ (s : State) (c : CtxId) (sel : EnableSel) (a : Reg) (y : Operand), Issues s c (.enable c sel a y) → s.cget (CTX.TX c) = 0 → s.peerLive = false →
    (s.hasWrp = true ∨ (sel ≠ .weft ∧ sel ≠ .act)) →
    ∃ t, exec (.enable c sel a y) s = .next t ∧
      EntersOrder s t (s.cget (CTX.OWNER c))
        (match sel with
          | .trk => .field 0x04 TRK_CTRL.EN
          | .chg => .field 0x0C CHG_CTRL.EN
          | .chb => .field 0x0C CHB_CTRL.EN
          | .holdup => .field 0x0C CHB_CTRL.HOLDUP_EN
          | .port => .field 0x10 PRT_CTRL.EN
          | .shave => .field 0x14 SRC_CTRL.SHAVE_EN
          | .weft => .field 0x18 RED_CTRL.WEFT_EN
          | .act => .field 0x18 (RED_W_CFG.ACT ((s.sumAY c a.val y).toNat / 16 % 16))
          | .rev => .field 0x16 SRC_REV.MODE)
        (if sel = .rev then ((s.sumAY c a.val y).toNat % 4 : Nat) else ((s.sumAY c a.val y).toNat % 2 : Nat)) 0 ∧ Retires c 0 0 s t) ∧
  (∀ (s : State) (c : CtxId) (a : Reg) (y : Operand), s.hasWrp = false → (c.val = 0 → s.lom.ctx0Restart = none) →
    (Issues s c (.limit c .wmax a y) → ∃ t, exec (.limit c .wmax a y) s = .next t ∧ Trapped c 0x02 0 s t) ∧
    (Issues s c (.enable c .weft a y) → ∃ t, exec (.enable c .weft a y) s = .next t ∧ Trapped c 0x02 0 s t) ∧
    (Issues s c (.enable c .act a y) → ∃ t, exec (.enable c .act a y) s = .next t ∧ Trapped c 0x02 0 s t)) ∧
  (∀ (s : State) (c : CtxId) (a : Reg) (y : Operand), Issues s c (.shed c a y) → s.cget (CTX.TX c) = 0 → s.peerLive = false →
    ∃ t, exec (.shed c a y) s = .next t ∧ EntersOrder s t (s.cget (CTX.OWNER c)) (.shed ((s.sumAY c a.val y).toNat % 8)) 1 0 ∧ Retires c 0 0 s t) ∧
  (∀ (s : State) (c : CtxId) (a : Reg) (y : Operand), Issues s c (.shed c a y) → s.cget (CTX.TX c) = 1 → (s.context c).txOrders.length < 16 →
    ∃ t, exec (.shed c a y) s = .next t ∧ (t.context c).txOrders = (s.context c).txOrders ++ [.shed ((s.sumAY c a.val y).toNat % 8) true] ∧
      t.cget (CTX.TXORD c) = (s.context c).txOrders.length + 1 ∧ t.cget (CTX.PC c) = s.cget (CTX.PC c) + 1 ∧ t.lom.orders = s.lom.orders ∧
      SameRegistersBut [] s t ∧ t.pm = s.pm ∧ t.dm = s.dm ∧ t.win = s.win) ∧
  (∀ (s : State) (c : CtxId) (a : Reg) (y : Operand), Issues s c (.restore c a y) → s.cget (CTX.TX c) = 0 → s.peerLive = false →
    ∃ t, exec (.restore c a y) s = .next t ∧ EntersOrder s t (s.cget (CTX.OWNER c)) (.shed ((s.sumAY c a.val y).toNat % 8)) 0 0 ∧ Retires c 0 0 s t) ∧
  (∀ (s : State) (c : CtxId) (a : Reg) (y : Operand), Issues s c (.restore c a y) → s.cget (CTX.TX c) = 1 → (s.context c).txOrders.length < 16 →
    ∃ t, exec (.restore c a y) s = .next t ∧ (t.context c).txOrders = (s.context c).txOrders ++ [.shed ((s.sumAY c a.val y).toNat % 8) false] ∧
      t.cget (CTX.TXORD c) = (s.context c).txOrders.length + 1 ∧ t.cget (CTX.PC c) = s.cget (CTX.PC c) + 1 ∧ t.lom.orders = s.lom.orders ∧
      SameRegistersBut [] s t ∧ t.pm = s.pm ∧ t.dm = s.dm ∧ t.win = s.win) ∧
  (∀ (s : State) (c : CtxId) (a : Reg) (y : Operand), Issues s c (.phases c a y) → s.cget (CTX.TX c) = 1 → (s.context c).txOrders.length < 16 →
    ∃ t, exec (.phases c a y) s = .next t ∧
      (∃ o : Order, (t.context c).txOrders = (s.context c).txOrders ++ [.power o] ∧ o.target = .field 0x03 TRK_SHED.NMAX ∧
        o.val = clampZ 1 10 (s.sumAY c a.val y).toInt ∧ o.master = s.cget (CTX.OWNER c)) ∧
      t.cget (CTX.TXORD c) = (s.context c).txOrders.length + 1 ∧ t.cget (CTX.PC c) = s.cget (CTX.PC c) + 1 ∧ t.lom.orders = s.lom.orders ∧
      SameRegistersBut [] s t ∧ t.pm = s.pm ∧ t.dm = s.dm ∧ t.win = s.win) ∧
  (∀ (s : State) (c : CtxId) (a : Reg) (y : Operand), s.cget (CTX.TX c) = 1 → 16 ≤ (s.context c).txOrders.length → (c.val = 0 → s.lom.ctx0Restart = none) →
    (Issues s c (.shed c a y) → ∃ t, exec (.shed c a y) s = .next t ∧ Trapped c 0x09 0 s t) ∧
    (Issues s c (.phases c a y) → ∃ t, exec (.phases c a y) s = .next t ∧ Trapped c 0x09 0 s t)) ∧
  (∀ (s : State) (c : CtxId) (a : Reg) (y : Operand), Issues s c (.slew c a y) → s.cget (CTX.TX c) = 1 → 7 ≤ s.txRails c → (c.val = 0 → s.lom.ctx0Restart = none) →
    ∃ t, exec (.slew c a y) s = .next t ∧ Trapped c 0x09 0 s t)

/-- R367: orders on pair-wide targets while the peer is live. The rail orders of a context and of a register write enter the tick four after that of R33 and go to
the peer in an ORDER frame, without slot and job. -/
def Obligations.PairWideOrder : Prop :=
  (∀ (s : State) (m : Master) (w : Word), s.mayWrite m = true → s.peerLive = true → s.sel.unacked = [] →
    ∃ (t : State) (o : Order), exec (.registerWrite m TRK_CMD.addr w) s = .next t ∧ t.lom.orders = s.lom.orders ++ [o] ∧ o.target = .rail ∧ o.master = m.val ∧
      o.val = clampZ 500 2800 (TRK_CMD.VOLT.of w) ∧ o.at_ = s.time ∧ o.tick = s.tickFor + 4 ∧ o.fromB = s.roleB ∧
      t.sel.sent = some (.order (.order { o with slot := none, job := 0 })) ∧ SameRegistersBut [] s t ∧ SameMemories s t) ∧
  (∀ (s : State) (c : CtxId) (a : Reg) (y : Operand) (i : Nat), Issues s c (.setv c .rail a y) → s.cget (CTX.TX c) = 0 → s.peerLive = true → s.sel.unacked = [] →
    s.openSlot c = some i →
    ∃ (t : State) (o : Order), exec (.setv c .rail a y) s = .next t ∧ t.lom.orders = s.lom.orders ++ [o] ∧ o.target = .rail ∧ o.master = s.cget (CTX.OWNER c) ∧
      o.val = clampZ 500 2800 (s.sumAY c a.val y).toInt ∧ o.tick = s.tickFor + 4 ∧ o.fromB = s.roleB ∧ t.lom.slots.find i = some (c.val, .rail) ∧
      t.sel.sent = some (.order (.order { o with slot := none, job := 0 })) ∧ SameRegistersBut [] s t ∧ t.pm = s.pm ∧ t.dm = s.dm ∧ t.win = s.win) ∧
  (∀ (s : State) (o : Order), pairWide o.target = false ∨ s.peerLive = false →
    s.enter o = s.queueOrder { o with at_ := s.time, tick := s.tickFor, fromB := s.roleB })

/-- R227, R232, R247, R252, R266, R267: waits and picks. A wait takes a slot and puts the context in WAIT, or in WAIT_SLOT without one; its
end gives gD the value the instruction table names and makes the context READY. PICK arms the lowest free slot from a template and UNPICK
frees a slot of this context. -/
def Obligations.VerkWaits : Prop :=
  (∀ (s : State) (c : CtxId) (d a : Reg) (y : Operand), Issues s c (.waitt c d a y) → s.sumAY c a.val y = 0 →
    ∃ t, exec (.waitt c d a y) s = .next t ∧ Retires c d.val (BitVec.ofNat 32 s.time) s t) ∧
  (∀ (s : State) (c : CtxId) (d a : Reg) (y : Operand) (i : Nat), Issues s c (.waitt c d a y) → s.sumAY c a.val y ≠ 0 → s.openSlot c = some i →
    ∃ t, exec (.waitt c d a y) s = .next t ∧ Waits c d.val (.time (s.time + us (s.sumAY c a.val y).toNat)) s t) ∧
  (∀ (s : State) (c : CtxId) (d a : Reg) (y : Operand), Issues s c (.waitt c d a y) → s.sumAY c a.val y ≠ 0 → s.openSlot c = none →
    ∃ t, exec (.waitt c d a y) s = .next t ∧ WaitsForSlot c s t) ∧
  (∀ (s : State) (c : CtxId) (t0 : Nat), (s.context c).wait = some (.time t0) → t0 ≤ s.time → s.loomRuns = true → s.cstate c = 4 →
    (s.context c).waitReg < 16 →
    ∃ t, exec (.waittDeadline c) s = .next t ∧ t.g c (s.context c).waitReg = (if (s.context c).waitReg = 0 then 0 else BitVec.ofNat 32 s.time) ∧
      t.cstate c = 2 ∧ (t.context c).wait = none ∧ (t.context c).readySeq = s.lom.seq ∧ SameRegistersBut [] s t ∧ t.pm = s.pm ∧ t.dm = s.dm ∧ t.win = s.win) ∧
  (∀ (s : State) (c : CtxId), (∀ t0, (s.context c).wait = some (.time t0) → s.time < t0 ∨ s.loomRuns = false) → exec (.waittDeadline c) s = .next s) ∧
  (∀ (s : State) (c : CtxId) (d a : Reg) (y : Operand), Issues s c (.waita c d a y) → s.hasWrp = false → (c.val = 0 → s.lom.ctx0Restart = none) →
    ∃ t, exec (.waita c d a y) s = .next t ∧ Trapped c 0x02 0 s t) ∧
  (∀ (s : State) (c : CtxId) (d a : Reg) (y : Operand), Issues s c (.waita c d a y) → s.hasWrp = true → s.cget (CTX.WBIND c) = 0 →
    ∃ t, exec (.waita c d a y) s = .next t ∧ Retires c d.val 2 s t) ∧
  (∀ (s : State) (c : CtxId) (d a : Reg) (y : Operand) (i : Nat), Issues s c (.waita c d a y) → s.hasWrp = true → s.cget (CTX.WBIND c) = 1 →
    s.openSlot c = some i →
    ∃ t, exec (.waita c d a y) s = .next t ∧
      Waits c d.val (.angle ((s.yval c y).toNat % 65536) ((s.track (s.cget (CTX.WARP c))).phaseAt s.time)
        (if s.g c a.val = 0 then none else some (s.time + us (s.g c a.val).toNat))) s t) ∧
  (∀ (s : State) (c : CtxId) (a seen : Nat) (lim : Option Nat), (s.context c).wait = some (.angle a seen lim) → s.loomRuns = true →
    s.trackState (s.cget (CTX.WARP c)) = 2 → s.cstate c = 4 → (s.context c).waitReg < 16 →
    nextCrossing a 0 (max seen (s.track (s.cget (CTX.WARP c))).lockPhase) ≤ (s.track (s.cget (CTX.WARP c))).phaseAt s.time →
    ∃ t, exec (.waitaCrossing c) s = .next t ∧ t.g c (s.context c).waitReg = 0 ∧ t.cstate c = 2 ∧ (t.context c).wait = none ∧
      SameRegistersBut [] s t ∧ t.pm = s.pm ∧ t.dm = s.dm ∧ t.win = s.win) ∧
  (∀ (s : State) (c : CtxId), s.trackState (s.cget (CTX.WARP c)) ≠ 2 → exec (.waitaCrossing c) s = .next s) ∧
  (∀ (s : State) (c : CtxId) (d a : Reg) (y : Operand), Issues s c (.waite c d a y) → s.cget (CTX.EVPEND c) &&& ((s.yval c y).toNat % 32) ≠ 0 → d.val ≠ 0 →
    ∃ t, exec (.waite c d a y) s = .next t ∧ (t.g c d.val).toNat = s.cget (CTX.EVPEND c) &&& ((s.yval c y).toNat % 32) ∧
      t.cget (CTX.EVMASK c) = (s.yval c y).toNat % 32 ∧ t.cget (CTX.EVPEND c) &&& ((s.yval c y).toNat % 32) = 0 ∧ t.cget (CTX.PC c) = s.cget (CTX.PC c) + 1 ∧
      t.cstate c = 3 ∧ SameRegistersBut [] s t ∧ t.pm = s.pm ∧ t.dm = s.dm ∧ t.win = s.win) ∧
  (∀ (s : State) (c : CtxId) (d a : Reg) (y : Operand) (i : Nat), Issues s c (.waite c d a y) → s.cget (CTX.EVPEND c) &&& ((s.yval c y).toNat % 32) = 0 →
    s.openSlot c = some i →
    ∃ t, exec (.waite c d a y) s = .next t ∧ t.cget (CTX.EVMASK c) = (s.yval c y).toNat % 32 ∧
      Waits c d.val (.event (if s.g c a.val = 0 then none else some (s.time + us (s.g c a.val).toNat))) s t) ∧
  (∀ (s : State) (c : CtxId) (d a : Reg) (y : Operand), Issues s c (.waite c d a y) → s.cget (CTX.EVPEND c) &&& ((s.yval c y).toNat % 32) = 0 →
    s.openSlot c = none → ∃ t, exec (.waite c d a y) s = .next t ∧ WaitsForSlot c s t) ∧
  (∀ (s : State) (c : CtxId) (a seen t0 : Nat), (s.context c).wait = some (.angle a seen (some t0)) → t0 ≤ s.time → s.loomRuns = true → s.cstate c = 4 →
    0 < (s.context c).waitReg → (s.context c).waitReg < 16 →
    ∃ t, exec (.waitTimeout c) s = .next t ∧ t.g c (s.context c).waitReg = 1 ∧ t.cstate c = 2 ∧ (t.context c).wait = none ∧
      SameRegistersBut [] s t ∧ t.pm = s.pm ∧ t.dm = s.dm ∧ t.win = s.win) ∧
  (∀ (s : State) (c : CtxId) (t0 : Nat), (s.context c).wait = some (.event (some t0)) → t0 ≤ s.time → s.loomRuns = true → s.cstate c = 4 →
    (s.context c).waitReg < 16 →
    ∃ t, exec (.waitTimeout c) s = .next t ∧ t.g c (s.context c).waitReg = 0 ∧ t.cstate c = 2 ∧ (t.context c).wait = none ∧
      SameRegistersBut [] s t ∧ t.pm = s.pm ∧ t.dm = s.dm ∧ t.win = s.win) ∧
  (∀ (s : State) (c : CtxId), (s.context c).wait = none → exec (.waitTimeout c) s = .next s) ∧
  (∀ (s : State) (c : CtxId) (d a : Reg) (y : Operand) (p : Nat), Issues s c (.pick c d a y) → s.hasWrp = true → (s.sumAY c a.val y).toNat % 4 = 0 →
    (s.sumAY c a.val y).toNat ≤ 0x3FF0 → s.cget (CTX.TX c) = 0 → s.freePick = some p → d.val ≠ 0 →
    ∃ t, exec (.pick c d a y) s = .next t ∧ t.g c d.val = BitVec.ofNat 32 p ∧ (t.context c).picks = p :: (s.context c).picks ∧
      bitOf (t.pickWord p 0) 31 = true ∧ (t.win.get (pickAddr p 0)).toNat / 2 ^ 19 % 8 = s.cget (CTX.OWNER c) ∧
      t.win.get (pickAddr p 2) = s.dataWord c ((s.sumAY c a.val y).toNat + 8) ∧ t.cget (CTX.PC c) = s.cget (CTX.PC c) + 1 ∧ t.pm = s.pm ∧ t.dm = s.dm) ∧
  (∀ (s : State) (c : CtxId) (d a : Reg) (y : Operand), Issues s c (.pick c d a y) → s.hasWrp = true → (s.sumAY c a.val y).toNat % 4 = 0 →
    (s.sumAY c a.val y).toNat ≤ 0x3FF0 → s.freePick = none →
    ∃ t, exec (.pick c d a y) s = .next t ∧ Retires c d.val 0xFFFFFFFF s t) ∧
  (∀ (s : State) (c : CtxId) (d a : Reg) (y : Operand), Issues s c (.pick c d a y) → s.hasWrp = true →
    ((s.sumAY c a.val y).toNat % 4 ≠ 0 ∨ 0x3FF0 < (s.sumAY c a.val y).toNat) → (c.val = 0 → s.lom.ctx0Restart = none) →
    ∃ t, exec (.pick c d a y) s = .next t ∧ Trapped c 0x0B 0 s t) ∧
  (∀ (s : State) (c : CtxId) (d a : Reg) (y : Operand), s.hasWrp = false → (c.val = 0 → s.lom.ctx0Restart = none) →
    (Issues s c (.pick c d a y) → ∃ t, exec (.pick c d a y) s = .next t ∧ Trapped c 0x02 0 s t) ∧
    (Issues s c (.unpick c d a y) → ∃ t, exec (.unpick c d a y) s = .next t ∧ Trapped c 0x02 0 s t)) ∧
  (∀ (s : State) (c : CtxId) (d a : Reg) (y : Operand), Issues s c (.unpick c d a y) → s.hasWrp = true → s.cget (CTX.TX c) = 0 →
    (s.context c).picks.contains ((s.sumAY c a.val y).toNat % 256) = true →
    ∃ t, exec (.unpick c d a y) s = .next t ∧ t.g c d.val = 0 ∧ (t.context c).picks.contains ((s.sumAY c a.val y).toNat % 256) = false ∧
      bitOf (t.pickWord ((s.sumAY c a.val y).toNat % 256) 0) 31 = false ∧ t.cget (CTX.PC c) = s.cget (CTX.PC c) + 1 ∧ t.pm = s.pm ∧ t.dm = s.dm) ∧
  (∀ (s : State) (c : CtxId) (d a : Reg) (y : Operand), Issues s c (.unpick c d a y) → s.hasWrp = true → d.val ≠ 0 →
    (s.context c).picks.contains ((s.sumAY c a.val y).toNat % 256) = false →
    ∃ t, exec (.unpick c d a y) s = .next t ∧ t.g c d.val = 1 ∧ t.is RED_FLAGS.DENIED = true ∧ t.cget (CTX.PC c) = s.cget (CTX.PC c) + 1 ∧
      SameRegistersBut [RED_FLAGS.addr] s t ∧ t.pm = s.pm ∧ t.dm = s.dm ∧ t.win = s.win)

/-- R202, R244, R252, R267 to R271: measurements and their records, transactions, results of jobs, cell tests and FENCE. -/
def Obligations.VerkResults : Prop :=
  (∀ (s : State) (c : CtxId) (d a : Reg) (y : Operand) (i : Nat), Issues s c (.meas c d a y) → s.openSlot c = some i → d.val ≠ 0 →
    definedChannel ((s.sumAY c a.val y).toNat % 256) = true → s.adcFailed 0 = false →
    ∃ t, exec (.meas c d a y) s = .next t ∧ (t.g c d.val).toNat = (((s.lom.slotGen.find i).getD 0 + 1) % 4) * 64 + i ∧
      t.lom.slots.find i = some (c.val, .measure (t.g c d.val).toNat) ∧ (t.context c).tags.contains (t.g c d.val).toNat = true ∧
      t.cget (CTX.PC c) = s.cget (CTX.PC c) + 1 ∧ t.cstate c = 3 ∧ t.pm = s.pm ∧ t.dm = s.dm ∧ t.win = s.win) ∧
  (∀ (s : State) (c : CtxId) (d a : Reg) (y : Operand) (i : Nat), Issues s c (.meas c d a y) → s.openSlot c = some i → d.val ≠ 0 →
    definedChannel ((s.sumAY c a.val y).toNat % 256) = false →
    ∃ t, exec (.meas c d a y) s = .next t ∧ (t.slotsOf c).length = (s.slotsOf c).length ∧ t.is MEA_FLAGS.CH_BAD = true ∧
      (t.record c (t.g c d.val).toNat).1.toNat / 256 = (t.g c d.val).toNat ∧ t.cget (CTX.PC c) = s.cget (CTX.PC c) + 1 ∧
      SameRegistersBut [MEA_FLAGS.addr] s t ∧ t.pm = s.pm ∧ t.dm = s.dm ∧ t.win = s.win) ∧
  (∀ (s : State) (c : CtxId) (d a : Reg) (y : Operand), Issues s c (.meas c d a y) → s.openSlot c = none →
    ∃ t, exec (.meas c d a y) s = .next t ∧ WaitsForSlot c s t) ∧
  (∀ (s : State) (c : CtxId) (d a : Reg) (y : Operand), Issues s c (.getm c d a y) → 0 < d.val → d.val < 15 →
    ∃ t, exec (.getm c d a y) s = .next t ∧ t.g c d.val = (s.record c ((s.sumAY c a.val y).toNat % 256)).1 ∧
      t.g c (d.val + 1) = (s.record c ((s.sumAY c a.val y).toNat % 256)).2 ∧ t.cget (CTX.PC c) = s.cget (CTX.PC c) + 1 ∧
      (∀ e : Reg, e.val ≠ d.val → e.val ≠ d.val + 1 → t.g c e.val = s.g c e.val) ∧ SameRegistersBut [] s t ∧ t.pm = s.pm ∧ t.dm = s.dm ∧ t.win = s.win) ∧
  (∀ (s : State) (c : CtxId) (tag : Nat), (s.context c).results.find? (fun p => p.1 == tag) = none →
    (s.record c tag).1 = (if (s.context c).tags.contains tag then 0xFE else if (s.context c).displaced.contains tag then 0xFD else 0xFF) ∧
      (s.record c tag).2 = 0) ∧
  (∀ (s : State) (c : CtxId), Issues s c (.txb c) → s.cget (CTX.TX c) = 0 →
    ∃ t, exec (.txb c) s = .next t ∧ t.cget (CTX.TX c) = 1 ∧ t.cget (CTX.TXORD c) = 0 ∧ t.cget (CTX.TXWORDS c) = 0 ∧ (t.context c).txOrders = [] ∧
      (t.context c).txAddrs = [] ∧ t.cget (CTX.PC c) = s.cget (CTX.PC c) + 1 ∧ (∀ e : Reg, t.g c e.val = s.g c e.val) ∧
      SameRegistersBut [] s t ∧ t.pm = s.pm ∧ t.dm = s.dm ∧ t.win = s.win) ∧
  (∀ (s : State) (c : CtxId), Issues s c (.txb c) → s.cget (CTX.TX c) = 1 → (c.val = 0 → s.lom.ctx0Restart = none) →
    ∃ t, exec (.txb c) s = .next t ∧ Trapped c 0x07 0 s t) ∧
  (∀ (s : State) (c : CtxId) (d : Reg), Issues s c (.txc c d) → s.cget (CTX.TX c) = 0 → (c.val = 0 → s.lom.ctx0Restart = none) →
    ∃ t, exec (.txc c d) s = .next t ∧ Trapped c 0x08 0 s t) ∧
  (∀ (s : State) (c : CtxId) (d : Reg), Issues s c (.txc c d) → s.cget (CTX.TX c) = 1 → 1 + s.txRails c ≤ s.openSlots c →
    ∃ t, exec (.txc c d) s = .next t ∧ t.cstate c = 4 ∧ (t.context c).wait = some .commit ∧ (t.context c).waitReg = d.val ∧
      t.cget (CTX.PC c) = s.cget (CTX.PC c) + 1 ∧ t.cget (CTX.TX c) = 1 ∧ (t.context c).txOrders = (s.context c).txOrders ∧ t.lom.orders = s.lom.orders ∧
      t.pm = s.pm ∧ t.dm = s.dm ∧ t.win = s.win) ∧
  (∀ (s : State) (c : CtxId) (d : Reg), Issues s c (.txc c d) → s.cget (CTX.TX c) = 1 → s.openSlots c < 1 + s.txRails c →
    ∃ t, exec (.txc c d) s = .next t ∧ WaitsForSlot c s t) ∧
  (∀ (s : State) (c : CtxId), (s.context c).wait = some .commit → s.commitWaitsPeer c = false → (s.context c).aborting = false → s.cstate c = 4 →
    (s.context c).txOrders = [] → (s.context c).waitReg < 16 → 0 < (s.context c).waitReg →
    ∃ t, exec (.txcCommitDone c) s = .next t ∧ t.cget (CTX.TXSEQ c) = (s.cget (CTX.TXSEQ c) + 1) % 65536 ∧
      (t.g c (s.context c).waitReg).toNat = (s.cget (CTX.TXSEQ c) + 1) % 65536 ∧ t.cget (CTX.TX c) = 0 ∧ t.cstate c = 2 ∧ (t.context c).wait = none ∧
      (∀ a', a' ∉ (s.context c).txAddrs → t.dm.get a' = s.dm.get a') ∧
      (∀ a', a' ∈ (s.context c).txAddrs → t.dm.get a' = (s.context c).txWords.get a') ∧ (t.beam.commits.find c.val).isSome = true ∧ t.pm = s.pm) ∧
  (∀ (s : State) (c : CtxId), (s.context c).wait = some .commit → s.commitWaitsPeer c = false → (s.context c).aborting = true →
    ∃ t, exec (.txcCommitDone c) s = .next t ∧ t.cstate c = 1 ∧ (t.context c).job = none ∧ (t.context c).wait = none) ∧
  (∀ (s : State) (c : CtxId), ((s.context c).wait ≠ some .commit ∨ s.commitWaitsPeer c = true) → exec (.txcCommitDone c) s = .next s) ∧
  (∀ (s : State) (c : CtxId) (d a : Reg) (y : Operand) (m r : Nat), Issues s c (.emit c d a y) → s.cget (CTX.TX c) = 0 →
    (s.sumAY c a.val y).toNat % 4 = 0 → (s.sumAY c a.val y).toNat ≤ 0x3FC0 → (s.context c).job = some (m, r) → (s.job m r).live = true →
    ∃ t, exec (.emit c d a y) s = .next t ∧ (t.job m r).state = 4 ∧ (t.job m r).seq = ((s.job m r).seq + 1) % 65536 ∧
      (t.job m r).result = (List.range 16).map (fun k => s.dataWord c ((s.sumAY c a.val y).toNat + 4 * k)) ∧
      (t.job m r).progress = (if d.val = 0 then (s.job m r).progress else (s.g c d.val).toNat % 256) ∧
      t.cget (CTX.PC c) = s.cget (CTX.PC c) + 1 ∧ SameRegistersBut [] s t ∧ t.pm = s.pm ∧ t.dm = s.dm ∧ t.win = s.win) ∧
  (∀ (s : State) (c : CtxId) (a : Reg) (y : Operand) (m r : Nat), Issues s c (.done c a y) → s.cget (CTX.TX c) = 0 →
    (s.sumAY c a.val y).toNat % 4 = 0 → (s.sumAY c a.val y).toNat ≤ 0x3FC0 → (s.context c).job = some (m, r) → (s.job m r).live = true →
    ∃ t, exec (.done c a y) s = .next t ∧ (t.job m r).state = 5 ∧ (t.job m r).cause = 0 ∧ (t.job m r).progress = 255 ∧
      (t.job m r).result = (List.range 16).map (fun k => s.dataWord c ((s.sumAY c a.val y).toNat + 4 * k)) ∧ t.cstate c = 3 ∧
      t.cget (CTX.PC c) = s.cget (CTX.PC c) + 1 ∧ SameRegistersBut [] s t ∧ t.pm = s.pm ∧ t.dm = s.dm ∧ t.win = s.win) ∧
  (∀ (s : State) (c : CtxId) (d a : Reg) (y : Operand), ((s.sumAY c a.val y).toNat % 4 ≠ 0 ∨ 0x3FC0 < (s.sumAY c a.val y).toNat) →
    (c.val = 0 → s.lom.ctx0Restart = none) →
    (Issues s c (.emit c d a y) → ∃ t, exec (.emit c d a y) s = .next t ∧ Trapped c 0x0B 0 s t) ∧
    (Issues s c (.done c a y) → ∃ t, exec (.done c a y) s = .next t ∧ Trapped c 0x0B 0 s t)) ∧
  (∀ (s : State) (c : CtxId) (d a : Reg) (y : Operand) (i : Nat), s.openSlot c = some i → (s.sumAY c a.val y).toNat % 2 ^ 18 = 0 → d.val ≠ 0 →
    (Issues s c (.selftest c d a y) → ∃ t, exec (.selftest c d a y) s = .next t ∧
      t.g c d.val = BitVec.ofNat 32 ((((s.lom.slotGen.find i).getD 0 + 1) % 4) * 64 + i) ∧ t.cget (CTX.PC c) = s.cget (CTX.PC c) + 1 ∧ t.pm = s.pm ∧ t.dm = s.dm) ∧
    (Issues s c (.cal c d a y) → ∃ t, exec (.cal c d a y) s = .next t ∧
      t.g c d.val = BitVec.ofNat 32 ((((s.lom.slotGen.find i).getD 0 + 1) % 4) * 64 + i) ∧ t.cget (CTX.PC c) = s.cget (CTX.PC c) + 1 ∧ t.pm = s.pm ∧ t.dm = s.dm)) ∧
  (∀ (s : State) (c : CtxId) (d a : Reg) (y : Operand) (n : Nat), n < 18 → (s.sumAY c a.val y).toNat.testBit n = true → s.cellPresent n = false →
    (c.val = 0 → s.lom.ctx0Restart = none) →
    (Issues s c (.selftest c d a y) → ∃ t, exec (.selftest c d a y) s = .next t ∧ Trapped c 0x02 0 s t) ∧
    (Issues s c (.cal c d a y) → ∃ t, exec (.cal c d a y) s = .next t ∧ Trapped c 0x02 0 s t)) ∧
  (∀ (s : State) (c : CtxId) (d : Reg), Issues s c (.fence c d) → s.slotsOf c = [] →
    ∃ t, exec (.fence c d) s = .next t ∧ Retires c d.val (s.context c).summary s t ∧ (t.context c).summary = 0) ∧
  (∀ (s : State) (c : CtxId) (d : Reg), Issues s c (.fence c d) → s.slotsOf c ≠ [] →
    ∃ t, exec (.fence c d) s = .next t ∧ t.cstate c = 4 ∧ (t.context c).wait = some .fence ∧ (t.context c).waitReg = d.val ∧
      (t.context c).summary = (s.context c).summary ∧ t.cget (CTX.PC c) = s.cget (CTX.PC c) + 1 ∧ (∀ e : Reg, t.g c e.val = s.g c e.val) ∧
      SameRegistersBut [] s t ∧ t.pm = s.pm ∧ t.dm = s.dm ∧ t.win = s.win) ∧
  (∀ (s : State) (c : CtxId), (s.context c).wait = some .fence → s.slotsOf c = [] → s.cstate c = 4 → (s.context c).waitReg < 16 →
    ∃ t, exec (.fenceComplete c) s = .next t ∧ t.g c (s.context c).waitReg = (if (s.context c).waitReg = 0 then 0 else (s.context c).summary) ∧
      (t.context c).summary = 0 ∧ t.cstate c = 2 ∧ (t.context c).wait = none ∧ SameRegistersBut [] s t ∧ t.pm = s.pm ∧ t.dm = s.dm ∧ t.win = s.win) ∧
  (∀ (s : State) (c : CtxId), (s.slotsOf c ≠ [] ∨ (s.context c).wait ≠ some .fence) → exec (.fenceComplete c) s = .next s)

/-- R250, R274 to R279, R288, R293, R294: doorbells, the descriptor copy with its checks in order, and the completion rings. -/
def Obligations.JobRings : Prop :=
  (∀ (s : State) (m : Fin 4) (tail : BitVec 6), RingsServed s m.val → (tail.toNat + 64 - s.get (JOB_SQ.HEAD m.val)) % 64 ≤ 32 →
    (s.get (JOB_SQ.TAIL m.val) + 64 - s.get (JOB_SQ.HEAD m.val)) % 64 ≤ (tail.toNat + 64 - s.get (JOB_SQ.HEAD m.val)) % 64 →
    ∃ t, exec (.jobDoorbell m tail) s = .next t ∧ t.get (JOB_SQ.TAIL m.val) = tail.toNat ∧ t.get (JOB_SQ.HEAD m.val) = s.get (JOB_SQ.HEAD m.val) ∧
      OnlyRegisters [JOB_SQ.addr m.val] s t) ∧
  (∀ (s : State) (m : Fin 4) (tail : BitVec 6), RingsServed s m.val → (32 < (tail.toNat + 64 - s.get (JOB_SQ.HEAD m.val)) % 64 ∨
    (tail.toNat + 64 - s.get (JOB_SQ.HEAD m.val)) % 64 < (s.get (JOB_SQ.TAIL m.val) + 64 - s.get (JOB_SQ.HEAD m.val)) % 64) →
    ∃ t, exec (.jobDoorbell m tail) s = .next t ∧ t.is JOB_FLAGS.SQ_BAD = true ∧ OnlyRegisters [JOB_FLAGS.addr] s t) ∧
  (∀ (s : State) (m : Fin 4) (tail head : BitVec 6), s.fullService = true → s.chipSafe = false → (m.val < 3 → s.is UPD_STATUS.HOLD = false) →
    s.regionSafe .interface = true →
    exec (.jobDoorbell m tail) s = .next (s.raise JOB_FLAGS.DB_REFUSED) ∧ exec (.cqHeadWrite m head) s = .next (s.raise JOB_FLAGS.DB_REFUSED)) ∧
  (∀ (s : State) (m : Fin 4) (head : BitVec 6), RingsServed s m.val →
    (s.get (JOB_CQ.TAIL m.val) + 64 - head.toNat) % 64 ≤ (s.get (JOB_CQ.TAIL m.val) + 64 - s.get (JOB_CQ.HEAD m.val)) % 64 →
    ∃ t, exec (.cqHeadWrite m head) s = .next t ∧ t.get (JOB_CQ.HEAD m.val) = head.toNat ∧ t.get (JOB_CQ.TAIL m.val) = s.get (JOB_CQ.TAIL m.val) ∧
      OnlyRegisters [JOB_CQ.addr m.val] s t) ∧
  (∀ (s : State) (m : Fin 4) (head : BitVec 6), RingsServed s m.val →
    (s.get (JOB_CQ.TAIL m.val) + 64 - s.get (JOB_CQ.HEAD m.val)) % 64 < (s.get (JOB_CQ.TAIL m.val) + 64 - head.toNat) % 64 →
    ∃ t, exec (.cqHeadWrite m head) s = .next t ∧ t.is JOB_FLAGS.CQ_BAD = true ∧ OnlyRegisters [JOB_FLAGS.addr] s t) ∧
  (∀ (s : State) (m : Fin 4), (s.copyHeld = true ∨ s.get (JOB_SQ.HEAD m.val) = s.get (JOB_SQ.TAIL m.val)) → exec (.descriptorCopy m) s = .next s) ∧
  (∀ (s : State) (m : Fin 4), s.copyHeld = false → s.get (JOB_SQ.HEAD m.val) ≠ s.get (JOB_SQ.TAIL m.val) →
    (s.get (JOB_CQ.TAIL m.val) + 64 - s.get (JOB_CQ.HEAD m.val)) % 64 = 32 → exec (.descriptorCopy m) s = .next (s.raise JOB_FLAGS.CQ_FULL)) ∧
  (∀ (s : State) (m : Fin 4) (w : Nat → Word) (r : Nat), (∀ k, w k = s.sqWord m.val (s.get (JOB_SQ.HEAD m.val) % 32) k) → s.copyHeld = false →
    s.get (JOB_SQ.HEAD m.val) ≠ s.get (JOB_SQ.TAIL m.val) → s.cqFull m.val = false → (w 1).toNat / 128 % 512 = 0 → (w 6).toNat < 4 → w 7 = 0 → w 0 ≠ 0 →
    (s.windowOf m.val).find? (fun e => e.jobId == w 0) = none → entryValid ((w 1).toNat / 65536) = true → (w 1).toNat % 128 ≠ 0 →
    s.ownsAny m.val ((w 1).toNat % 128) = true → s.entryAbsent ((w 1).toNat / 65536) [w 2, w 3, w 4, w 5] = false → s.freeRecord m.val = some r → s.paired = false →
    ∃ t, exec (.descriptorCopy m) s = .next t ∧ t.get (JOB_SQ.HEAD m.val) = (s.get (JOB_SQ.HEAD m.val) + 1) % 64 ∧ (t.job m.val r).state = 1 ∧
      (t.job m.val r).jobId = w 0 ∧ (t.job m.val r).entry = (w 1).toNat / 65536 ∧ (t.job m.val r).ctx = (w 1).toNat % 128 ∧
      (t.job m.val r).args = [w 2, w 3, w 4, w 5] ∧ (t.job m.val r).noAck = (w 6).getLsbD 1 ∧ (t.job m.val r).progOut = (w 6).getLsbD 0 ∧
      t.jobs.posts = s.jobs.posts ∧ SameRegistersBut [JOB_SQ.addr m.val] s t ∧ SameMemories s t) ∧
  (∀ (s : State) (m : Fin 4) (w : Nat → Word), (∀ k, w k = s.sqWord m.val (s.get (JOB_SQ.HEAD m.val) % 32) k) → s.copyHeld = false →
    s.get (JOB_SQ.HEAD m.val) ≠ s.get (JOB_SQ.TAIL m.val) → s.cqFull m.val = false → bitOf (s.get JOB_CTRL.ACK_EN) m.val = true →
    ∃ t, exec (.descriptorCopy m) s = .next t ∧ t.get (JOB_SQ.HEAD m.val) = (s.get (JOB_SQ.HEAD m.val) + 1) % 64 ∧
      (((w 1).toNat / 128 % 512 ≠ 0 ∨ 4 ≤ (w 6).toNat ∨ w 7 ≠ 0 ∨ w 0 = 0) → PostsAck s t m.val (w 0) 7 0x14 0x3F) ∧
      ((w 1).toNat / 128 % 512 = 0 → (w 6).toNat < 4 → w 7 = 0 → w 0 ≠ 0 →
        ((∃ e, (s.windowOf m.val).find? (fun e => e.jobId == w 0) = some e) → ∃ rec, PostsAck s t m.val (w 0) 11 0 rec) ∧
        ((s.windowOf m.val).find? (fun e => e.jobId == w 0) = none →
          (entryValid ((w 1).toNat / 65536) = false → PostsAck s t m.val (w 0) 7 0x10 0x3F) ∧
          (entryValid ((w 1).toNat / 65536) = true → ((w 1).toNat % 128 = 0 ∨ s.ownsAny m.val ((w 1).toNat % 128) = false) →
            PostsAck s t m.val (w 0) 7 0x11 0x3F) ∧
          (entryValid ((w 1).toNat / 65536) = true → (w 1).toNat % 128 ≠ 0 → s.ownsAny m.val ((w 1).toNat % 128) = true →
            s.entryAbsent ((w 1).toNat / 65536) [w 2, w 3, w 4, w 5] = true → PostsAck s t m.val (w 0) 7 0x12 0x3F) ∧
          (entryValid ((w 1).toNat / 65536) = true → (w 1).toNat % 128 ≠ 0 → s.ownsAny m.val ((w 1).toNat % 128) = true →
            s.entryAbsent ((w 1).toNat / 65536) [w 2, w 3, w 4, w 5] = false → s.freeRecord m.val = none → PostsAck s t m.val (w 0) 7 0x13 0x3F)))) ∧
  (∀ (s : State) (m : Fin 4) (p : Nat × List Word), s.jobs.posts.find? (fun p => p.1 == m.val) = some p → s.cqFull m.val = false →
    ∃ t, exec (.completionPost m) s = .next t ∧
      (∀ k, k < 4 → t.win.get (0x5000 + 0x200 * m.val + 0x10 * (s.get (JOB_CQ.TAIL m.val) % 32) + 4 * k) = p.2.getD k 0) ∧
      (∀ a, (a < 0x5000 + 0x200 * m.val + 0x10 * (s.get (JOB_CQ.TAIL m.val) % 32) ∨
        0x5000 + 0x200 * m.val + 0x10 * (s.get (JOB_CQ.TAIL m.val) % 32) + 16 ≤ a) → t.win.get a = s.win.get a) ∧
      t.get (JOB_CQ.TAIL m.val) = (s.get (JOB_CQ.TAIL m.val) + 1) % 64 ∧ t.jobs.posts = s.jobs.posts.erase p ∧
      bitOf (t.get JOB_FLAGS.CQ_POST) m.val = true ∧ SameRegistersBut [JOB_CQ.addr m.val, JOB_FLAGS.addr] s t ∧ t.pm = s.pm ∧ t.dm = s.dm ∧ t.ctx = s.ctx) ∧
  (∀ (s : State) (m : Fin 4) (p : Nat × List Word), s.jobs.posts.find? (fun p => p.1 == m.val) = some p → s.cqFull m.val = true →
    exec (.completionPost m) s = .next (s.raise JOB_FLAGS.CQ_FULL)) ∧
  (∀ (s : State) (m : Fin 4), (∀ p ∈ s.jobs.posts, p.1 ≠ m.val) → exec (.completionPost m) s = .next s)

/-- R231, R280 to R283, R286 to R289: acceptance, start, status read and release of a job. -/
def Obligations.JobRecords : Prop :=
  (∀ (s : State) (m : Master) (r : Fin 32), (s.job m.val r.val).state = 1 → s.fullService = true → s.regionSafe .interface = false →
    (s.paired = false ∨ (s.job m.val r.val).confirmed = true) → (s.windowOf m.val).find? (fun e => e.jobId == (s.job m.val r.val).jobId) = none →
    ∃ t, exec (.jobAccept m r) s = .next t ∧ (t.job m.val r.val).state = 2 ∧
      (t.job m.val r.val).asn = (if (s.job m.val r.val).asn = 0 then s.get GLB_STRAP.TWIN_ID * 2 ^ 47 + (s.beam.asnCount + 1) % 2 ^ 47 else (s.job m.val r.val).asn) ∧
      (t.windowOf m.val).head? = some ⟨(s.job m.val r.val).jobId, (t.job m.val r.val).asn, r.val⟩ ∧
      t.rd JOB_ASN_LO.addr = BitVec.ofNat 32 (t.job m.val r.val).asn ∧ t.rd JOB_ASN_HI.addr = BitVec.ofNat 32 ((t.job m.val r.val).asn / 2 ^ 32) ∧
      (m.val < 4 → (s.job m.val r.val).noAck = false → bitOf (s.get JOB_CTRL.ACK_EN) m.val = true →
        t.jobs.posts = s.jobs.posts ++ [(m.val, completionEntry (t.job m.val r.val) false r.val)]) ∧
      SameRegistersBut [JOB_ASN_LO.addr, JOB_ASN_HI.addr, BEM_JSN_LO.addr, BEM_JSN_HI.addr, BEM_ACKED_LO.addr, BEM_PEER_LO.addr] s t ∧ SameMemories s t) ∧
  (∀ (s : State) (m : Master) (r : Fin 32) (e : Accepted), (s.job m.val r.val).state = 1 → s.fullService = true → s.regionSafe .interface = false →
    (s.paired = false ∨ (s.job m.val r.val).confirmed = true) → (s.windowOf m.val).find? (fun e => e.jobId == (s.job m.val r.val).jobId) = some e →
    ∃ t, exec (.jobAccept m r) s = .next t ∧ (t.job m.val r.val).state = 0 ∧ SameRegistersBut [] s t ∧ SameMemories s t) ∧
  (∀ (s : State) (m : Master) (r : Fin 32), ((s.job m.val r.val).state ≠ 1 ∨ (s.paired = true ∧ (s.job m.val r.val).confirmed = false)) →
    exec (.jobAccept m r) s = .next s) ∧
  (∀ (s : State) (m : Master) (r : Fin 32) (c : Nat), (s.job m.val r.val).ctx = c → s.loomRuns = true → s.is UPD_STATUS.HOLD = false → s.away c = false →
    (s.job m.val r.val).state = 2 → s.cstate c = 1 → s.firstForCtx m.val r.val = true → (s.job m.val r.val).entry < 65536 →
    ∃ t, exec (.jobStart m r) s = .next t ∧ t.cstate c = 2 ∧ t.cget (CTX.PC c) = (s.job m.val r.val).entry ∧ t.cget (CTX.ENTRY c) = (s.job m.val r.val).entry ∧
      t.cget (CTX.JOBID c) = (s.job m.val r.val).jobId.toNat ∧ t.cget (CTX.DEPTH c) = 0 ∧ t.cget (CTX.CAUSE c) = 0 ∧ t.cget (CTX.USED c) = 0 ∧
      (∀ k, k < 15 → t.g c (k + 1) = if k < 4 then (s.job m.val r.val).args.getD k 0 else 0) ∧ (t.job m.val r.val).state = 3 ∧
      (t.context c).job = some (m.val, r.val) ∧ t.pm = s.pm ∧ t.dm = s.dm ∧ t.win = s.win) ∧
  (∀ (s : State) (m : Master) (r : Fin 32), (s.loomRuns = false ∨ s.is UPD_STATUS.HOLD = true ∨ (s.job m.val r.val).state ≠ 2 ∨
    s.cstate (s.job m.val r.val).ctx ≠ 1 ∨ s.firstForCtx m.val r.val = false) → exec (.jobStart m r) s = .next s) ∧
  (∀ (s : State) (reader : Master) (m : Fin 4) (r : Fin 32), reader.val = m.val → s.fullService = true → (s.job m.val r.val).state ≠ 0 →
    ∃ t, exec (.jobStatusRead reader m r) s = .next t ∧ (t.job m.val r.val).reads = min ((s.job m.val r.val).reads + 1) 15 ∧
      t.readData = BitVec.ofNat 32 ((s.job m.val r.val).state * 2 ^ 28 + min ((s.job m.val r.val).reads + 1) 15 * 2 ^ 24 +
        (s.job m.val r.val).progress * 2 ^ 16 + (s.job m.val r.val).seq % 65536) ∧
      (∀ k, k < 16 → t.win.get (0x6000 + 0x800 * m.val + 4 * k) = (s.job m.val r.val).result.getD k 0) ∧
      t.rd (JOB_INFO0.addr m.val) = BitVec.ofNat 32 (s.job m.val r.val).asn ∧
      t.rd (JOB_INFO1.addr m.val) = BitVec.ofNat 32 ((s.job m.val r.val).asn / 2 ^ 32 * 65536 + (s.job m.val r.val).cause * 256 + (s.job m.val r.val).ctx) ∧
      (t.job m.val r.val).state = (s.job m.val r.val).state ∧ SameRegistersBut [JOB_INFO0.addr m.val, JOB_INFO1.addr m.val] s t ∧
      t.pm = s.pm ∧ t.dm = s.dm ∧ t.ctx = s.ctx) ∧
  (∀ (s : State) (reader : Master) (m : Fin 4) (r : Fin 32), reader.val ≠ m.val → exec (.jobStatusRead reader m r) s = .next { s with readData := 0 }) ∧
  (∀ (s : State) (m : Master) (r : Fin 32), RingsServed s m.val → (s.job m.val r.val).state ≠ 0 → terminalState (s.job m.val r.val).state = true →
    (∀ q, q < 32 → q ≠ r.val → (s.job m.val q).jobId = (s.job m.val r.val).jobId → (s.job m.val q).state = 0) →
    ∃ t, exec (.jobRelease m (s.job m.val r.val).jobId) s = .next t ∧ (t.job m.val r.val).state = 0 ∧ t.jobs.relres.find m.val = some 0 ∧
      (∀ q, q < 32 → q ≠ r.val → t.job m.val q = s.job m.val q) ∧
      SameRegistersBut [BEM_JSN_LO.addr, BEM_JSN_HI.addr, BEM_ACKED_LO.addr, BEM_PEER_LO.addr] s t ∧ SameMemories s t) ∧
  (∀ (s : State) (m : Master) (r : Fin 32), RingsServed s m.val → (s.job m.val r.val).state ≠ 0 →
    (∀ q, q < 32 → (s.job m.val q).jobId = (s.job m.val r.val).jobId → terminalState (s.job m.val q).state = false) →
    ∃ t, exec (.jobRelease m (s.job m.val r.val).jobId) s = .next t ∧ t.jobs.relres.find m.val = some 2 ∧ t.jobs.recs = s.jobs.recs ∧
      SameRegistersBut [] s t ∧ SameMemories s t) ∧
  (∀ (s : State) (m : Master) (w : Word), RingsServed s m.val → (∀ q, q < 32 → (s.job m.val q).jobId = w → (s.job m.val q).state = 0) →
    ∃ t, exec (.jobRelease m w) s = .next t ∧ t.jobs.relres.find m.val = some 1 ∧ t.is JOB_FLAGS.REL_BAD = true ∧ t.jobs.recs = s.jobs.recs ∧
      SameRegistersBut [JOB_FLAGS.addr] s t ∧ SameMemories s t)

/-- R296 to R305, R446: the frames of the SPI port. A frame that reaches a running port sends the status byte and the answer to the previous
frame; its length and CRC are checked first; a served read or write has the effect of the access and its answer follows in the next frame;
a refused one answers ACC_ERR; a burst reports what it did in `HIF_BURST`. -/
def Obligations.SpiFrames : Prop :=
  (∀ (s : State) (a : BitVec 14) (d : Word) (h : BitVec 31) (crc : BitVec 8) (n : Nat) (b : Bool) (segs : List (Word × BitVec 8)), s.busesRun = false →
    exec (.spiRead a d crc n) s = .next s ∧ exec (.spiWrite a d crc n) s = .next s ∧ exec (.spiNop a d crc n) s = .next s ∧
      exec (.spiBurstRead a h crc n b) s = .next s ∧ exec (.spiBurstWrite a h crc n segs) s = .next s) ∧
  (∀ (s : State) (a : BitVec 14) (d : Word) (crc : BitVec 8), s.busesRun = true → spiCrc (frameBytes 0 a d) = crc →
    ∃ t, exec (.spiNop a d crc 56) s = .next t ∧
      t.hif.sdo.extractLsb' 48 8 = BitVec.ofNat 8 (s.spiStatus s.hif.answer.frameErr s.hif.answer.accErr) ∧
      t.hif.sdo.extractLsb' 40 8 = BitVec.ofNat 8 s.hif.answer.tag ∧ t.hif.sdo.extractLsb' 8 32 = s.hif.answer.data ∧
      t.hif.sdo.extractLsb' 0 8 = spiCrc ([BitVec.ofNat 8 (s.spiStatus s.hif.answer.frameErr s.hif.answer.accErr), BitVec.ofNat 8 s.hif.answer.tag] ++ wordBytes s.hif.answer.data) ∧
      t.hif.answer = { tag := s.hif.heldTag, data := s.hif.held } ∧ t.get HIF_SPI_CNT.FRAMES = (s.get HIF_SPI_CNT.FRAMES + 1) % 65536 ∧
      SameRegistersBut [HIF_SPI_CNT.addr] s t ∧ SameMemories s t) ∧
  (∀ (s : State) (a : BitVec 14) (d : Word) (h : BitVec 31) (crc : BitVec 8) (n : Nat) (b : Bool) (segs : List (Word × BitVec 8)) (c : Instr), s.busesRun = true →
    (n ≠ 56 ∧ (c = .spiRead a d crc n ∨ c = .spiWrite a d crc n ∨ c = .spiNop a d crc n) ∨
      n < 56 ∧ (c = .spiBurstRead a h crc n b ∨ c = .spiBurstWrite a h crc n segs)) →
    ∃ t, exec c s = .next t ∧ t.is HIF_FLAGS.SPI_LEN = true ∧ t.get HIF_SPI_CNT.ERR_CNT = (s.get HIF_SPI_CNT.ERR_CNT + 1) % 65536 ∧
      t.hif.answer = { frameErr := true } ∧ SameRegistersBut [HIF_FLAGS.addr, HIF_SPI_CNT.addr] s t ∧ SameMemories s t) ∧
  (∀ (s : State) (a : BitVec 14) (d : Word) (h : BitVec 31) (crc : BitVec 8) (n : Nat) (b : Bool) (segs : List (Word × BitVec 8)) (c : Instr), s.busesRun = true → 56 ≤ n →
    (c = .spiRead a d crc 56 ∧ spiCrc (frameBytes 1 a d) ≠ crc ∨ c = .spiWrite a d crc 56 ∧ spiCrc (frameBytes 2 a d) ≠ crc ∨
      c = .spiNop a d crc 56 ∧ spiCrc (frameBytes 0 a d) ≠ crc ∨ c = .spiBurstRead a h crc n b ∧ spiCrc (frameBytes 3 a (h.setWidth 32)) ≠ crc ∨
      c = .spiBurstWrite a h crc n segs ∧ spiCrc (frameBytes 3 a (0x80000000#32 ||| h.setWidth 32)) ≠ crc) →
    ∃ t, exec c s = .next t ∧ t.is HIF_FLAGS.SPI_CRC = true ∧ t.get HIF_SPI_CNT.ERR_CNT = (s.get HIF_SPI_CNT.ERR_CNT + 1) % 65536 ∧
      t.hif.answer = { frameErr := true } ∧ SameRegistersBut [HIF_FLAGS.addr, HIF_SPI_CNT.addr] s t ∧ SameMemories s t) ∧
  (∀ (s : State) (a : BitVec 14) (d : Word) (crc : BitVec 8), s.busesRun = true → spiCrc (frameBytes 1 a d) = crc → s.readServed (4 * a.toNat) = true →
    ∃ t, exec (.spiRead a d crc 56) s = .next t ∧ t.hif.held = (s.respond.busRead 0 (4 * a.toNat)).1 ∧ t.hif.heldTag = a.toNat % 256 ∧
      t.hif.answer = { tag := a.toNat % 256, data := (s.respond.busRead 0 (4 * a.toNat)).1 } ∧
      t.get HIF_SPI_CNT.FRAMES = (s.get HIF_SPI_CNT.FRAMES + 1) % 65536) ∧
  (∀ (s : State) (a : BitVec 14) (d : Word) (crc : BitVec 8), s.busesRun = true → spiCrc (frameBytes 2 a d) = crc → s.writeServed (4 * a.toNat) = true →
    (s.respond.busWrite 0 (4 * a.toNat) d).saf.inReset = none →
    ∃ t, exec (.spiWrite a d crc 56) s = .next t ∧ t.hif.answer = { tag := a.toNat % 256 } ∧ t.hif.held = (s.respond.busWrite 0 (4 * a.toNat) d).hif.held ∧
      (∀ r, r ≠ HIF_SPI_CNT.addr → t.rd r = (s.respond.busWrite 0 (4 * a.toNat) d).rd r) ∧ SameMemories (s.respond.busWrite 0 (4 * a.toNat) d) t) ∧
  (∀ (s : State) (a : BitVec 14) (d : Word) (h : BitVec 31) (crc : BitVec 8) (n : Nat) (segs : List (Word × BitVec 8)) (c : Instr), s.busesRun = true → 56 ≤ n →
    (c = .spiRead a d crc 56 ∧ spiCrc (frameBytes 1 a d) = crc ∧ s.readServed (4 * a.toNat) = false ∨
      c = .spiWrite a d crc 56 ∧ spiCrc (frameBytes 2 a d) = crc ∧ s.writeServed (4 * a.toNat) = false ∨
      c = .spiBurstWrite a h crc n segs ∧ spiCrc (frameBytes 3 a (0x80000000#32 ||| h.setWidth 32)) = crc ∧ badHeader (4 * a.toNat) h = false ∧
        s.writeServed (4 * a.toNat) = false) →
    ∃ t, exec c s = .next t ∧ t.hif.answer = { accErr := true } ∧ (s.fullService = true → t.is HIF_FLAGS.SPI_ACC = true) ∧ t.hif.held = s.hif.held ∧
      SameRegistersBut [HIF_FLAGS.addr] s t ∧ SameMemories s t) ∧
  (∀ (s : State) (a : BitVec 14) (h : BitVec 31) (crc : BitVec 8) (n : Nat) (b : Bool) (segs : List (Word × BitVec 8)) (c : Instr), s.busesRun = true → 56 ≤ n →
    (c = .spiBurstRead a h crc n b ∧ spiCrc (frameBytes 3 a (h.setWidth 32)) = crc ∨
      c = .spiBurstWrite a h crc n segs ∧ spiCrc (frameBytes 3 a (0x80000000#32 ||| h.setWidth 32)) = crc) →
    (256 ≤ h.toNat ∨ 0x10000 < 4 * a.toNat + 4 * (h.toNat % 256 + 1)) →
    ∃ t, exec c s = .next t ∧ t.is HIF_FLAGS.SPI_CMD = true ∧ t.get HIF_SPI_CNT.ERR_CNT = (s.get HIF_SPI_CNT.ERR_CNT + 1) % 65536 ∧
      t.hif.answer = { frameErr := true } ∧ SameRegistersBut [HIF_FLAGS.addr, HIF_SPI_CNT.addr] s t ∧ SameMemories s t) ∧
  (∀ (s : State) (a : BitVec 14) (h : BitVec 31) (crc : BitVec 8) (b : Bool) (k : Nat), s.busesRun = true → spiCrc (frameBytes 3 a (h.setWidth 32)) = crc →
    badHeader (4 * a.toNat) h = false → (∀ j, j ≤ h.toNat → s.readServed (4 * a.toNat + 4 * j) = true) → k ≤ h.toNat + 1 →
    ∃ t, exec (.spiBurstRead a h crc (64 + 40 * k) b) s = .next t ∧ t.hif.words = (s.respond.readRun 0 (4 * a.toNat) k).1 ∧
      t.get HIF_BURST.DONE = k ∧ t.get HIF_BURST.COUNT = h.toNat + 1 ∧ t.get HIF_BURST.DIR = 0 ∧ (k ≤ h.toNat → t.is HIF_FLAGS.BURST_ABORT = true) ∧
      t.hif.answer = { tag := a.toNat % 256, data := t.rd HIF_BURST.addr } ∧
      (0 < k → t.hif.held = (s.respond.readRun 0 (4 * a.toNat) k).1.getLastD 0 ∧ t.hif.heldTag = (a.toNat + k - 1) % 256)) ∧
  (∀ (s : State) (a : BitVec 14) (h : BitVec 31) (crc : BitVec 8) (segs : List (Word × BitVec 8)) (done : Nat) (ref : Bool) (u : State), s.busesRun = true →
    spiCrc (frameBytes 3 a (0x80000000#32 ||| h.setWidth 32)) = crc → badHeader (4 * a.toNat) h = false → s.chipSafe = false →
    s.writeServed (4 * a.toNat) = true → segs.length = h.toNat + 1 → s.respond.writeSegments (4 * a.toNat) segs 0 = (done, ref, u) → u.saf.inReset = none →
    ∃ t, exec (.spiBurstWrite a h crc (64 + 40 * (h.toNat + 1)) segs) s = .next t ∧ t.get HIF_BURST.DONE = done ∧ t.get HIF_BURST.COUNT = h.toNat + 1 ∧
      t.get HIF_BURST.DIR = 1 ∧ (done ≤ h.toNat → t.is HIF_FLAGS.BURST_ABORT = true) ∧ (ref = true → t.is HIF_FLAGS.SPI_ACC = true) ∧
      t.hif.answer = { tag := a.toNat % 256, data := t.rd HIF_BURST.addr } ∧
      (∀ r, r ∉ [HIF_BURST.addr, HIF_FLAGS.addr, HIF_SPI_CNT.addr] → t.rd r = u.rd r) ∧ SameMemories u t) ∧
  (∀ (s : State) (a done : Nat) (w : Word) (crc : BitVec 8) (rest : List (Word × BitVec 8)),
    s.writeSegments a ((w, crc) :: rest) done =
      if spiCrc (wordBytes w) ≠ crc then (done, false, s) else if s.writeServed a = false then (done, true, s)
      else (s.busWrite 0 a w).writeSegments (a + 4) rest (done + 1))

/-- R307 to R314, R317, R446: the I2C target and the re-arm gap of `INT_N`. -/
def Obligations.I2cTransactions : Prop :=
  (∀ (s : State) (reg : BitVec 16) (bytes : List (BitVec 8)) (n : Nat), s.busesRun = false →
    exec (.i2cWrite reg bytes) s = .next s ∧ exec (.i2cRead (some reg) n) s = .next s ∧ exec (.i2cRead none n) s = .next s ∧
      exec .i2cSclTimeout s = .next s ∧ exec .i2cSdaTimeout s = .next s ∧ exec .i2cStartInAck s = .next s) ∧
  (∀ (s : State) (reg : BitVec 16) (bytes : List (BitVec 8)) (n : Nat) (c : Instr), s.busesRun = true → s.is HIF_CTRL.I2C_EN = false →
    (c = .i2cWrite reg bytes ∨ c = .i2cRead (some reg) n ∨ c = .i2cRead none n) →
    ∃ t, exec c s = .next t ∧ t.is HIF_FLAGS.I2C_BUSY_NACK = true ∧ t.get HIF_I2C_CNT.ERR_CNT = (s.get HIF_I2C_CNT.ERR_CNT + 1) % 65536 ∧
      OnlyRegisters [HIF_FLAGS.addr, HIF_I2C_CNT.addr] s t) ∧
  (∀ (s : State) (reg : BitVec 16) (bytes : List (BitVec 8)) (n : Nat) (c : Instr), s.busesRun = true → s.is HIF_CTRL.I2C_EN = true → reg.toNat % 4 ≠ 0 →
    (c = .i2cWrite reg bytes ∨ c = .i2cRead (some reg) n) →
    ∃ t, exec c s = .next t ∧ t.is HIF_FLAGS.I2C_ALIGN = true ∧ t.get HIF_I2C_CNT.ERR_CNT = (s.get HIF_I2C_CNT.ERR_CNT + 1) % 65536 ∧
      OnlyRegisters [HIF_FLAGS.addr, HIF_I2C_CNT.addr] s t) ∧
  (∀ (s : State) (reg : BitVec 16) (b0 b1 b2 b3 : BitVec 8), s.busesRun = true → s.is HIF_CTRL.I2C_EN = true → reg.toNat % 4 = 0 →
    s.is HIF_CTRL.PEC_EN = false → s.writeServed reg.toNat = true → (s.busWrite 1 reg.toNat (b0 ++ b1 ++ b2 ++ b3)).saf.inReset = none →
    ∃ t, exec (.i2cWrite reg [b0, b1, b2, b3]) s = .next t ∧
      t.get HIF_I2C_PTR.PTR = (if reg.toNat = 0xFFFC then 0xFFFC else reg.toNat + 4) ∧
      t.get HIF_I2C_CNT.WORDS = ((s.busWrite 1 reg.toNat (b0 ++ b1 ++ b2 ++ b3)).get HIF_I2C_CNT.WORDS + 1) % 65536 ∧
      OnlyRegisters [HIF_I2C_CNT.addr, HIF_I2C_PTR.addr] (s.busWrite 1 reg.toNat (b0 ++ b1 ++ b2 ++ b3)) t) ∧
  (∀ (s : State) (reg : BitVec 16) (bytes : List (BitVec 8)), s.busesRun = true → s.is HIF_CTRL.I2C_EN = true → reg.toNat % 4 = 0 → bytes ≠ [] →
    s.writeServed reg.toNat = true →
    (s.is HIF_CTRL.PEC_EN = false ∧ bytes.length < 4 ∨ s.is HIF_CTRL.PEC_EN = true ∧ bytes.length < 5) →
    ∃ t, exec (.i2cWrite reg bytes) s = .next t ∧ t.is HIF_FLAGS.I2C_PARTIAL = true ∧ t.get HIF_I2C_CNT.ERR_CNT = (s.get HIF_I2C_CNT.ERR_CNT + 1) % 65536 ∧
      OnlyRegisters [HIF_FLAGS.addr, HIF_I2C_CNT.addr] s t) ∧
  (∀ (s : State) (reg : BitVec 16) (bytes : List (BitVec 8)), s.busesRun = true → s.is HIF_CTRL.I2C_EN = true → reg.toNat % 4 = 0 → bytes ≠ [] →
    s.writeServed reg.toNat = false →
    ∃ t, exec (.i2cWrite reg bytes) s = .next t ∧ t.is HIF_FLAGS.I2C_ACC = true ∧ t.get HIF_I2C_CNT.ERR_CNT = (s.get HIF_I2C_CNT.ERR_CNT + 1) % 65536 ∧
      OnlyRegisters [HIF_FLAGS.addr, HIF_I2C_CNT.addr] s t) ∧
  (∀ (s : State) (reg : BitVec 16) (b0 b1 b2 b3 p : BitVec 8), s.busesRun = true → s.is HIF_CTRL.I2C_EN = true → reg.toNat % 4 = 0 →
    s.is HIF_CTRL.PEC_EN = true → s.writeServed reg.toNat = true →
    (smbusPec [BitVec.ofNat 8 (2 * s.get GLB_STRAP.I2C_ADDR), reg.extractLsb' 8 8, reg.extractLsb' 0 8, b0, b1, b2, b3] = p →
      (s.busWrite 1 reg.toNat (b0 ++ b1 ++ b2 ++ b3)).saf.inReset = none →
      ∃ t, exec (.i2cWrite reg [b0, b1, b2, b3, p]) s = .next t ∧
        OnlyRegisters [HIF_I2C_CNT.addr, HIF_I2C_PTR.addr] (s.busWrite 1 reg.toNat (b0 ++ b1 ++ b2 ++ b3)) t) ∧
    (smbusPec [BitVec.ofNat 8 (2 * s.get GLB_STRAP.I2C_ADDR), reg.extractLsb' 8 8, reg.extractLsb' 0 8, b0, b1, b2, b3] ≠ p →
      ∃ t, exec (.i2cWrite reg [b0, b1, b2, b3, p]) s = .next t ∧ t.is HIF_FLAGS.I2C_PEC = true ∧
        OnlyRegisters [HIF_FLAGS.addr, HIF_I2C_CNT.addr] s t)) ∧
  (∀ (s : State) (reg : Option (BitVec 16)) (a n : Nat), a = (reg.map (fun r => r.toNat)).getD (s.get HIF_I2C_PTR.PTR) → s.busesRun = true →
    s.is HIF_CTRL.I2C_EN = true → a % 4 = 0 → s.readServed a = true → (s.is HIF_CTRL.PEC_EN = true ∨ n ≤ 4) →
    ∃ t, exec (.i2cRead reg n) s = .next t ∧ t.hif.words = [(s.busRead 1 a).1] ∧ t.get HIF_I2C_PTR.PTR = (if a = 0xFFFC then 0xFFFC else a + 4) ∧
      t.get HIF_I2C_CNT.WORDS = (s.get HIF_I2C_CNT.WORDS + 1) % 65536 ∧
      t.hif.pec = (if s.is HIF_CTRL.PEC_EN then
        some (smbusPec ((match reg with
          | some r => [BitVec.ofNat 8 (2 * s.get GLB_STRAP.I2C_ADDR), r.extractLsb' 8 8, r.extractLsb' 0 8]
          | none => []) ++ [BitVec.ofNat 8 (2 * s.get GLB_STRAP.I2C_ADDR + 1)] ++ wordBytes (s.busRead 1 a).1)) else none)) ∧
  (∀ (s : State), s.busesRun = true → s.is HIF_CTRL.I2C_EN = true →
    (∃ t, exec .i2cSclTimeout s = .next t ∧ t.is HIF_FLAGS.I2C_TO_SCL = true ∧ t.get HIF_STATUS.I2C_STATE = 0 ∧
      t.get HIF_I2C_CNT.ERR_CNT = (s.get HIF_I2C_CNT.ERR_CNT + 1) % 65536 ∧ OnlyRegisters [HIF_FLAGS.addr, HIF_I2C_CNT.addr, HIF_STATUS.addr] s t) ∧
    (∃ t, exec .i2cSdaTimeout s = .next t ∧ t.is HIF_FLAGS.I2C_TO_SDA = true ∧ t.get HIF_STATUS.I2C_STATE = 0 ∧
      t.get HIF_I2C_CNT.ERR_CNT = (s.get HIF_I2C_CNT.ERR_CNT + 1) % 65536 ∧ OnlyRegisters [HIF_FLAGS.addr, HIF_I2C_CNT.addr, HIF_STATUS.addr] s t) ∧
    (∃ t, exec .i2cStartInAck s = .next t ∧ t.is HIF_FLAGS.I2C_SR_IN_ACK = true ∧ t.get HIF_STATUS.I2C_STATE = 1 ∧
      t.get HIF_I2C_CNT.ERR_CNT = (s.get HIF_I2C_CNT.ERR_CNT + 1) % 65536 ∧ OnlyRegisters [HIF_FLAGS.addr, HIF_I2C_CNT.addr, HIF_STATUS.addr] s t)) ∧
  (∀ (s : State) (t0 : Nat), s.hif.rearmUntil = some t0 → t0 ≤ s.time →
    ∃ t, exec .intRearmEnd s = .next t ∧ t.hif.rearmUntil = none ∧ (s.fullService = true → s.saf.vioLow = false → t.intLow = s.intDue) ∧ SameRegistersBut [] s t ∧ SameMemories s t) ∧
  (∀ (s : State) (t0 : Nat), (s.hif.rearmUntil = none ∨ (s.hif.rearmUntil = some t0 ∧ s.time < t0)) → exec .intRearmEnd s = .next s)

/-- R318 to R322: the auxiliary I2C controller. A GO starts a transaction, waits for the bus clear or is refused with BUSY_REJ or BAD_CMD; a
transaction ends with DONE or with a NACK flag; a timeout or a lost arbitration runs the bus clear, which leaves the bus free or stuck. -/
def Obligations.AuxController : Prop :=
  (∀ (s : State) (m : Master) (cmd : Word), s.mayWrite m = true → AUX_CMD.GO.of cmd = 1 → s.is AUX_CTRL.EN = true → s.is AUX_STATUS.STUCK = false →
    AUX_CMD.RLEN.of cmd ≤ 16 → AUX_CMD.WLEN.of cmd ≤ 16 → s.get AUX_STATUS.STATE ≠ 1 → s.is AUX_STATUS.BUSY = false →
    ∃ t, exec (.auxGo m cmd) s = .next t ∧ t.is AUX_STATUS.BUSY = true ∧ t.get AUX_STATUS.STATE = 2 ∧ t.get AUX_STATUS.OWNER = m.val ∧
      t.get AUX_STATUS.RX_CNT = 0 ∧ t.get AUX_STATUS.TX_CNT = 0 ∧ t.aux.cmd = cmd ∧ SameRegistersBut [AUX_STATUS.addr] s t ∧ SameMemories s t) ∧
  (∀ (s : State) (m : Master) (cmd : Word), s.mayWrite m = true → AUX_CMD.GO.of cmd = 1 → (s.is AUX_CTRL.EN = false ∨ s.is AUX_STATUS.STUCK = true) →
    exec (.auxGo m cmd) s = .next (s.raise AUX_FLAGS.BUSY_REJ)) ∧
  (∀ (s : State) (m : Master) (cmd : Word), s.mayWrite m = true → AUX_CMD.GO.of cmd = 1 → s.is AUX_CTRL.EN = true → s.is AUX_STATUS.STUCK = false →
    (16 < AUX_CMD.RLEN.of cmd ∨ 16 < AUX_CMD.WLEN.of cmd) → exec (.auxGo m cmd) s = .next (s.raise AUX_FLAGS.BAD_CMD)) ∧
  (∀ (s : State) (m : Master) (cmd : Word), s.mayWrite m = true → AUX_CMD.GO.of cmd = 1 → s.is AUX_CTRL.EN = true → s.is AUX_STATUS.STUCK = false →
    AUX_CMD.RLEN.of cmd ≤ 16 → AUX_CMD.WLEN.of cmd ≤ 16 → s.get AUX_STATUS.STATE = 1 → s.aux.held = none →
    ∃ t, exec (.auxGo m cmd) s = .next t ∧ t.aux.held = some (m.val, cmd) ∧ SameRegistersBut [] s t ∧ SameMemories s t) ∧
  (∀ (s : State) (m : Master) (cmd : Word), s.mayWrite m = true → AUX_CMD.GO.of cmd = 1 → s.is AUX_CTRL.EN = true → s.is AUX_STATUS.STUCK = false →
    AUX_CMD.RLEN.of cmd ≤ 16 → AUX_CMD.WLEN.of cmd ≤ 16 → s.get AUX_STATUS.STATE ≠ 1 → s.is AUX_STATUS.BUSY = true →
    exec (.auxGo m cmd) s = .next (s.raise AUX_FLAGS.BUSY_REJ)) ∧
  (∀ (s : State) (m : Master) (cmd : Word), (s.mayWrite m = false ∨ AUX_CMD.GO.of cmd = 0) → exec (.auxGo m cmd) s = .next s) ∧
  (∀ (s : State) (aw ar : Bool) (acked : Nat) (rx : List (BitVec 8)), s.is AUX_STATUS.BUSY = true → s.get AUX_STATUS.STATE ≠ 1 →
    AUX_CMD.WLEN.of s.aux.cmd ≤ acked → AUX_CMD.WLEN.of s.aux.cmd ≤ 16 → AUX_CMD.RLEN.of s.aux.cmd ≤ 16 → rx.length = AUX_CMD.RLEN.of s.aux.cmd →
    aw = true → ar = true →
    ∃ t, exec (.auxTransactionDone aw ar acked rx) s = .next t ∧ t.is AUX_FLAGS.DONE = true ∧ t.is AUX_STATUS.BUSY = false ∧ t.get AUX_STATUS.STATE = 0 ∧
      t.get AUX_STATUS.TX_CNT = AUX_CMD.WLEN.of s.aux.cmd ∧ t.get AUX_STATUS.RX_CNT = rx.length ∧
      (rx ≠ [] → ∀ k, k < 4 → t.rd (AUX_RX.addr k) = rx.getD (4 * k) 0 ++ rx.getD (4 * k + 1) 0 ++ rx.getD (4 * k + 2) 0 ++ rx.getD (4 * k + 3) 0) ∧
      SameRegistersBut ([AUX_STATUS.addr, AUX_FLAGS.addr] ++ (List.range 4).map AUX_RX.addr) s t ∧ SameMemories s t) ∧
  (∀ (s : State) (ar : Bool) (acked : Nat) (rx : List (BitVec 8)), s.is AUX_STATUS.BUSY = true → s.get AUX_STATUS.STATE ≠ 1 →
    AUX_CMD.WLEN.of s.aux.cmd ≠ 0 →
    ∃ t, exec (.auxTransactionDone false ar acked rx) s = .next t ∧ t.is AUX_FLAGS.NACK_ADDR = true ∧ t.is AUX_STATUS.BUSY = false ∧
      t.get AUX_STATUS.STATE = 0 ∧ SameRegistersBut [AUX_STATUS.addr, AUX_FLAGS.addr] s t ∧ SameMemories s t) ∧
  (∀ (s : State) (ar : Bool) (acked : Nat) (rx : List (BitVec 8)), s.is AUX_STATUS.BUSY = true → s.get AUX_STATUS.STATE ≠ 1 →
    acked < AUX_CMD.WLEN.of s.aux.cmd → AUX_CMD.WLEN.of s.aux.cmd ≤ 16 →
    ∃ t, exec (.auxTransactionDone true ar acked rx) s = .next t ∧ t.is AUX_FLAGS.NACK_DATA = true ∧ t.get AUX_STATUS.TX_CNT = acked ∧
      t.is AUX_STATUS.BUSY = false ∧ SameRegistersBut [AUX_STATUS.addr, AUX_FLAGS.addr] s t ∧ SameMemories s t) ∧
  (∀ (s : State) (aw ar : Bool) (acked : Nat) (rx : List (BitVec 8)), s.is AUX_STATUS.BUSY = false → exec (.auxTransactionDone aw ar acked rx) s = .next s) ∧
  (∀ (s : State) (m : Master) (data : Word), s.mayWrite m = true → s.is AUX_CTRL.EN = false → AUX_CTRL.EN.of data = 1 →
    ∃ t, exec (.auxEnable m data) s = .next t ∧ t.is AUX_CTRL.EN = true ∧ t.get AUX_STATUS.STATE = 1 ∧ t.is AUX_STATUS.BUSY = true ∧
      t.is AUX_STATUS.STUCK = false ∧ t.aux.clearAt = s.time ∧ SameRegistersBut [AUX_CTRL.addr, AUX_STATUS.addr] s t ∧ SameMemories s t) ∧
  (∀ (s : State) (m : Master) (data : Word), (s.mayWrite m = false ∨ s.is AUX_CTRL.EN = true ∨ AUX_CTRL.EN.of data = 0) → exec (.auxEnable m data) s = .next s) ∧
  (∀ (s : State) (scl : Bool) (p : Nat), s.get AUX_STATUS.STATE = 1 → s.aux.clearAt + us 10 ≤ s.time → (scl = true ∨ 9 < p) →
    ∃ t, exec (.auxBusClearDone scl p) s = .next t ∧ t.is AUX_STATUS.STUCK = true ∧ t.get AUX_STATUS.STATE = 6 ∧ t.is AUX_FLAGS.STUCK = true ∧
      t.is AUX_STATUS.BUSY = false ∧ t.aux.held = none ∧ (s.aux.held.isSome = true → t.is AUX_FLAGS.BUSY_REJ = true) ∧
      SameRegistersBut [AUX_STATUS.addr, AUX_FLAGS.addr] s t ∧ SameMemories s t) ∧
  (∀ (s : State) (p : Nat), s.get AUX_STATUS.STATE = 1 → s.aux.clearAt + us 10 ≤ s.time → p ≤ 9 → s.aux.held = none →
    ∃ t, exec (.auxBusClearDone false p) s = .next t ∧ t.get AUX_STATUS.STATE = 0 ∧ t.is AUX_STATUS.BUSY = false ∧ (0 < p → t.is AUX_FLAGS.CLEARED = true) ∧
      SameRegistersBut [AUX_STATUS.addr, AUX_FLAGS.addr] s t ∧ SameMemories s t) ∧
  (∀ (s : State) (p m : Nat) (cmd : Word), s.get AUX_STATUS.STATE = 1 → s.aux.clearAt + us 10 ≤ s.time → p ≤ 9 → s.aux.held = some (m, cmd) →
    ∃ t, exec (.auxBusClearDone false p) s = .next t ∧ t.get AUX_STATUS.STATE = 2 ∧ t.is AUX_STATUS.BUSY = true ∧ t.get AUX_STATUS.OWNER = m % 8 ∧
      t.aux.cmd = cmd ∧ t.aux.held = none) ∧
  (∀ (s : State) (scl : Bool) (p : Nat), (s.get AUX_STATUS.STATE ≠ 1 ∨ s.time < s.aux.clearAt + us 10) → exec (.auxBusClearDone scl p) s = .next s) ∧
  (∀ (s : State), s.is AUX_STATUS.BUSY = true → s.get AUX_STATUS.STATE ≠ 1 →
    (∃ t, exec .auxTimeout s = .next t ∧ t.is AUX_FLAGS.TIMEOUT = true ∧ t.get AUX_STATUS.STATE = 1 ∧ t.is AUX_STATUS.BUSY = true ∧ t.aux.clearAt = s.time ∧
      SameRegistersBut [AUX_STATUS.addr, AUX_FLAGS.addr] s t ∧ SameMemories s t) ∧
    (∃ t, exec .auxArbLost s = .next t ∧ t.is AUX_FLAGS.ARB_LOST = true ∧ t.get AUX_STATUS.STATE = 1 ∧ t.is AUX_STATUS.BUSY = true ∧ t.aux.clearAt = s.time ∧
      SameRegistersBut [AUX_STATUS.addr, AUX_FLAGS.addr] s t ∧ SameMemories s t)) ∧
  (∀ (s : State), s.is AUX_STATUS.BUSY = false → exec .auxTimeout s = .next s ∧ exec .auxArbLost s = .next s)

/-- R69, R83, R328, R330, R333, R334, R340, R341, R344 to R348, R354: attachment, the port's protections and its stops. The Type-C state that each event
leaves, what the partner's loss ends, and the flags; the choice of state follows `ROLE`. -/
def Obligations.PortAttachment : Prop :=
  (∀ (s : State) (l : Fin 4) (cc2 : Bool), s.portUp = true → l.val ≠ 0 → s.get SVC_CTRL.ROLE ≠ 2 → 1 ≤ s.get SVC_STATUS.TC_STATE → s.get SVC_STATUS.TC_STATE ≤ 4 →
    ∃ t, exec (.typecAttach l cc2) s = .next t ∧ t.get SVC_STATUS.TC_STATE = 5 ∧ t.get SVC_STATUS.RP_LEVEL = l.val ∧ t.is SVC_STATUS.ORIENT = cc2 ∧
      t.is SVC_STATUS.POWER_ROLE = false ∧ t.is SVC_STATUS.DATA_ROLE = false ∧ t.is SVC_FLAGS.ATTACH = true ∧ t.is SRC_STATUS.VBUS_QUAL = true ∧
      t.get SRC_CEIL_VBUS.CEIL = typeCCurrent l.val ∧ t.svc.tryAt = none ∧ SameMemories s t) ∧
  (∀ (s : State) (cc2 : Bool), s.portUp = true → s.get SVC_CTRL.ROLE = 0 → s.packBars = false → 1 ≤ s.get SVC_STATUS.TC_STATE → s.get SVC_STATUS.TC_STATE ≤ 3 →
    ∃ t, exec (.typecAttach 0 cc2) s = .next t ∧ t.get SVC_STATUS.TC_STATE = 4 ∧ t.svc.tryAt = some s.time ∧ SameRegistersBut [SVC_STATUS.addr] s t ∧ SameMemories s t) ∧
  (∀ (s : State) (cc2 : Bool), s.portUp = true → s.get SVC_CTRL.ROLE = 2 → s.packBars = false → 1 ≤ s.get SVC_STATUS.TC_STATE → s.get SVC_STATUS.TC_STATE ≤ 3 →
    ∃ t, exec (.typecAttach 0 cc2) s = .next t ∧ t.get SVC_STATUS.TC_STATE = 6 ∧ t.is SVC_STATUS.POWER_ROLE = true ∧ t.is SVC_STATUS.DATA_ROLE = true ∧
      t.is SVC_STATUS.VCONN_ON = true ∧ t.is SVC_FLAGS.ATTACH = true ∧ t.get PRT_STATUS.MODE = 4 ∧ SameMemories s t) ∧
  (∀ (s : State) (l : Fin 4) (cc2 : Bool), (s.get GLB_REGION.SERVICE = 1 ∨ s.get GLB_REGION.SERVICE = 3) → l.val ≠ 0 →
    ∃ t, exec (.typecAttach l cc2) s = .next t ∧ t.get SVC_STATUS.TC_STATE = 5 ∧ t.get SVC_STATUS.RP_LEVEL = l.val ∧ t.svc.romSink = true ∧
      SameRegistersBut [SVC_STATUS.addr] s t ∧ SameMemories s t) ∧
  (∀ (s : State), s.portUp = true → s.get SVC_STATUS.TC_STATE = 5 → s.get SRC_STATUS.PRIMARY ≠ 4 → s.svc.swap = none → s.svc.recoveryEnd = none →
    ∃ t, exec .typecDetach s = .next t ∧ t.get SVC_STATUS.TC_STATE = (if s.get SVC_CTRL.ROLE = 2 then 2 else 1) ∧ t.is SVC_FLAGS.DETACH = true ∧
      t.svc.contract = none ∧ t.get SVC_STATUS.CONTRACT = 0 ∧ t.is SRC_STATUS.VBUS_QUAL = false ∧ t.is SVC_STATUS.VCONN_ON = false ∧
      t.get PRT_STATUS.MODE = 0 ∧ t.get SVC_STATUS.RP_LEVEL = 0 ∧ SameMemories s t) ∧
  (∀ (s : State), s.get GLB_REGION.SERVICE = 2 → s.get SVC_STATUS.TC_STATE < 4 → exec .typecDetach s = .next s) ∧
  (∀ (s : State), s.portUp = true → s.get SVC_CTRL.ROLE = 0 → s.packBars = false → (s.get SVC_STATUS.TC_STATE = 1 ∨ s.get SVC_STATUS.TC_STATE = 2) →
    ∃ t, exec .drpToggle s = .next t ∧ t.get SVC_STATUS.TC_STATE = 3 - s.get SVC_STATUS.TC_STATE ∧ SameRegistersBut [SVC_STATUS.addr] s t ∧ SameMemories s t) ∧
  (∀ (s : State), (s.get SVC_CTRL.ROLE ≠ 0 ∨ s.packBars = true ∨ s.portUp = false) → exec .drpToggle s = .next s) ∧
  (∀ (s : State) (v : Nat), 1 ≤ s.get PRT_STATUS.MODE → s.get PRT_STATUS.MODE ≤ 4 → s.svc.swap = none →
    (5200 < v ∨ s.get PRT_STATUS.MODE = 4 ∧ 11 * s.contractVolt + 500 < 10 * v ∨ s.get PRT_STATUS.MODE ≠ 4 ∧ 11 * s.contractVolt < 10 * v ∧ 5500 < 10 * v) →
    ∃ t, exec (.vbusOvervoltage v) s = .next t ∧ t.is PRT_FLAGS.VBUS_OV = true ∧ (s.get SVC_STATUS.PD_STATE = 4 → t.get PRT_STATUS.MODE = 0) ∧
      (s.get SVC_STATUS.PD_STATE ≠ 4 → t.svc.sent = some .hardReset ∧ t.is SVC_FLAGS.HARD_RESET = true ∧ t.svc.contract = none)) ∧
  (∀ (s : State) (v : Nat) (i : Int), (s.get PRT_STATUS.MODE = 0 ∨ 5 ≤ s.get PRT_STATUS.MODE) →
    exec (.vbusOvervoltage v) s = .next s ∧ exec (.portBackfeed i) s = .next s) ∧
  (∀ (s : State) (i : Int), s.svc.swap = none →
    (s.get PRT_STATUS.MODE = 4 ∧ i < -50 ∨ 1 ≤ s.get PRT_STATUS.MODE ∧ s.get PRT_STATUS.MODE ≤ 3 ∧ 50 < i) →
    ∃ t, exec (.portBackfeed i) s = .next t ∧ t.is PRT_FLAGS.BACKFEED = true ∧ (s.get SVC_STATUS.PD_STATE = 4 → t.get PRT_STATUS.MODE = 0) ∧
      (s.get SVC_STATUS.PD_STATE ≠ 4 → t.svc.sent = some .hardReset ∧ t.is SVC_FLAGS.HARD_RESET = true ∧ t.svc.contract = none)) ∧
  (∀ (s : State) (v : Nat), v < 400 → s.is SRC_STATUS.VBUS_QUAL = true →
    ∃ t, exec (.vbusLoss v) s = .next t ∧ (s.get SRC_STATUS.PRIMARY ≠ 4 → t.is SRC_STATUS.VBUS_QUAL = false ∧ t.rd SRC_CEIL_VBUS.addr = 0 ∧
        t.get PRT_STATUS.MODE = 0 ∧ SameMemories s t) ∧
      (s.get SRC_STATUS.PRIMARY = 4 → t.get SRC_STATUS.XFER = 4 ∧ t.get SRC_XFER.FROM = 4 ∧ t.get SRC_XFER.CAUSE = 2)) ∧
  (∀ (s : State) (v : Nat), (400 ≤ v ∨ s.is SRC_STATUS.VBUS_QUAL = false) → exec (.vbusLoss v) s = .next s) ∧
  (∀ (s : State) (l : Fin 4), (s.get GLB_REGION.SERVICE = 1 ∨ s.get GLB_REGION.SERVICE = 3) → s.chipSafe = false → s.qualified 1 = false → s.qualified 2 = false →
    bitOf s.saf.keepInputs 2 = true → l.val ≠ 0 → s.get SRC_STATUS.PRIMARY ≠ 4 →
    ∃ t, exec (.deadBatterySink l) s = .next t ∧ t.get SVC_STATUS.TC_STATE = 5 ∧ t.get SVC_STATUS.RP_LEVEL = l.val ∧ t.get SRC_CEIL_VBUS.CEIL = typeCCurrent l.val ∧
      t.is SRC_STATUS.VBUS_QUAL = true ∧ t.is PRT_FLAGS.DB_SINK = true ∧ t.get SRC_STATUS.PRIMARY = 4 ∧ t.get PRT_STATUS.MODE = 1 ∧ t.svc.romSink = true ∧ SameMemories s t) ∧
  (∀ (s : State) (l : Fin 4), (s.get GLB_REGION.SERVICE = 2 ∨ s.qualified 1 = true ∨ s.qualified 2 = true) → exec (.deadBatterySink l) s = .next s) ∧
  (∀ (s : State) (v : Nat) (l : Fin 4), s.isSink = true → 475 ≤ v → s.svc.awaitVbus = 1 →
    ∃ t, exec (.vbusRestored v l) s = .next t ∧ t.get SVC_STATUS.RP_LEVEL = l.val ∧ t.get SRC_CEIL_VBUS.CEIL = typeCCurrent l.val ∧
      t.is SRC_STATUS.VBUS_QUAL = decide (l.val ≠ 0) ∧ t.svc.awaitVbus = 0 ∧ SameMemories s t) ∧
  (∀ (s : State) (v : Nat) (l : Fin 4), s.isSink = true → 475 ≤ v → s.svc.awaitVbus = 2 →
    ∃ t, exec (.vbusRestored v l) s = .next t ∧ t.get SVC_STATUS.RP_LEVEL = l.val ∧ t.is PRT_STATUS.VBUS_G_ON = true ∧ t.get SVC_STATUS.PD_STATE = 1 ∧
      t.svc.awaitVbus = 0 ∧ SameRegistersBut [SVC_STATUS.addr, PRT_STATUS.addr] s t ∧ SameMemories s t) ∧
  (∀ (s : State) (v : Nat) (l : Fin 4), (v < 475 ∨ s.isSink = false ∨ s.svc.awaitVbus = 0) → exec (.vbusRestored v l) s = .next s) ∧
  (∀ (s : State) (t0 : Nat), s.svc.tryAt = some t0 → s.get SVC_STATUS.TC_STATE = 4 → t0 + ms 100 ≤ s.time → s.portUp = true → s.packBars = false →
    ∃ t, exec (.trySnkTimeout true) s = .next t ∧ t.get SVC_STATUS.TC_STATE = 6 ∧ t.is SVC_STATUS.POWER_ROLE = true ∧ t.get PRT_STATUS.MODE = 4 ∧ t.svc.tryAt = none ∧
      SameMemories s t) ∧
  (∀ (s : State) (t0 : Nat), s.svc.tryAt = some t0 → s.get SVC_STATUS.TC_STATE = 4 → t0 + ms 600 ≤ s.time → s.portUp = true → s.get SVC_CTRL.ROLE = 0 →
    s.svc.recoveryEnd = none →
    ∃ t, exec (.trySnkTimeout false) s = .next t ∧ t.get SVC_STATUS.TC_STATE = 1 ∧ t.svc.tryAt = none ∧ SameRegistersBut [SVC_STATUS.addr] s t ∧ SameMemories s t) ∧
  (∀ (s : State) (rd : Bool), s.svc.tryAt = none → exec (.trySnkTimeout rd) s = .next s) ∧
  (∀ (s : State), s.portRuns = true →
    ∃ t, exec .portWatchdogExpiry s = .next t ∧ t.svc.stopped = true ∧ t.svc.watchdog = true ∧ t.svc.recoveryEnd = some (s.time + ms 25) ∧ t.svc.coreBackAt = some (s.time + ms 50) ∧
      t.get SVC_STATUS.TC_STATE = 7 ∧ t.is SVC_STATUS.VCONN_ON = false ∧ t.is PRT_FLAGS.STOPPED = true ∧ t.is SVC_FLAGS.PORT_WDG = true ∧ bitOf (t.get SAF_FAULT.FAULT) 17 = true) ∧
  (∀ (s : State), s.portRuns = false → exec .portWatchdogExpiry s = .next s) ∧
  (∀ (s : State) (t0 : Nat), s.svc.recoveryEnd = some t0 → t0 ≤ s.time →
    ∃ t, exec .errorRecoveryEnd s = .next t ∧ t.svc.recoveryEnd = none ∧ t.get SVC_STATUS.TC_STATE = 0 ∧ SameRegistersBut [SVC_STATUS.addr] s t ∧ SameMemories s t) ∧
  (∀ (s : State), s.svc.recoveryEnd = none → exec .errorRecoveryEnd s = .next s) ∧
  (∀ (s : State), s.svc.stopped = true → s.svc.recoveryEnd = none → s.stopGone = true → s.fullService = true → s.is SVC_CTRL.EN = true →
    s.is UPD_STATUS.HOLD = false → s.mode < 2 → s.chipSafe = false → s.is PRT_CTRL.EN = true →
    ∃ t, exec .portResume s = .next t ∧ t.svc.stopped = false ∧ t.svc.coreBackAt = none ∧
      t.get SVC_STATUS.TC_STATE = (if s.get SVC_CTRL.ROLE = 3 then 0 else if s.get SVC_CTRL.ROLE = 2 then 2 else 1) ∧
      SameRegistersBut [SVC_STATUS.addr] s t ∧ SameMemories s t) ∧
  (∀ (s : State), (s.svc.stopped = false ∨ s.stopGone = false) → exec .portResume s = .next s) ∧
  (∀ (s : State) (i : Nat), s.is SVC_STATUS.VCONN_ON = true → 400 < i → s.get SVC_STATUS.CONTRACT ≠ 3 →
    ∃ t, exec (.vconnOvercurrent i) s = .next t ∧ t.is SVC_STATUS.VCONN_ON = false ∧ t.is SVC_FLAGS.VCONN_OC = true ∧ t.svc.epr = false ∧
      SameRegistersBut [SVC_STATUS.addr, SVC_FLAGS.addr] s t ∧ SameMemories s t) ∧
  (∀ (s : State) (i : Nat), s.is SVC_STATUS.VCONN_ON = true → 400 < i → s.get SVC_STATUS.CONTRACT = 3 → s.svc.swap = none →
    ∃ t, exec (.vconnOvercurrent i) s = .next t ∧ t.is SVC_STATUS.VCONN_ON = false ∧ t.is SVC_FLAGS.VCONN_OC = true ∧ t.svc.sent = some .hardReset ∧ t.svc.contract = none) ∧
  (∀ (s : State) (i : Nat), (s.is SVC_STATUS.VCONN_ON = false ∨ i ≤ 400) → exec (.vconnOvercurrent i) s = .next s) ∧
  (∀ (s : State) (v : Nat), s.get PRT_STATUS.MODE = 5 → v < 70 →
    ∃ t, exec (.dischargeDone v) s = .next t ∧ t.get PRT_STATUS.MODE = 0 ∧ t.is PRT_FLAGS.DISCHARGED = true ∧ t.svc.dischargeFor = 0 ∧
      (s.svc.dischargeFor = 1 → t.get SVC_STATUS.RP_LEVEL = 0 ∧ t.svc.sent = some .psRdy) ∧
      (s.svc.dischargeFor = 2 → t.svc.recoverAt = some (max s.time (s.svc.resetAt + ms 30) + ms 700)) ∧ SameMemories s t) ∧
  (∀ (s : State) (v : Nat), (s.get PRT_STATUS.MODE ≠ 5 ∨ 70 ≤ v) → exec (.dischargeDone v) s = .next s) ∧
  (∀ (s : State) (t0 : Nat), s.packBars = true → s.isSource = true → s.svc.packSince = some t0 → t0 + ms 10 ≤ s.time → s.svc.swap = none →
    ∃ t, exec .packPrimaryPortStop s = .next t ∧ t.get SVC_STATUS.TC_STATE = 0 ∧ t.svc.packStop = true ∧ t.svc.contract = none ∧ t.get PRT_STATUS.MODE = 0 ∧ SameMemories s t) ∧
  (∀ (s : State), (s.packBars = false ∨ s.isSource = false) → exec .packPrimaryPortStop s = .next s)

/-- R324, R335 to R345, R354: the PD messages that the partner sends, by the port core's state: what is answered, and what contract, role or
sequence follows. -/
def Obligations.PdMessages : Prop :=
  (∀ (s : State) (l : List Pdo) (b b' : Bool) (x y z : Nat) (c : Instr), s.portRuns = false →
    c ∈ [Instr.pdSourceCapabilities l b, .pdRequest x y z, .pdAccept, .pdReject, .pdWait, .pdPsRdy, .pdPrSwap, .pdDrSwap, .pdHardReset, .pdSoftReset b,
      .pdEprModeEntry b, .pdCableIdentity b b' 0 0, .pdVconnSwap, .pdUnsupported] → exec c s = .next s) ∧
  (∀ (s : State) (p : Pdo) (epr : Bool), s.portRuns = true → s.isSink = true → s.is SVC_CTRL.PD_EN = true → s.is SVC_SNK_PREF.PPS_REQ = false →
    p.kind = .fixed → clampN 500 4800 (s.get SVC_SNK_PREF.VMIN) ≤ p.volt → p.volt ≤ clampN 500 4800 (s.get PRT_LIM.VMAX) →
    ∃ t, exec (.pdSourceCapabilities [p] epr) s = .next t ∧ t.svc.request = some (p, p.volt, min p.curr (clampN 50 500 (s.get PRT_LIM.IMAX))) ∧
      t.svc.sent = some .request ∧ t.svc.partner = [p] ∧ t.is SVC_STATUS.PARTNER_PD = true ∧ t.get SVC_STATUS.PD_STATE = 1 ∧
      SameRegistersBut [SVC_STATUS.addr] s t ∧ SameMemories s t) ∧
  (∀ (s : State) (epr : Bool), s.portRuns = true → s.isSink = true → s.is SVC_CTRL.PD_EN = true → s.get SRC_STATUS.PRIMARY ≠ 4 → s.svc.swap = none →
    ∃ t, exec (.pdSourceCapabilities [] epr) s = .next t ∧ t.svc.sent = some .hardReset ∧ t.is SVC_FLAGS.HARD_RESET = true) ∧
  (∀ (s : State) (pos v i : Nat) (r : Pdo × Nat × Nat), s.portRuns = true → s.isSource = true → s.is SVC_CTRL.PD_EN = true → s.fits pos v i = some r →
    ∃ t, exec (.pdRequest pos v i) s = .next t ∧ t.svc.request = some r ∧ t.svc.sent = some .accept ∧ t.svc.transAt = some (s.time + ms 25) ∧
      t.get SVC_STATUS.PD_STATE = 1 ∧ SameRegistersBut [SVC_STATUS.addr] s t ∧ SameMemories s t) ∧
  (∀ (s : State) (pos v i : Nat), s.portRuns = true → s.isSource = true → s.is SVC_CTRL.PD_EN = true → s.fits pos v i = none →
    ∃ t, exec (.pdRequest pos v i) s = .next t ∧ t.svc.request = s.svc.request ∧ t.svc.sent = some .reject ∧ SameRegistersBut [SVC_STATUS.addr] s t ∧ SameMemories s t) ∧
  (∀ (s : State) (w : Swap), s.portRuns = true → s.isSource = true → s.svc.swap = some w → w.phase = 1 →
    ∃ t, exec .pdAccept s = .next t ∧ t.svc.swap = some { w with phase := 2 } ∧ t.svc.transAt = some (s.time + ms 25) ∧ t.get SVC_STATUS.PD_STATE = 3 ∧
      SameRegistersBut [SVC_STATUS.addr] s t ∧ SameMemories s t) ∧
  (∀ (s : State), s.portRuns = true → s.svc.swap = none → s.svc.sent = some .drSwap →
    ∃ t, exec .pdAccept s = .next t ∧ t.is SVC_STATUS.DATA_ROLE = false ∧ t.svc.sent = none ∧ SameRegistersBut [SVC_STATUS.addr] s t ∧ SameMemories s t) ∧
  (∀ (s : State) (w : Swap), s.portRuns = true → s.svc.swap = some w → w.phase = 1 → w.job = none →
    ∃ t, exec .pdReject s = .next t ∧ t.svc.swap = none ∧ t.is SVC_FLAGS.SWAP_FAIL = true ∧ (s.isSource = true → t.get SVC_STATUS.RP_LEVEL = 3) ∧
      t.get SVC_STATUS.PD_STATE = (if s.svc.contract.isSome then 2 else 0) ∧ SameMemories s t) ∧
  (∀ (s : State), s.portRuns = true → s.svc.swap = none → s.svc.request.isSome = true → s.isSink = true →
    ∃ t, exec .pdReject s = .next t ∧ t.svc.request = none ∧ t.svc.contract = s.svc.contract ∧ t.get SVC_STATUS.PD_STATE = (if s.svc.contract.isSome then 2 else 0) ∧
      SameRegistersBut [SVC_STATUS.addr] s t ∧ SameMemories s t) ∧
  (∀ (s : State), s.portRuns = true → s.svc.swap = none → s.svc.request.isSome = true → s.isSink = true →
    ∃ t, exec .pdWait s = .next t ∧ t.svc.retryAt = some (s.time + ms 100) ∧ t.get SVC_STATUS.PD_STATE = 5 ∧ t.is SVC_FLAGS.WAIT_RX = true ∧
      SameRegistersBut [SVC_STATUS.addr, SVC_FLAGS.addr] s t ∧ SameMemories s t) ∧
  (∀ (s : State) (w : Swap), s.portRuns = true → s.svc.swap = some w → w.phase = 1 → w.retries < 3 →
    ∃ t, exec .pdWait s = .next t ∧ t.svc.swap = some { w with phase := 3, at_ := s.time + ms 100 } ∧ t.is SVC_FLAGS.WAIT_RX = true ∧ SameMemories s t) ∧
  (∀ (s : State) (w : Swap), s.portRuns = true → s.svc.swap = some w → w.phase = 1 → 3 ≤ w.retries → w.job = none →
    ∃ t, exec .pdWait s = .next t ∧ t.svc.swap = none ∧ t.is SVC_FLAGS.SWAP_FAIL = true ∧ SameMemories s t) ∧
  (∀ (s : State) (r : Pdo × Nat × Nat), s.portRuns = true → s.svc.swap = none → s.svc.request = some r → s.isSink = true →
    ∃ t, exec .pdPsRdy s = .next t ∧ t.svc.contract = some r ∧ t.svc.request = none ∧ t.get SVC_STATUS.PDO = r.1.pos % 16 ∧ t.get SVC_STATUS.PD_STATE = 2 ∧
      t.get SVC_STATUS.CONTRACT = (match r.1.kind with
        | .fixed => 1
        | .pps => 2
        | .epr => 3) ∧ t.is SVC_FLAGS.CONTRACT = true ∧ EntersOrder s t 4 .contract (65536 + r.2.1) r.2.2 ∧
      SameRegistersBut [SVC_STATUS.addr, SVC_FLAGS.addr] s t ∧ SameMemories s t) ∧
  (∀ (s : State) (w : Swap), s.portRuns = true → s.svc.swap = some w → w.phase = 2 → w.goal = 0 → w.job = none → s.get PRT_STATUS.MODE ≠ 5 → s.svc.transAt = none →
    ∃ t, exec .pdPsRdy s = .next t ∧ t.get SVC_STATUS.TC_STATE = 5 ∧ t.is SVC_STATUS.POWER_ROLE = false ∧ t.svc.awaitVbus = 1 ∧ t.svc.swap = none ∧
      t.is SVC_FLAGS.SWAP_DONE = true ∧ SameMemories s t) ∧
  (∀ (s : State) (w : Swap), s.portRuns = true → s.svc.swap = some w → w.phase = 2 → w.goal = 1 → w.job = none →
    ∃ t, exec .pdPsRdy s = .next t ∧ t.get SVC_STATUS.TC_STATE = 6 ∧ t.is SVC_STATUS.POWER_ROLE = true ∧ t.get PRT_STATUS.MODE = 4 ∧ t.svc.swap = none ∧
      t.is SVC_FLAGS.SWAP_DONE = true ∧ SameMemories s t) ∧
  (∀ (s : State), s.portRuns = true → s.isSource = true → s.get SVC_CTRL.ROLE = 0 → s.svc.swap = none →
    ∃ t, exec .pdPrSwap s = .next t ∧ t.svc.sent = some .accept ∧ t.svc.swap = some { goal := 0, phase := 2 } ∧ t.svc.transAt = some (s.time + ms 25) ∧
      t.get SVC_STATUS.PD_STATE = 3 ∧ SameRegistersBut [SVC_STATUS.addr] s t ∧ SameMemories s t) ∧
  (∀ (s : State), s.portRuns = true → s.isSink = true → (s.get SVC_CTRL.ROLE ≠ 0 ∨ s.get SVC_PDP.PCAP < 150) → s.svc.swap = none →
    exec .pdPrSwap s = .next { s with svc := { s.svc with sent := some .reject } }) ∧
  (∀ (s : State), s.portRuns = true → s.isSink = true → s.get SVC_CTRL.ROLE = 0 → 150 ≤ s.get SVC_PDP.PCAP → s.svc.swap = none → s.is SRC_STATUS.VBUS_QUAL = false →
    ∃ t, exec .pdPrSwap s = .next t ∧ t.svc.sent = some .accept ∧ t.svc.swap = some { goal := 1, phase := 2 } ∧ t.get PRT_STATUS.MODE = 0 ∧ SameMemories s t) ∧
  (∀ (s : State) (w : Swap), s.portRuns = true → (s.isSink = true ∨ s.isSource = true) → s.svc.swap = some w → w.phase = 3 →
    exec .pdPrSwap s = .next { s with svc := { s.svc with sent := some .wait } }) ∧
  (∀ (s : State), s.portRuns = true → (s.isSink = true ∨ s.isSource = true) → s.is SVC_STATUS.DATA_ROLE = true →
    ∃ t, exec .pdDrSwap s = .next t ∧ t.svc.sent = some .accept ∧ t.is SVC_STATUS.DATA_ROLE = false ∧ SameRegistersBut [SVC_STATUS.addr] s t ∧ SameMemories s t) ∧
  (∀ (s : State), s.portRuns = true → (s.isSink = true ∨ s.isSource = true) → s.is SVC_STATUS.DATA_ROLE = false →
    exec .pdDrSwap s = .next { s with svc := { s.svc with sent := some .reject } }) ∧
  (∀ (s : State), s.portRuns = true → s.isSource = true → s.svc.swap = none →
    ∃ t, exec .pdHardReset s = .next t ∧ t.get PRT_STATUS.MODE = 5 ∧ t.svc.dischargeFor = 2 ∧ t.svc.contract = none ∧ t.svc.resetAt = s.time ∧
      t.is SVC_STATUS.POWER_ROLE = true ∧ t.is SVC_STATUS.DATA_ROLE = true ∧ t.get SVC_STATUS.PD_STATE = 4 ∧ t.is SVC_FLAGS.HARD_RESET = true ∧
      t.get SVC_CNT.HRESET_CNT = (s.get SVC_CNT.HRESET_CNT + 1) % 65536 ∧ SameMemories s t) ∧
  (∀ (s : State), s.portRuns = true → s.isSink = true → s.svc.swap = none → s.is SRC_STATUS.VBUS_QUAL = false →
    ∃ t, exec .pdHardReset s = .next t ∧ t.get PRT_STATUS.MODE = 0 ∧ t.svc.awaitVbus = 2 ∧ t.svc.contract = none ∧ t.is SVC_STATUS.POWER_ROLE = false ∧
      t.is SVC_STATUS.DATA_ROLE = false ∧ t.get SVC_STATUS.PD_STATE = 4 ∧ t.is SVC_FLAGS.HARD_RESET = true ∧ SameMemories s t) ∧
  (∀ (s : State), s.portRuns = true → s.isSink = true → s.svc.swap = none →
    ∃ t, exec (.pdSoftReset false) s = .next t ∧ t.svc.sent = some .accept ∧ t.svc.request = none ∧ t.svc.retryAt = none ∧ t.get SVC_STATUS.PD_STATE = 1 ∧
      SameRegistersBut [SVC_STATUS.addr] s t ∧ SameMemories s t) ∧
  (∀ (s : State), s.portRuns = true → s.isSink = true → s.svc.swap = none →
    ∃ t, exec (.pdSoftReset true) s = .next t ∧ t.svc.sent = some .softReset ∧ t.svc.softAt = some (s.time + ms 100) ∧ t.is SVC_FLAGS.PD_PROTO = true ∧
      SameRegistersBut [SVC_STATUS.addr, SVC_FLAGS.addr] s t ∧ SameMemories s t) ∧
  (∀ (s : State), s.portRuns = true → s.isSource = true → s.svc.swap = none → s.is SVC_CTRL.PD_EN = true →
    ∃ t, exec (.pdSoftReset false) s = .next t ∧ t.svc.sent = some .caps ∧ t.svc.offered = s.offer ∧ t.svc.request = none ∧ SameMemories s t) ∧
  (∀ (s : State), s.portRuns = true → s.is SVC_CTRL.PD_EN = true → s.isSource = true → s.is SVC_STATUS.EPR_CABLE = false →
    ∃ t, exec (.pdEprModeEntry true) s = .next t ∧ t.svc.sent = some .eprFail ∧ t.is SVC_FLAGS.CABLE_NOT_EPR = true ∧ t.svc.epr = s.svc.epr ∧
      SameRegistersBut [SVC_FLAGS.addr] s t ∧ SameMemories s t) ∧
  (∀ (s : State), s.portRuns = true → s.is SVC_CTRL.PD_EN = true → s.isSource = true → s.is SVC_STATUS.EPR_CABLE = true → s.is SVC_CTRL.EPR_EN = true →
    ∃ t, exec (.pdEprModeEntry true) s = .next t ∧ t.svc.epr = true ∧ t.svc.sent = some .caps ∧ SameMemories s t) ∧
  (∀ (s : State) (ok : Bool), s.portRuns = true → s.is SVC_CTRL.PD_EN = true → s.isSink = true → s.svc.sent = some .eprEnter →
    ∃ t, exec (.pdEprModeEntry ok) s = .next t ∧ t.svc.epr = ok ∧ t.svc.sent = none ∧ SameRegistersBut [] s t ∧ SameMemories s t) ∧
  (∀ (s : State) (em ep : Bool) (cur vm : Fin 4), s.portRuns = true → s.isSource = true → s.is SVC_STATUS.VCONN_ON = true →
    ∃ t, exec (.pdCableIdentity em ep cur vm) s = .next t ∧ t.is SVC_CABLE.EMARKED = em ∧ t.is SVC_CABLE.EPR = ep ∧ t.get SVC_CABLE.CUR = cur.val ∧
      t.get SVC_CABLE.VMAX = vm.val ∧ t.is SVC_STATUS.EPR_CABLE = (em && ep && decide (cur.val = 2) && decide (vm.val = 3)) ∧
      SameRegistersBut [SVC_CABLE.addr, SVC_STATUS.addr] s t ∧ SameMemories s t) ∧
  (∀ (s : State), s.portRuns = true → exec .pdVconnSwap s = .next { s with svc := { s.svc with sent := some .reject } } ∧
    exec .pdUnsupported s = .next { s with svc := { s.svc with sent := some .notSupported } })

/-- R335, R337 to R339, R342 to R345: the port core's timers, and the power that it offers as a source. -/
def Obligations.PdTimers : Prop :=
  (∀ (s : State) (t0 : Nat), s.portRuns = true → s.isSink = true → s.svc.retryAt = some t0 → t0 ≤ s.time →
    ∃ t, exec .sinkRequestRetry s = .next t ∧ t.svc.retryAt = none ∧ t.svc.sent = some .request ∧ t.get SVC_CNT.RETRY_CNT = (s.get SVC_CNT.RETRY_CNT + 1) % 65536 ∧
      t.get SVC_STATUS.PD_STATE = 1 ∧ SameRegistersBut [SVC_CNT.addr, SVC_STATUS.addr] s t ∧ SameMemories s t) ∧
  (∀ (s : State), s.svc.retryAt = none → exec .sinkRequestRetry s = .next s) ∧
  (∀ (s : State) (w : Swap) (t0 : Nat), s.portRuns = true → s.svc.swap = some w → w.phase = 0 → s.svc.sinkTxAt = some t0 → t0 ≤ s.time →
    (s.isSink = false ∨ s.get SVC_STATUS.RP_LEVEL = 3) →
    ∃ t, exec .sinkTxWaitEnd s = .next t ∧ t.svc.sent = some .prSwap ∧ t.svc.swap = some { w with phase := 1, sent := w.sent + 1 } ∧ t.svc.sinkTxAt = none ∧
      SameRegistersBut [] s t ∧ SameMemories s t) ∧
  (∀ (s : State), (s.svc.swap = none ∨ s.svc.sinkTxAt = none) → exec .sinkTxWaitEnd s = .next s) ∧
  (∀ (s : State) (w : Swap) (t0 : Nat), s.portRuns = true → s.svc.transAt = some t0 → t0 ≤ s.time → s.svc.swap = some w → w.phase = 2 → w.goal = 0 →
    ∃ t, exec .srcTransitionEnd s = .next t ∧ t.get PRT_STATUS.MODE = 5 ∧ t.svc.dischargeFor = 1 ∧ t.svc.contract = none ∧ t.svc.transAt = none ∧
      t.get SVC_STATUS.PD_STATE = 3 ∧ SameMemories s t) ∧
  (∀ (s : State) (t0 : Nat) (r : Pdo × Nat × Nat), s.portRuns = true → s.svc.transAt = some t0 → t0 ≤ s.time → s.svc.swap = none → s.svc.request = some r →
    s.isSource = true →
    ∃ t, exec .srcTransitionEnd s = .next t ∧ t.svc.contract = some r ∧ t.svc.request = none ∧ t.get SVC_STATUS.PD_STATE = 2 ∧
      t.svc.sent = (if s.svc.contract.isNone = true ∧ s.is SVC_STATUS.DATA_ROLE = true then some .drSwap else some .psRdy) ∧
      EntersOrder s t 4 .contract r.2.1 r.2.2 ∧ SameRegistersBut [SVC_STATUS.addr, SVC_FLAGS.addr] s t ∧ SameMemories s t) ∧
  (∀ (s : State), s.svc.transAt = none → exec .srcTransitionEnd s = .next s) ∧
  (∀ (s : State) (t0 : Nat), s.portRuns = true → s.isSource = true → s.svc.recoverAt = some t0 → t0 ≤ s.time →
    ∃ t, exec .hardResetRecover s = .next t ∧ t.get PRT_STATUS.MODE = 4 ∧ t.is SVC_STATUS.VCONN_ON = true ∧ t.svc.recoverAt = none ∧
      t.svc.sent = (if s.is SVC_CTRL.PD_EN then some .caps else some .discoverIdentity) ∧ SameMemories s t) ∧
  (∀ (s : State), s.svc.recoverAt = none → exec .hardResetRecover s = .next s) ∧
  (∀ (s : State) (w : Swap), s.portRuns = true → s.svc.swap = some w → w.phase = 3 → w.at_ ≤ s.time → s.isSource = true →
    ∃ t, exec .prSwapRetry s = .next t ∧ t.svc.swap = some { w with phase := 0, retries := w.retries + 1 } ∧ t.get SVC_STATUS.RP_LEVEL = 2 ∧
      t.svc.sinkTxAt = some (s.time + ms 16) ∧ t.get SVC_CNT.RETRY_CNT = (s.get SVC_CNT.RETRY_CNT + 1) % 65536 ∧
      SameRegistersBut [SVC_CNT.addr, SVC_STATUS.addr] s t ∧ SameMemories s t) ∧
  (∀ (s : State), s.svc.swap = none → exec .prSwapRetry s = .next s) ∧
  (∀ (s : State) (t0 : Nat), s.portRuns = true → s.svc.softAt = some t0 → t0 ≤ s.time →
    ∃ t, exec .softResetWaitEnd s = .next t ∧ t.svc.softAt = none ∧ t.get SVC_STATUS.PD_STATE = 0 ∧ SameRegistersBut [SVC_STATUS.addr] s t ∧ SameMemories s t) ∧
  (∀ (s : State), s.svc.softAt = none → exec .softResetWaitEnd s = .next s) ∧
  (∀ (s : State) (rail : Nat), s.portRuns = true →
    ∃ t, exec (.pcapUpdate rail) s = .next t ∧ t.get SVC_PDP.PCAP = s.pcapOf rail ∧ t.get SVC_PDP.PDP = pdpOf (s.pcapOf rail) ∧ t.svc.rail = rail ∧
      (∀ p v i, s.svc.contract = some (p, v, i) → s.isSource = true → 1000 * s.pcapOf rail < v * i → t.svc.lowSince = some (s.svc.lowSince.getD s.time)) ∧
      (∀ p v i, s.svc.contract = some (p, v, i) → v * i ≤ 1000 * s.pcapOf rail → t.svc.lowSince = none) ∧
      SameRegistersBut [SVC_PDP.addr, SVC_STATUS.addr] s t ∧ SameMemories s t) ∧
  (∀ (s : State) (rail : Nat), s.portRuns = false → exec (.pcapUpdate rail) s = .next s) ∧
  (∀ (n : Nat), pdpOf n = if 2400 ≤ n then 240 else if 1800 ≤ n then 180 else if 1400 ≤ n then 140 else if 1000 ≤ n then 100 else if 600 ≤ n then 60
    else if 450 ≤ n then 45 else if 270 ≤ n then 27 else if 150 ≤ n then 15 else 0) ∧
  (∀ (s : State) (t0 : Nat), s.portRuns = true → s.isSource = true → s.svc.lowSince = some t0 → t0 + ms 10 ≤ s.time → s.is SVC_CTRL.PD_EN = true →
    ∃ t, exec .pdoReduce s = .next t ∧ t.svc.lowSince = none ∧ t.svc.sent = some .caps ∧ t.svc.offered = s.offer ∧ t.is SVC_FLAGS.PDO_REDUCED = true ∧
      SameRegistersBut [SVC_STATUS.addr, SVC_FLAGS.addr] s t ∧ SameMemories s t) ∧
  (∀ (s : State), s.svc.lowSince = none → exec .pdoReduce s = .next s) ∧
  (∀ (s : State) (t0 : Nat), s.portRuns = true → s.isSource = true → s.svc.highSince = some t0 → t0 + ms 1000 ≤ s.time → s.is SVC_CTRL.PD_EN = true →
    ∃ t, exec .pdoRaise s = .next t ∧ t.svc.highSince = none ∧ t.svc.sent = some .caps ∧ t.svc.offered = s.offer ∧ SameRegistersBut [SVC_STATUS.addr] s t ∧ SameMemories s t) ∧
  (∀ (s : State), s.svc.highSince = none → exec .pdoRaise s = .next s)

/-- R349 to R352, R425 to R427, R437, R446: the USB device. A bus reset, the DFU requests with their states and status codes, and the vendor requests of
the service tool. The state numbers are those of DFU 1.1 (log entry 50); the status for a header that fails is a free value (log entry 5). -/
def Obligations.UsbDevice : Prop :=
  (∀ (s : State) (n c a : BitVec 16) (w : List Word) (q : BitVec 8), s.usbUp = false →
    exec .usbBusReset s = .next s ∧ exec (.dfuDnload n w) s = .next s ∧ exec .dfuManifest s = .next s ∧ exec .dfuDetach s = .next s ∧
      exec .dfuGetstatus s = .next s ∧ exec .dfuClrstatus s = .next s ∧ exec .dfuUpload s = .next s ∧ exec (.vendorRead q c a) s = .next s ∧
      exec (.vendorWrite q c a w) s = .next s) ∧
  (∀ (s : State), s.usbUp = true →
    ∃ t, exec .usbBusReset s = .next t ∧ t.is SVC_FLAGS.USB_RESET = true ∧ t.is SVC_STATUS.USB_CONF = false ∧ t.get SVC_DFU.STATUS = 0 ∧
      t.get SVC_DFU.STATE = (if s.is SVC_STATUS.DFU_MODE then 2 else 0) ∧ t.svc.lastSeq = none ∧ t.svc.contract = s.svc.contract ∧
      SameRegistersBut [SVC_FLAGS.addr, SVC_STATUS.addr, SVC_DFU.addr] s t ∧ SameMemories s t) ∧
  (∀ (s : State) (n : BitVec 16) (w : List Word), s.usbUp = true → s.get SVC_DFU.STATE ≠ 10 → s.session = true → s.get UPD_STATUS.OWNER ≠ 2 →
    ∃ t, exec (.dfuDnload n w) s = .next t ∧ t.get SVC_DFU.STATE = 10 ∧ t.get SVC_DFU.STATUS = 0x0B ∧ t.upd.programming = s.upd.programming ∧ SameMemories s t) ∧
  (∀ (s : State) (n : BitVec 16) (w : List Word), s.usbUp = true → s.get SVC_DFU.STATE ≠ 10 → s.session = true → s.get UPD_STATUS.OWNER = 2 →
    s.upd.programming = none → n.toNat = s.upd.next → 0 < n.toNat → n.toNat < 96 →
    ∃ t, exec (.dfuDnload n w) s = .next t ∧ t.get SVC_DFU.STATE = 4 ∧ t.upd.programming = some (n.toNat, w) ∧ t.is UPD_STATUS.NVM_BUSY = true ∧
      t.upd.dfuBlock = n.toNat ∧ t.is SVC_STATUS.USB_CONF = true ∧ SameMemories s t) ∧
  (∀ (s : State) (n : BitVec 16) (w : List Word), s.usbUp = true → s.get SVC_DFU.STATE ≠ 10 → s.session = true → s.get UPD_STATUS.OWNER = 2 →
    s.upd.programming = none → s.upd.next < n.toNat → 0 < n.toNat →
    ∃ t, exec (.dfuDnload n w) s = .next t ∧ t.get SVC_DFU.STATE = 10 ∧ t.get SVC_DFU.STATUS = 0x08 ∧ t.upd.programming = none ∧ SameMemories s t) ∧
  (∀ (s : State) (n : BitVec 16) (w : List Word), s.usbUp = true → s.get SVC_DFU.STATE ≠ 10 → s.session = true → s.get UPD_STATUS.OWNER = 2 →
    s.upd.programming.isSome = true → n.toNat < 96 →
    ∃ t, exec (.dfuDnload n w) s = .next t ∧ t.get SVC_DFU.STATE = 10 ∧ t.get SVC_DFU.STATUS = 0x0F ∧ t.upd.programming = s.upd.programming ∧ SameMemories s t) ∧
  (∀ (s : State), s.usbUp = true → s.get SVC_DFU.STATE ≠ 10 → (s.session = false ∨ s.get UPD_STATUS.OWNER ≠ 2) →
    ∃ t, exec .dfuManifest s = .next t ∧ t.get SVC_DFU.STATE = 10 ∧ t.get SVC_DFU.STATUS = 0x09 ∧ t.beam.stage = s.beam.stage ∧
      SameRegistersBut [SVC_DFU.addr] s t ∧ SameMemories s t) ∧
  (∀ (s : State), s.usbUp = true → s.fullService = true → s.get SVC_DFU.STATE ≠ 10 → s.session = true → s.get UPD_STATUS.OWNER = 2 → s.beam.stage = 1 →
    s.upd.programming = none → s.beam.size ≤ s.upd.next * 4096 →
    ∃ t, exec .dfuManifest s = .next t ∧ t.get SVC_DFU.STATE = 6 ∧ t.beam.stage = 2 ∧ t.is UPD_FLAGS.COMPLETE_OK = true ∧ t.upd.idleAt = none ∧ SameMemories s t) ∧
  (∀ (s : State), s.usbUp = true → s.get GLB_REGION.SERVICE = 3 → s.get SVC_DFU.STATE ≠ 10 → s.session = true → s.get UPD_STATUS.OWNER = 2 → s.beam.stage = 2 →
    s.upd.programming = none → s.beam.size ≤ s.upd.next * 4096 → s.checkBank s.upd.staging = 0 →
    ∃ t, exec .dfuManifest s = .next t ∧ t.get SVC_DFU.STATE = 7 ∧ t.upd.copy.isSome = true ∧ t.is UPD_STATUS.NVM_BUSY = true ∧ SameMemories s t) ∧
  (∀ (s : State), s.usbUp = true →
    ∃ t, exec .dfuDetach s = .next t ∧ t.is SVC_STATUS.DFU_MODE = true ∧ t.is SVC_STATUS.USB_CONF = false ∧ t.get SVC_DFU.STATE = 2 ∧
      (s.get UPD_STATUS.OWNER = 2 → t.session = false) ∧ SameMemories s t) ∧
  (∀ (s : State), s.usbUp = true → s.upd.programming = none →
    ∃ t, exec .dfuGetstatus s = .next t ∧ t.readData = BitVec.ofNat 32 (s.get SVC_DFU.STATUS * 2 ^ 24 + s.get SVC_DFU.STATE) ∧
      t.get SVC_DFU.STATE = (if s.get SVC_DFU.STATE = 6 then 2 else s.get SVC_DFU.STATE) ∧ SameRegistersBut [SVC_DFU.addr, SVC_STATUS.addr] s t ∧ SameMemories s t) ∧
  (∀ (s : State), s.usbUp = true → s.upd.programming.isSome = true → s.get UPD_STATUS.OWNER = 2 →
    ∃ t, exec .dfuGetstatus s = .next t ∧
      t.readData = BitVec.ofNat 32 (s.get SVC_DFU.STATUS * 2 ^ 24 + (if s.upd.dfuBlock % 4 = 0 then 30 else 5) * 2 ^ 8 + s.get SVC_DFU.STATE)) ∧
  (∀ (s : State), s.usbUp = true → s.get SVC_DFU.STATE = 10 →
    ∃ t, exec .dfuClrstatus s = .next t ∧ t.get SVC_DFU.STATE = 2 ∧ t.get SVC_DFU.STATUS = 0 ∧ OnlyRegisters [SVC_DFU.addr] s t) ∧
  (∀ (s : State), s.get SVC_DFU.STATE ≠ 10 → exec .dfuClrstatus s = .next s) ∧
  (∀ (s : State), s.usbUp = true → ∃ t, exec .dfuUpload s = .next t ∧ t.get SVC_DFU.STATE = 10 ∧ t.get SVC_DFU.STATUS = 0x0F ∧ OnlyRegisters [SVC_DFU.addr] s t) ∧
  (∀ (s : State) (q : BitVec 8) (c a : BitVec 16) (w : List Word), s.vendorUp = true → s.svc.lastSeq = some q.toNat →
    exec (.vendorRead q c a) s = .next { s with svc := { s.svc with reply := s.svc.response } } ∧
      exec (.vendorWrite q c a w) s = .next { s with svc := { s.svc with reply := s.svc.response } }) ∧
  (∀ (s : State) (q : BitVec 8) (a : BitVec 16), s.vendorUp = true → s.svc.lastSeq ≠ some q.toNat → a.toNat % 4 = 0 → s.readServed a.toNat = true →
    ∃ t, exec (.vendorRead q 1 a) s = .next t ∧ t.svc.reply = [BitVec.ofNat 32 (0x81 * 2 ^ 24 + q.toNat * 2 ^ 16 + 1),
        BitVec.ofNat 32 ((s.busRead 2 a.toNat).2.spiStatus false false * 2 ^ 24), (s.busRead 2 a.toNat).1] ∧
      t.svc.response = t.svc.reply ∧ t.svc.lastSeq = some q.toNat) ∧
  (∀ (s : State) (q : BitVec 8) (a : BitVec 16) (w : Word), s.vendorUp = true → s.svc.lastSeq ≠ some q.toNat → a.toNat % 4 = 0 → s.writeServed a.toNat = true →
    (s.busWrite 2 a.toNat w).saf.inReset = none →
    ∃ t, exec (.vendorWrite q 1 a [w]) s = .next t ∧ t.svc.reply = [BitVec.ofNat 32 (0x82 * 2 ^ 24 + q.toNat * 2 ^ 16 + 1),
        BitVec.ofNat 32 ((s.busWrite 2 a.toNat w).spiStatus false false * 2 ^ 24)] ∧
      t.svc.response = t.svc.reply ∧ t.svc.lastSeq = some q.toNat ∧ SameRegistersBut [] (s.busWrite 2 a.toNat w) t ∧ SameMemories (s.busWrite 2 a.toNat w) t) ∧
  (∀ (s : State) (q : BitVec 8) (c a : BitVec 16), s.vendorUp = true → s.svc.lastSeq ≠ some q.toNat → 0 < c.toNat → c.toNat ≤ 128 → a.toNat % 4 = 0 →
    s.readServed a.toNat = false →
    ∃ t, exec (.vendorRead q c a) s = .next t ∧ t.svc.reply = [BitVec.ofNat 32 (0x81 * 2 ^ 24 + q.toNat * 2 ^ 16),
        BitVec.ofNat 32 (s.spiStatus false true * 2 ^ 24 + 2 ^ 16)] ∧ SameRegistersBut [] s t ∧ SameMemories s t) ∧
  (∀ (s : State) (q : BitVec 8) (c a : BitVec 16), s.vendorUp = true → s.svc.lastSeq ≠ some q.toNat → (c.toNat = 0 ∨ 128 < c.toNat) →
    ∃ t, exec (.vendorRead q c a) s = .next t ∧ t.svc.reply = [BitVec.ofNat 32 (0x81 * 2 ^ 24 + q.toNat * 2 ^ 16),
        BitVec.ofNat 32 (s.spiStatus false false * 2 ^ 24 + 2 * 2 ^ 16)] ∧ t.svc.lastSeq = s.svc.lastSeq ∧ SameRegistersBut [] s t ∧ SameMemories s t) ∧
  (∀ (s : State) (q : BitVec 8) (c a : BitVec 16), s.vendorUp = true → s.svc.lastSeq ≠ some q.toNat → 0 < c.toNat → c.toNat ≤ 128 → a.toNat % 4 ≠ 0 →
    ∃ t, exec (.vendorRead q c a) s = .next t ∧ t.svc.reply = [BitVec.ofNat 32 (0x81 * 2 ^ 24 + q.toNat * 2 ^ 16),
        BitVec.ofNat 32 (s.spiStatus false false * 2 ^ 24 + 3 * 2 ^ 16)] ∧ t.svc.lastSeq = s.svc.lastSeq ∧ SameRegistersBut [] s t ∧ SameMemories s t)

/-- R357 to R361, R363, R364, R377: the link and its frames. Training, the discard of bad frames, go-back-N, HEARTBEAT and its time transfer, HELLO and
the checks of pairing, and the notices by which a twin declares its peer lost. -/
def Obligations.LinkFrames : Prop :=
  (∀ (s : State) (h : FrameHdr) (b : Heartbeat) (e : Hello) (p : Word) (w : PairWrite) (k a v : Nat) (f : Bool) (r : BeamRecord) (j : Job) (l : List Word)
      (i : HandoverItem) (u : UpdateItem), s.linkUp = false →
    exec (.heartbeat h b) s = .next s ∧ exec (.hello h e) s = .next s ∧ exec (.noticeReset h k) s = .next s ∧ exec (.noticeSafe h) s = .next s ∧
      exec (.noticeLeave h) s = .next s ∧ exec (.resetReq h p) s = .next s ∧ exec (.order h w) s = .next s ∧ exec (.stamp h k a v) s = .next s ∧
      exec (.commitAck h k f) s = .next s ∧ exec (.mirror h k r) s = .next s ∧ exec (.state h k a j) s = .next s ∧ exec (.submit h l) s = .next s ∧
      exec (.resync h k r a) s = .next s ∧ exec (.handover h i) s = .next s ∧ exec (.update h u) s = .next s) ∧
  (∀ (s : State) (h : FrameHdr) (b : Heartbeat) (e : Hello) (w : PairWrite) (k : Nat) (r : BeamRecord), s.linkUp = true → h.valid = false →
    ∃ t : State, exec (.heartbeat h b) s = .next t ∧ exec (.hello h e) s = .next t ∧ exec (.noticeSafe h) s = .next t ∧ exec (.order h w) s = .next t ∧
      exec (.mirror h k r) s = .next t ∧ t.get SEL_LINK_CNT.CRC_ERR = (s.get SEL_LINK_CNT.CRC_ERR + 1) % 65536 ∧
      t.get SEL_LINK_CNT.RETX = s.get SEL_LINK_CNT.RETX ∧ OnlyRegisters [SEL_LINK_CNT.addr] s t) ∧
  (∀ (s : State) (h : FrameHdr) (w : PairWrite) (k : Nat) (r : BeamRecord), Arrives s h → h.seq.toNat ≠ s.sel.rxSeq →
    exec (.order h w) s = .next { s.heard with sel := { s.heard.sel with nak := true } } ∧
    exec (.mirror h k r) s = .next { s.heard with sel := { s.heard.sel with nak := true } }) ∧
  (∀ (s : State) (h : FrameHdr) (kind : Nat) (a : Sent), s.linkUp = true → h.valid = true → h.nak = true → s.peerLive = false →
    s.sel.unacked = [a] → s.sel.waiting = [] → h.ack.toNat = a.seq → a.seq < 65536 → s.sel.resends < 8 →
    ∃ t, exec (.noticeReset h kind) s = .next t ∧ t.sel.unacked = [{ a with at_ := s.time }] ∧ t.sel.resends = s.sel.resends + 1 ∧
      t.get SEL_LINK_CNT.RETX = (s.get SEL_LINK_CNT.RETX + 1) % 65536 ∧ SameRegistersBut [SEL_LINK_CNT.addr] s t ∧ SameMemories s t) ∧
  (∀ (s : State) (h : FrameHdr) (a : Sent), s.linkUp = true → h.valid = true → h.nak = false → s.peerLive = false → s.sel.unacked = [a] →
    s.sel.waiting = [] → h.ack.toNat = (a.seq + 1) % 65536 → a.seq < 65536 →
    ∃ t, exec (.noticeSafe h) s = .next t ∧ t.sel.unacked = [] ∧ t.sel.resends = 0 ∧ OnlyRegisters [] { s.heard with sel := t.sel } t) ∧
  (∀ (s : State) (u : Sent) (l : List Sent), s.linkUp = true → s.sel.unacked = u :: l → u.at_ + 4000 ≤ s.time → s.sel.resends < 8 →
    ∃ t, exec .retransmitTimeout s = .next t ∧ t.sel.unacked = (u :: l).map (fun x => { x with at_ := s.time }) ∧ t.sel.resends = s.sel.resends + 1 ∧
      t.get SEL_LINK_CNT.RETX = (s.get SEL_LINK_CNT.RETX + (l.length + 1)) % 65536 ∧ SameRegistersBut [SEL_LINK_CNT.addr] s t ∧ SameMemories s t) ∧
  (∀ (s : State) (u : Sent) (l : List Sent), s.linkUp = true → s.sel.unacked = u :: l → u.at_ + 4000 ≤ s.time → 8 ≤ s.sel.resends →
    ∃ t, exec .retransmitTimeout s = .next t ∧ t.get SEL_STATUS.LINK = 1 ∧ t.is SEL_FLAGS.RETRAIN = true ∧ t.sel.rxSeq = 0 ∧ t.sel.txSeq = l.length + 1 ∧
      t.sel.unacked.length = l.length + 1 ∧ t.sel.unacked.head? = some { u with seq := 0, at_ := s.time } ∧ t.sel.resends = 0 ∧
      SameRegistersBut [SEL_LINK_CNT.addr, SEL_STATUS.addr, SEL_FLAGS.addr] s t ∧ SameMemories s t) ∧
  (∀ (s : State), (s.sel.unacked = [] ∨ ∃ u l, s.sel.unacked = u :: l ∧ s.time < u.at_ + 4000) → exec .retransmitTimeout s = .next s) ∧
  (∀ (s : State), s.linkRuns = true → s.linkUp = false →
    ∃ t, exec .linkUp s = .next t ∧ t.linkUp = true ∧ t.is GLB_CLK.SELV_LOCK = true ∧ OnlyRegisters [SEL_STATUS.addr, GLB_CLK.addr] s t) ∧
  (∀ (s : State), s.hasSel = true →
    ∃ t, exec .linkDown s = .next t ∧ t.get SEL_STATUS.LINK = 0 ∧ t.is GLB_CLK.SELV_LOCK = false ∧ t.peerLive = s.peerLive ∧
      OnlyRegisters [SEL_STATUS.addr, GLB_CLK.addr] s t) ∧
  (∀ (s : State), s.linkRuns = true → s.linkUp = true → s.soloMode = false →
    ∃ (t : State) (h : Heartbeat), exec .heartbeatSend s = .next t ∧ t.sel.sent = some (.heartbeat h) ∧ h.t3 = s.time ∧ h.t1 = s.sel.gotT3 ∧ h.t2 = s.sel.gotAt ∧
      h.pairState = s.get SEL_STATUS.PAIR_STATE ∧ h.service = s.get GLB_REGION.SERVICE ∧ h.intended = s.sel.intended ∧ h.intendedTick = s.sel.intendedTick ∧
      h.jsnHeld = s.beam.peerJsn ∧ OnlyRegisters [] { s with sel := t.sel } t) ∧
  (∀ (s : State), s.linkRuns = true → s.linkUp = true → s.soloMode = false → s.peerLive = false →
    ∃ (t : State) (h : Hello), exec .helloSend s = .next t ∧ t.sel.sent = some (.hello h) ∧ h.roleB = s.is GLB_STRAP.TWIN_ID ∧ h.feat = s.rd GLB_FEAT.addr ∧
      h.proto = s.get SEL_VER.PROTO ∧ h.fwver = s.get SEL_VER.FWVER ∧ h.pairId = s.rd SEL_PAIR_ID.addr ∧ h.mode = s.get SEL_CTRL.MODE ∧
      h.epoch = s.beam.epoch ∧ h.jsnOwn = s.beam.jsn ∧ h.jsnPeer = s.beam.peerJsn ∧ OnlyRegisters [] { s with sel := t.sel } t) ∧
  (∀ (s : State) (h : FrameHdr) (b : Heartbeat), Arrives s h → s.peerLive = false → b.t1 ≠ 0 → -32768 ≤ b.curr → b.curr < 32768 → b.cap < 65536 →
    b.pairState < 9 → b.service < 4 → -6000 < (b.t2 : Int) - b.t1 - (s.time - b.t3) → (b.t2 : Int) - b.t1 - (s.time - b.t3) < 6000 →
    ∃ t, exec (.heartbeat h b) s = .next t ∧ t.get SEL_STATUS.PEER_STATE = b.pairState ∧ t.get SEL_STATUS.PEER_SERVICE = b.service ∧
      t.is SEL_STATUS.PEER_CHIP = b.chip ∧ t.getZ SEL_PEER_I.CURR = b.curr ∧ t.get SEL_PEER_I.CAP = b.cap ∧
      t.getZ SEL_TIME.OFFSET = 10 * ((b.t2 : Int) - b.t1 - (s.time - b.t3)) / 2 ∧ t.sel.lastFrame = some s.time ∧ t.time = s.time ∧
      t.sel.peerQuals = b.quals ∧ SameRegistersBut [SEL_STATUS.addr, SEL_PEER_I.addr, SEL_TIME.addr] s t ∧ SameMemories s t) ∧
  (∀ (s : State) (h : FrameHdr) (b : Heartbeat), Arrives s h → s.paired = true → s.roleB = true → s.is SEL_STATUS.TIME_MASTER = false → b.t1 ≠ 0 →
    10 ≤ 5 * ((b.t2 : Int) - b.t1 - (s.time - b.t3)) → s.time % 100 < 99 →
    ∃ t, exec (.heartbeat h b) s = .next t ∧ t.time = s.time + 1 ∧ t.sel.intended = b.intended ∧ t.sel.intendedTick = b.intendedTick) ∧
  (∀ (s : State) (h : FrameHdr) (e : Hello), Arrives s h → s.soloMode = false → s.peerLive = false → s.pairState ≠ 8 → e.proto < 256 → e.fwver < 65536 →
    ∀ n : Nat, n = (if s.is GLB_STRAP.TWIN_ID = e.roleB then 1 else if s.rd GLB_FEAT.addr ≠ e.feat then 2 else if s.get SEL_VER.PROTO ≠ e.proto then 3
        else if s.rd SEL_PAIR_ID.addr ≠ e.pairId then 4 else if s.get SEL_CTRL.MODE ≠ e.mode then 5 else 0) → n ≠ 0 →
    ∃ t, exec (.hello h e) s = .next t ∧ t.get SEL_STATUS.PAIR_ERR = n ∧ t.is SEL_FLAGS.PAIR_FAIL = true ∧ t.get SEL_STATUS.PAIR_STATE = 7 ∧
      t.peerLive = false ∧ t.get SEL_PEER.PROTO = e.proto ∧ t.get SEL_PEER.FWVER = e.fwver ∧ t.get SEL_PEER.VARIANT = e.feat.toNat / 65536 % 256 ∧
      SameRegistersBut [SEL_STATUS.addr, SEL_FLAGS.addr, SEL_PEER.addr] s t ∧ SameMemories s t) ∧
  (∀ (s : State) (h : FrameHdr) (e : Hello), Arrives s h → s.soloMode = false → s.peerLive = false → s.is GLB_STRAP.TWIN_ID ≠ e.roleB →
    s.rd GLB_FEAT.addr = e.feat → s.get SEL_VER.PROTO = e.proto → s.rd SEL_PAIR_ID.addr = e.pairId → s.get SEL_CTRL.MODE = e.mode →
    s.beam.epoch = e.epoch → s.beam.peerJsn < e.jsnOwn → s.lacking e.jsnPeer = [] →
    ∃ t, exec (.hello h e) s = .next t ∧ t.peerLive = true ∧ t.is SEL_FLAGS.PAIRED = true ∧ t.get SEL_STATUS.PAIR_STATE = 1 ∧ t.get BEM_STATUS.MIRROR = 2 ∧
      t.is SEL_STATUS.TIME_MASTER = !s.roleB ∧ t.get SEL_STATUS.PAIR_ERR = 0 ∧ t.sel.split = s.get SEL_CTRL.SPLIT ∧ t.sel.pairId = s.rd SEL_PAIR_ID.addr ∧
      t.time = (if 1000 < s.sel.theta then s.time + (s.sel.theta / 10).toNat else s.time) ∧ (1000 < s.sel.theta → t.is SEL_FLAGS.TIME_STEP = true)) ∧
  (∀ (s : State) (h : FrameHdr) (kind : Nat), Arrives s h → s.peerLive = true → s.sel.handover = none → s.upd.pushing = none → s.sel.handBack = false →
    s.sel.idleTrunk = false → s.sel.returning = false → s.sel.adopted = false → s.beam.mirJobs = [] → s.beam.mirCommits = [] → s.pairState ≠ 4 →
    ∀ (i : Instr) (n : Nat), (i = .noticeReset h kind ∧ n = 2 ∨ i = .noticeSafe h ∧ n = 3 ∨ i = .noticeLeave h ∧ n = 4) →
      ∃ t, exec i s = .next t ∧ t.peerLive = false ∧ t.get SEL_STATUS.LOSS = n ∧ t.pairState = 7 ∧ t.is SEL_FLAGS.PEER_LOST = true ∧
        t.rd SEL_LOSS_TIME.addr = BitVec.ofNat 32 s.time ∧ bitOf (t.get SAF_FAULT.FAULT) 20 = true ∧ t.get BEM_STATUS.MIRROR = 3 ∧
        t.is SEL_STATUS.TIME_MASTER = true ∧ t.beam.epoch = s.beam.epoch + 1 ∧ t.sel.acks = [] ∧ SameMemories s t) ∧
  (∀ (s : State) (h : FrameHdr), Arrives s h → s.peerLive = false →
    exec (.noticeReset h 0) s = .next s.heard ∧ exec (.noticeSafe h) s = .next s.heard ∧ exec (.noticeLeave h) s = .next s.heard) ∧
  (∀ (s : State) (h : FrameHdr) (p : Word), Arrives s h → (p ≠ s.rd SEL_PAIR_ID.addr ∨ s.is SEL_CTRL.PEER_RST_EN = false) →
    exec (.resetReq h p) s = .next s.heard) ∧
  (∀ (s : State) (h : FrameHdr), Arrives s h → s.is SEL_CTRL.PEER_RST_EN = true → s.saf.inReset = none → s.is UPD_STATUS.NVM_BUSY = false →
    ∃ t, exec (.resetReq h (s.rd SEL_PAIR_ID.addr)) s = .next t ∧ t.saf.inReset = some 6 ∧ t.get SAF_RST_CAUSE.KIND = 6)

/-- R178, R272, R281, R364, R366 to R368, R373 to R376, R381, R383, R384, R387, R427: the sequenced frames of the peer. Orders of the pair, mirrored
records and their acknowledgement, job states, descriptors, resynchronization, hand-back and the update of this twin. -/
def Obligations.PeerFrames : Prop :=
  (∀ (s : State) (h : FrameHdr) (o : Order), ArrivesInTurn s h → pairWide o.target = true → s.time / 100 < o.tick →
    exec (.order h (.order o)) s = .next (s.heardInTurn.queueOrder { o with master := min o.master 3, slot := none, job := 0 })) ∧
  (∀ (s : State) (h : FrameHdr) (o : Order), ArrivesInTurn s h → pairWide o.target = true → o.tick ≤ s.time / 100 →
    ∃ t : State, exec (.order h (.order o)) s = .next t ∧ t.is SEL_FLAGS.ORDER_LATE = true ∧ SameRegistersBut [SEL_FLAGS.addr] s t ∧ SameMemories s t ∧
      t.lom.orders = s.lom.orders ++ [{ o with tick := s.time / 100 + 1, master := min o.master 3, slot := none, job := 0 }]) ∧
  (∀ (s : State) (h : FrameHdr) (tick : Nat) (w : Word), ArrivesInTurn s h → s.time / 100 < tick →
    exec (.order h (.mode tick w)) s = .next { s.heardInTurn with sel := { s.heardInTurn.sel with modeAt := s.sel.modeAt ++ [(tick, w)] } }) ∧
  (∀ (s : State) (h : FrameHdr) (k a v : Nat), ArrivesInTurn s h → s.warpRuns = false → exec (.stamp h k a v) s = .next s.heardInTurn) ∧
  (∀ (s : State) (h : FrameHdr) (k a v : Nat), ArrivesInTurn s h → s.warpRuns = true →
    exec (.stamp h k a v) s = .next (s.heardInTurn.twinStamp k a (v % 4294967296))) ∧
  (∀ (s : State) (h : FrameHdr) (n : Nat) (f : Bool), ArrivesInTurn s h → s.sel.acks.find n = none → exec (.commitAck h n f) s = .next s.heardInTurn) ∧
  (∀ (s : State) (h : FrameHdr) (n m r : Nat) (j : Job), ArrivesInTurn s h → s.sel.acks.find n = some (.job m r j) → (s.job m r).state = 1 →
    (s.job m r).jobId = j.jobId →
    ∃ t, exec (.commitAck h n false) s = .next t ∧ t.job m r = { s.job m r with confirmed := true } ∧ t.sel.acks = s.sel.acks.erase n ∧
      t.beam.ackedJsn = max s.beam.ackedJsn n ∧ t.jobs.posts = s.jobs.posts ∧ SameMemories s t) ∧
  (∀ (s : State) (h : FrameHdr) (n m r : Nat) (j : Job), ArrivesInTurn s h → s.sel.acks.find n = some (.job m r j) → (s.job m r).state = 1 →
    (s.job m r).jobId = j.jobId → s.beam.mirJobs = [] → m < 4 → bitOf (s.get JOB_CTRL.ACK_EN) m = true →
    ∃ t, exec (.commitAck h n true) s = .next t ∧ t.job m r = {} ∧ t.is BEM_FLAGS.DUP_RACE = true ∧ SameMemories s t ∧
      t.jobs.posts = s.jobs.posts ++ [(m, completionEntry { s.job m r with state := 11 } false 0x3F)]) ∧
  (∀ (s : State) (h : FrameHdr) (n c : Nat) (x : Commit), ArrivesInTurn s h →
    ∃ t, exec (.mirror h n (.commit c x)) s = .next t ∧ t.beam.mirCommits.find c = some x ∧ t.beam.peerJsn = max s.beam.peerJsn n ∧
      t.sel.sent = some (.commitAck n false) ∧ (t.sel.unacked.map (fun a => a.frame)) = [.commitAck n false] ∧
      SameRegistersBut [BEM_JSN_LO.addr, BEM_JSN_HI.addr, BEM_ACKED_LO.addr, BEM_PEER_LO.addr] s t ∧ SameMemories s t) ∧
  (∀ (s : State) (h : FrameHdr) (n : Nat) (i : Nat) (w : Word), ArrivesInTurn s h →
    ∃ t : State, exec (.mirror h n (.pmWord i w)) s = .next t ∧ t.pm = s.pm.set i w ∧ t.sel.sent = some (.commitAck n false) ∧ t.dm = s.dm ∧ t.ctx = s.ctx ∧
      t.win = s.win) ∧
  (∀ (s : State) (h : FrameHdr) (n m r q : Nat) (j : Job), ArrivesInTurn s h → s.roleB = false → q < 32 → q ≠ r → (s.job m q).state ≠ 0 →
    (s.job m q).foreign = false → (s.job m q).jobId = j.jobId →
    ∃ t, exec (.mirror h n (.job m r j)) s = .next t ∧ t.is BEM_FLAGS.DUP_RACE = true ∧ t.sel.sent = some (.commitAck n true) ∧
      t.beam.mirJobs = s.beam.mirJobs ∧ t.jobs = s.jobs ∧ SameMemories s t) ∧
  (∀ (s : State) (h : FrameHdr) (m r : Nat) (j : Job), ArrivesInTurn s h → (s.job m r).state ≠ 0 → (s.job m r).jobId = j.jobId → j.state ≠ 0 →
    terminalState j.state = false →
    ∃ t, exec (.state h m r j) s = .next t ∧ t.job m r = { j with foreign := (s.job m r).foreign, reads := (s.job m r).reads, committed := true, confirmed := true } ∧
      t.jobs.posts = s.jobs.posts ∧ SameRegistersBut [] s t ∧ SameMemories s t) ∧
  (∀ (s : State) (h : FrameHdr) (m r : Nat) (j : Job), ArrivesInTurn s h → m < 4 → (s.job m r).state ≠ 0 → (s.job m r).jobId = j.jobId →
    (s.job m r).foreign = false → terminalState (s.job m r).state = false → terminalState j.state = true →
    ∃ t, exec (.state h m r j) s = .next t ∧ (t.job m r).state = j.state ∧ t.jobs.posts.length = s.jobs.posts.length + 1 ∧ SameMemories s t) ∧
  (∀ (s : State) (h : FrameHdr) (l : List Word), ArrivesInTurn s h → l.length = 8 →
    (s.get (JOB_SQ.TAIL 3) + 64 - s.get (JOB_SQ.HEAD 3)) % 64 ≠ 32 →
    ∃ t, exec (.submit h l) s = .next t ∧ t.get (JOB_SQ.TAIL 3) = (s.get (JOB_SQ.TAIL 3) + 1) % 64 ∧ t.get (JOB_SQ.HEAD 3) = s.get (JOB_SQ.HEAD 3) ∧
      (∀ k, k < 8 → t.win.get (0x4C00 + 0x20 * (s.get (JOB_SQ.TAIL 3) % 32) + 4 * k) = l.getD k 0) ∧
      (∀ a, (a < 0x4C00 + 0x20 * (s.get (JOB_SQ.TAIL 3) % 32) ∨ 0x4C20 + 0x20 * (s.get (JOB_SQ.TAIL 3) % 32) ≤ a) → t.win.get a = s.win.get a) ∧
      t.pm = s.pm ∧ t.dm = s.dm ∧ t.ctx = s.ctx ∧ SameRegistersBut [JOB_SQ.addr 3] s t) ∧
  (∀ (s : State) (h : FrameHdr) (l : List Word), ArrivesInTurn s h → (s.get (JOB_SQ.TAIL 3) + 64 - s.get (JOB_SQ.HEAD 3)) % 64 = 32 →
    ∃ t, exec (.submit h l) s = .next t ∧ t.is JOB_FLAGS.SQ_BAD = true ∧ SameRegistersBut [JOB_FLAGS.addr] s t ∧ SameMemories s t) ∧
  (∀ (s : State) (h : FrameHdr) (n left c : Nat) (x : Commit), ArrivesInTurn s h → 0 < left →
    ∃ t, exec (.resync h n (.commit c x) left) s = .next t ∧ t.beam.mirCommits.find c = some x ∧ t.beam.peerJsn = max s.beam.peerJsn n ∧
      t.get BEM_RESYNC.LEFT = min left 65535 ∧ t.get BEM_RESYNC.DONE = min (s.get BEM_RESYNC.DONE + 1) 65535 ∧ t.pairState = s.pairState ∧ SameMemories s t) ∧
  (∀ (s : State) (h : FrameHdr) (n c : Nat), ArrivesInTurn s h → s.pairState = 1 → s.sel.returning = false → s.sel.idleTrunk = false →
    s.beam.epoch ≤ s.sel.peerEpoch → s.get SEL_CTRL.MODE = 1 →
    ∃ t, exec (.resync h n (.free c) 0) s = .next t ∧ t.pairState = 2 ∧ t.is BEM_FLAGS.RESYNC_DONE = true ∧ t.get BEM_STATUS.MIRROR = 1 ∧
      t.get BEM_RESYNC.LEFT = 0 ∧ SameMemories s t) ∧
  (∀ (s : State) (h : FrameHdr) (i : HandoverItem), ArrivesInTurn s h → s.peerLive = false → exec (.handover h i) s = .next s.heardInTurn) ∧
  (∀ (s : State) (h : FrameHdr), ArrivesInTurn s h → s.peerLive = true → s.sel.handover = none → s.sel.handBack = true →
    ∃ t, exec (.handover h (.done 0)) s = .next t ∧ t.is SEL_FLAGS.REJOINED = true ∧ t.get BEM_STATUS.MIRROR = 1 ∧
      t.pairState = (if s.get SEL_CTRL.MODE = 2 then 3 else 2) ∧ SameRegistersBut [SEL_FLAGS.addr, SEL_STATUS.addr, BEM_STATUS.addr] s t ∧ SameMemories s t) ∧
  (∀ (s : State) (h : FrameHdr) (c p : Nat), ArrivesInTurn s h → s.peerLive = true →
    exec (.handover h (.last c p false)) s = .next { s.heardInTurn with sel := { s.heardInTurn.sel with backReady := true } }) ∧
  (∀ (s : State) (h : FrameHdr) (k a n d v : Nat) (w : Word), ArrivesInTurn s h → s.peerLive = true → s.warpRuns = true → k < 16 →
    s.rd (WRP_T_CFG.addr k) ≠ w →
    ∃ t, exec (.handover h (.track k w a n d v)) s = .next t ∧ t.is SEL_FLAGS.TRACK_MISMATCH = true ∧ SameRegistersBut [SEL_FLAGS.addr] s t ∧ SameMemories s t) ∧
  (∀ (s : State) (h : FrameHdr) (n : Nat), ArrivesInTurn s h → s.session = true →
    ∃ t, exec (.update h (.start n)) s = .next t ∧ t.is UPD_FLAGS.BUSY_REJ = (if s.fullService && !s.is UPD_STATUS.HOLD then true else s.is UPD_FLAGS.BUSY_REJ) ∧
      t.sel.sent = some (.update (.answer false)) ∧ t.session = true ∧ t.get UPD_STATUS.OWNER = s.get UPD_STATUS.OWNER ∧ SameMemories s t) ∧
  (∀ (s : State) (h : FrameHdr) (n : Nat), ArrivesInTurn s h → s.session = false → s.fullService = true → s.is UPD_STATUS.HOLD = false →
    ∃ t, exec (.update h (.start n)) s = .next t ∧ t.session = true ∧ t.get UPD_STATUS.OWNER = 3 ∧ t.sel.sent = some (.update (.answer true)) ∧ SameMemories s t) ∧
  (∀ (s : State) (h : FrameHdr) (n : Nat) (l : List Word), ArrivesInTurn s h → (s.session = false ∨ s.get UPD_STATUS.OWNER ≠ 3) →
    ∃ t, exec (.update h (.block n l)) s = .next t ∧ t.sel.sent = some (.update (.answer false)) ∧ t.upd = s.upd ∧ SameRegistersBut [] s t ∧ SameMemories s t) ∧
  (∀ (s : State) (h : FrameHdr) (n : Nat) (l : List Word), ArrivesInTurn s h → s.session = true → s.get UPD_STATUS.OWNER = 3 → s.upd.programming = none →
    n = s.upd.next → 0 < n → n < 96 →
    ∃ t, exec (.update h (.block n l)) s = .next t ∧ t.upd.programming = some (n, l) ∧ t.is UPD_STATUS.NVM_BUSY = true ∧ SameMemories s t) ∧
  (∀ (s : State) (h : FrameHdr), ArrivesInTurn s h → s.upd.pushing = none → exec (.update h (.answer true)) s = .next s.heardInTurn) ∧
  (∀ (s : State) (h : FrameHdr) (k : Nat), ArrivesInTurn s h → s.upd.pushing = some k →
    ∃ t, exec (.update h (.answer false)) s = .next t ∧ t.upd.pushing = none ∧ t.is UPD_FLAGS.PUSH_FAIL = true ∧ SameRegistersBut [UPD_FLAGS.addr] s t ∧ SameMemories s t)

/-- R360, R363, R369 to R371, R377 to R380, R382, R383, R387: the upkeep of a pair. The probe of `SHARE` and the two ends of a silence, the trims, the
join ramp with its abandonment and retry, the end of a hand-back, the keyed link commands and a write of `SEL_CTRL`. -/
def Obligations.PairUpkeep : Prop :=
  (∀ (s : State) (t0 : Nat), s.peerLive = true → s.sel.lastFrame = some t0 → s.sel.probeAt = none → s.sel.probeLost = none →
    exec .shareProbeStart s = .next (if (if s.is GLB_STRAP.TWIN_ID then t0 + 3500 else t0 + 2000) ≤ s.time
      then { s with sel := { s.sel with probeAt := some s.time } } else s)) ∧
  (∀ (s : State) (mv t0 : Nat), s.sel.probeAt = some t0 →
    exec (.shareProbeEnd mv) s = .next (if t0 + 1000 ≤ s.time then { s with sel := { s.sel with probeAt := none, probeLost := some (decide (3180 ≤ mv)) } } else s)) ∧
  (∀ (s : State) (t0 : Nat) (gone : Bool), s.sel.lastFrame = some t0 → s.sel.probeLost = some gone → s.time < t0 + 5000 → exec .peerSilence s = .next s) ∧
  (∀ (s : State) (t0 : Nat) (gone : Bool), s.sel.lastFrame = some t0 → s.sel.probeLost = some gone → t0 + 5000 ≤ s.time → s.peerLive = true →
    s.sel.handover = none → s.upd.pushing = none → s.sel.handBack = false → s.sel.idleTrunk = false → s.sel.returning = false → s.sel.adopted = false →
    s.beam.mirJobs = [] → s.beam.mirCommits = [] → s.pairState ≠ 4 →
    ∃ t, exec .peerSilence s = .next t ∧ t.peerLive = false ∧ t.get SEL_STATUS.LOSS = (if gone then 1 else 5) ∧ t.pairState = (if gone then 7 else 8) ∧
      t.is SEL_FLAGS.PEER_LOST = true ∧ t.beam.epoch = (if gone then s.beam.epoch + 1 else s.beam.epoch) ∧ t.get BEM_STATUS.MIRROR = 3 ∧
      t.rd SEL_LOSS_TIME.addr = BitVec.ofNat 32 s.time ∧ bitOf (t.get SAF_FAULT.FAULT) 20 = true ∧ SameMemories s t) ∧
  (∀ (s : State), s.get SRC_STATUS.PRIMARY = 1 →
    s.vOwn = clampZ 500000 3000000 (500000 + quot (2000000 * 128 * s.blockCurrent .trk) (s.weight * s.get TRK_CAP.CONT : Nat))) ∧
  (∀ (s : State) (mv : Nat), mv < 65536 → s.trimming = true → s.sel.probeAt = none →
    ∃ t, exec (.shareTrimAnalog mv) s = .next t ∧ t.get SEL_SHARE_ST.VSHARE = mv ∧ t.sel.dTrim = s.sel.dTrim ∧
      t.sel.aTrim = s.sel.aTrim + quot ((max 1 (s.get SEL_SHARE.AGAIN) : Nat) * (1000 * (mv : Int) - s.vOwn)) 1000 ∧
      SameRegistersBut [SEL_SHARE_ST.addr, SEL_FLAGS.addr] s t ∧ SameMemories s t) ∧
  (∀ (s : State) (mv : Nat), mv < 65536 → s.hasSel = true → s.fullService = true → s.trimming = false →
    ∃ t, exec (.shareTrimAnalog mv) s = .next t ∧ t.get SEL_SHARE_ST.VSHARE = mv ∧ t.sel.aTrim = 0 ∧ t.sel.dTrim = 0 ∧ SameMemories s t) ∧
  (∀ (s : State), s.trimming = true → s.peerLive = true → s.get SRC_STATUS.PRIMARY = 1 →
    ∃ t, exec .shareTrimDigital s = .next t ∧ t.sel.aTrim = s.sel.aTrim ∧
      t.sel.dTrim = s.sel.dTrim + quot ((max 1 (s.get SEL_SHARE.DGAIN) : Nat) * 10000 * 128 * (s.getZ SEL_PEER_I.CURR * (s.weight * s.get TRK_CAP.CONT : Nat) -
        s.blockCurrent .trk * (s.sel.peerWeight * s.get SEL_PEER_I.CAP : Nat))) ((s.weight * s.get TRK_CAP.CONT : Nat) * (s.sel.peerWeight * s.get SEL_PEER_I.CAP : Nat)) ∧
      SameRegistersBut [SEL_SHARE_ST.addr, SEL_FLAGS.addr] s t ∧ SameMemories s t) ∧
  (∀ (s : State), s.peerLive = false → exec .shareTrimDigital s = .next s) ∧
  (∀ (s : State) (rail : Nat), exec (.standbyTake rail) s =
    .next (if s.pairState = 4 ∧ 10000 * (rail : Int) < s.refOf .trk then s.raise SEL_FLAGS.STANDBY_TAKE else s)) ∧
  (∀ (s : State) (mv rail : Nat), s.sel.idleTrunk = true → s.get GLB_REGION.SERVICE = 1 → s.chipSafe = false →
    (400 ≤ mv → exec (.shareReleased mv rail) s = .next s) ∧
    (mv < 400 → ∃ t, exec (.shareReleased mv rail) s = .next t ∧ t.sel.idleTrunk = false ∧ t.mod.romTrunk = true)) ∧
  (∀ (s : State) (t0 : Nat), s.sel.joinStart = some t0 → s.time < t0 + s.rampPeriod → exec .joinRampDone s = .next s) ∧
  (∀ (s : State) (t0 : Nat), s.sel.joinStart = some t0 → t0 + s.rampPeriod ≤ s.time → s.sel.unacked = [] →
    ∃ t, exec .joinRampDone s = .next t ∧ t.sel.joinStart = none ∧ t.sel.joinTries = 0 ∧ t.sel.aTrim = 0 ∧ t.sel.dTrim = 0 ∧
      t.sel.sent = some (.handover .ready) ∧ SameMemories s t) ∧
  (∀ (s : State) (rail t0 : Nat), s.sel.joinStart = some t0 → (s.fleet .trk).vref.natAbs < 100 * (10000 * (rail : Int) - (s.fleet .trk).vref).natAbs →
    ∃ t, exec (.joinAbort rail) s = .next t ∧ t.is SEL_FLAGS.JOIN_ABORT = true ∧ t.get SRC_STATUS.PRIMARY = 0 ∧ t.is TRK_STATUS.ENABLED = false ∧
      t.sel.joinStart = none ∧ t.sel.idleTrunk = true ∧ t.sel.joinTries = s.sel.joinTries + 1 ∧
      t.sel.joinRetryAt = (if s.sel.joinTries < 2 then some (s.time + 1000000) else none) ∧ SameMemories s t) ∧
  (∀ (s : State) (rail : Nat), 100 * (10000 * (rail : Int) - (s.fleet .trk).vref).natAbs ≤ (s.fleet .trk).vref.natAbs → exec (.joinAbort rail) s = .next s) ∧
  (∀ (s : State) (t0 : Nat), s.sel.joinRetryAt = some t0 → s.time < t0 → exec .joinRetry s = .next s) ∧
  (∀ (s : State) (t0 : Nat), s.sel.joinRetryAt = some t0 → t0 ≤ s.time → s.pairState = 5 → s.peerLive = true →
    ∃ t, exec .joinRetry s = .next t ∧ t.sel.joinStart = some s.time ∧ t.sel.joinRetryAt = none ∧ t.sel.idleTrunk = false) ∧
  (∀ (s : State), s.sel.backReady = true → s.pairState = 5 → s.beam.commits = [] → s.sel.unacked = [] →
    ∃ t, exec .handBackDone s = .next t ∧ t.is SEL_FLAGS.REJOINED = true ∧ t.pairState = (if s.get SEL_CTRL.MODE = 2 then 4 else 2) ∧
      t.get BEM_STATUS.MIRROR = 1 ∧ t.sel.sent = some (.handover (.done 0)) ∧
      SameRegistersBut [SEL_FLAGS.addr, SEL_STATUS.addr, BEM_STATUS.addr] s t ∧ SameMemories s t) ∧
  (∀ (s : State) (m : Master) (key : BitVec 16), s.mayWrite m = true → s.hasSel = true → key ≠ 0xB47A →
    ∀ i : Instr, (i = .peerReset m key ∨ i = .retrain m key ∨ i = .pair m key) →
      exec i s = .next { s with sel := { s.sel with results := s.sel.results.put m.val 2 } }) ∧
  (∀ (s : State) (m : Master), s.mayWrite m = true → s.hasSel = true →
    (if s.pairState = 2 ∨ s.pairState = 3 ∨ s.pairState = 4 then
      exec (.peerReset m 0xB47A) s = .next { s with sel := { s.sel with sent := some (.resetReq s.sel.pairId), nak := false, results := s.sel.results.put m.val 0 } }
    else exec (.peerReset m 0xB47A) s = .next { s with sel := { s.sel with results := s.sel.results.put m.val 1 } })) ∧
  (∀ (s : State) (m : Master), s.mayWrite m = true → s.linkRuns = true →
    ∃ t, exec (.retrain m 0xB47A) s = .next t ∧ t.get SEL_STATUS.LINK = 1 ∧ t.is SEL_FLAGS.RETRAIN = true ∧ t.sel.rxSeq = 0 ∧
      t.sel.txSeq = s.sel.unacked.length ∧ t.sel.unacked.length = s.sel.unacked.length ∧ t.sel.results = s.sel.results.put m.val 0 ∧
      t.get SEL_LINK_CNT.RETX = (s.get SEL_LINK_CNT.RETX + s.sel.unacked.length) % 65536 ∧
      SameRegistersBut [SEL_LINK_CNT.addr, SEL_STATUS.addr, SEL_FLAGS.addr] s t ∧ SameMemories s t) ∧
  (∀ (s : State) (m : Master), s.mayWrite m = true → s.hasSel = true → s.linkUp = true → s.soloMode = false →
    ∃ t : State, exec (.pair m 0xB47A) s = .next t ∧ t.sel.sent = some (.hello s.helloFrame) ∧ t.sel.results = s.sel.results.put m.val 0 ∧
      OnlyRegisters [] { s with sel := t.sel } t) ∧
  (∀ (s : State) (m : Master) (w : Word), s.mayWrite m = true → s.hasSel = true → s.peerLive = false →
    ∃ t, exec (.selModeWrite m w) s = .next t ∧ t.get SEL_CTRL.SPLIT = SEL_CTRL.SPLIT.of w ∧ t.get SEL_CTRL.PEER_RST_EN = SEL_CTRL.PEER_RST_EN.of w ∧
      t.get SEL_CTRL.MODE = s.get SEL_CTRL.MODE ∧ t.get SEL_CTRL.SB_OFFSET = s.get SEL_CTRL.SB_OFFSET ∧ t.sel.modeAt = s.sel.modeAt ++ [(s.tickFor, w)] ∧
      SameRegistersBut [SEL_CTRL.addr] s t ∧ SameMemories s t) ∧
  (∀ (s : State) (m : Master) (w : Word), s.mayWrite m = true → s.hasSel = true → s.peerLive = true → s.sel.unacked = [] →
    ∃ t, exec (.selModeWrite m w) s = .next t ∧ t.sel.modeAt = s.sel.modeAt ++ [(s.tickFor + 4, w)] ∧ t.sel.sent = some (.order (.mode (s.tickFor + 4) w)) ∧
      SameRegistersBut [SEL_CTRL.addr] s t ∧ SameMemories s t)

/-- R388 to R392, R398, R401: the window watchdog. Its two keys from M4, the window, and what a violation or an expiry does. -/
def Obligations.Watchdog : Prop :=
  (∀ (s : State) (m : Master) (k : BitVec 16), m.val ≠ 4 → exec (.wdgKeyFirst m) s = .next s ∧ exec (.wdgKeySecond m) s = .next s ∧
    exec (.wdgKeyInvalid m k) s = .next s) ∧
  (∀ (s : State), s.saf.inReset = none → s.mode < 3 → s.saf.wdgArmed = none →
    ∃ t : State, exec (.wdgKeyFirst 4) s = .next t ∧ t.saf.wdgArmed = some s.aon ∧ t.get SAF_WDG_KEY.SEQ = 1 ∧
      OnlyRegisters [SAF_WDG_KEY.addr] { s with saf := { s.saf with wdgArmed := some s.aon } } t) ∧
  (∀ (s : State) (a : Nat), s.saf.inReset = none → s.mode < 3 → s.saf.wdgArmed = some a → s.aon ≤ a + 64 → s.saf.wdgC ≤ s.wdgIndex →
    s.wdgIndex < s.saf.wdgC + s.saf.wdgO → s.wdgIndex < 2097152 →
    ∃ t : State, exec (.wdgKeySecond 4) s = .next t ∧ t.get SAF_WDG_STAT.LAST = 1 ∧ t.get SAF_WDG_LAST.LAST_IDX = s.wdgIndex ∧ t.is SAF_WDG_STAT.FIRST = false ∧
      t.get SAF_WDG_KEY.SEQ = 0 ∧ t.saf.wdgArmed = none ∧ t.saf.wdgT0 = s.aon ∧ t.saf.wdgC = 10 * max 1 (s.get SAF_WDG_CFG.CLOSED) ∧
      t.saf.wdgO = 10 * max 1 (s.get SAF_WDG_CFG.OPEN) ∧ t.saf.served = true ∧
      SameRegistersBut [SAF_WDG_STAT.addr, SAF_WDG_LAST.addr, SAF_WDG_KEY.addr] s t ∧ SameMemories s t) ∧
  (∀ (s : State) (i : Instr) (code : Nat), s.saf.inReset = none → s.mode < 3 → s.is UPD_STATUS.NVM_BUSY = false →
    (s.is SAF_WDG_CTRL.DIS = false ∨ s.is SAF_STATUS.TEST_ACT = false) →
    (i = .wdgKeySecond 4 ∧ s.saf.wdgArmed = none ∧ code = 3 ∨
      i = .wdgKeyFirst 4 ∧ s.saf.wdgArmed.isSome = true ∧ code = 3 ∨
      (∃ k : BitVec 16, i = .wdgKeyInvalid 4 k ∧ k ≠ 0xA5C3 ∧ k ≠ 0x5A3C ∧ code = 3) ∨
      (∃ a, i = .wdgKeySecond 4 ∧ s.saf.wdgArmed = some a ∧ a + 64 < s.aon ∧ code = 4) ∨
      (∃ a, i = .wdgKeyTimeout ∧ s.saf.wdgArmed = some a ∧ a + 65 ≤ s.aon ∧ code = 4) ∨
      (∃ a, i = .wdgKeySecond 4 ∧ s.saf.wdgArmed = some a ∧ s.aon ≤ a + 64 ∧ s.wdgIndex < s.saf.wdgC ∧ code = 2) ∨
      (∃ a, i = .wdgKeySecond 4 ∧ s.saf.wdgArmed = some a ∧ s.aon ≤ a + 64 ∧ s.saf.wdgC + s.saf.wdgO ≤ s.wdgIndex ∧ code = 5) ∨
      i = .wdgExpiry ∧ s.saf.wdgC + s.saf.wdgO ≤ s.wdgIndex ∧ code = 5) →
    ∃ t, exec i s = .next t ∧ t.saf.inReset = some 4 ∧ t.get SAF_RST_CAUSE.KIND = 4 ∧ t.get SAF_RST_CAUSE.DETAIL = code ∧ t.time = s.time ∧ t.beam = s.beam) ∧
  (∀ (s : State), s.saf.inReset = none → s.mode < 3 → s.saf.deferred = none → s.is UPD_STATUS.NVM_BUSY = true → s.is SAF_WDG_CTRL.DIS = false →
    s.saf.wdgC + s.saf.wdgO ≤ s.wdgIndex →
    ∃ t, exec .wdgExpiry s = .next t ∧ t.saf.inReset = none ∧ t.saf.deferred = some (4, 5) ∧ t.is SAF_STATUS.DEFER = true ∧ t.is SAF_WDG_STAT.DEFERRED = true ∧
      t.get SAF_WDG_STAT.LAST = 5 ∧ bitOf (t.get SAF_FAULT.FAULT) 0 = true ∧ SameMemories s t) ∧
  (∀ (s : State), s.saf.inReset = none → s.mode < 3 → s.is SAF_WDG_CTRL.DIS = true → s.is SAF_STATUS.TEST_ACT = true → s.saf.wdgC + s.saf.wdgO ≤ s.wdgIndex →
    ∃ t, exec .wdgExpiry s = .next t ∧ t.saf.inReset = none ∧ t.get SAF_WDG_STAT.LAST = 5 ∧ t.saf.wdgT0 = s.aon ∧
      SameRegistersBut [SAF_WDG_STAT.addr, SAF_WDG_KEY.addr] s t ∧ SameMemories s t) ∧
  (∀ (s : State), s.wdgIndex < s.saf.wdgC + s.saf.wdgO → exec .wdgExpiry s = .next s) ∧
  (∀ (s : State), (s.saf.wdgArmed = none ∨ ∃ a, s.saf.wdgArmed = some a ∧ s.aon < a + 65) → exec .wdgKeyTimeout s = .next s) ∧
  (∀ (s : State) (m : Master), s.mayWrite m = true →
    ∃ t, exec (.wdgLock m) s = .next t ∧ t.is SAF_WDG_CTRL.LOCK = true ∧ t.is SAF_WDG_CTRL.DIS = s.is SAF_WDG_CTRL.DIS ∧ OnlyRegisters [SAF_WDG_CTRL.addr] s t) ∧
  (∀ (s : State) (m : Master), s.mayWrite m = false → exec (.wdgLock m) s = .next s)

/-- R305, R395 to R399, R401 to R406, R412, R413: the fault collector, software reset, the power modes, wake and the reset pin. Result codes are 0 OK,
1 BUSY, 2 BAD and 3 REFUSED. -/
def Obligations.ResetsAndPower : Prop :=
  (∀ (s : State) (m : Master) (k c : Nat), s.mayWrite m = true → s.chipSafe = false → (k ≠ 0x3C96 ∨ 21 < c ∧ c ≠ 0xFF) →
    exec (.faultClear m k c) s = .next { s with saf := { s.saf with results := s.saf.results.put (8 + m.val) 2 } }) ∧
  (∀ (s : State) (m : Master) (c : Nat), s.mayWrite m = true → s.chipSafe = false → c ≤ 21 → c ≠ 4 → (c < 8 ∨ 16 < c) →
    bitOf (s.get SAF_FAULT.FAULT) c = true → s.causeGone c = true →
    ∃ t, exec (.faultClear m 0x3C96 c) s = .next t ∧ t.get SAF_FAULT.FAULT = setBitTo (s.get SAF_FAULT.FAULT) c false ∧
      (t.get SAF_FAULT.FAULT = 0 → t.get SAF_STATUS.FIRST_FAULT = 0xFF) ∧ t.saf = { s.saf with results := s.saf.results.put (8 + m.val) 0 } ∧
      SameRegistersBut [SAF_FAULT.addr, SAF_STATUS.addr] s t ∧ SameMemories s t) ∧
  (∀ (s : State) (m : Master) (c : Nat), s.mayWrite m = true → s.chipSafe = false → c ≤ 21 → bitOf (s.get SAF_FAULT.FAULT) c = true → s.causeGone c = false →
    ∃ t, exec (.faultClear m 0x3C96 c) s = .next t ∧ t.is SAF_FLAGS.CLR_REFUSED = true ∧ t.saf = { s.saf with results := s.saf.results.put (8 + m.val) 3 } ∧
      SameRegistersBut [SAF_FLAGS.addr] s t ∧ SameMemories s t) ∧
  (∀ (s : State) (m : Master), s.mayWrite m = true → s.chipSafe = false → bitOf (s.get SAF_FAULT.FAULT) 12 = true → s.contained .north = false →
    s.get GLB_REGION.NORTH = 2 →
    ∃ t, exec (.faultClear m 0x3C96 12) s = .next t ∧ t.get GLB_REGION.NORTH = 1 ∧ t.get SAF_FAULT.FAULT = setBitTo (s.get SAF_FAULT.FAULT) 12 false ∧
      SameRegistersBut [SAF_FAULT.addr, SAF_STATUS.addr, GLB_REGION.addr] s t ∧ SameMemories s t) ∧
  (∀ (s : State) (m : Master), s.mayWrite m = true → s.chipSafe = false → s.saf.inReset = none → s.is UPD_STATUS.NVM_BUSY = false →
    ∃ t, exec (.resetCmd m 0x9E47 1) s = .next t ∧ t.saf.inReset = some 5 ∧ t.get SAF_RST_CAUSE.KIND = 5 ∧ t.get SAF_RST_CAUSE.DETAIL = 7 ∧
      t.time = s.time ∧ t.beam = s.beam ∧ t.pm = [] ∧ t.dm = [] ∧ t.ctx = [] ∧ t.win = []) ∧
  (∀ (s : State) (m : Master), s.mayWrite m = true → s.chipSafe = false → s.saf.inReset = none → s.is UPD_STATUS.NVM_BUSY = true → s.saf.deferred = none →
    ∃ t, exec (.resetCmd m 0x9E47 1) s = .next t ∧ t.saf.inReset = none ∧ t.saf.deferred = some (5, 7) ∧ t.is SAF_STATUS.DEFER = true ∧
      SameRegistersBut [SAF_STATUS.addr] s t ∧ SameMemories s t) ∧
  (∀ (s : State) (m : Master) (k c : Nat), s.mayWrite m = true → s.chipSafe = false → (k ≠ 0x9E47 ∨ c ≠ 1) →
    exec (.resetCmd m k c) s = .next { s with saf := { s.saf with results := s.saf.results.put m.val 2 } }) ∧
  (∀ (s : State) (m : Master) (k c : Nat), 3 ≤ m.val → s.chipSafe = true → exec (.resetCmd m k c) s = .next s ∧ exec (.faultClear m k c) s = .next s) ∧
  (∀ (s : State) (m : Master) (i : Instr) (n : Nat), m.val ≠ 3 → s.mayWrite m = true → s.modeBusy n = false →
    (i = .pwrRun m 0x6D12 ∧ n = 0 ∨ i = .pwrLight m 0x6D12 ∧ n = 1 ∨ i = .pwrStandby m 0x6D12 ∧ n = 2 ∨ i = .pwrDeepSleep m 0x6D12 ∧ n = 3 ∨
      i = .pwrOff m 0x6D12 ∧ n = 4) →
    exec i s = .next { s with saf := { s.saf with modeReq := some n, results := s.saf.results.put (16 + m.val) 0 } }) ∧
  (∀ (s : State) (m : Master) (i : Instr), s.fullService = true → m.val ≠ 3 →
    (s.chipSafe = true ∨ s.is SAF_STATUS.DEFER = true ∨ s.is UPD_STATUS.SESSION = true ∨ s.is UPD_STATUS.NVM_BUSY = true ∨ s.is SAF_STATUS.LC_PENDING = true ∨
      ∃ r, s.regionSafe r = true) →
    (i = .pwrRun m 0x6D12 ∨ i = .pwrLight m 0x6D12 ∨ i = .pwrStandby m 0x6D12 ∨ i = .pwrDeepSleep m 0x6D12 ∨ i = .pwrOff m 0x6D12) →
    ∃ t : State, exec i s = .next t ∧ t.is SAF_FLAGS.PWR_REFUSED = true ∧
      OnlyRegisters [SAF_FLAGS.addr] { s with saf := { s.saf with results := s.saf.results.put (16 + m.val) 1 } } t) ∧
  (∀ (s : State) (m : Master) (k : BitVec 16) (i : Instr), s.mayWrite m = true → m.val ≠ 3 → k ≠ 0x6D12 →
    (i = .pwrRun m k ∨ i = .pwrLight m k ∨ i = .pwrStandby m k ∨ i = .pwrDeepSleep m k ∨ i = .pwrOff m k) →
    exec i s = .next { s with saf := { s.saf with results := s.saf.results.put (16 + m.val) 2 } }) ∧
  (∀ (s : State) (src : Fin 7) (v : Bool), bitOf (s.get SAF_WAKE_EN.EN) src.val = false → exec (.wake src v) s = .next s) ∧
  (∀ (s : State) (src : Fin 7) (v : Bool), bitOf (s.get SAF_WAKE_EN.EN) src.val = true → s.mode = 4 → (src = 0 ∨ src = 2 ∨ src = 3 ∨ src = 1 ∧ v = true) →
    ∃ t, exec (.wake src v) s = .next t ∧ t.saf.inReset = some 1 ∧ t.get SAF_RST_CAUSE.KIND = 1 ∧ t.time = 0 ∧ t.aon = 0 ∧ t.beam = s.beam) ∧
  (∀ (s : State) (src : Fin 7) (v : Bool), bitOf (s.get SAF_WAKE_EN.EN) src.val = true → src.val < 4 ∨ src.val = 5 → (s.mode = 2 ∨ s.mode = 3) →
    ∃ t, exec (.wake src v) s = .next t ∧ t.mode = 0 ∧ bitOf (t.get SAF_WAKE_SRC.SRC) src.val = true ∧ t.is SAF_FLAGS.WAKE = true ∧
      t.is SAF_WDG_STAT.PAUSED = false ∧ t.saf.modeReq = none ∧ t.saf.wdgFrozen = none ∧ t.time = s.time) ∧
  (∀ (s : State) (v : Bool), bitOf (s.get SAF_WAKE_EN.EN) 6 = true → s.mode = 2 → s.saf.loadWake = true →
    ∃ t, exec (.wake 6 v) s = .next t ∧ t.mode = 0 ∧ bitOf (t.get SAF_WAKE_SRC.SRC) 6 = true ∧ t.is SAF_FLAGS.WAKE = true ∧ t.saf.loadWake = false) ∧
  (∀ (s : State) (src : Fin 7) (v : Bool), bitOf (s.get SAF_WAKE_EN.EN) src.val = true → src.val < 4 → s.mode < 2 → (s.saf.modeReq = some 3 ∨ s.saf.modeReq = some 4) →
    ∃ t, exec (.wake src v) s = .next t ∧ t.saf.modeReq = none ∧ t.mode = 0 ∧ bitOf (t.get SAF_WAKE_SRC.SRC) src.val = true ∧
      SameRegistersBut [SAF_WAKE_SRC.addr, SAF_STATUS.addr] s t ∧ SameMemories s t) ∧
  (∀ (s : State), s.mode = 3 → s.get SAF_AON_TMR.MS ≠ 0 → bitOf (s.get SAF_WAKE_EN.EN) 4 = true →
    (s.aon < s.saf.sleptAt + 1000 * s.get SAF_AON_TMR.MS → exec .wakeTimer s = .next s) ∧
    (s.saf.sleptAt + 1000 * s.get SAF_AON_TMR.MS ≤ s.aon → ∃ t, exec .wakeTimer s = .next t ∧ t.mode = 0 ∧ bitOf (t.get SAF_WAKE_SRC.SRC) 4 = true ∧
      t.is SAF_FLAGS.WAKE = true ∧ t.is SAF_WDG_STAT.PAUSED = false)) ∧
  (∀ (s : State) (ns : Nat), (ns < 200 → exec (.resetNAssert ns) s = .next s) ∧
    (1000 ≤ ns → s.saf.inReset = none → s.is UPD_STATUS.NVM_BUSY = false →
      ∃ t, exec (.resetNAssert ns) s = .next t ∧ t.saf.inReset = some 3 ∧ t.get SAF_RST_CAUSE.KIND = 3 ∧ t.time = s.time ∧ t.beam = s.beam)) ∧
  (∀ (s : State), ∃ t, exec .brownOut s = .next t ∧ t.saf.inReset = some 1 ∧ t.saf.keepGoodAt = none ∧ t.get SAF_RST_CAUSE.KIND = 1 ∧ t.time = 0 ∧ t.beam = s.beam)

/-- R407 to R411, R413: the lifecycle. Which transitions need a token, the answers 0 OK, 1 BUSY, 2 BAD and 4 TOKEN_BAD, debug unlock, and the wipe. -/
def Obligations.Lifecycle : Prop :=
  (∀ (s : State) (m : Master) (k : BitVec 16) (i : Instr), (i = .lcProvisioned m k ∨ i = .lcField m k ∨ i = .lcReturn m k ∨ i = .lcScrapped m k ∨ i = .lcDebug m k) →
    (s.mayWrite m = false → exec i s = .next s) ∧
    (s.mayWrite m = true → m.val < 3 → k ≠ 0xD1E8 → exec i s = .next { s with saf := { s.saf with results := s.saf.results.put (24 + m.val) 2 } })) ∧
  (∀ (s : State) (m : Master) (i : Instr), s.mayWrite m = true → m.val < 3 →
    (i = .lcProvisioned m 0xD1E8 ∨ i = .lcField m 0xD1E8 ∨ i = .lcReturn m 0xD1E8 ∨ i = .lcScrapped m 0xD1E8 ∨ i = .lcDebug m 0xD1E8) →
    (s.saf.tokenFor.isSome = true ∨ s.is SAF_STATUS.LC_PENDING = true) →
    exec i s = .next { s with saf := { s.saf with results := s.saf.results.put (24 + m.val) 1 } }) ∧
  (∀ (s : State) (m : Master) (i : Instr) (n : Nat), s.mayWrite m = true → m.val < 3 → s.saf.tokenFor = none → s.is SAF_STATUS.LC_PENDING = false →
    (i = .lcProvisioned m 0xD1E8 ∧ n = 1 ∧ s.get SAF_STATUS.LC = 0 ∧ s.is SAF_STATUS.KEY_SET = true ∨ i = .lcField m 0xD1E8 ∧ n = 2 ∧ s.get SAF_STATUS.LC = 1 ∨
      i = .lcScrapped m 0xD1E8 ∧ n = 4 ∧ s.get SAF_STATUS.LC < 2) →
    ∃ t, exec i s = .next t ∧ t.get SAF_STATUS.LC = n ∧ t.is SAF_STATUS.LC_PENDING = true ∧ t.saf.wiping = some n ∧
      t.saf.results = s.saf.results.put (24 + m.val) 0 ∧ t.session = false ∧ SameMemories s t) ∧
  (∀ (s : State) (m : Master) (i : Instr) (n : Nat), s.mayWrite m = true → m.val < 3 → s.saf.tokenFor = none → s.is SAF_STATUS.LC_PENDING = false →
    (i = .lcReturn m 0xD1E8 ∧ n = 3 ∧ s.get SAF_STATUS.LC = 2 ∨ i = .lcScrapped m 0xD1E8 ∧ n = 4 ∧ (s.get SAF_STATUS.LC = 2 ∨ s.get SAF_STATUS.LC = 3) ∨
      i = .lcDebug m 0xD1E8 ∧ n = 8 ∧ (s.get SAF_STATUS.LC = 2 ∨ s.get SAF_STATUS.LC = 3)) →
    exec i s = .next { s with saf := { s.saf with tokenFor := some (m.val, n), results := s.saf.results.put (24 + m.val) 1 } }) ∧
  (∀ (s : State) (m : Master) (i : Instr), s.mayWrite m = true → m.val < 3 → s.saf.tokenFor = none → s.is SAF_STATUS.LC_PENDING = false →
    (i = .lcProvisioned m 0xD1E8 ∧ (s.get SAF_STATUS.LC ≠ 0 ∨ s.is SAF_STATUS.KEY_SET = false) ∨ i = .lcField m 0xD1E8 ∧ s.get SAF_STATUS.LC ≠ 1 ∨
      i = .lcReturn m 0xD1E8 ∧ s.get SAF_STATUS.LC ≠ 2 ∨ i = .lcScrapped m 0xD1E8 ∧ 3 < s.get SAF_STATUS.LC ∨
      i = .lcDebug m 0xD1E8 ∧ s.get SAF_STATUS.LC ≠ 2 ∧ s.get SAF_STATUS.LC ≠ 3) →
    exec i s = .next { s with saf := { s.saf with results := s.saf.results.put (24 + m.val) 2 } }) ∧
  (∀ (s : State), s.saf.tokenFor = none → exec .tokenVerifyDone s = .next s) ∧
  (∀ (s : State) (m n : Nat), s.saf.tokenFor = some (m, n) → s.tokenValid n = false →
    ∃ t, exec .tokenVerifyDone s = .next t ∧ t.is SAF_FLAGS.TOKEN_BAD = true ∧ t.saf.results = s.saf.results.put (24 + m) 4 ∧ t.saf.tokenFor = none ∧
      SameRegistersBut [SAF_FLAGS.addr, SAF_NONCE_LO.addr, SAF_NONCE_HI.addr] s t ∧ SameMemories s t) ∧
  (∀ (s : State) (m : Nat), s.saf.tokenFor = some (m, 8) → s.tokenValid 8 = true →
    ∃ t, exec .tokenVerifyDone s = .next t ∧ t.is SAF_STATUS.DBG_UNLOCK = true ∧ t.is SAF_STATUS.TEST_ACT = true ∧ t.get SAF_STATUS.LC = s.get SAF_STATUS.LC ∧
      t.saf.results = s.saf.results.put (24 + m) 0 ∧ t.saf.tokenFor = none ∧
      SameRegistersBut [SAF_STATUS.addr, SAF_NONCE_LO.addr, SAF_NONCE_HI.addr] s t ∧ SameMemories s t) ∧
  (∀ (s : State) (m n : Nat), s.saf.tokenFor = some (m, n) → (n = 3 ∨ n = 4) → s.tokenValid n = true →
    ∃ t, exec .tokenVerifyDone s = .next t ∧ t.get SAF_STATUS.LC = n ∧ t.is SAF_STATUS.LC_PENDING = true ∧ t.saf.wiping = some n ∧
      t.saf.results = s.saf.results.put (24 + m) 0 ∧ t.saf.tokenFor = none ∧ SameMemories s t) ∧
  (∀ (s : State), s.is SAF_STATUS.LC_PENDING = false → exec .lcWipeDone s = .next s) ∧
  (∀ (s : State), s.is SAF_STATUS.LC_PENDING = true →
    ∃ t, exec .lcWipeDone s = .next t ∧ t.saf.inReset = some 7 ∧ t.get SAF_RST_CAUSE.KIND = 7 ∧ t.get SAF_STATUS.LC = s.get SAF_STATUS.LC ∧
      t.is SAF_STATUS.LC_PENDING = false ∧ t.beam = {} ∧ t.upd.settings = [] ∧ t.upd.staging = {} ∧
      t.upd.active = (if s.get SAF_STATUS.LC = 4 then {} else s.upd.active) ∧ t.upd.fallback = (if s.get SAF_STATUS.LC = 4 then {} else s.upd.fallback) ∧ t.time = 0)

/-- R21, R22, R30, R33, R35, R36, R47, R49, R73, R90, R111, R246, R395, R398, R419: events of the whole chip. Stalled shuttles, lost regulation, safe states that
are not reached, clock, supply and strap faults, memory errors, and the keep-alive inputs. -/
def Obligations.ChipEvents : Prop :=
  (∀ (s : State) (sh : Fin 8) (c : Nat), (s.shuttle sh.val).ctx = some c → s.slotsOf c ≠ [] → c ≠ 0 → (s.shuttle sh.val).lastStall = none → sh.val < s.lom.shuttles.length →
    ∃ t, exec (.shuttleStall sh) s = .next t ∧ Trapped c 5 0 s t ∧ (t.shuttle sh.val).off = false ∧ (t.shuttle sh.val).lastStall = some s.time ∧
      (t.shuttle sh.val).ctx = none) ∧
  (∀ (s : State) (sh : Fin 8) (c a : Nat), (s.shuttle sh.val).ctx = some c → s.slotsOf c ≠ [] → c ≠ 0 → (s.shuttle sh.val).lastStall = some a → s.time < a + 100000000 →
    sh.val < s.lom.shuttles.length → (∃ k : Fin 8, k ≠ sh ∧ (s.shuttle k.val).off = false ∧ k.val < s.lom.shuttles.length) →
    ∃ t, exec (.shuttleStall sh) s = .next t ∧ Trapped c 5 0 s t ∧ (t.shuttle sh.val).off = true ∧ t.is LOM_FLAGS.SHUTTLE_OFF = true ∧
      bitOf (t.get SAF_FAULT.FAULT) 14 = true) ∧
  (∀ (s : State) (sh : Fin 8), ((s.shuttle sh.val).ctx = none ∨ ∃ c, (s.shuttle sh.val).ctx = some c ∧ s.slotsOf c = []) → exec (.shuttleStall sh) s = .next s) ∧
  (∀ (s : State) (v : Int), s.is TRK_STATUS.ENABLED = true → (s.fleet .trk).droopSince = none → s.regulatesCurrent .trk = false → s.regionSafe .north = false →
    (100 * (v - s.refOf .trk).natAbs ≤ 3 * (s.refOf .trk).natAbs → exec (.regulationLoss .trk v) s = .next s) ∧
    (3 * (s.refOf .trk).natAbs < 100 * (v - s.refOf .trk).natAbs →
      ∃ t, exec (.regulationLoss .trk v) s = .next t ∧ t.regionSafe .north = true ∧ bitOf (t.get SAF_FAULT.FAULT) 8 = true)) ∧
  (∀ (s : State) (v : Int), s.get CHB_STATUS.MODE = 0 → exec (.regulationLoss .chb v) s = .next s) ∧
  (∀ (s : State) (v : Int), s.get PRT_STATUS.MODE = 4 → s.regulatesCurrent .prt = false → s.regionSafe .south = false →
    3 * (s.refOf .prt).natAbs < 100 * (v - s.refOf .prt).natAbs →
    ∃ t, exec (.regulationLoss .prt v) s = .next t ∧ t.regionSafe .south = true ∧ bitOf (t.get SAF_FAULT.FAULT) 9 = true) ∧
  (∀ (s : State) (r : Region) (a : Nat), s.saf.safeAt.find (regionFault r) = some a → s.regionSafe r = true →
    (s.time < a + 100000 → exec (.regionSafeTimeout r) s = .next s) ∧
    (a + 100000 ≤ s.time → ∃ t, exec (.regionSafeTimeout r) s = .next t ∧ t.chipSafe = true ∧ bitOf (t.get SAF_FAULT.FAULT) 6 = true)) ∧
  (∀ (s : State) (a : Nat), s.saf.chipSafeAt = some a → (s.saf.chipSafeCode = 1 ∨ s.saf.chipSafeCode = 5 ∨ s.saf.chipSafeCode = 6) → s.saf.inReset = none →
    s.is UPD_STATUS.NVM_BUSY = false → a + 1000 ≤ s.time →
    ∃ t, exec .chipSafeReset s = .next t ∧ t.saf.inReset = some 5 ∧ t.get SAF_RST_CAUSE.KIND = 5) ∧
  (∀ (s : State) (a : Nat), s.saf.chipSafeAt = some a → s.saf.chipSafeCode = 3 → s.saf.inReset = none → s.is UPD_STATUS.NVM_BUSY = false →
    (s.getZ THM_DIE_SHUT.FALL ≤ s.getZ THM_STATUS.TDIE_MAX → exec .chipSafeReset s = .next s) ∧
    (s.getZ THM_STATUS.TDIE_MAX < s.getZ THM_DIE_SHUT.FALL →
      ∃ t, exec .chipSafeReset s = .next t ∧ t.saf.inReset = some 5 ∧ t.get SAF_RST_CAUSE.KIND = 5 ∧ t.get SAF_RST_CAUSE.DETAIL = 3)) ∧
  (∀ (s : State), s.saf.chipSafeAt = none → exec .chipSafeReset s = .next s) ∧
  (∀ (s : State), s.saf.inReset = none → s.mode < 3 → s.chipSafe = false →
    ∃ t, exec .clockFault s = .next t ∧ t.chipSafe = true ∧ bitOf (t.get SAF_FAULT.FAULT) 1 = true ∧ t.saf.chipSafeAt = some s.time ∧ t.saf.chipSafeCode = 1 ∧
      t.is SRC_STATUS.G48_ON = false ∧ t.is SRC_STATUS.G12_ON = false ∧ t.is SRC_STATUS.GBYP_ON = false ∧ t.get SRC_STATUS.PRIMARY = 0) ∧
  (∀ (s : State), s.regionSafe .interface = false →
    ∃ t, exec .beamCommitFailure s = .next t ∧ t.regionSafe .interface = true ∧ bitOf (t.get SAF_FAULT.FAULT) 11 = true) ∧
  (∀ (s : State), s.regionSafe .interface = true → exec .beamCommitFailure s = .next s) ∧
  (∀ (s : State) (ok : Bool), exec (.interfaceTestRecord ok) s =
    .next (if s.regionSafe .interface then { s with saf := { s.saf with testCommitted := ok } } else s)) ∧
  (∀ (s : State), s.saf.inReset = none →
    ∃ t : State, exec .vioLow s = .next t ∧ t.saf.vioLow = true ∧ bitOf (t.get SAF_FAULT.FAULT) 7 = true ∧
      SameRegistersBut [SAF_FAULT.addr, SAF_STATUS.addr, SAF_FLAGS.addr] s t ∧ SameMemories s t) ∧
  (∀ (s : State), exec .vioRecover s = .next { s with saf := { s.saf with vioLow := false } }) ∧
  (∀ (s : State) (live : BitVec 5), ∃ t, exec (.strapCompare live) s = .next t ∧
    t.is GLB_STRAP.STRAP_DIFF = decide (live.toNat ≠ (s.rd GLB_STRAP.addr).toNat % 32) ∧ OnlyRegisters [GLB_STRAP.addr] s t) ∧
  (∀ (s : State) (n : BitVec 5), n ≠ 0 →
    ∃ t : State, exec (.keepaliveGood n) s = .next t ∧ t.saf.keepGoodAt = some (s.saf.keepGoodAt.getD s.aon) ∧ t.saf.keepInputs = n.toNat ∧
      (t.rd SRC_KA.addr).toNat % 32 = n.toNat ∧ t.is SRC_KA.CP_ON = (n == 16) ∧ SameRegistersBut [SRC_KA.addr] s t ∧ SameMemories s t) ∧
  (∀ (s : State) (n : BitVec 5), n ≠ 0 →
    ∃ t : State, exec (.keepaliveInputChange n) s = .next t ∧ t.saf.keepGoodAt = s.saf.keepGoodAt ∧ t.saf.keepInputs = n.toNat ∧
      (t.rd SRC_KA.addr).toNat % 32 = n.toNat ∧ t.is SRC_KA.CP_ON = (n == 16) ∧ SameRegistersBut [SRC_KA.addr] s t ∧ SameMemories s t) ∧
  (∀ (s : State) (c : CtxId), c.val ≠ 0 →
    ∃ t, exec (.memoryUncorrectable (.dataMem c)) s = .next t ∧ Trapped c.val 4 0 s t ∧ bitOf (t.get SAF_FAULT.FAULT) 21 = true ∧
      t.get SAF_ECC_CNT.UNCORR = min 65535 (s.get SAF_ECC_CNT.UNCORR + 1)) ∧
  (∀ (s : State) (c : CtxId), c.val ≠ 0 → s.cstate c ≠ 0 →
    ∃ t, exec (.memoryUncorrectable (.context c)) s = .next t ∧ Trapped c.val 4 0 s t ∧ bitOf (t.get SAF_FAULT.FAULT) 21 = true) ∧
  (∀ (s : State) (c : CtxId), s.cstate c = 0 →
    ∃ t, exec (.memoryUncorrectable (.context c)) s = .next t ∧ (∀ w, w < 32 → t.ctx.get (32 * c.val + w) = 0) ∧
      (∀ a, (a < 32 * c.val ∨ 32 * c.val + 32 ≤ a) → t.ctx.get a = s.ctx.get a) ∧ t.pm = s.pm ∧ t.dm = s.dm ∧ t.win = s.win ∧
      SameRegistersBut [SAF_ECC_CNT.addr, SAF_FAULT.addr, SAF_STATUS.addr, SAF_FLAGS.addr] s t) ∧
  (∀ (s : State) (p : Fin 64), (∀ c, c < 128 → s.executesIn p c = false) →
    ∃ t, exec (.memoryUncorrectable (.program p)) s = .next t ∧ bitOf (t.get SAF_FAULT.FAULT) 21 = true ∧
      t.get SAF_ECC_CNT.UNCORR = min 65535 (s.get SAF_ECC_CNT.UNCORR + 1) ∧
      SameRegistersBut [SAF_ECC_CNT.addr, SAF_FAULT.addr, SAF_STATUS.addr, SAF_FLAGS.addr] s t ∧ SameMemories s t) ∧
  (∀ (s : State) (k : BitVec 8),
    ∃ t, exec (.memoryUncorrectable (.pick k)) s = .next t ∧ t.armed k.toNat = false ∧ t.is RED_FLAGS.PICK_ECC = true ∧ bitOf (t.get SAF_FAULT.FAULT) 14 = true) ∧
  (∀ (s : State) (k : Fin 16),
    ∃ t, exec (.memoryUncorrectable (.weft k)) s = .next t ∧ t.get (RED_W_STATUS.LSTATE k) = 0 ∧ t.is (RED_W_CFG.ACT k) = false ∧ t.is RED_FLAGS.PICK_ECC = true) ∧
  (∀ (s : State) (m : Master) (r : Fin 32), (s.job m r).state = 2 → s.saf.jobsEcc = none → (s.context (s.job m r).ctx).job ≠ some (m.val, r.val) →
    ∃ t, exec (.memoryUncorrectable (.job m r)) s = .next t ∧ (t.job m r).state = 6 ∧ (t.job m r).cause = 4 ∧ t.saf.jobsEcc = some s.time) ∧
  (∀ (s : State), s.saf.inReset = none → s.is UPD_STATUS.NVM_BUSY = false →
    (∃ t, exec (.memoryUncorrectable .management) s = .next t ∧ t.saf.inReset = some 5 ∧ t.get SAF_RST_CAUSE.KIND = 5 ∧ t.get SAF_RST_CAUSE.DETAIL = 2) ∧
    (∃ t, exec (.memoryUncorrectable .fetch) s = .next t ∧ t.saf.inReset = some 5 ∧ t.get SAF_RST_CAUSE.KIND = 5 ∧ t.get SAF_RST_CAUSE.DETAIL = 2)) ∧
  (∀ (s : State) (m : Master) (r : Fin 32) (c : CtxId) (i : EccSite), s.paired = false → (i = .beamJob m r ∨ i = .beamContext c ∨ i = .beamOther) →
    ∃ t, exec (.memoryUncorrectable i) s = .next t ∧ t.is BEM_FLAGS.ROW_RETIRED = true ∧ t.is BEM_FLAGS.REC_LOST = true ∧ bitOf (t.get SAF_FAULT.FAULT) 19 = true ∧
      t.beam.retired = s.beam.retired + 1 ∧ (i = .beamContext c → t.beam.commits.find c = none) ∧ (i = .beamJob m r → t.beam.jobs.find (32 * m.val + r.val) = none)) ∧
  (∀ (s : State),
    ∃ t : State, exec (.memoryUncorrectable (.flash 0)) s = .next t ∧ t.upd.active.bad = true ∧ t.upd.staging = s.upd.staging ∧ t.upd.fallback = s.upd.fallback ∧
      SameRegistersBut [SAF_ECC_CNT.addr, SAF_FAULT.addr, SAF_STATUS.addr, SAF_FLAGS.addr] s t ∧ SameMemories s t)

/-- R14, R47, R132, R379, R400, R414 to R417, R429, R434, R437: from the release of reset to full service. -/
def Obligations.BootSequence : Prop :=
  (∀ (s : State) (n : BitVec 5) (l : Option (Nat × List (Nat × Word × Word))), (s.saf.inReset = none ∨ s.saf.keepGoodAt = none) →
    exec (.resetRelease n l) s = .next s) ∧
  (∀ (s : State) (n : BitVec 5) (k g : Nat), s.saf.inReset = some k → s.saf.keepGoodAt = some g → s.calArea = [] → s.upd.settings = [] → s.is TRK_OVP.CROWBAR = false →
    ∃ t : State, exec (.resetRelease n none) s = .next t ∧ t.saf.inReset = none ∧ t.saf.releasedAt = s.aon ∧ t.saf.wdgT0 = s.aon ∧
      t.get GLB_STRAP.I2C_ADDR = 0x48 + n.toNat % 4 ∧ t.rd GLB_CLK.addr = 0x1F ∧ (∀ c, c < 18 → t.is (CEL_CFG.DRVMODE c) = bitOf n.toNat 4) ∧
      (k = 1 → s.beam.run = true → t.is SAF_RST_CAUSE.BROWNOUT = true) ∧ t.time = s.time ∧ SameMemories s t) ∧
  (∀ (s : State) (v w r n : Nat) (p : Fin 8), (s.get GLB_REGION.SERVICE ≠ 0 ∨ s.chipSafe = true ∨ s.saf.inReset.isSome = true ∨ s.saf.keepGoodAt = none ∨
      s.get SAF_STATUS.LC = 4) → exec (.reducedServiceStart v w r p n) s = .next s) ∧
  (∀ (s : State) (v w r n g : Nat) (p : Fin 8), s.get GLB_REGION.SERVICE = 0 → s.chipSafe = false → s.saf.inReset = none → s.saf.keepGoodAt = some g →
    g + 2000 ≤ s.aon → s.saf.releasedAt + 300 ≤ s.aon → s.get SAF_STATUS.LC ≠ 4 →
    ∃ t, exec (.reducedServiceStart v w r p n) s = .next t ∧ t.get GLB_REGION.SERVICE = 1 ∧ t.get TRK_PIN.SEL = p.val ∧ t.get TRK_PIN.LIVE = p.val ∧
      (s.hasSel = true → (SEL_CTRL.MODE.of (s.settingOf SEL_CTRL.addr) = 1 ∨ SEL_CTRL.MODE.of (s.settingOf SEL_CTRL.addr) = 2) → 400 ≤ n →
        t.sel.idleTrunk = true ∧ t.get TRK_REF.TARGET = s.get (TRK_VSET.VOLT p.val) ∧ t.mod.romTrunk = s.mod.romTrunk) ∧
      ((s.hasSel = false ∨ n < 400) → t.sel.idleTrunk = false ∧ t.mod.romTrunk = true)) ∧
  (∀ (s : State), (s.get GLB_REGION.SERVICE ≠ 1 ∨ s.saf.firmware = true ∨ s.chipSafe = true ∨ s.saf.inReset.isSome = true ∨ s.is SAF_STATUS.LC_PENDING = true) →
    exec .firmwareStart s = .next s) ∧
  (∀ (s : State), s.get GLB_REGION.SERVICE = 1 → s.saf.firmware = false → s.chipSafe = false → s.saf.inReset = none → s.is SAF_STATUS.LC_PENDING = false →
    (s.upd.copy.isSome = true → ∃ t, exec .firmwareStart s = .next t ∧ t.is UPD_STATUS.NVM_BUSY = true ∧ t.saf = s.saf ∧ t.upd = s.upd ∧ SameMemories s t) ∧
    (s.upd.copy = none → s.beam.cleanup = false → s.saf.chosen = false → s.beam.stage ≠ 3 → s.beam.trial = false → s.checkBank s.upd.active = 0 →
      exec .firmwareStart s = .next { s with saf := { s.saf with chosen := true, firmware := true }, upd := { s.upd with activeOk := true } }) ∧
    (s.upd.copy = none → s.beam.cleanup = false → s.saf.chosen = false → s.beam.stage ≠ 3 → s.beam.trial = true → s.beam.boots < 3 → s.checkBank s.upd.active = 0 →
      ∃ t, exec .firmwareStart s = .next t ∧ t.beam.boots = s.beam.boots + 1 ∧ t.saf.firmware = true ∧ SameRegistersBut [] s t ∧ SameMemories s t) ∧
    (s.upd.copy = none → s.beam.cleanup = false → s.saf.chosen = false → s.beam.stage = 3 → s.checkBank s.upd.staging = 0 →
      ∃ t, exec .firmwareStart s = .next t ∧ t.upd.copy.isSome = true ∧ t.saf.firmware = false ∧ t.is UPD_STATUS.NVM_BUSY = true ∧ SameMemories s t) ∧
    (s.upd.copy = none → s.beam.cleanup = false → s.saf.chosen = false → s.beam.stage ≠ 3 → s.beam.trial = false → s.upd.activeOk = false →
      s.checkBank s.upd.active ≠ 0 → s.checkBank s.upd.fallback ≠ 0 →
      ∃ t, exec .firmwareStart s = .next t ∧ t.get GLB_REGION.SERVICE = 3 ∧ t.is SVC_STATUS.DFU_MODE = true ∧ t.get SVC_DFU.STATE = 2 ∧ t.saf.firmware = false ∧
        SameMemories s t)) ∧
  (∀ (s : State) (d : List (Nat × Word × Word)) (l : Option (List (Nat × Word × Word))), (s.saf.firmware = false ∨ s.get GLB_REGION.SERVICE ≠ 1 ∨ s.chipSafe = true ∨
      s.saf.inReset.isSome = true ∨ s.time % 100 ≠ 0) → exec (.fullServiceStart d l) s = .next s) ∧
  (∀ (s : State), s.saf.firmware = true → s.get GLB_REGION.SERVICE = 1 → s.chipSafe = false → s.saf.inReset = none → s.time % 100 = 0 →
    ∃ t, exec (.fullServiceStart [] none) s = .next t ∧ t.fullService = true ∧ t.is HIF_CTRL.I2C_EN = true ∧ t.is GLB_CLK.I2C_OK = true ∧
      t.is MEA_FLAGS.COUNT_GAP = true ∧ t.beam.run = true ∧ t.mod.romTrunk = false ∧ t.time = s.time) ∧
  (∀ (s : State) (l : Option (List (Nat × Word × Word))), (s.is UPD_STATUS.HOLD = false ∨ s.upd.copy.isSome = true) → exec (.heldRestartResume l) s = .next s) ∧
  (∀ (s : State), s.is UPD_STATUS.HOLD = true → s.upd.copy = none → s.upd.holdCopied = false → s.beam.commits = [] →
    ∃ t, exec (.heldRestartResume none) s = .next t ∧ t.is UPD_STATUS.HOLD = false ∧ t.is UPD_FLAGS.HOLD_DONE = true ∧ t.dm = s.beam.dm ∧ t.ctx = [] ∧
      t.jobs = s.jobs ∧ t.win = s.win)

/-- R419, R425 to R428, R430, R440: update sessions, the update buffer, blocks and flash steps. A session's token is a free value that is neither 0 nor
0x5B1E (log entry 5). -/
def Obligations.UpdateSessions : Prop :=
  (∀ (s : State) (data : Word), s.mayWrite 0 = true → UPD_SESSION.KEY.of data = 0x71C4 → UPD_SESSION.CMD.of data = 1 → s.fullService = true →
    s.is UPD_STATUS.HOLD = false → s.session = false →
    ∃ t, exec (.updSessionOpen 0 data) s = .next t ∧ t.session = true ∧ t.get UPD_STATUS.OWNER = 0 ∧ t.upd.token ≠ 0 ∧ t.upd.token ≠ 0x5B1E ∧ t.upd.token < 65536 ∧
      t.upd.next = 0 ∧ t.upd.idleAt = some (s.time + ms 10000) ∧ t.upd.results.find 0 = some 0 ∧ SameMemories s t) ∧
  (∀ (s : State) (data : Word), s.mayWrite 0 = true → UPD_SESSION.KEY.of data = 0x71C4 → UPD_SESSION.CMD.of data = 1 → s.fullService = true →
    s.is UPD_STATUS.HOLD = false → s.session = true →
    ∃ t, exec (.updSessionOpen 0 data) s = .next t ∧ t.upd.results.find 0 = some 1 ∧ t.is UPD_FLAGS.BUSY_REJ = true ∧ t.upd.token = s.upd.token ∧
      SameRegistersBut [UPD_FLAGS.addr] s t ∧ SameMemories s t) ∧
  (∀ (s : State) (m : Master) (data : Word), s.mayWrite m = true →
    ((UPD_SESSION.KEY.of data ≠ 0x71C4 ∨ UPD_SESSION.CMD.of data ≠ 1) → exec (.updSessionOpen m data) s = .next (s.updResult 0 m.val 2)) ∧
    (UPD_SESSION.KEY.of data = 0x71C4 → UPD_SESSION.CMD.of data = 1 → m.val ≠ 0 → exec (.updSessionOpen m data) s = .next (s.updResult 0 m.val 4))) ∧
  (∀ (s : State) (m : Master) (a : Nat) (data : Word), s.mayWrite m = true → s.session = true → s.get UPD_STATUS.OWNER = m.val → 0xE000 ≤ a → a < 0x10000 →
    exec (.updateBufferWrite m a data) s = .next { s with win := s.win.set a data }) ∧
  (∀ (s : State) (m : Master) (a : Nat) (data : Word), (s.mayWrite m = false ∨ s.session = false ∨ s.get UPD_STATUS.OWNER ≠ m.val) →
    exec (.updateBufferWrite m a data) s = .next s) ∧
  (∀ (s : State) (m : Master) (data : Word), s.mayWrite m = true → s.session = true → UPD_BLOCK.TOKEN.of data = s.upd.token → s.get UPD_STATUS.OWNER = m.val →
    UPD_BLOCK.BLOCK.of data < 96 → 0 < UPD_BLOCK.BLOCK.of data →
    (s.upd.programming = none → UPD_BLOCK.BLOCK.of data = s.upd.next →
      ∃ t, exec (.updBlock m data) s = .next t ∧ t.is UPD_STATUS.NVM_BUSY = true ∧ t.upd.results.find (16 + m.val) = some 0 ∧
        t.upd.programming = some (s.upd.next, (List.range 1024).map (fun k => s.win.get (0xE000 + 4096 * UPD_BLOCK.BUF.of data + 4 * k))) ∧ SameMemories s t) ∧
    (s.upd.programming = none → UPD_BLOCK.BLOCK.of data < s.upd.next →
      ∃ t, exec (.updBlock m data) s = .next t ∧ t.upd.results.find (16 + m.val) = some 0 ∧ t.upd.programming = none ∧ SameMemories s t) ∧
    (s.upd.programming = none → s.upd.next < UPD_BLOCK.BLOCK.of data → exec (.updBlock m data) s = .next (s.updResult 2 m.val 3)) ∧
    (s.upd.programming.isSome = true → exec (.updBlock m data) s = .next (s.updResult 2 m.val 1))) ∧
  (∀ (s : State) (m : Master) (data : Word), s.mayWrite m = true →
    ((s.session = false ∨ UPD_BLOCK.TOKEN.of data ≠ s.upd.token) → exec (.updBlock m data) s = .next (s.updResult 2 m.val 2)) ∧
    (s.session = true → UPD_BLOCK.TOKEN.of data = s.upd.token → s.get UPD_STATUS.OWNER ≠ m.val → exec (.updBlock m data) s = .next (s.updResult 2 m.val 4)) ∧
    (s.session = true → UPD_BLOCK.TOKEN.of data = s.upd.token → s.get UPD_STATUS.OWNER = m.val → 96 ≤ UPD_BLOCK.BLOCK.of data →
      exec (.updBlock m data) s = .next (s.updResult 2 m.val 2))) ∧
  (∀ (s : State) (n : Nat) (words : List Word) (erase : Bool), s.is UPD_STATUS.NVM_BUSY = true → s.upd.erasing = false → s.upd.programming = some (n, words) →
    s.saf.deferred = none → s.upd.copy = none →
    ∃ t, exec (.nvmStepDone true erase) s = .next t ∧ t.upd.programming = none ∧ t.upd.next = n + 1 ∧ t.beam.blocks.contains n = true ∧
      t.upd.staging = s.upd.staging.putBlock n words ∧ t.upd.idleAt = some (s.time + ms 10000) ∧ t.is UPD_FLAGS.BLOCK_DONE = true ∧
      t.is UPD_STATUS.NVM_BUSY = false ∧ SameMemories s t) ∧
  (∀ (s : State) (erase : Bool), s.is UPD_STATUS.NVM_BUSY = true → 0 < s.upd.spares →
    ∃ t, exec (.nvmStepDone false erase) s = .next t ∧ t.upd.spares = s.upd.spares - 1 ∧ t.upd.fails = min 65535 (s.upd.fails + 1) ∧
      t.is UPD_FLAGS.FLASH_SPARE = true ∧ t.is UPD_STATUS.NVM_BUSY = true ∧ t.upd.programming = s.upd.programming ∧ t.upd.copy = s.upd.copy ∧ SameMemories s t) ∧
  (∀ (s : State) (erase : Bool), s.is UPD_STATUS.NVM_BUSY = true → s.upd.spares = 0 → s.saf.deferred = none → s.session = true → s.get UPD_STATUS.OWNER = 0 →
    ∃ t, exec (.nvmStepDone false erase) s = .next t ∧ t.is UPD_FLAGS.FLASH_FAIL = true ∧ t.session = false ∧ t.upd.programming = none ∧
      t.is UPD_STATUS.NVM_BUSY = false ∧ SameMemories s t) ∧
  (∀ (s : State) (erase : Bool) (c : ImageCopy), s.is UPD_STATUS.NVM_BUSY = true → s.upd.erasing = false → s.upd.programming = none → s.upd.copy = some c →
    s.saf.deferred = none → s.saf.inReset = none →
    (c.markers + 1 < c.base → ∃ t, exec (.nvmStepDone true erase) s = .next t ∧ t.upd.copy = some { c with markers := c.markers + 1 } ∧
      t.upd.active = s.upd.active ∧ t.upd.fallback = s.upd.fallback ∧ t.is UPD_STATUS.NVM_BUSY = true ∧ SameMemories s t) ∧
    (c.markers + 1 = c.base → c.save = true → ∃ t, exec (.nvmStepDone true erase) s = .next t ∧ t.upd.fallback = s.upd.active ∧ t.upd.active = s.upd.active ∧
      SameMemories s t) ∧
    (c.markers + 1 = c.base + c.parts + 3 → c.fromFallback = false → s.upd.staging.findPart 7 = none →
      ∃ t, exec (.nvmStepDone true erase) s = .next t ∧ t.beam.stage = 4 ∧ t.beam.trial = true ∧ t.beam.boots = 1 ∧ SameMemories s t)) ∧
  (∀ (s : State) (ok erase : Bool), s.is UPD_STATUS.NVM_BUSY = false → exec (.nvmStepDone ok erase) s = .next s) ∧
  (∀ (s : State) (t0 : Nat), s.session = true → s.beam.stage ≠ 2 → s.upd.idleAt = some t0 → t0 ≤ s.time →
    ∃ t, exec .sessionIdleTimeout s = .next t ∧ t.session = false ∧ t.get UPD_STATUS.OWNER = 7 ∧ t.is UPD_FLAGS.LOCK_LOST = true ∧ t.upd.token = 0 ∧
      t.beam = s.beam ∧ (s.get UPD_STATUS.OWNER = 2 → t.get SVC_DFU.STATE = 10 ∧ t.get SVC_DFU.STATUS = 0x0B) ∧ SameMemories s t) ∧
  (∀ (s : State), (s.session = false ∨ s.beam.stage = 2 ∨ s.upd.idleAt = none) → exec .sessionIdleTimeout s = .next s)

/-- R427, R428, R431, R432, R434, R440: the update commands. A command with the session's token, or with 0x5B1E while no session is open, is served
unless a region is safe, a reset waits or a held restart runs (BUSY, 1); what it changes, and BAD (2) where its condition fails. -/
def Obligations.UpdateCommands : Prop :=
  (∀ (s : State) (m : Master) (token : BitVec 16) (c : Instr), s.mayWrite m = true →
    c ∈ [Instr.activateNext m token, .activateNow m token, .updateConfirm m token, .discard m token, .push m token, .close m token, .complete m token] →
    ((s.session = true ∧ (s.get UPD_STATUS.OWNER ≠ m.val ∨ token.toNat ≠ s.upd.token) ∨ s.session = false ∧ (token ≠ 0x5B1E ∨ m.val = 4)) →
      exec c s = .next (s.updResult 1 m.val 2)) ∧
    ((s.session = true ∧ s.get UPD_STATUS.OWNER = m.val ∧ token.toNat = s.upd.token ∨ s.session = false ∧ token = 0x5B1E ∧ m.val ≠ 4) →
      (s.regionSafe .north = true ∨ s.regionSafe .south = true ∨ s.regionSafe .control = true ∨ s.is SAF_STATUS.DEFER = true ∨
        s.is SAF_STATUS.LC_PENDING = true ∨ s.is UPD_STATUS.HOLD = true) → exec c s = .next (s.updResult 1 m.val 1))) ∧
  (∀ (s : State) (m : Master) (token : BitVec 16), s.mayWrite m = true → s.fullService = true →
    (s.session = true ∧ s.get UPD_STATUS.OWNER = m.val ∧ token.toNat = s.upd.token ∨ s.session = false ∧ token = 0x5B1E ∧ m.val ≠ 4) →
    s.chipSafe = false → (∀ r, s.regionSafe r = false) → s.is SAF_STATUS.DEFER = false → s.is SAF_STATUS.LC_PENDING = false → s.is UPD_STATUS.HOLD = false →
    (s.beam.stage = 2 → ∃ t, exec (.activateNext m token) s = .next t ∧ t.beam.stage = 3 ∧ t.get UPD_STATUS.STAGE = 3 ∧ t.session = false ∧
      t.upd.results.find (8 + m.val) = some 0 ∧ SameMemories s t) ∧
    (s.beam.stage ≠ 2 → exec (.activateNext m token) s = .next (s.updResult 1 m.val 2) ∧ exec (.activateNow m token) s = .next (s.updResult 1 m.val 2)) ∧
    (s.beam.stage = 2 → s.pairState = 0 → s.checkBank s.upd.staging = 0 →
      ∃ t, exec (.activateNow m token) s = .next t ∧ t.is UPD_STATUS.HOLD = true ∧ t.session = false ∧ t.upd.copy.isSome = true ∧ t.beam.stage = 3 ∧
        (∀ c, c < 128 → s.cstate c ≠ 0 → (t.context c).frozenUpdate = true) ∧ t.upd.results.find (8 + m.val) = some 0 ∧ t.pm = s.pm ∧ t.dm = s.dm ∧ t.win = s.win) ∧
    (s.beam.stage = 2 → s.pairState = 0 → s.checkBank s.upd.staging ≠ 0 →
      ∃ t, exec (.activateNow m token) s = .next t ∧ t.is UPD_STATUS.HOLD = true ∧ t.upd.copy = s.upd.copy ∧ t.beam.stage = 5 ∧
        t.beam.reject = s.checkBank s.upd.staging ∧ t.upd.results.find (8 + m.val) = some 0) ∧
    (s.beam.trial = true → ∃ t, exec (.updateConfirm m token) s = .next t ∧ t.beam.trial = false ∧ t.beam.boots = 0 ∧ t.beam.stage = 0 ∧ t.beam.cleanup = false ∧
      t.is UPD_FLAGS.CONFIRMED = true ∧ t.upd.arb = max s.upd.arb s.upd.active.arb ∧ t.upd.results.find (8 + m.val) = some 0 ∧ SameMemories s t) ∧
    (s.beam.trial = false → exec (.updateConfirm m token) s = .next (s.updResult 1 m.val 2)) ∧
    (s.beam.stage ≠ 3 → s.upd.copy = none → ∃ t, exec (.discard m token) s = .next t ∧ t.beam.stage = 0 ∧ t.beam.blocks = [] ∧ t.upd.next = 0 ∧
      t.is UPD_STATUS.NVM_BUSY = true ∧ t.upd.results.find (8 + m.val) = some 0 ∧ SameMemories s t) ∧
    (s.beam.stage = 3 → exec (.discard m token) s = .next (s.updResult 1 m.val 2)) ∧
    (s.session = true → s.beam.stage = 2 → s.paired = true →
      ∃ t, exec (.push m token) s = .next t ∧ t.upd.pushing = some 0 ∧ t.upd.results.find (8 + m.val) = some 0 ∧ SameRegistersBut [] s t ∧ SameMemories s t) ∧
    ((s.session = false ∨ s.beam.stage ≠ 2 ∨ s.paired = false) → exec (.push m token) s = .next (s.updResult 1 m.val 2)) ∧
    (s.session = true → ∃ t, exec (.close m token) s = .next t ∧ t.session = false ∧ t.get UPD_STATUS.OWNER = 7 ∧ t.upd.token = 0 ∧
      t.upd.results.find (8 + m.val) = some 0 ∧ SameMemories s t) ∧
    (s.session = false → exec (.close m token) s = .next (s.updResult 1 m.val 2) ∧ exec (.complete m token) s = .next (s.updResult 1 m.val 2)) ∧
    (s.session = true → s.beam.stage = 1 → s.upd.programming = none → s.beam.size ≤ s.upd.next * 4096 →
      ∃ t, exec (.complete m token) s = .next t ∧ t.beam.stage = 2 ∧ t.is UPD_FLAGS.COMPLETE_OK = true ∧ t.upd.idleAt = none ∧
        t.upd.results.find (8 + m.val) = some 0 ∧ SameMemories s t) ∧
    (s.session = true → (s.beam.stage = 0 ∨ s.upd.programming.isSome = true ∨ s.upd.next * 4096 < s.beam.size) →
      exec (.complete m token) s = .next (s.updResult 1 m.val 2))) ∧
  (∀ (s : State), s.fullService = true → s.beam.trial = true → 300000000 ≤ s.upd.healthy → s.is UPD_FLAGS.MIGRATE_FAIL = false → s.is UPD_STATUS.HOLD = false →
    ∃ t, exec .trialAutoConfirm s = .next t ∧ t.beam.trial = false ∧ t.beam.stage = 0 ∧ t.is UPD_FLAGS.CONFIRMED = true ∧ SameMemories s t) ∧
  (∀ (s : State), (s.fullService = false ∨ s.beam.trial = false ∨ s.upd.healthy < 300000000 ∨ s.is UPD_FLAGS.MIGRATE_FAIL = true) →
    exec .trialAutoConfirm s = .next s)

/-- R9, R10, R13, R31, R116, R235, R442 to R444, R469: register writes and reads by any master. Access codes, reserved space, the windows, latched upper
words, an order by register write, and the test registers while test access is inactive. -/
def Obligations.BusAccess : Prop :=
  (∀ (s : State) (m : Master) (a : Nat) (w : Word), (a % 4 ≠ 0 ∨ 0x10000 ≤ a) →
    exec (.registerWrite m a w) s = .next s ∧ exec (.lowWordRead m a) s = .next { s with readData := 0 }) ∧
  (∀ (s : State) (m : Master) (a : Nat) (w : Word), a % 4 = 0 → a < 0x2000 → (a < 0x1600 ∨ 0x1800 ≤ a) → findSpec a = none →
    exec (.registerWrite m a w) s = .next s ∧ exec (.lowWordRead m a) s = .next { s with readData := 0 }) ∧
  (∀ (s : State) (m : Master) (a : Nat) (w : Word), s.mayWrite m = false → a ∉ [SAF_FAULT_CLR.addr, SAF_RST_CMD.addr, SAF_PWR_CMD.addr, SAF_LC_CMD.addr, SAF_WDG_KEY.addr] →
    exec (.registerWrite m a w) s = .next s) ∧
  (∀ (s : State) (m : Master) (a : Nat) (w v : Word), s.mayWrite m = true →
    ((a, v) ∈ [(BEM_IRQ_EN.addr, 0x7F#32), (JOB_IRQ_EN.addr, 0x3FF#32), (HIF_IRQ_EN.addr, 0x3FFF#32), (UPD_IRQ_EN.addr, 0x3FFF#32)] ∨
      (a, v) = (SEL_IRQ_EN.addr, 0xFFF#32) ∧ s.hasSel = true) →
    ∃ t, exec (.registerWrite m a w) s = .next t ∧ t.rd a &&& v = w &&& v ∧ t.rd a &&& ~~~v = s.rd a &&& ~~~v ∧ OnlyRegisters [a] s t) ∧
  (∀ (s : State) (m : Master) (w : Word), s.mayWrite m = true →
    ∃ t : State, exec (.registerWrite m BEM_FLAGS.addr w) s = .next t ∧ t.rd BEM_FLAGS.addr = s.rd BEM_FLAGS.addr &&& ~~~(w &&& 0x7F#32) ∧
      SameRegistersBut [BEM_FLAGS.addr] s t ∧ SameMemories s t) ∧
  (∀ (s : State) (m : Master) (w : Word) (a : Nat), s.mayWrite m = true → a ∈ [GLB_FEAT.addr, GLB_REGION.addr, GLB_STRAP.addr, GLB_CLK.addr, BEM_STATUS.addr] →
    ∃ t, exec (.registerWrite m a w) s = .next t ∧ OnlyRegisters [] s t) ∧
  (∀ (s : State) (m : Master) (w : Word), s.mayWrite m = true → s.peerLive = false →
    ∃ t, exec (.registerWrite m TRK_CMD.addr w) s = .next t ∧ SameRegistersBut [] s t ∧ SameMemories s t ∧
      EntersOrder s t m.val .rail (clampZ 500 2800 (TRK_CMD.VOLT.of w)) (clampZ 1 1000 (if TRK_CMD.RATE.of w = 0 then s.get TRK_RATE.DEF_RATE else TRK_CMD.RATE.of w : Nat))) ∧
  (∀ (s : State) (m : Master), ∃ t, exec (.lowWordRead m GLB_SYSTIME_LO.addr) s = .next t ∧ t.readData = BitVec.ofNat 32 s.time ∧
    t = { s with readData := t.readData, latches := t.latches } ∧
    (∀ u : State, u.latches = t.latches → ∃ v : State, exec (.lowWordRead m GLB_SYSTIME_HI.addr) u = .next v ∧ v.readData = BitVec.ofNat 32 (s.time / 4294967296) ∧
      v = { u with readData := v.readData, latches := v.latches } ∧
      (∀ x : State, x.latches = v.latches → ∃ y, exec (.lowWordRead m GLB_SYSTIME_HI.addr) x = .next y ∧ y.readData = BitVec.ofNat 32 (x.time / 4294967296))) ∧
    (∀ (u : State) (n : Master), n ≠ m → u.latches = t.latches → s.latches.find (GLB_SYSTIME_HI.addr * 8 + n.val) = none →
      ∃ v, exec (.lowWordRead n GLB_SYSTIME_HI.addr) u = .next v ∧ v.readData = BitVec.ofNat 32 (u.time / 4294967296))) ∧
  (∀ (s : State) (m : Master) (a : Nat), a % 4 = 0 → s.fullService = true →
    (0x8000 ≤ a → a < 0xC000 → exec (.lowWordRead m a) s = .next { s with readData := s.pm.get (s.get LOM_PMPAGE.PAGE * 4096 + (a - 0x8000) / 4) }) ∧
    (0x4000 ≤ a → a < 0x5000 → exec (.lowWordRead m a) s = .next { s with readData := if (a - 0x4000) / 0x400 = m.val then s.win.get a else 0 }) ∧
    (0xE000 ≤ a → a < 0x10000 → exec (.lowWordRead m a) s = .next { s with readData := 0 })) ∧
  (∀ (s : State) (m : Master) (a : Nat) (w : Word), s.mayWrite m = true → a % 4 = 0 → 0x4000 + 0x400 * m.val ≤ a → a < 0x4400 + 0x400 * m.val → m.val < 4 →
    ∃ t : State, exec (.registerWrite m a w) s = .next t ∧ t.win.get a = w ∧ (∀ b, b ≠ a → t.win.get b = s.win.get b) ∧ t.pm = s.pm ∧ t.dm = s.dm ∧ t.ctx = s.ctx ∧
      SameRegistersBut [] s t) ∧
  (∀ (s : State) (m : Master) (w : Word) (a : Nat), (a = TST_AMUX.addr ∨ a = TST_DMUX.addr) → s.is SAF_STATUS.TEST_ACT = false →
    exec (.registerWrite m a w) s = .next s ∧ exec (.lowWordRead m a) s = .next { s with readData := 0 }) ∧
  (∀ (s : State) (m : Master) (w : Word), s.is SAF_STATUS.TEST_ACT = true → s.mayWrite m = true →
    ∃ t : State, exec (.registerWrite m TST_AMUX.addr w) s = .next t ∧ t.rd TST_AMUX.addr &&& 0x1F9F9F#32 = w &&& 0x1F9F9F#32 ∧ OnlyRegisters [TST_AMUX.addr] s t)

/-- R31, R33: the decision tick. Tick n spans `SYSTIME` 100 n to 100 n + 99; a write enters the next tick, and from the 80th count on the one after it. In reset
and in DEEP SLEEP only the clocks go on, in OFF nothing (log entry 2); before reduced service a tick measures the port and moves the clocks. -/
def Obligations.DecisionTicks : Prop :=
  (∀ (s : State), s.tickFor = (if s.time % 100 ≤ 79 then s.time / 100 + 1 else s.time / 100 + 2)) ∧
  (∀ (s : State) (x : TickIn), s.mode = 4 → exec (.decisionTick x) s = .next s) ∧
  (∀ (s : State) (x : TickIn), s.mode ≠ 4 → (s.saf.inReset.isSome = true ∨ s.mode = 3) →
    exec (.decisionTick x) s = .next { s with time := 100 * (s.time / 100 + 1), aon := s.aon + 1 }) ∧
  (∀ (s : State) (x : TickIn), s.mode < 3 → s.saf.inReset = none → s.get GLB_REGION.SERVICE = 0 →
    ∃ t : State, exec (.decisionTick x) s = .next t ∧ t.time = 100 * (s.time / 100 + 1) ∧ t.aon = s.aon + 1 ∧ t.get PRT_MEAS.VBUS = min 65535 x.vbus ∧
      t.getZ PRT_MEAS.CURR = clampZ (-32768) 32767 x.ibus ∧ t.is TRK_STATUS.REDUCED = false ∧ t.lom = s.lom ∧
      SameRegistersBut [PRT_MEAS.addr, PRT_STATUS.addr, PRT_FLAGS.addr, TRK_STATUS.addr] s t ∧ SameMemories s t) ∧
  (∀ (s : State), s.sel.slow = false →
    idle s = (if s.time % 100 = 99 then s else { s with time := s.time + 1 }) ∧ s.time / 100 = (idle s).time / 100)
end

