-- ==== Sys2Proof/Laws/Dispatch.lean ====
section
/-!
SUPPORT. One lemma per arm of `exec`: the meaning that the arm calls. Proofs cite these and never unfold `exec`.
-/

namespace Sys2Proof.Machine

@[simp] theorem exec_registerWrite (m a data s) : exec (.registerWrite m a data) s = execRegisterWrite m a data s := rfl

@[simp] theorem exec_lowWordRead (m a s) : exec (.lowWordRead m a) s = execLowWordRead m a s := rfl

@[simp] theorem exec_decisionTick (x s) : exec (.decisionTick x) s = execDecisionTick x s := rfl

@[simp] theorem exec_portWatchdogExpiry (s) : exec (.portWatchdogExpiry) s = execPortWatchdogExpiry s := rfl

@[simp] theorem exec_shuttleStall (sh s) : exec (.shuttleStall sh) s = execShuttleStall sh s := rfl

@[simp] theorem exec_regulationLoss (b v s) : exec (.regulationLoss b v) s = execRegulationLoss b v s := rfl

@[simp] theorem exec_regionSafeTimeout (r s) : exec (.regionSafeTimeout r) s = execRegionSafeTimeout r s := rfl

@[simp] theorem exec_chipSafeReset (s) : exec (.chipSafeReset) s = execChipSafeReset s := rfl

@[simp] theorem exec_clockFault (s) : exec (.clockFault) s = execClockFault s := rfl

@[simp] theorem exec_beamCommitFailure (s) : exec (.beamCommitFailure) s = execBeamCommitFailure s := rfl

@[simp] theorem exec_interfaceTestRecord (ok s) : exec (.interfaceTestRecord ok) s = execInterfaceTestRecord ok s := rfl

@[simp] theorem exec_memoryUncorrectable (site s) : exec (.memoryUncorrectable site) s = execMemoryUncorrectable site s := rfl

@[simp] theorem exec_vioLow (s) : exec (.vioLow) s = execVioLow s := rfl

@[simp] theorem exec_vioRecover (s) : exec (.vioRecover) s = execVioRecover s := rfl

@[simp] theorem exec_strapCompare (live s) : exec (.strapCompare live) s = execStrapCompare live s := rfl

@[simp] theorem exec_sourceQualified (src v s) : exec (.sourceQualified src v) s = execSourceQualified src v s := rfl

@[simp] theorem exec_srcMeasure (v48 i48 v12 i12 s) : exec (.srcMeasure v48 i48 v12 i12) s = execSrcMeasure v48 i48 v12 i12 s := rfl

@[simp] theorem exec_xferPrepDone (rail s) : exec (.xferPrepDone rail) s = execXferPrepDone rail s := rfl

@[simp] theorem exec_xferOverlapDone (s) : exec (.xferOverlapDone) s = execXferOverlapDone s := rfl

@[simp] theorem exec_xferReleaseDone (s) : exec (.xferReleaseDone) s = execXferReleaseDone s := rfl

@[simp] theorem exec_xferAbandon (rail s) : exec (.xferAbandon rail) s = execXferAbandon rail s := rfl

@[simp] theorem exec_xferRetry (s) : exec (.xferRetry) s = execXferRetry s := rfl

@[simp] theorem exec_holdupTransfer (v s) : exec (.holdupTransfer v) s = execHoldupTransfer v s := rfl

@[simp] theorem exec_bypassOvercurrent (i s) : exec (.bypassOvercurrent i) s = execBypassOvercurrent i s := rfl

@[simp] theorem exec_backfeedTurnOff (net12 i s) : exec (.backfeedTurnOff net12 i) s = execBackfeedTurnOff net12 i s := rfl

@[simp] theorem exec_searchInitial (s) : exec (.searchInitial) s = execSearchInitial s := rfl

@[simp] theorem exec_searchPeriod (s) : exec (.searchPeriod) s = execSearchPeriod s := rfl

@[simp] theorem exec_searchEvtSettle (s) : exec (.searchEvtSettle) s = execSearchEvtSettle s := rfl

@[simp] theorem exec_startSearch (m s) : exec (.startSearch m) s = execStartSearch m s := rfl

@[simp] theorem exec_searchPendingRun (s) : exec (.searchPendingRun) s = execSearchPendingRun s := rfl

@[simp] theorem exec_searchStep (v i s) : exec (.searchStep v i) s = execSearchStep v i s := rfl

@[simp] theorem exec_searchCollapse (v s) : exec (.searchCollapse v) s = execSearchCollapse v s := rfl

@[simp] theorem exec_ceilingDrop (v i s) : exec (.ceilingDrop v i) s = execCeilingDrop v i s := rfl

@[simp] theorem exec_keepaliveGood (inputs s) : exec (.keepaliveGood inputs) s = execKeepaliveGood inputs s := rfl

@[simp] theorem exec_brownOut (s) : exec (.brownOut) s = execBrownOut s := rfl

@[simp] theorem exec_in48UvStop (v s) : exec (.in48UvStop v) s = execIn48UvStop v s := rfl

@[simp] theorem exec_in48UvRelease (v s) : exec (.in48UvRelease v) s = execIn48UvRelease v s := rfl

@[simp] theorem exec_in48OvLockout (v s) : exec (.in48OvLockout v) s = execIn48OvLockout v s := rfl

@[simp] theorem exec_in48OvRelease (v s) : exec (.in48OvRelease v) s = execIn48OvRelease v s := rfl

@[simp] theorem exec_in12UvLockout (v s) : exec (.in12UvLockout v) s = execIn12UvLockout v s := rfl

@[simp] theorem exec_in12UvRelease (v s) : exec (.in12UvRelease v) s = execIn12UvRelease v s := rfl

@[simp] theorem exec_in12OvLockout (v s) : exec (.in12OvLockout v) s = execIn12OvLockout v s := rfl

@[simp] theorem exec_in12OvRelease (v s) : exec (.in12OvRelease v) s = execIn12OvRelease v s := rfl

@[simp] theorem exec_reversePrecharge (m s) : exec (.reversePrecharge m) s = execReversePrecharge m s := rfl

@[simp] theorem exec_reverseSupport (m s) : exec (.reverseSupport m) s = execReverseSupport m s := rfl

@[simp] theorem exec_reverseOff (m s) : exec (.reverseOff m) s = execReverseOff m s := rfl

@[simp] theorem exec_prechargeTargetReached (v s) : exec (.prechargeTargetReached v) s = execPrechargeTargetReached v s := rfl

@[simp] theorem exec_prechargeTimeout (s) : exec (.prechargeTimeout) s = execPrechargeTimeout s := rfl

@[simp] theorem exec_prechargeShortCheck (v s) : exec (.prechargeShortCheck v) s = execPrechargeShortCheck v s := rfl

@[simp] theorem exec_prechargeNetConnected (v s) : exec (.prechargeNetConnected v) s = execPrechargeNetConnected v s := rfl

@[simp] theorem exec_loopComparatorFire (b vfb iac vi vo boot s) : exec (.loopComparatorFire b vfb iac vi vo boot) s = execLoopComparatorFire b vfb iac vi vo boot s := rfl

@[simp] theorem exec_onTimeEnd (cell s) : exec (.onTimeEnd cell) s = execOnTimeEnd cell s := rfl

@[simp] theorem exec_freqLoopUpdate (cell fmeas s) : exec (.freqLoopUpdate cell fmeas) s = execFreqLoopUpdate cell fmeas s := rfl

@[simp] theorem exec_cbcLimit (cell i s) : exec (.cbcLimit cell i) s = execCbcLimit cell i s := rfl

@[simp] theorem exec_zeroCrossDetect (cell i s) : exec (.zeroCrossDetect cell i) s = execZeroCrossDetect cell i s := rfl

@[simp] theorem exec_truncation (b vfb s) : exec (.truncation b vfb) s = execTruncation b vfb s := rfl

@[simp] theorem exec_truncationRelease (b vfb s) : exec (.truncationRelease b vfb) s = execTruncationRelease b vfb s := rfl

@[simp] theorem exec_burstEntry (b avg s) : exec (.burstEntry b avg) s = execBurstEntry b avg s := rfl

@[simp] theorem exec_burstPacket (b vfb s) : exec (.burstPacket b vfb) s = execBurstPacket b vfb s := rfl

@[simp] theorem exec_burstExit (b vfb avg8 s) : exec (.burstExit b vfb avg8) s = execBurstExit b vfb avg8 s := rfl

@[simp] theorem exec_syncQualify (f s) : exec (.syncQualify f) s = execSyncQualify f s := rfl

@[simp] theorem exec_syncGlideStep (s) : exec (.syncGlideStep) s = execSyncGlideStep s := rfl

@[simp] theorem exec_syncLock (s) : exec (.syncLock) s = execSyncLock s := rfl

@[simp] theorem exec_syncLoss (s) : exec (.syncLoss) s = execSyncLoss s := rfl

@[simp] theorem exec_cellFaultIsolate (cell hs ls sense opened s) : exec (.cellFaultIsolate cell hs ls sense opened) s = execCellFaultIsolate cell hs ls sense opened s := rfl

@[simp] theorem exec_gateDriveCheck (s) : exec (.gateDriveCheck) s = execGateDriveCheck s := rfl

@[simp] theorem exec_gateDriveLimit (s) : exec (.gateDriveLimit) s = execGateDriveLimit s := rfl

@[simp] theorem exec_activeSetWrite (m b data s) : exec (.activeSetWrite m b data) s = execActiveSetWrite m b data s := rfl

@[simp] theorem exec_overloadBudgetExhausted (b s) : exec (.overloadBudgetExhausted b) s = execOverloadBudgetExhausted b s := rfl

@[simp] theorem exec_currentLimitExceeded (b s) : exec (.currentLimitExceeded b) s = execCurrentLimitExceeded b s := rfl

@[simp] theorem exec_currentLimitRelease (b s) : exec (.currentLimitRelease b) s = execCurrentLimitRelease b s := rfl

@[simp] theorem exec_droopTimeout (s) : exec (.droopTimeout) s = execDroopTimeout s := rfl

@[simp] theorem exec_trkCmd (m volt rate s) : exec (.trkCmd m volt rate) s = execTrkCmd m volt rate s := rfl

@[simp] theorem exec_balanceUpdate (b s) : exec (.balanceUpdate b) s = execBalanceUpdate b s := rfl

@[simp] theorem exec_phaseShed (b s) : exec (.phaseShed b) s = execPhaseShed b s := rfl

@[simp] theorem exec_substitutionStart (b s) : exec (.substitutionStart b) s = execSubstitutionStart b s := rfl

@[simp] theorem exec_reentryDone (b s) : exec (.reentryDone b) s = execReentryDone b s := rfl

@[simp] theorem exec_reentryAbort (b vfb s) : exec (.reentryAbort b vfb) s = execReentryAbort b vfb s := rfl

@[simp] theorem exec_reentryRetry (b s) : exec (.reentryRetry b) s = execReentryRetry b s := rfl

@[simp] theorem exec_shareOutDone (b s) : exec (.shareOutDone b) s = execShareOutDone b s := rfl

@[simp] theorem exec_crowbarFire (rail s) : exec (.crowbarFire rail) s = execCrowbarFire rail s := rfl

@[simp] theorem exec_crowbarCauseGone (rail s) : exec (.crowbarCauseGone rail) s = execCrowbarCauseGone rail s := rfl

@[simp] theorem exec_cvLoopUpdate (vpack s) : exec (.cvLoopUpdate vpack) s = execCvLoopUpdate vpack s := rfl

@[simp] theorem exec_packNodeReady (vnode vpack s) : exec (.packNodeReady vnode vpack) s = execPackNodeReady vnode vpack s := rfl

@[simp] theorem exec_packNodeTimeout (s) : exec (.packNodeTimeout) s = execPackNodeTimeout s := rfl

@[simp] theorem exec_qualifyRetry (s) : exec (.qualifyRetry) s = execQualifyRetry s := rfl

@[simp] theorem exec_headroomPause (vpack rail s) : exec (.headroomPause vpack rail) s = execHeadroomPause vpack rail s := rfl

@[simp] theorem exec_headroomResume (vpack rail s) : exec (.headroomResume vpack rail) s = execHeadroomResume vpack rail s := rfl

@[simp] theorem exec_headroomDisconnect (vpack rail s) : exec (.headroomDisconnect vpack rail) s = execHeadroomDisconnect vpack rail s := rfl

@[simp] theorem exec_headroomReconnect (vpack rail s) : exec (.headroomReconnect vpack rail) s = execHeadroomReconnect vpack rail s := rfl

@[simp] theorem exec_chemWrite (m chem s) : exec (.chemWrite m chem) s = execChemWrite m chem s := rfl

@[simp] theorem exec_chgArm (m s) : exec (.chgArm m) s = execChgArm m s := rfl

@[simp] theorem exec_qualifyComplete (s) : exec (.qualifyComplete) s = execQualifyComplete s := rfl

@[simp] theorem exec_trickleDone (s) : exec (.trickleDone) s = execTrickleDone s := rfl

@[simp] theorem exec_chgPrechargeDone (s) : exec (.chgPrechargeDone) s = execChgPrechargeDone s := rfl

@[simp] theorem exec_cvEntry (vpack s) : exec (.cvEntry vpack) s = execCvEntry vpack s := rfl

@[simp] theorem exec_cvHoldEntry (vpack s) : exec (.cvHoldEntry vpack) s = execCvHoldEntry vpack s := rfl

@[simp] theorem exec_chgTermination (v16 peak dtdt s) : exec (.chgTermination v16 peak dtdt) s = execChgTermination v16 peak dtdt s := rfl

@[simp] theorem exec_chgRecharge (s) : exec (.chgRecharge) s = execChgRecharge s := rfl

@[simp] theorem exec_chgPause (s) : exec (.chgPause) s = execChgPause s := rfl

@[simp] theorem exec_chgResume (s) : exec (.chgResume) s = execChgResume s := rfl

@[simp] theorem exec_packOvervoltage (vpack s) : exec (.packOvervoltage vpack) s = execPackOvervoltage vpack s := rfl

@[simp] theorem exec_jeitaZoneChange (s) : exec (.jeitaZoneChange) s = execJeitaZoneChange s := rfl

@[simp] theorem exec_safetyTimerExpiry (s) : exec (.safetyTimerExpiry) s = execSafetyTimerExpiry s := rfl

@[simp] theorem exec_chgWdgKick (m data s) : exec (.chgWdgKick m data) s = execChgWdgKick m data s := rfl

@[simp] theorem exec_chgWdgExpiry (s) : exec (.chgWdgExpiry) s = execChgWdgExpiry s := rfl

@[simp] theorem exec_chgWdgExpClear (m s) : exec (.chgWdgExpClear m) s = execChgWdgExpClear m s := rfl

@[simp] theorem exec_packRemoval (s) : exec (.packRemoval) s = execPackRemoval s := rfl

@[simp] theorem exec_packInserted (s) : exec (.packInserted) s = execPackInserted s := rfl

@[simp] theorem exec_angEdge (pin rising sub held s) : exec (.angEdge pin rising sub held) s = execAngEdge pin rising sub held s := rfl

@[simp] theorem exec_trackTimeout (t s) : exec (.trackTimeout t) s = execTrackTimeout t s := rfl

@[simp] theorem exec_flywheelEnd (t s) : exec (.flywheelEnd t) s = execFlywheelEnd t s := rfl

@[simp] theorem exec_wrpStampTimeWrite (m data s) : exec (.wrpStampTimeWrite m data) s = execWrpStampTimeWrite m data s := rfl

@[simp] theorem exec_wrpStamp (m t angle s) : exec (.wrpStamp m t angle) s = execWrpStamp m t angle s := rfl

@[simp] theorem exec_pickSlotWrite (m slot word data s) : exec (.pickSlotWrite m slot word data) s = execPickSlotWrite m slot word data s := rfl

@[simp] theorem exec_loomBaseWrite (m data s) : exec (.loomBaseWrite m data) s = execLoomBaseWrite m data s := rfl

@[simp] theorem exec_anglePickMatch (slot s) : exec (.anglePickMatch slot) s = execAnglePickMatch slot s := rfl

@[simp] theorem exec_timePickMatch (slot s) : exec (.timePickMatch slot) s = execTimePickMatch slot s := rfl

@[simp] theorem exec_sampleConversionStart (quiet s) : exec (.sampleConversionStart quiet) s = execSampleConversionStart quiet s := rfl

@[simp] theorem exec_keepOutEnd (b vi vo boot s) : exec (.keepOutEnd b vi vo boot) s = execKeepOutEnd b vi vo boot s := rfl

@[simp] theorem exec_chgRefAddEnd (s) : exec (.chgRefAddEnd) s = execChgRefAddEnd s := rfl

@[simp] theorem exec_weftTableWrite (m t word data s) : exec (.weftTableWrite m t word data) s = execWeftTableWrite m t word data s := rfl

@[simp] theorem exec_weftLearnFresh (m t s) : exec (.weftLearnFresh m t) s = execWeftLearnFresh m t s := rfl

@[simp] theorem exec_weftLearnRefine (m t s) : exec (.weftLearnRefine m t) s = execWeftLearnRefine m t s := rfl

@[simp] theorem exec_weftLearnAbort (m t s) : exec (.weftLearnAbort m t) s = execWeftLearnAbort m t s := rfl

@[simp] theorem exec_weftLearnBegin (t s) : exec (.weftLearnBegin t) s = execWeftLearnBegin t s := rfl

@[simp] theorem exec_weftLearnRevolution (t s) : exec (.weftLearnRevolution t) s = execWeftLearnRevolution t s := rfl

@[simp] theorem exec_weftLearnComplete (t s) : exec (.weftLearnComplete t) s = execWeftLearnComplete t s := rfl

@[simp] theorem exec_weftFadeDone (t s) : exec (.weftFadeDone t) s = execWeftFadeDone t s := rfl

@[simp] theorem exec_markFifoRead (m s) : exec (.markFifoRead m) s = execMarkFifoRead m s := rfl

@[simp] theorem exec_adcConversionDone (adc code x s) : exec (.adcConversionDone adc code x) s = execAdcConversionDone adc code x s := rfl

@[simp] theorem exec_scheduledConversion (ch adc s) : exec (.scheduledConversion ch adc) s = execScheduledConversion ch adc s := rfl

@[simp] theorem exec_scanStart (s) : exec (.scanStart) s = execScanStart s := rfl

@[simp] theorem exec_calStarved (adc s) : exec (.calStarved adc) s = execCalStarved adc s := rfl

@[simp] theorem exec_autoZero (cell s) : exec (.autoZero cell) s = execAutoZero cell s := rfl

@[simp] theorem exec_qcntWrite (m data s) : exec (.qcntWrite m data) s = execQcntWrite m data s := rfl

@[simp] theorem exec_qclr (m s) : exec (.qclr m) s = execQclr m s := rfl

@[simp] theorem exec_qcntSave (s) : exec (.qcntSave) s = execQcntSave s := rfl

@[simp] theorem exec_resultFifoRead (m s) : exec (.resultFifoRead m) s = execResultFifoRead m s := rfl

@[simp] theorem exec_thermalModelUpdate (samples s) : exec (.thermalModelUpdate samples) s = execThermalModelUpdate samples s := rfl

@[simp] theorem exec_dieTempCheck (s) : exec (.dieTempCheck) s = execDieTempCheck s := rfl

@[simp] theorem exec_dieThrottleStep (s) : exec (.dieThrottleStep) s = execDieThrottleStep s := rfl

@[simp] theorem exec_stageThrottleStep (b s) : exec (.stageThrottleStep b) s = execStageThrottleStep b s := rfl

@[simp] theorem exec_gateDriveCapStep (s) : exec (.gateDriveCapStep) s = execGateDriveCapStep s := rfl

@[simp] theorem exec_contextDispatch (sh s) : exec (.contextDispatch sh) s = execContextDispatch sh s := rfl

@[simp] theorem exec_quantumExpiry (sh s) : exec (.quantumExpiry sh) s = execQuantumExpiry sh s := rfl

@[simp] theorem exec_slotGrant (s) : exec (.slotGrant) s = execSlotGrant s := rfl

@[simp] theorem exec_claim (m c s) : exec (.claim m c) s = execClaim m c s := rfl

@[simp] theorem exec_ctxRelease (m c s) : exec (.ctxRelease m c) s = execCtxRelease m c s := rfl

@[simp] theorem exec_abort (m c s) : exec (.abort m c) s = execAbort m c s := rfl

@[simp] theorem exec_ctxEvent (m c s) : exec (.ctxEvent m c) s = execCtxEvent m c s := rfl

@[simp] theorem exec_freeze (m c s) : exec (.freeze m c) s = execFreeze m c s := rfl

@[simp] theorem exec_thaw (m c s) : exec (.thaw m c) s = execThaw m c s := rfl

@[simp] theorem exec_contextRecordWrite (m w data s) : exec (.contextRecordWrite m w data) s = execContextRecordWrite m w data s := rfl

@[simp] theorem exec_pickstartRun (c s) : exec (.pickstartRun c) s = execPickstartRun c s := rfl

@[simp] theorem exec_shedDeferTimeout (c s) : exec (.shedDeferTimeout c) s = execShedDeferTimeout c s := rfl

@[simp] theorem exec_freezeDeferTimeout (c s) : exec (.freezeDeferTimeout c) s = execFreezeDeferTimeout c s := rfl

@[simp] theorem exec_autoRestore (s) : exec (.autoRestore) s = execAutoRestore s := rfl

@[simp] theorem exec_lomShedOrder (m k s) : exec (.lomShedOrder m k) s = execLomShedOrder m k s := rfl

@[simp] theorem exec_lomRestoreOrder (m k s) : exec (.lomRestoreOrder m k) s = execLomRestoreOrder m k s := rfl

@[simp] theorem exec_programMemoryWrite (m a data s) : exec (.programMemoryWrite m a data) s = execProgramMemoryWrite m a data s := rfl

@[simp] theorem exec_pageLock (m k bits s) : exec (.pageLock m k bits) s = execPageLock m k bits s := rfl

@[simp] theorem exec_pageUnlock (m page s) : exec (.pageUnlock m page) s = execPageUnlock m page s := rfl

@[simp] theorem exec_dmDataAccess (m data s) : exec (.dmDataAccess m data) s = execDmDataAccess m data s := rfl

@[simp] theorem exec_context0Restart (s) : exec (.context0Restart) s = execContext0Restart s := rfl

@[simp] theorem exec_illegalEncoding (c w s) : exec (.illegalEncoding c w) s = execIllegalEncoding c w s := rfl

@[simp] theorem exec_add (c d a y s) : exec (.add c d a y) s = execAdd c d a y s := rfl

@[simp] theorem exec_sub (c d a y s) : exec (.sub c d a y) s = execSub c d a y s := rfl

@[simp] theorem exec_and (c d a y s) : exec (.and c d a y) s = execAnd c d a y s := rfl

@[simp] theorem exec_or (c d a y s) : exec (.or c d a y) s = execOr c d a y s := rfl

@[simp] theorem exec_xor (c d a y s) : exec (.xor c d a y) s = execXor c d a y s := rfl

@[simp] theorem exec_shl (c d a y s) : exec (.shl c d a y) s = execShl c d a y s := rfl

@[simp] theorem exec_shr (c d a y s) : exec (.shr c d a y) s = execShr c d a y s := rfl

@[simp] theorem exec_mul (c d a y s) : exec (.mul c d a y) s = execMul c d a y s := rfl

@[simp] theorem exec_min (c d a y s) : exec (.min c d a y) s = execMin c d a y s := rfl

@[simp] theorem exec_max (c d a y s) : exec (.max c d a y) s = execMax c d a y s := rfl

@[simp] theorem exec_clamp (c d a y s) : exec (.clamp c d a y) s = execClamp c d a y s := rfl

@[simp] theorem exec_movi (c d imm s) : exec (.movi c d imm) s = execMovi c d imm s := rfl

@[simp] theorem exec_movhi (c d imm s) : exec (.movhi c d imm) s = execMovhi c d imm s := rfl

@[simp] theorem exec_ld (c d a y s) : exec (.ld c d a y) s = execLd c d a y s := rfl

@[simp] theorem exec_st (c d a y s) : exec (.st c d a y) s = execSt c d a y s := rfl

@[simp] theorem exec_rdr (c d a y s) : exec (.rdr c d a y) s = execRdr c d a y s := rfl

@[simp] theorem exec_br (c a addr s) : exec (.br c a addr) s = execBr c a addr s := rfl

@[simp] theorem exec_brc (c cond a b off s) : exec (.brc c cond a b off) s = execBrc c cond a b off s := rfl

@[simp] theorem exec_call (c a addr s) : exec (.call c a addr) s = execCall c a addr s := rfl

@[simp] theorem exec_ret (c s) : exec (.ret c) s = execRet c s := rfl

@[simp] theorem exec_yield (c s) : exec (.yield c) s = execYield c s := rfl

@[simp] theorem exec_halt (c s) : exec (.halt c) s = execHalt c s := rfl

@[simp] theorem exec_haltCommitDone (c s) : exec (.haltCommitDone c) s = execHaltCommitDone c s := rfl

@[simp] theorem exec_trap (c imm s) : exec (.trap c imm) s = execTrap c imm s := rfl

@[simp] theorem exec_setv (c sel a y s) : exec (.setv c sel a y) s = execSetv c sel a y s := rfl

@[simp] theorem exec_seti (c sel a y s) : exec (.seti c sel a y) s = execSeti c sel a y s := rfl

@[simp] theorem exec_slew (c a y s) : exec (.slew c a y) s = execSlew c a y s := rfl

@[simp] theorem exec_limit (c sel a y s) : exec (.limit c sel a y) s = execLimit c sel a y s := rfl

@[simp] theorem exec_phases (c a y s) : exec (.phases c a y) s = execPhases c a y s := rfl

@[simp] theorem exec_enable (c sel a y s) : exec (.enable c sel a y) s = execEnable c sel a y s := rfl

@[simp] theorem exec_shed (c a y s) : exec (.shed c a y) s = execShed c a y s := rfl

@[simp] theorem exec_restore (c a y s) : exec (.restore c a y) s = execRestore c a y s := rfl

@[simp] theorem exec_waitt (c d a y s) : exec (.waitt c d a y) s = execWaitt c d a y s := rfl

@[simp] theorem exec_waittDeadline (c s) : exec (.waittDeadline c) s = execWaittDeadline c s := rfl

@[simp] theorem exec_waita (c d a y s) : exec (.waita c d a y) s = execWaita c d a y s := rfl

@[simp] theorem exec_waitaCrossing (c s) : exec (.waitaCrossing c) s = execWaitaCrossing c s := rfl

@[simp] theorem exec_waite (c d a y s) : exec (.waite c d a y) s = execWaite c d a y s := rfl

@[simp] theorem exec_waitTimeout (c s) : exec (.waitTimeout c) s = execWaitTimeout c s := rfl

@[simp] theorem exec_pick (c d a y s) : exec (.pick c d a y) s = execPick c d a y s := rfl

@[simp] theorem exec_unpick (c d a y s) : exec (.unpick c d a y) s = execUnpick c d a y s := rfl

@[simp] theorem exec_meas (c d a y s) : exec (.meas c d a y) s = execMeas c d a y s := rfl

@[simp] theorem exec_getm (c d a y s) : exec (.getm c d a y) s = execGetm c d a y s := rfl

@[simp] theorem exec_txb (c s) : exec (.txb c) s = execTxb c s := rfl

@[simp] theorem exec_txc (c d s) : exec (.txc c d) s = execTxc c d s := rfl

@[simp] theorem exec_txcCommitDone (c s) : exec (.txcCommitDone c) s = execTxcCommitDone c s := rfl

@[simp] theorem exec_emit (c d a y s) : exec (.emit c d a y) s = execEmit c d a y s := rfl

@[simp] theorem exec_done (c a y s) : exec (.done c a y) s = execDone c a y s := rfl

@[simp] theorem exec_selftest (c d a y s) : exec (.selftest c d a y) s = execSelftest c d a y s := rfl

@[simp] theorem exec_cal (c d a y s) : exec (.cal c d a y) s = execCal c d a y s := rfl

@[simp] theorem exec_cellTestDone (cell pass newCal s) : exec (.cellTestDone cell pass newCal) s = execCellTestDone cell pass newCal s := rfl

@[simp] theorem exec_fence (c d s) : exec (.fence c d) s = execFence c d s := rfl

@[simp] theorem exec_fenceComplete (c s) : exec (.fenceComplete c) s = execFenceComplete c s := rfl

@[simp] theorem exec_jobDoorbell (m tail s) : exec (.jobDoorbell m tail) s = execJobDoorbell m tail s := rfl

@[simp] theorem exec_cqHeadWrite (m head s) : exec (.cqHeadWrite m head) s = execCqHeadWrite m head s := rfl

@[simp] theorem exec_descriptorCopy (m s) : exec (.descriptorCopy m) s = execDescriptorCopy m s := rfl

@[simp] theorem exec_jobAccept (m r s) : exec (.jobAccept m r) s = execJobAccept m r s := rfl

@[simp] theorem exec_completionPost (m s) : exec (.completionPost m) s = execCompletionPost m s := rfl

@[simp] theorem exec_jobStart (m r s) : exec (.jobStart m r) s = execJobStart m r s := rfl

@[simp] theorem exec_jobStatusRead (reader m r s) : exec (.jobStatusRead reader m r) s = execJobStatusRead reader m r s := rfl

@[simp] theorem exec_jobRelease (m jobId s) : exec (.jobRelease m jobId) s = execJobRelease m jobId s := rfl

@[simp] theorem exec_spiRead (a data crc nbits s) : exec (.spiRead a data crc nbits) s = execSpiRead a data crc nbits s := rfl

@[simp] theorem exec_spiWrite (a data crc nbits s) : exec (.spiWrite a data crc nbits) s = execSpiWrite a data crc nbits s := rfl

@[simp] theorem exec_spiNop (a data crc nbits s) : exec (.spiNop a data crc nbits) s = execSpiNop a data crc nbits s := rfl

@[simp] theorem exec_spiBurstRead (a hdr crc nbits ahead s) : exec (.spiBurstRead a hdr crc nbits ahead) s = execSpiBurstRead a hdr crc nbits ahead s := rfl

@[simp] theorem exec_spiBurstWrite (a hdr crc nbits segs s) : exec (.spiBurstWrite a hdr crc nbits segs) s = execSpiBurstWrite a hdr crc nbits segs s := rfl

@[simp] theorem exec_i2cWrite (reg bytes s) : exec (.i2cWrite reg bytes) s = execI2cWrite reg bytes s := rfl

@[simp] theorem exec_i2cRead (reg n s) : exec (.i2cRead reg n) s = execI2cRead reg n s := rfl

@[simp] theorem exec_i2cSclTimeout (s) : exec (.i2cSclTimeout) s = execI2cSclTimeout s := rfl

@[simp] theorem exec_i2cSdaTimeout (s) : exec (.i2cSdaTimeout) s = execI2cSdaTimeout s := rfl

@[simp] theorem exec_i2cStartInAck (s) : exec (.i2cStartInAck) s = execI2cStartInAck s := rfl

@[simp] theorem exec_intRearmEnd (s) : exec (.intRearmEnd) s = execIntRearmEnd s := rfl

@[simp] theorem exec_auxGo (m cmd s) : exec (.auxGo m cmd) s = execAuxGo m cmd s := rfl

@[simp] theorem exec_auxTransactionDone (addrW addrR acked rx s) : exec (.auxTransactionDone addrW addrR acked rx) s = execAuxTransactionDone addrW addrR acked rx s := rfl

@[simp] theorem exec_auxEnable (m cmd s) : exec (.auxEnable m cmd) s = execAuxEnable m cmd s := rfl

@[simp] theorem exec_auxBusClearDone (scl pulses s) : exec (.auxBusClearDone scl pulses) s = execAuxBusClearDone scl pulses s := rfl

@[simp] theorem exec_auxTimeout (s) : exec (.auxTimeout) s = execAuxTimeout s := rfl

@[simp] theorem exec_auxArbLost (s) : exec (.auxArbLost) s = execAuxArbLost s := rfl

@[simp] theorem exec_typecAttach (level cc2 s) : exec (.typecAttach level cc2) s = execTypecAttach level cc2 s := rfl

@[simp] theorem exec_typecDetach (s) : exec (.typecDetach) s = execTypecDetach s := rfl

@[simp] theorem exec_drpToggle (s) : exec (.drpToggle) s = execDrpToggle s := rfl

@[simp] theorem exec_vbusOvervoltage (v s) : exec (.vbusOvervoltage v) s = execVbusOvervoltage v s := rfl

@[simp] theorem exec_portBackfeed (i s) : exec (.portBackfeed i) s = execPortBackfeed i s := rfl

@[simp] theorem exec_vbusLoss (v s) : exec (.vbusLoss v) s = execVbusLoss v s := rfl

@[simp] theorem exec_deadBatterySink (level s) : exec (.deadBatterySink level) s = execDeadBatterySink level s := rfl

@[simp] theorem exec_pdSourceCapabilities (pdos epr s) : exec (.pdSourceCapabilities pdos epr) s = execPdSourceCapabilities pdos epr s := rfl

@[simp] theorem exec_pdRequest (pos volt curr s) : exec (.pdRequest pos volt curr) s = execPdRequest pos volt curr s := rfl

@[simp] theorem exec_pdAccept (s) : exec (.pdAccept) s = execPdAccept s := rfl

@[simp] theorem exec_pdReject (s) : exec (.pdReject) s = execPdReject s := rfl

@[simp] theorem exec_pdWait (s) : exec (.pdWait) s = execPdWait s := rfl

@[simp] theorem exec_pdPsRdy (s) : exec (.pdPsRdy) s = execPdPsRdy s := rfl

@[simp] theorem exec_pdPrSwap (s) : exec (.pdPrSwap) s = execPdPrSwap s := rfl

@[simp] theorem exec_pdDrSwap (s) : exec (.pdDrSwap) s = execPdDrSwap s := rfl

@[simp] theorem exec_pdHardReset (s) : exec (.pdHardReset) s = execPdHardReset s := rfl

@[simp] theorem exec_pdSoftReset (sent s) : exec (.pdSoftReset sent) s = execPdSoftReset sent s := rfl

@[simp] theorem exec_pdEprModeEntry (ok s) : exec (.pdEprModeEntry ok) s = execPdEprModeEntry ok s := rfl

@[simp] theorem exec_pdCableIdentity (emarked epr cur vmax s) : exec (.pdCableIdentity emarked epr cur vmax) s = execPdCableIdentity emarked epr cur vmax s := rfl

@[simp] theorem exec_pdVconnSwap (s) : exec (.pdVconnSwap) s = execPdVconnSwap s := rfl

@[simp] theorem exec_pdUnsupported (s) : exec (.pdUnsupported) s = execPdUnsupported s := rfl

@[simp] theorem exec_sinkRequestRetry (s) : exec (.sinkRequestRetry) s = execSinkRequestRetry s := rfl

@[simp] theorem exec_sinkTxWaitEnd (s) : exec (.sinkTxWaitEnd) s = execSinkTxWaitEnd s := rfl

@[simp] theorem exec_srcTransitionEnd (s) : exec (.srcTransitionEnd) s = execSrcTransitionEnd s := rfl

@[simp] theorem exec_hardResetRecover (s) : exec (.hardResetRecover) s = execHardResetRecover s := rfl

@[simp] theorem exec_prSwapRetry (s) : exec (.prSwapRetry) s = execPrSwapRetry s := rfl

@[simp] theorem exec_softResetWaitEnd (s) : exec (.softResetWaitEnd) s = execSoftResetWaitEnd s := rfl

@[simp] theorem exec_errorRecoveryEnd (s) : exec (.errorRecoveryEnd) s = execErrorRecoveryEnd s := rfl

@[simp] theorem exec_portResume (s) : exec (.portResume) s = execPortResume s := rfl

@[simp] theorem exec_pcapUpdate (rail s) : exec (.pcapUpdate rail) s = execPcapUpdate rail s := rfl

@[simp] theorem exec_pdoReduce (s) : exec (.pdoReduce) s = execPdoReduce s := rfl

@[simp] theorem exec_pdoRaise (s) : exec (.pdoRaise) s = execPdoRaise s := rfl

@[simp] theorem exec_vconnOvercurrent (i s) : exec (.vconnOvercurrent i) s = execVconnOvercurrent i s := rfl

@[simp] theorem exec_dischargeDone (v s) : exec (.dischargeDone v) s = execDischargeDone v s := rfl

@[simp] theorem exec_packPrimaryPortStop (s) : exec (.packPrimaryPortStop) s = execPackPrimaryPortStop s := rfl

@[simp] theorem exec_usbBusReset (s) : exec (.usbBusReset) s = execUsbBusReset s := rfl

@[simp] theorem exec_dfuDnload (n words s) : exec (.dfuDnload n words) s = execDfuDnload n words s := rfl

@[simp] theorem exec_dfuManifest (s) : exec (.dfuManifest) s = execDfuManifest s := rfl

@[simp] theorem exec_dfuDetach (s) : exec (.dfuDetach) s = execDfuDetach s := rfl

@[simp] theorem exec_dfuGetstatus (s) : exec (.dfuGetstatus) s = execDfuGetstatus s := rfl

@[simp] theorem exec_dfuClrstatus (s) : exec (.dfuClrstatus) s = execDfuClrstatus s := rfl

@[simp] theorem exec_dfuUpload (s) : exec (.dfuUpload) s = execDfuUpload s := rfl

@[simp] theorem exec_vendorRead (seq count a s) : exec (.vendorRead seq count a) s = execVendorRead seq count a s := rfl

@[simp] theorem exec_vendorWrite (seq count a words s) : exec (.vendorWrite seq count a words) s = execVendorWrite seq count a words s := rfl

@[simp] theorem exec_linkUp (s) : exec (.linkUp) s = execLinkUp s := rfl

@[simp] theorem exec_heartbeatSend (s) : exec (.heartbeatSend) s = execHeartbeatSend s := rfl

@[simp] theorem exec_heartbeat (hdr h s) : exec (.heartbeat hdr h) s = execHeartbeat hdr h s := rfl

@[simp] theorem exec_helloSend (s) : exec (.helloSend) s = execHelloSend s := rfl

@[simp] theorem exec_hello (hdr h s) : exec (.hello hdr h) s = execHello hdr h s := rfl

@[simp] theorem exec_noticeReset (hdr kind s) : exec (.noticeReset hdr kind) s = execNoticeReset hdr kind s := rfl

@[simp] theorem exec_noticeSafe (hdr s) : exec (.noticeSafe hdr) s = execNoticeSafe hdr s := rfl

@[simp] theorem exec_noticeLeave (hdr s) : exec (.noticeLeave hdr) s = execNoticeLeave hdr s := rfl

@[simp] theorem exec_resetReq (hdr pairId s) : exec (.resetReq hdr pairId) s = execResetReq hdr pairId s := rfl

@[simp] theorem exec_order (hdr w s) : exec (.order hdr w) s = execOrder hdr w s := rfl

@[simp] theorem exec_stamp (hdr t angle at_ s) : exec (.stamp hdr t angle at_) s = execStamp hdr t angle at_ s := rfl

@[simp] theorem exec_commitAck (hdr jsn refused s) : exec (.commitAck hdr jsn refused) s = execCommitAck hdr jsn refused s := rfl

@[simp] theorem exec_mirror (hdr jsn rec s) : exec (.mirror hdr jsn rec) s = execMirror hdr jsn rec s := rfl

@[simp] theorem exec_state (hdr m r job s) : exec (.state hdr m r job) s = execState hdr m r job s := rfl

@[simp] theorem exec_submit (hdr words s) : exec (.submit hdr words) s = execSubmit hdr words s := rfl

@[simp] theorem exec_resync (hdr jsn rec left s) : exec (.resync hdr jsn rec left) s = execResync hdr jsn rec left s := rfl

@[simp] theorem exec_handover (hdr item s) : exec (.handover hdr item) s = execHandover hdr item s := rfl

@[simp] theorem exec_update (hdr item s) : exec (.update hdr item) s = execUpdate hdr item s := rfl

@[simp] theorem exec_retransmitTimeout (s) : exec (.retransmitTimeout) s = execRetransmitTimeout s := rfl

@[simp] theorem exec_shareProbeStart (s) : exec (.shareProbeStart) s = execShareProbeStart s := rfl

@[simp] theorem exec_shareProbeEnd (mv s) : exec (.shareProbeEnd mv) s = execShareProbeEnd mv s := rfl

@[simp] theorem exec_peerSilence (s) : exec (.peerSilence) s = execPeerSilence s := rfl

@[simp] theorem exec_shareTrimAnalog (vshare s) : exec (.shareTrimAnalog vshare) s = execShareTrimAnalog vshare s := rfl

@[simp] theorem exec_shareTrimDigital (s) : exec (.shareTrimDigital) s = execShareTrimDigital s := rfl

@[simp] theorem exec_standbyTake (rail s) : exec (.standbyTake rail) s = execStandbyTake rail s := rfl

@[simp] theorem exec_shareReleased (mv rail s) : exec (.shareReleased mv rail) s = execShareReleased mv rail s := rfl

@[simp] theorem exec_peerReset (m key s) : exec (.peerReset m key) s = execPeerReset m key s := rfl

@[simp] theorem exec_retrain (m key s) : exec (.retrain m key) s = execRetrain m key s := rfl

@[simp] theorem exec_pair (m key s) : exec (.pair m key) s = execPair m key s := rfl

@[simp] theorem exec_selModeWrite (m data s) : exec (.selModeWrite m data) s = execSelModeWrite m data s := rfl

@[simp] theorem exec_joinRampDone (s) : exec (.joinRampDone) s = execJoinRampDone s := rfl

@[simp] theorem exec_joinAbort (rail s) : exec (.joinAbort rail) s = execJoinAbort rail s := rfl

@[simp] theorem exec_joinRetry (s) : exec (.joinRetry) s = execJoinRetry s := rfl

@[simp] theorem exec_handBackDone (s) : exec (.handBackDone) s = execHandBackDone s := rfl

@[simp] theorem exec_wdgKeyFirst (m s) : exec (.wdgKeyFirst m) s = execWdgKeyFirst m s := rfl

@[simp] theorem exec_wdgKeySecond (m s) : exec (.wdgKeySecond m) s = execWdgKeySecond m s := rfl

@[simp] theorem exec_wdgKeyInvalid (m key s) : exec (.wdgKeyInvalid m key) s = execWdgKeyInvalid m key s := rfl

@[simp] theorem exec_wdgKeyTimeout (s) : exec (.wdgKeyTimeout) s = execWdgKeyTimeout s := rfl

@[simp] theorem exec_wdgExpiry (s) : exec (.wdgExpiry) s = execWdgExpiry s := rfl

@[simp] theorem exec_wdgLock (m s) : exec (.wdgLock m) s = execWdgLock m s := rfl

@[simp] theorem exec_faultClear (m key code s) : exec (.faultClear m key code) s = execFaultClear m key code s := rfl

@[simp] theorem exec_resetCmd (m key cmd s) : exec (.resetCmd m key cmd) s = execResetCmd m key cmd s := rfl

@[simp] theorem exec_pwrRun (m key s) : exec (.pwrRun m key) s = execPwrRun m key s := rfl

@[simp] theorem exec_pwrLight (m key s) : exec (.pwrLight m key) s = execPwrLight m key s := rfl

@[simp] theorem exec_pwrStandby (m key s) : exec (.pwrStandby m key) s = execPwrStandby m key s := rfl

@[simp] theorem exec_pwrDeepSleep (m key s) : exec (.pwrDeepSleep m key) s = execPwrDeepSleep m key s := rfl

@[simp] theorem exec_pwrOff (m key s) : exec (.pwrOff m key) s = execPwrOff m key s := rfl

@[simp] theorem exec_wake (src vbus s) : exec (.wake src vbus) s = execWake src vbus s := rfl

@[simp] theorem exec_wakeTimer (s) : exec (.wakeTimer) s = execWakeTimer s := rfl

@[simp] theorem exec_lcProvisioned (m key s) : exec (.lcProvisioned m key) s = execLcProvisioned m key s := rfl

@[simp] theorem exec_lcField (m key s) : exec (.lcField m key) s = execLcField m key s := rfl

@[simp] theorem exec_lcReturn (m key s) : exec (.lcReturn m key) s = execLcReturn m key s := rfl

@[simp] theorem exec_lcScrapped (m key s) : exec (.lcScrapped m key) s = execLcScrapped m key s := rfl

@[simp] theorem exec_lcDebug (m key s) : exec (.lcDebug m key) s = execLcDebug m key s := rfl

@[simp] theorem exec_tokenVerifyDone (s) : exec (.tokenVerifyDone) s = execTokenVerifyDone s := rfl

@[simp] theorem exec_lcWipeDone (s) : exec (.lcWipeDone) s = execLcWipeDone s := rfl

@[simp] theorem exec_resetNAssert (ns s) : exec (.resetNAssert ns) s = execResetNAssert ns s := rfl

@[simp] theorem exec_resetRelease (straps records s) : exec (.resetRelease straps records) s = execResetRelease straps records s := rfl

@[simp] theorem exec_nvmStepDone (ok erase s) : exec (.nvmStepDone ok erase) s = execNvmStepDone ok erase s := rfl

@[simp] theorem exec_reducedServiceStart (v48 v12 rail pins share s) : exec (.reducedServiceStart v48 v12 rail pins share) s = execReducedServiceStart v48 v12 rail pins share s := rfl

@[simp] theorem exec_firmwareStart (s) : exec (.firmwareStart) s = execFirmwareStart s := rfl

@[simp] theorem exec_fullServiceStart (defaults records s) : exec (.fullServiceStart defaults records) s = execFullServiceStart defaults records s := rfl

@[simp] theorem exec_updSessionOpen (m data s) : exec (.updSessionOpen m data) s = execUpdSessionOpen m data s := rfl

@[simp] theorem exec_updateBufferWrite (m a data s) : exec (.updateBufferWrite m a data) s = execUpdateBufferWrite m a data s := rfl

@[simp] theorem exec_updBlock (m data s) : exec (.updBlock m data) s = execUpdBlock m data s := rfl

@[simp] theorem exec_sessionIdleTimeout (s) : exec (.sessionIdleTimeout) s = execSessionIdleTimeout s := rfl

@[simp] theorem exec_activateNext (m token s) : exec (.activateNext m token) s = execActivateNext m token s := rfl

@[simp] theorem exec_activateNow (m token s) : exec (.activateNow m token) s = execActivateNow m token s := rfl

@[simp] theorem exec_heldRestartResume (records s) : exec (.heldRestartResume records) s = execHeldRestartResume records s := rfl

@[simp] theorem exec_updateConfirm (m token s) : exec (.updateConfirm m token) s = execUpdateConfirm m token s := rfl

@[simp] theorem exec_trialAutoConfirm (s) : exec (.trialAutoConfirm) s = execTrialAutoConfirm s := rfl

@[simp] theorem exec_discard (m token s) : exec (.discard m token) s = execDiscard m token s := rfl

@[simp] theorem exec_push (m token s) : exec (.push m token) s = execPush m token s := rfl

@[simp] theorem exec_close (m token s) : exec (.close m token) s = execClose m token s := rfl

@[simp] theorem exec_complete (m token s) : exec (.complete m token) s = execComplete m token s := rfl

@[simp] theorem exec_vdrvUndervoltage (mv s) : exec (.vdrvUndervoltage mv) s = execVdrvUndervoltage mv s := rfl

@[simp] theorem exec_vdrvRecovery (mv s) : exec (.vdrvRecovery mv) s = execVdrvRecovery mv s := rfl

@[simp] theorem exec_linkDown (s) : exec (.linkDown) s = execLinkDown s := rfl

@[simp] theorem exec_vbusRestored (v level s) : exec (.vbusRestored v level) s = execVbusRestored v level s := rfl

@[simp] theorem exec_trySnkTimeout (rd s) : exec (.trySnkTimeout rd) s = execTrySnkTimeout rd s := rfl

@[simp] theorem exec_packGRampDone (s) : exec (.packGRampDone) s = execPackGRampDone s := rfl

@[simp] theorem exec_keepaliveInputChange (inputs s) : exec (.keepaliveInputChange inputs) s = execKeepaliveInputChange inputs s := rfl

end Sys2Proof.Machine
end

