-- ==== Sys2Proof/Laws/Store.lean ====
section
/-!
SUPPORT. The laws of the sparse stores: reading after a write, and the canonical form that every operation keeps.
-/

namespace Sys2Proof

variable {α : Type}

/-- Every key of a store lies above a bound. -/
def Store.above (a : Nat) (m : Store α) : Prop := ∀ p ∈ m, a < p.1

/-- The store's keys strictly rise, as a proposition that recursion can use. -/
def Store.ordered : Store α → Prop
  | [] => True
  | p :: t => Store.above p.1 t ∧ Store.ordered t

theorem Store.ordered_iff (m : Store α) : Store.ordered m ↔ Store.rising m = true := by
  induction m with
  | nil => simp [Store.ordered, Store.rising]
  | cons p t ih =>
    obtain ⟨a, v⟩ := p
    cases t with
    | nil => simp [Store.ordered, Store.rising, Store.above]
    | cons q r =>
      obtain ⟨b, w⟩ := q
      simp only [Store.ordered, Store.rising, Bool.and_eq_true, decide_eq_true_eq] at ih ⊢
      constructor
      · rintro ⟨h1, h2⟩
        exact ⟨h1 (b, w) (List.mem_cons_self ..), ih.1 h2⟩
      · rintro ⟨h1, h2⟩
        have h3 := ih.2 h2
        refine ⟨?_, h3⟩
        intro p hp
        rcases List.mem_cons.1 hp with rfl | hp
        · exact h1
        · exact Nat.lt_trans h1 (h3.1 p hp)

theorem Store.mem_erase {m : Store α} {a : Nat} {p : Nat × α} (h : p ∈ Store.erase m a) : p ∈ m ∧ p.1 ≠ a := by
  induction m with
  | nil => simp [Store.erase] at h
  | cons q t ih =>
    obtain ⟨b, v⟩ := q
    by_cases hb : b = a
    · simp only [Store.erase, hb, if_true] at h
      exact ⟨List.mem_cons_of_mem _ (ih h).1, (ih h).2⟩
    · simp only [Store.erase, hb, if_false] at h
      rcases List.mem_cons.1 h with rfl | h
      · exact ⟨List.mem_cons_self .., hb⟩
      · exact ⟨List.mem_cons_of_mem _ (ih h).1, (ih h).2⟩

theorem Store.mem_insert {m : Store α} {a : Nat} {v : α} {p : Nat × α} (h : p ∈ Store.insert m a v) : p = (a, v) ∨ p ∈ m := by
  induction m with
  | nil => simpa [Store.insert] using h
  | cons q t ih =>
    obtain ⟨b, w⟩ := q
    by_cases hb : a < b
    · simpa [Store.insert, hb] using h
    · simp only [Store.insert, hb, if_false] at h
      rcases List.mem_cons.1 h with rfl | h
      · exact .inr (List.mem_cons_self ..)
      · rcases ih h with h | h
        · exact .inl h
        · exact .inr (List.mem_cons_of_mem _ h)

theorem Store.ordered_erase {m : Store α} (a : Nat) (h : Store.ordered m) : Store.ordered (Store.erase m a) := by
  induction m with
  | nil => exact h
  | cons q t ih =>
    obtain ⟨b, v⟩ := q
    by_cases hb : b = a
    · simpa only [Store.erase, hb, if_true] using ih h.2
    · simp only [Store.erase, hb, if_false]
      exact ⟨fun p hp => h.1 p (Store.mem_erase hp).1, ih h.2⟩

theorem Store.ordered_insert {m : Store α} (a : Nat) (v : α) (h : Store.ordered m) (hn : ∀ p ∈ m, p.1 ≠ a) :
    Store.ordered (Store.insert m a v) := by
  induction m with
  | nil => simp [Store.insert, Store.ordered, Store.above]
  | cons q t ih =>
    obtain ⟨b, w⟩ := q
    by_cases hb : a < b
    · simp only [Store.insert, hb, if_true]
      refine ⟨?_, h⟩
      intro p hp
      rcases List.mem_cons.1 hp with rfl | hp
      · exact hb
      · exact Nat.lt_trans hb (h.1 p hp)
    · simp only [Store.insert, hb, if_false]
      refine ⟨?_, ih h.2 (fun p hp => hn p (List.mem_cons_of_mem _ hp))⟩
      intro p hp
      rcases Store.mem_insert hp with rfl | hp
      · have := hn (b, w) (List.mem_cons_self ..)
        simp only at this ⊢
        omega
      · exact h.1 p hp

/-- A store keeps its order under a write. -/
theorem Store.rising_put {m : Store α} (a : Nat) (v : α) (h : Store.rising m = true) : Store.rising (Store.put m a v) = true := by
  rw [← Store.ordered_iff] at h ⊢
  exact Store.ordered_insert a v (Store.ordered_erase a h) (fun p hp => (Store.mem_erase hp).2)

/-- A store keeps its order when a key is removed. -/
theorem Store.rising_erase {m : Store α} (a : Nat) (h : Store.rising m = true) : Store.rising (Store.erase m a) = true := by
  rw [← Store.ordered_iff] at h ⊢
  exact Store.ordered_erase a h

theorem Store.find_erase (m : Store α) (a b : Nat) :
    Store.find (Store.erase m a) b = if a = b then none else Store.find m b := by
  induction m with
  | nil => simp [Store.erase, Store.find]
  | cons q t ih =>
    obtain ⟨c, v⟩ := q
    by_cases hc : c = a
    · subst hc
      by_cases hb : c = b
      · subst hb
        simpa [Store.erase] using ih
      · simp [Store.erase, Store.find, ih, hb]
    · by_cases hb : c = b
      · subst hb
        simp [Store.erase, Store.find, hc, Ne.symm hc]
      · simp [Store.erase, Store.find, hc, hb, ih]

theorem Store.find_insert {m : Store α} {a : Nat} (v : α) (b : Nat) (h : Store.find m a = none) :
    Store.find (Store.insert m a v) b = if a = b then some v else Store.find m b := by
  induction m with
  | nil => simp [Store.insert, Store.find]
  | cons q t ih =>
    obtain ⟨c, w⟩ := q
    by_cases hc : c = a
    · simp [Store.find, hc] at h
    · have ht : Store.find t a = none := by simpa [Store.find, hc] using h
      by_cases hl : a < c
      · simp [Store.insert, Store.find, hl]
      · by_cases hb : c = b
        · subst hb
          simp [Store.insert, Store.find, hl, Ne.symm hc]
        · simp [Store.insert, Store.find, hl, hb, ih ht]

/-- Reading a store after a write. -/
theorem Store.find_put (m : Store α) (a b : Nat) (v : α) :
    Store.find (Store.put m a v) b = if a = b then some v else Store.find m b := by
  rw [Store.put, Store.find_insert v b (by simp [Store.find_erase]), Store.find_erase]
  by_cases h : a = b <;> simp [h]

@[simp] theorem Store.find_put_self (m : Store α) (a : Nat) (v : α) : Store.find (Store.put m a v) a = some v := by
  simp [Store.find_put]

/-- Reading a word memory after a write: the written word there, every other word as before. -/
theorem WordMap.get_set (m : WordMap) (a b : Nat) (v : Word) :
    WordMap.get (WordMap.set m a v) b = if a = b then v else WordMap.get m b := by
  unfold WordMap.get WordMap.set
  by_cases hv : v = 0
  · subst hv
    simp only [if_true, Store.find_erase]
    by_cases h : a = b <;> simp [h]
  · simp only [hv, if_false, Store.find_put]
    by_cases h : a = b <;> simp [h]

@[simp] theorem WordMap.get_set_self (m : WordMap) (a : Nat) (v : Word) : WordMap.get (WordMap.set m a v) a = v := by
  simp [WordMap.get_set]

theorem WordMap.get_set_ne (m : WordMap) {a b : Nat} (v : Word) (h : a ≠ b) : WordMap.get (WordMap.set m a v) b = WordMap.get m b := by
  simp [WordMap.get_set, h]

@[simp] theorem WordMap.get_nil (a : Nat) : WordMap.get [] a = 0 := rfl

theorem WordMap.wf_iff (m : WordMap) : WordMap.wf m = true ↔ Store.rising m = true ∧ ∀ p ∈ m, p.2 ≠ 0 := by
  simp [WordMap.wf, List.all_eq_true]

/-- Every write keeps the canonical form of a word memory. -/
theorem WordMap.wf_set {m : WordMap} (a : Nat) (v : Word) (h : WordMap.wf m = true) : WordMap.wf (WordMap.set m a v) = true := by
  rw [WordMap.wf_iff] at h ⊢
  unfold WordMap.set
  by_cases hv : v = 0
  · simp only [hv, if_true]
    exact ⟨Store.rising_erase a h.1, fun p hp => h.2 p (Store.mem_erase hp).1⟩
  · simp only [hv, if_false]
    refine ⟨Store.rising_put a v h.1, ?_⟩
    intro p hp
    rcases Store.mem_insert hp with rfl | hp
    · exact hv
    · exact h.2 p (Store.mem_erase hp).1

theorem WordMap.wf_nil : WordMap.wf [] = true := rfl

/-- Any sequence of writes keeps the canonical form. -/
theorem WordMap.wf_foldl {β : Type} (l : List β) (g : WordMap → β → WordMap) (hg : ∀ m x, WordMap.wf m = true → WordMap.wf (g m x) = true)
    {m : WordMap} (h : WordMap.wf m = true) : WordMap.wf (l.foldl g m) = true := by
  induction l generalizing m with
  | nil => exact h
  | cons x t ih => exact ih (hg m x h)

/-- A part of a canonical store is canonical. -/
theorem WordMap.wf_filter (p : Nat × Word → Bool) {m : WordMap} (h : WordMap.wf m = true) : WordMap.wf (m.filter p) = true := by
  rw [WordMap.wf_iff, ← Store.ordered_iff] at h ⊢
  refine ⟨?_, fun q hq => h.2 q (List.mem_filter.1 hq).1⟩
  have h1 := h.1
  clear h
  induction m with
  | nil => exact h1
  | cons q t ih =>
    by_cases hq : p q
    · simp only [List.filter_cons, hq, if_true]
      exact ⟨fun r hr => h1.1 r (List.mem_filter.1 hr).1, ih h1.2⟩
    · simp only [List.filter_cons, hq, Bool.false_eq_true, if_false]
      exact ih h1.2

/-- Two canonical memories that read alike at every address are equal data. -/
theorem WordMap.find_of_get {m : WordMap} (h : WordMap.wf m = true) (a : Nat) :
    Store.find m a = if WordMap.get m a = 0 then none else some (WordMap.get m a) := by
  rw [WordMap.wf_iff] at h
  unfold WordMap.get
  cases hf : Store.find m a with
  | none => simp
  | some v =>
    have : v ≠ 0 := by
      have hm : ∃ p ∈ m, p.2 = v := by
        clear h
        induction m with
        | nil => simp [Store.find] at hf
        | cons q t ih =>
          obtain ⟨c, w⟩ := q
          by_cases hc : c = a
          · simp only [Store.find, hc, if_true, Option.some.injEq] at hf
            exact ⟨(c, w), List.mem_cons_self .., hf⟩
          · simp only [Store.find, hc, if_false] at hf
            obtain ⟨p, hp, hv⟩ := ih hf
            exact ⟨p, List.mem_cons_of_mem _ hp, hv⟩
      obtain ⟨p, hp, rfl⟩ := hm
      exact h.2 p hp
    simpa using this

end Sys2Proof
end

