-- ==== Sys2Proof/Laws/State.lean ====
section
/-!
SUPPORT. What each update of the state leaves alone, one lemma for each field (all true by definition), and the laws of
register fields: reading a field after a write.
-/

namespace Sys2Proof.Machine

@[simp] theorem State.wr_time (s : State) (a : Nat) (v : Word) : (s.wr a v).time = s.time := rfl
@[simp] theorem State.wr_aon (s : State) (a : Nat) (v : Word) : (s.wr a v).aon = s.aon := rfl
@[simp] theorem State.wr_latches (s : State) (a : Nat) (v : Word) : (s.wr a v).latches = s.latches := rfl
@[simp] theorem State.wr_readData (s : State) (a : Nat) (v : Word) : (s.wr a v).readData = s.readData := rfl
@[simp] theorem State.wr_pm (s : State) (a : Nat) (v : Word) : (s.wr a v).pm = s.pm := rfl
@[simp] theorem State.wr_dm (s : State) (a : Nat) (v : Word) : (s.wr a v).dm = s.dm := rfl
@[simp] theorem State.wr_ctx (s : State) (a : Nat) (v : Word) : (s.wr a v).ctx = s.ctx := rfl
@[simp] theorem State.wr_win (s : State) (a : Nat) (v : Word) : (s.wr a v).win = s.win := rfl
@[simp] theorem State.wr_freeCount (s : State) (a : Nat) (v : Word) : (s.wr a v).freeCount = s.freeCount := rfl
@[simp] theorem State.wr_lom (s : State) (a : Nat) (v : Word) : (s.wr a v).lom = s.lom := rfl
@[simp] theorem State.wr_jobs (s : State) (a : Nat) (v : Word) : (s.wr a v).jobs = s.jobs := rfl
@[simp] theorem State.wr_beam (s : State) (a : Nat) (v : Word) : (s.wr a v).beam = s.beam := rfl
@[simp] theorem State.wr_mea (s : State) (a : Nat) (v : Word) : (s.wr a v).mea = s.mea := rfl
@[simp] theorem State.wr_mod (s : State) (a : Nat) (v : Word) : (s.wr a v).mod = s.mod := rfl
@[simp] theorem State.wr_src (s : State) (a : Nat) (v : Word) : (s.wr a v).src = s.src := rfl
@[simp] theorem State.wr_chg (s : State) (a : Nat) (v : Word) : (s.wr a v).chg = s.chg := rfl
@[simp] theorem State.wr_svc (s : State) (a : Nat) (v : Word) : (s.wr a v).svc = s.svc := rfl
@[simp] theorem State.wr_thm (s : State) (a : Nat) (v : Word) : (s.wr a v).thm = s.thm := rfl
@[simp] theorem State.wr_red (s : State) (a : Nat) (v : Word) : (s.wr a v).red = s.red := rfl
@[simp] theorem State.wr_saf (s : State) (a : Nat) (v : Word) : (s.wr a v).saf = s.saf := rfl
@[simp] theorem State.wr_calArea (s : State) (a : Nat) (v : Word) : (s.wr a v).calArea = s.calArea := rfl
@[simp] theorem State.wr_sel (s : State) (a : Nat) (v : Word) : (s.wr a v).sel = s.sel := rfl
@[simp] theorem State.wr_upd (s : State) (a : Nat) (v : Word) : (s.wr a v).upd = s.upd := rfl
@[simp] theorem State.wr_hif (s : State) (a : Nat) (v : Word) : (s.wr a v).hif = s.hif := rfl
@[simp] theorem State.wr_aux (s : State) (a : Nat) (v : Word) : (s.wr a v).aux = s.aux := rfl
@[simp] theorem State.wr_pending (s : State) (a : Nat) (v : Word) : (s.wr a v).pending = s.pending := rfl

@[simp] theorem State.set_time (s : State) (f : Field) (n : Nat) : (s.set f n).time = s.time := rfl
@[simp] theorem State.set_aon (s : State) (f : Field) (n : Nat) : (s.set f n).aon = s.aon := rfl
@[simp] theorem State.set_latches (s : State) (f : Field) (n : Nat) : (s.set f n).latches = s.latches := rfl
@[simp] theorem State.set_readData (s : State) (f : Field) (n : Nat) : (s.set f n).readData = s.readData := rfl
@[simp] theorem State.set_pm (s : State) (f : Field) (n : Nat) : (s.set f n).pm = s.pm := rfl
@[simp] theorem State.set_dm (s : State) (f : Field) (n : Nat) : (s.set f n).dm = s.dm := rfl
@[simp] theorem State.set_ctx (s : State) (f : Field) (n : Nat) : (s.set f n).ctx = s.ctx := rfl
@[simp] theorem State.set_win (s : State) (f : Field) (n : Nat) : (s.set f n).win = s.win := rfl
@[simp] theorem State.set_freeCount (s : State) (f : Field) (n : Nat) : (s.set f n).freeCount = s.freeCount := rfl
@[simp] theorem State.set_lom (s : State) (f : Field) (n : Nat) : (s.set f n).lom = s.lom := rfl
@[simp] theorem State.set_jobs (s : State) (f : Field) (n : Nat) : (s.set f n).jobs = s.jobs := rfl
@[simp] theorem State.set_beam (s : State) (f : Field) (n : Nat) : (s.set f n).beam = s.beam := rfl
@[simp] theorem State.set_mea (s : State) (f : Field) (n : Nat) : (s.set f n).mea = s.mea := rfl
@[simp] theorem State.set_mod (s : State) (f : Field) (n : Nat) : (s.set f n).mod = s.mod := rfl
@[simp] theorem State.set_src (s : State) (f : Field) (n : Nat) : (s.set f n).src = s.src := rfl
@[simp] theorem State.set_chg (s : State) (f : Field) (n : Nat) : (s.set f n).chg = s.chg := rfl
@[simp] theorem State.set_svc (s : State) (f : Field) (n : Nat) : (s.set f n).svc = s.svc := rfl
@[simp] theorem State.set_thm (s : State) (f : Field) (n : Nat) : (s.set f n).thm = s.thm := rfl
@[simp] theorem State.set_red (s : State) (f : Field) (n : Nat) : (s.set f n).red = s.red := rfl
@[simp] theorem State.set_saf (s : State) (f : Field) (n : Nat) : (s.set f n).saf = s.saf := rfl
@[simp] theorem State.set_calArea (s : State) (f : Field) (n : Nat) : (s.set f n).calArea = s.calArea := rfl
@[simp] theorem State.set_sel (s : State) (f : Field) (n : Nat) : (s.set f n).sel = s.sel := rfl
@[simp] theorem State.set_upd (s : State) (f : Field) (n : Nat) : (s.set f n).upd = s.upd := rfl
@[simp] theorem State.set_hif (s : State) (f : Field) (n : Nat) : (s.set f n).hif = s.hif := rfl
@[simp] theorem State.set_aux (s : State) (f : Field) (n : Nat) : (s.set f n).aux = s.aux := rfl
@[simp] theorem State.set_pending (s : State) (f : Field) (n : Nat) : (s.set f n).pending = s.pending := rfl

@[simp] theorem State.setZ_time (s : State) (f : Field) (v : Int) : (s.setZ f v).time = s.time := rfl
@[simp] theorem State.setZ_aon (s : State) (f : Field) (v : Int) : (s.setZ f v).aon = s.aon := rfl
@[simp] theorem State.setZ_latches (s : State) (f : Field) (v : Int) : (s.setZ f v).latches = s.latches := rfl
@[simp] theorem State.setZ_readData (s : State) (f : Field) (v : Int) : (s.setZ f v).readData = s.readData := rfl
@[simp] theorem State.setZ_pm (s : State) (f : Field) (v : Int) : (s.setZ f v).pm = s.pm := rfl
@[simp] theorem State.setZ_dm (s : State) (f : Field) (v : Int) : (s.setZ f v).dm = s.dm := rfl
@[simp] theorem State.setZ_ctx (s : State) (f : Field) (v : Int) : (s.setZ f v).ctx = s.ctx := rfl
@[simp] theorem State.setZ_win (s : State) (f : Field) (v : Int) : (s.setZ f v).win = s.win := rfl
@[simp] theorem State.setZ_freeCount (s : State) (f : Field) (v : Int) : (s.setZ f v).freeCount = s.freeCount := rfl
@[simp] theorem State.setZ_lom (s : State) (f : Field) (v : Int) : (s.setZ f v).lom = s.lom := rfl
@[simp] theorem State.setZ_jobs (s : State) (f : Field) (v : Int) : (s.setZ f v).jobs = s.jobs := rfl
@[simp] theorem State.setZ_beam (s : State) (f : Field) (v : Int) : (s.setZ f v).beam = s.beam := rfl
@[simp] theorem State.setZ_mea (s : State) (f : Field) (v : Int) : (s.setZ f v).mea = s.mea := rfl
@[simp] theorem State.setZ_mod (s : State) (f : Field) (v : Int) : (s.setZ f v).mod = s.mod := rfl
@[simp] theorem State.setZ_src (s : State) (f : Field) (v : Int) : (s.setZ f v).src = s.src := rfl
@[simp] theorem State.setZ_chg (s : State) (f : Field) (v : Int) : (s.setZ f v).chg = s.chg := rfl
@[simp] theorem State.setZ_svc (s : State) (f : Field) (v : Int) : (s.setZ f v).svc = s.svc := rfl
@[simp] theorem State.setZ_thm (s : State) (f : Field) (v : Int) : (s.setZ f v).thm = s.thm := rfl
@[simp] theorem State.setZ_red (s : State) (f : Field) (v : Int) : (s.setZ f v).red = s.red := rfl
@[simp] theorem State.setZ_saf (s : State) (f : Field) (v : Int) : (s.setZ f v).saf = s.saf := rfl
@[simp] theorem State.setZ_calArea (s : State) (f : Field) (v : Int) : (s.setZ f v).calArea = s.calArea := rfl
@[simp] theorem State.setZ_sel (s : State) (f : Field) (v : Int) : (s.setZ f v).sel = s.sel := rfl
@[simp] theorem State.setZ_upd (s : State) (f : Field) (v : Int) : (s.setZ f v).upd = s.upd := rfl
@[simp] theorem State.setZ_hif (s : State) (f : Field) (v : Int) : (s.setZ f v).hif = s.hif := rfl
@[simp] theorem State.setZ_aux (s : State) (f : Field) (v : Int) : (s.setZ f v).aux = s.aux := rfl
@[simp] theorem State.setZ_pending (s : State) (f : Field) (v : Int) : (s.setZ f v).pending = s.pending := rfl

@[simp] theorem State.mark_time (s : State) (f : Field) (b : Bool) : (s.mark f b).time = s.time := rfl
@[simp] theorem State.mark_aon (s : State) (f : Field) (b : Bool) : (s.mark f b).aon = s.aon := rfl
@[simp] theorem State.mark_latches (s : State) (f : Field) (b : Bool) : (s.mark f b).latches = s.latches := rfl
@[simp] theorem State.mark_readData (s : State) (f : Field) (b : Bool) : (s.mark f b).readData = s.readData := rfl
@[simp] theorem State.mark_pm (s : State) (f : Field) (b : Bool) : (s.mark f b).pm = s.pm := rfl
@[simp] theorem State.mark_dm (s : State) (f : Field) (b : Bool) : (s.mark f b).dm = s.dm := rfl
@[simp] theorem State.mark_ctx (s : State) (f : Field) (b : Bool) : (s.mark f b).ctx = s.ctx := rfl
@[simp] theorem State.mark_win (s : State) (f : Field) (b : Bool) : (s.mark f b).win = s.win := rfl
@[simp] theorem State.mark_freeCount (s : State) (f : Field) (b : Bool) : (s.mark f b).freeCount = s.freeCount := rfl
@[simp] theorem State.mark_lom (s : State) (f : Field) (b : Bool) : (s.mark f b).lom = s.lom := rfl
@[simp] theorem State.mark_jobs (s : State) (f : Field) (b : Bool) : (s.mark f b).jobs = s.jobs := rfl
@[simp] theorem State.mark_beam (s : State) (f : Field) (b : Bool) : (s.mark f b).beam = s.beam := rfl
@[simp] theorem State.mark_mea (s : State) (f : Field) (b : Bool) : (s.mark f b).mea = s.mea := rfl
@[simp] theorem State.mark_mod (s : State) (f : Field) (b : Bool) : (s.mark f b).mod = s.mod := rfl
@[simp] theorem State.mark_src (s : State) (f : Field) (b : Bool) : (s.mark f b).src = s.src := rfl
@[simp] theorem State.mark_chg (s : State) (f : Field) (b : Bool) : (s.mark f b).chg = s.chg := rfl
@[simp] theorem State.mark_svc (s : State) (f : Field) (b : Bool) : (s.mark f b).svc = s.svc := rfl
@[simp] theorem State.mark_thm (s : State) (f : Field) (b : Bool) : (s.mark f b).thm = s.thm := rfl
@[simp] theorem State.mark_red (s : State) (f : Field) (b : Bool) : (s.mark f b).red = s.red := rfl
@[simp] theorem State.mark_saf (s : State) (f : Field) (b : Bool) : (s.mark f b).saf = s.saf := rfl
@[simp] theorem State.mark_calArea (s : State) (f : Field) (b : Bool) : (s.mark f b).calArea = s.calArea := rfl
@[simp] theorem State.mark_sel (s : State) (f : Field) (b : Bool) : (s.mark f b).sel = s.sel := rfl
@[simp] theorem State.mark_upd (s : State) (f : Field) (b : Bool) : (s.mark f b).upd = s.upd := rfl
@[simp] theorem State.mark_hif (s : State) (f : Field) (b : Bool) : (s.mark f b).hif = s.hif := rfl
@[simp] theorem State.mark_aux (s : State) (f : Field) (b : Bool) : (s.mark f b).aux = s.aux := rfl
@[simp] theorem State.mark_pending (s : State) (f : Field) (b : Bool) : (s.mark f b).pending = s.pending := rfl

@[simp] theorem State.raise_time (s : State) (f : Field) : (s.raise f).time = s.time := rfl
@[simp] theorem State.raise_aon (s : State) (f : Field) : (s.raise f).aon = s.aon := rfl
@[simp] theorem State.raise_latches (s : State) (f : Field) : (s.raise f).latches = s.latches := rfl
@[simp] theorem State.raise_readData (s : State) (f : Field) : (s.raise f).readData = s.readData := rfl
@[simp] theorem State.raise_pm (s : State) (f : Field) : (s.raise f).pm = s.pm := rfl
@[simp] theorem State.raise_dm (s : State) (f : Field) : (s.raise f).dm = s.dm := rfl
@[simp] theorem State.raise_ctx (s : State) (f : Field) : (s.raise f).ctx = s.ctx := rfl
@[simp] theorem State.raise_win (s : State) (f : Field) : (s.raise f).win = s.win := rfl
@[simp] theorem State.raise_freeCount (s : State) (f : Field) : (s.raise f).freeCount = s.freeCount := rfl
@[simp] theorem State.raise_lom (s : State) (f : Field) : (s.raise f).lom = s.lom := rfl
@[simp] theorem State.raise_jobs (s : State) (f : Field) : (s.raise f).jobs = s.jobs := rfl
@[simp] theorem State.raise_beam (s : State) (f : Field) : (s.raise f).beam = s.beam := rfl
@[simp] theorem State.raise_mea (s : State) (f : Field) : (s.raise f).mea = s.mea := rfl
@[simp] theorem State.raise_mod (s : State) (f : Field) : (s.raise f).mod = s.mod := rfl
@[simp] theorem State.raise_src (s : State) (f : Field) : (s.raise f).src = s.src := rfl
@[simp] theorem State.raise_chg (s : State) (f : Field) : (s.raise f).chg = s.chg := rfl
@[simp] theorem State.raise_svc (s : State) (f : Field) : (s.raise f).svc = s.svc := rfl
@[simp] theorem State.raise_thm (s : State) (f : Field) : (s.raise f).thm = s.thm := rfl
@[simp] theorem State.raise_red (s : State) (f : Field) : (s.raise f).red = s.red := rfl
@[simp] theorem State.raise_saf (s : State) (f : Field) : (s.raise f).saf = s.saf := rfl
@[simp] theorem State.raise_calArea (s : State) (f : Field) : (s.raise f).calArea = s.calArea := rfl
@[simp] theorem State.raise_sel (s : State) (f : Field) : (s.raise f).sel = s.sel := rfl
@[simp] theorem State.raise_upd (s : State) (f : Field) : (s.raise f).upd = s.upd := rfl
@[simp] theorem State.raise_hif (s : State) (f : Field) : (s.raise f).hif = s.hif := rfl
@[simp] theorem State.raise_aux (s : State) (f : Field) : (s.raise f).aux = s.aux := rfl
@[simp] theorem State.raise_pending (s : State) (f : Field) : (s.raise f).pending = s.pending := rfl

@[simp] theorem State.raiseBit_time (s : State) (f : Field) (k : Nat) : (s.raiseBit f k).time = s.time := rfl
@[simp] theorem State.raiseBit_aon (s : State) (f : Field) (k : Nat) : (s.raiseBit f k).aon = s.aon := rfl
@[simp] theorem State.raiseBit_latches (s : State) (f : Field) (k : Nat) : (s.raiseBit f k).latches = s.latches := rfl
@[simp] theorem State.raiseBit_readData (s : State) (f : Field) (k : Nat) : (s.raiseBit f k).readData = s.readData := rfl
@[simp] theorem State.raiseBit_pm (s : State) (f : Field) (k : Nat) : (s.raiseBit f k).pm = s.pm := rfl
@[simp] theorem State.raiseBit_dm (s : State) (f : Field) (k : Nat) : (s.raiseBit f k).dm = s.dm := rfl
@[simp] theorem State.raiseBit_ctx (s : State) (f : Field) (k : Nat) : (s.raiseBit f k).ctx = s.ctx := rfl
@[simp] theorem State.raiseBit_win (s : State) (f : Field) (k : Nat) : (s.raiseBit f k).win = s.win := rfl
@[simp] theorem State.raiseBit_freeCount (s : State) (f : Field) (k : Nat) : (s.raiseBit f k).freeCount = s.freeCount := rfl
@[simp] theorem State.raiseBit_lom (s : State) (f : Field) (k : Nat) : (s.raiseBit f k).lom = s.lom := rfl
@[simp] theorem State.raiseBit_jobs (s : State) (f : Field) (k : Nat) : (s.raiseBit f k).jobs = s.jobs := rfl
@[simp] theorem State.raiseBit_beam (s : State) (f : Field) (k : Nat) : (s.raiseBit f k).beam = s.beam := rfl
@[simp] theorem State.raiseBit_mea (s : State) (f : Field) (k : Nat) : (s.raiseBit f k).mea = s.mea := rfl
@[simp] theorem State.raiseBit_mod (s : State) (f : Field) (k : Nat) : (s.raiseBit f k).mod = s.mod := rfl
@[simp] theorem State.raiseBit_src (s : State) (f : Field) (k : Nat) : (s.raiseBit f k).src = s.src := rfl
@[simp] theorem State.raiseBit_chg (s : State) (f : Field) (k : Nat) : (s.raiseBit f k).chg = s.chg := rfl
@[simp] theorem State.raiseBit_svc (s : State) (f : Field) (k : Nat) : (s.raiseBit f k).svc = s.svc := rfl
@[simp] theorem State.raiseBit_thm (s : State) (f : Field) (k : Nat) : (s.raiseBit f k).thm = s.thm := rfl
@[simp] theorem State.raiseBit_red (s : State) (f : Field) (k : Nat) : (s.raiseBit f k).red = s.red := rfl
@[simp] theorem State.raiseBit_saf (s : State) (f : Field) (k : Nat) : (s.raiseBit f k).saf = s.saf := rfl
@[simp] theorem State.raiseBit_calArea (s : State) (f : Field) (k : Nat) : (s.raiseBit f k).calArea = s.calArea := rfl
@[simp] theorem State.raiseBit_sel (s : State) (f : Field) (k : Nat) : (s.raiseBit f k).sel = s.sel := rfl
@[simp] theorem State.raiseBit_upd (s : State) (f : Field) (k : Nat) : (s.raiseBit f k).upd = s.upd := rfl
@[simp] theorem State.raiseBit_hif (s : State) (f : Field) (k : Nat) : (s.raiseBit f k).hif = s.hif := rfl
@[simp] theorem State.raiseBit_aux (s : State) (f : Field) (k : Nat) : (s.raiseBit f k).aux = s.aux := rfl
@[simp] theorem State.raiseBit_pending (s : State) (f : Field) (k : Nat) : (s.raiseBit f k).pending = s.pending := rfl

@[simp] theorem State.count_time (s : State) (f : Field) : (s.count f).time = s.time := rfl
@[simp] theorem State.count_aon (s : State) (f : Field) : (s.count f).aon = s.aon := rfl
@[simp] theorem State.count_latches (s : State) (f : Field) : (s.count f).latches = s.latches := rfl
@[simp] theorem State.count_readData (s : State) (f : Field) : (s.count f).readData = s.readData := rfl
@[simp] theorem State.count_pm (s : State) (f : Field) : (s.count f).pm = s.pm := rfl
@[simp] theorem State.count_dm (s : State) (f : Field) : (s.count f).dm = s.dm := rfl
@[simp] theorem State.count_ctx (s : State) (f : Field) : (s.count f).ctx = s.ctx := rfl
@[simp] theorem State.count_win (s : State) (f : Field) : (s.count f).win = s.win := rfl
@[simp] theorem State.count_freeCount (s : State) (f : Field) : (s.count f).freeCount = s.freeCount := rfl
@[simp] theorem State.count_lom (s : State) (f : Field) : (s.count f).lom = s.lom := rfl
@[simp] theorem State.count_jobs (s : State) (f : Field) : (s.count f).jobs = s.jobs := rfl
@[simp] theorem State.count_beam (s : State) (f : Field) : (s.count f).beam = s.beam := rfl
@[simp] theorem State.count_mea (s : State) (f : Field) : (s.count f).mea = s.mea := rfl
@[simp] theorem State.count_mod (s : State) (f : Field) : (s.count f).mod = s.mod := rfl
@[simp] theorem State.count_src (s : State) (f : Field) : (s.count f).src = s.src := rfl
@[simp] theorem State.count_chg (s : State) (f : Field) : (s.count f).chg = s.chg := rfl
@[simp] theorem State.count_svc (s : State) (f : Field) : (s.count f).svc = s.svc := rfl
@[simp] theorem State.count_thm (s : State) (f : Field) : (s.count f).thm = s.thm := rfl
@[simp] theorem State.count_red (s : State) (f : Field) : (s.count f).red = s.red := rfl
@[simp] theorem State.count_saf (s : State) (f : Field) : (s.count f).saf = s.saf := rfl
@[simp] theorem State.count_calArea (s : State) (f : Field) : (s.count f).calArea = s.calArea := rfl
@[simp] theorem State.count_sel (s : State) (f : Field) : (s.count f).sel = s.sel := rfl
@[simp] theorem State.count_upd (s : State) (f : Field) : (s.count f).upd = s.upd := rfl
@[simp] theorem State.count_hif (s : State) (f : Field) : (s.count f).hif = s.hif := rfl
@[simp] theorem State.count_aux (s : State) (f : Field) : (s.count f).aux = s.aux := rfl
@[simp] theorem State.count_pending (s : State) (f : Field) : (s.count f).pending = s.pending := rfl

@[simp] theorem State.countSat_time (s : State) (f : Field) : (s.countSat f).time = s.time := rfl
@[simp] theorem State.countSat_aon (s : State) (f : Field) : (s.countSat f).aon = s.aon := rfl
@[simp] theorem State.countSat_latches (s : State) (f : Field) : (s.countSat f).latches = s.latches := rfl
@[simp] theorem State.countSat_readData (s : State) (f : Field) : (s.countSat f).readData = s.readData := rfl
@[simp] theorem State.countSat_pm (s : State) (f : Field) : (s.countSat f).pm = s.pm := rfl
@[simp] theorem State.countSat_dm (s : State) (f : Field) : (s.countSat f).dm = s.dm := rfl
@[simp] theorem State.countSat_ctx (s : State) (f : Field) : (s.countSat f).ctx = s.ctx := rfl
@[simp] theorem State.countSat_win (s : State) (f : Field) : (s.countSat f).win = s.win := rfl
@[simp] theorem State.countSat_freeCount (s : State) (f : Field) : (s.countSat f).freeCount = s.freeCount := rfl
@[simp] theorem State.countSat_lom (s : State) (f : Field) : (s.countSat f).lom = s.lom := rfl
@[simp] theorem State.countSat_jobs (s : State) (f : Field) : (s.countSat f).jobs = s.jobs := rfl
@[simp] theorem State.countSat_beam (s : State) (f : Field) : (s.countSat f).beam = s.beam := rfl
@[simp] theorem State.countSat_mea (s : State) (f : Field) : (s.countSat f).mea = s.mea := rfl
@[simp] theorem State.countSat_mod (s : State) (f : Field) : (s.countSat f).mod = s.mod := rfl
@[simp] theorem State.countSat_src (s : State) (f : Field) : (s.countSat f).src = s.src := rfl
@[simp] theorem State.countSat_chg (s : State) (f : Field) : (s.countSat f).chg = s.chg := rfl
@[simp] theorem State.countSat_svc (s : State) (f : Field) : (s.countSat f).svc = s.svc := rfl
@[simp] theorem State.countSat_thm (s : State) (f : Field) : (s.countSat f).thm = s.thm := rfl
@[simp] theorem State.countSat_red (s : State) (f : Field) : (s.countSat f).red = s.red := rfl
@[simp] theorem State.countSat_saf (s : State) (f : Field) : (s.countSat f).saf = s.saf := rfl
@[simp] theorem State.countSat_calArea (s : State) (f : Field) : (s.countSat f).calArea = s.calArea := rfl
@[simp] theorem State.countSat_sel (s : State) (f : Field) : (s.countSat f).sel = s.sel := rfl
@[simp] theorem State.countSat_upd (s : State) (f : Field) : (s.countSat f).upd = s.upd := rfl
@[simp] theorem State.countSat_hif (s : State) (f : Field) : (s.countSat f).hif = s.hif := rfl
@[simp] theorem State.countSat_aux (s : State) (f : Field) : (s.countSat f).aux = s.aux := rfl
@[simp] theorem State.countSat_pending (s : State) (f : Field) : (s.countSat f).pending = s.pending := rfl

@[simp] theorem State.draw_time (s : State) : s.draw.2.time = s.time := rfl
@[simp] theorem State.draw_aon (s : State) : s.draw.2.aon = s.aon := rfl
@[simp] theorem State.draw_regs (s : State) : s.draw.2.regs = s.regs := rfl
@[simp] theorem State.draw_latches (s : State) : s.draw.2.latches = s.latches := rfl
@[simp] theorem State.draw_readData (s : State) : s.draw.2.readData = s.readData := rfl
@[simp] theorem State.draw_pm (s : State) : s.draw.2.pm = s.pm := rfl
@[simp] theorem State.draw_dm (s : State) : s.draw.2.dm = s.dm := rfl
@[simp] theorem State.draw_ctx (s : State) : s.draw.2.ctx = s.ctx := rfl
@[simp] theorem State.draw_win (s : State) : s.draw.2.win = s.win := rfl
@[simp] theorem State.draw_lom (s : State) : s.draw.2.lom = s.lom := rfl
@[simp] theorem State.draw_jobs (s : State) : s.draw.2.jobs = s.jobs := rfl
@[simp] theorem State.draw_beam (s : State) : s.draw.2.beam = s.beam := rfl
@[simp] theorem State.draw_mea (s : State) : s.draw.2.mea = s.mea := rfl
@[simp] theorem State.draw_mod (s : State) : s.draw.2.mod = s.mod := rfl
@[simp] theorem State.draw_src (s : State) : s.draw.2.src = s.src := rfl
@[simp] theorem State.draw_chg (s : State) : s.draw.2.chg = s.chg := rfl
@[simp] theorem State.draw_svc (s : State) : s.draw.2.svc = s.svc := rfl
@[simp] theorem State.draw_thm (s : State) : s.draw.2.thm = s.thm := rfl
@[simp] theorem State.draw_red (s : State) : s.draw.2.red = s.red := rfl
@[simp] theorem State.draw_saf (s : State) : s.draw.2.saf = s.saf := rfl
@[simp] theorem State.draw_calArea (s : State) : s.draw.2.calArea = s.calArea := rfl
@[simp] theorem State.draw_sel (s : State) : s.draw.2.sel = s.sel := rfl
@[simp] theorem State.draw_upd (s : State) : s.draw.2.upd = s.upd := rfl
@[simp] theorem State.draw_hif (s : State) : s.draw.2.hif = s.hif := rfl
@[simp] theorem State.draw_aux (s : State) : s.draw.2.aux = s.aux := rfl
@[simp] theorem State.draw_pending (s : State) : s.draw.2.pending = s.pending := rfl
@[simp] theorem State.draw_freeCount (s : State) : s.draw.2.freeCount = s.freeCount + 1 := rfl

@[simp] theorem State.nextSeq_time (s : State) : s.nextSeq.2.time = s.time := rfl
@[simp] theorem State.nextSeq_aon (s : State) : s.nextSeq.2.aon = s.aon := rfl
@[simp] theorem State.nextSeq_regs (s : State) : s.nextSeq.2.regs = s.regs := rfl
@[simp] theorem State.nextSeq_latches (s : State) : s.nextSeq.2.latches = s.latches := rfl
@[simp] theorem State.nextSeq_readData (s : State) : s.nextSeq.2.readData = s.readData := rfl
@[simp] theorem State.nextSeq_pm (s : State) : s.nextSeq.2.pm = s.pm := rfl
@[simp] theorem State.nextSeq_dm (s : State) : s.nextSeq.2.dm = s.dm := rfl
@[simp] theorem State.nextSeq_ctx (s : State) : s.nextSeq.2.ctx = s.ctx := rfl
@[simp] theorem State.nextSeq_win (s : State) : s.nextSeq.2.win = s.win := rfl
@[simp] theorem State.nextSeq_freeCount (s : State) : s.nextSeq.2.freeCount = s.freeCount := rfl
@[simp] theorem State.nextSeq_jobs (s : State) : s.nextSeq.2.jobs = s.jobs := rfl
@[simp] theorem State.nextSeq_beam (s : State) : s.nextSeq.2.beam = s.beam := rfl
@[simp] theorem State.nextSeq_mea (s : State) : s.nextSeq.2.mea = s.mea := rfl
@[simp] theorem State.nextSeq_mod (s : State) : s.nextSeq.2.mod = s.mod := rfl
@[simp] theorem State.nextSeq_src (s : State) : s.nextSeq.2.src = s.src := rfl
@[simp] theorem State.nextSeq_chg (s : State) : s.nextSeq.2.chg = s.chg := rfl
@[simp] theorem State.nextSeq_svc (s : State) : s.nextSeq.2.svc = s.svc := rfl
@[simp] theorem State.nextSeq_thm (s : State) : s.nextSeq.2.thm = s.thm := rfl
@[simp] theorem State.nextSeq_red (s : State) : s.nextSeq.2.red = s.red := rfl
@[simp] theorem State.nextSeq_saf (s : State) : s.nextSeq.2.saf = s.saf := rfl
@[simp] theorem State.nextSeq_calArea (s : State) : s.nextSeq.2.calArea = s.calArea := rfl
@[simp] theorem State.nextSeq_sel (s : State) : s.nextSeq.2.sel = s.sel := rfl
@[simp] theorem State.nextSeq_upd (s : State) : s.nextSeq.2.upd = s.upd := rfl
@[simp] theorem State.nextSeq_hif (s : State) : s.nextSeq.2.hif = s.hif := rfl
@[simp] theorem State.nextSeq_aux (s : State) : s.nextSeq.2.aux = s.aux := rfl
@[simp] theorem State.nextSeq_pending (s : State) : s.nextSeq.2.pending = s.pending := rfl

/-! ### Register fields -/

end Sys2Proof.Machine

namespace Sys2Proof

/-- A field lies inside its 32-bit word. -/
def Field.fits (f : Field) : Bool := decide (f.lo + f.width ≤ 32)

/-- Two fields share no bit. -/
def Field.apart (f g : Field) : Bool := decide (f.addr ≠ g.addr) || decide (f.lo + f.width ≤ g.lo) || decide (g.lo + g.width ≤ f.lo)

/-- The bits of a field's mask. -/
theorem Field.mask_bit (f : Field) (i : Nat) : f.mask.getLsbD i = decide (i < 32 ∧ f.lo ≤ i ∧ i < f.lo + f.width) := by
  unfold Field.mask
  rw [BitVec.getLsbD_shiftLeft, BitVec.getLsbD_ofNat, Nat.testBit_two_pow_sub_one]
  rw [Bool.eq_iff_iff]
  simp only [Bool.and_eq_true, decide_eq_true_eq, Bool.not_eq_true', decide_eq_false_iff_not]
  omega

/-- The bits of a word with a field replaced. -/
theorem Field.put_bit (f : Field) (n : Nat) (w : Word) (i : Nat) (hi : i < 32) :
    (f.put n w).getLsbD i = if f.lo ≤ i ∧ i < f.lo + f.width then n.testBit (i - f.lo) else w.getLsbD i := by
  unfold Field.put
  simp only [BitVec.getLsbD_or, BitVec.getLsbD_and, BitVec.getLsbD_not, Field.mask_bit, BitVec.getLsbD_shiftLeft, BitVec.getLsbD_ofNat]
  by_cases h : f.lo ≤ i ∧ i < f.lo + f.width
  · have h1 : ¬ i < f.lo := by omega
    have h2 : i - f.lo < 32 := by omega
    simp [h, hi, h2]
  · simp [hi, h]

/-- The bits of a field's value. -/
theorem Field.of_bit (f : Field) (w : Word) (i : Nat) : (f.of w).testBit i = (decide (i < f.width) && w.getLsbD (f.lo + i)) := by
  unfold Field.of
  rw [BitVec.testBit_toNat]
  simp [BitVec.getLsbD_extractLsb']

/-- A field holds what was put there, cut to its width. -/
theorem Field.of_put_self {f : Field} (h : f.fits = true) (n : Nat) (w : Word) : f.of (f.put n w) = n % 2 ^ f.width := by
  have hf : f.lo + f.width ≤ 32 := by simpa [Field.fits] using h
  apply Nat.eq_of_testBit_eq
  intro i
  rw [Field.of_bit, Nat.testBit_mod_two_pow]
  by_cases hi : i < f.width
  · rw [Field.put_bit _ _ _ _ (by omega)]
    have : f.lo ≤ f.lo + i ∧ f.lo + i < f.lo + f.width := by omega
    simp [hi]
  · simp [hi]

/-- Another field of the word keeps its value. -/
theorem Field.of_put_apart {f g : Field} (h : f.apart g = true) (ha : f.addr = g.addr) (n : Nat) (w : Word) : g.of (f.put n w) = g.of w := by
  apply Nat.eq_of_testBit_eq
  intro i
  rw [Field.of_bit, Field.of_bit]
  by_cases hi : i < g.width
  · have hd : f.lo + f.width ≤ g.lo ∨ g.lo + g.width ≤ f.lo := by
      simpa [Field.apart, ha] using h
    by_cases h32 : g.lo + i < 32
    · rw [Field.put_bit _ _ _ _ h32, if_neg (by omega)]
    · rw [BitVec.getLsbD_of_ge _ _ (by omega), BitVec.getLsbD_of_ge _ _ (by omega)]
  · simp [hi]
/-- A field's value lies below its width's bound. -/
theorem Field.of_lt (f : Field) (w : Word) : f.of w < 2 ^ f.width := by
  unfold Field.of
  exact BitVec.isLt _

end Sys2Proof

namespace Sys2Proof.Machine

/-- Reading a field after writing it. -/
theorem State.get_set_self {f : Field} (h : f.fits = true) (s : State) (n : Nat) : (s.set f n).get f = n % 2 ^ f.width := by
  simp [State.get, State.set, State.wr, Field.of_put_self h]

/-- Reading another field after a write. -/
theorem State.get_set_apart {f g : Field} (h : f.apart g = true) (s : State) (n : Nat) : (s.set f n).get g = s.get g := by
  unfold State.get State.set State.wr
  by_cases ha : f.addr = g.addr
  · simp only [WordMap.get_set, ha, if_true]
    exact Field.of_put_apart h ha n _
  · simp only [WordMap.get_set_ne _ _ ha]

@[simp] theorem State.rd_wr_self (s : State) (a : Nat) (v : Word) : (s.wr a v).rd a = v := by
  simp [State.rd, State.wr]

theorem State.rd_wr_ne (s : State) {a b : Nat} (v : Word) (h : a ≠ b) : (s.wr a v).rd b = s.rd b := by
  simp [State.rd, State.wr, WordMap.get_set_ne _ _ h]

theorem State.get_wr_ne (s : State) {a : Nat} {f : Field} (v : Word) (h : a ≠ f.addr) : (s.wr a v).get f = s.get f := by
  simp [State.get, State.wr, WordMap.get_set_ne _ _ h]

theorem State.get_wr_self (s : State) {a : Nat} {f : Field} (v : Word) (h : a = f.addr) : (s.wr a v).get f = f.of v := by
  subst h
  simp [State.get, State.wr]

theorem State.rd_set_ne (s : State) {f : Field} {b : Nat} (n : Nat) (h : f.addr ≠ b) : (s.set f n).rd b = s.rd b :=
  s.rd_wr_ne _ h

theorem State.get_mark_self {f : Field} (h : f.fits = true) (hw : 0 < f.width) (s : State) (b : Bool) : (s.mark f b).get f = if b then 1 else 0 := by
  unfold State.mark
  rw [State.get_set_self h]
  have : 1 < 2 ^ f.width := Nat.one_lt_two_pow (by omega)
  cases b <;> simp [Nat.mod_eq_of_lt, this]

theorem State.get_mark_apart {f g : Field} (h : f.apart g = true) (s : State) (b : Bool) : (s.mark f b).get g = s.get g :=
  State.get_set_apart h s _

theorem State.get_raise_self {f : Field} (h : f.fits = true) (hw : 0 < f.width) (s : State) : (s.raise f).get f = 1 := by
  unfold State.raise
  rw [State.get_set_self h]
  exact Nat.mod_eq_of_lt (Nat.one_lt_two_pow (by omega))

theorem State.get_raise_apart {f g : Field} (h : f.apart g = true) (s : State) : (s.raise f).get g = s.get g :=
  State.get_set_apart h s _

theorem State.get_setZ_apart {f g : Field} (h : f.apart g = true) (s : State) (v : Int) : (s.setZ f v).get g = s.get g :=
  State.get_set_apart h s _

theorem State.get_raiseBit_apart {f g : Field} (h : f.apart g = true) (s : State) (k : Nat) : (s.raiseBit f k).get g = s.get g :=
  State.get_set_apart h s _

theorem State.get_count_apart {f g : Field} (h : f.apart g = true) (s : State) : (s.count f).get g = s.get g :=
  State.get_set_apart h s _

theorem State.get_countSat_apart {f g : Field} (h : f.apart g = true) (s : State) : (s.countSat f).get g = s.get g :=
  State.get_set_apart h s _

theorem State.is_mark_self {f : Field} (h : f.fits = true) (hw : 0 < f.width) (s : State) (b : Bool) : (s.mark f b).is f = b := by
  unfold State.is
  rw [State.get_mark_self h hw]
  cases b <;> rfl

theorem State.is_mark_apart {f g : Field} (h : f.apart g = true) (s : State) (b : Bool) : (s.mark f b).is g = s.is g := by
  simp [State.is, State.get_mark_apart h]

theorem State.is_set_apart {f g : Field} (h : f.apart g = true) (s : State) (n : Nat) : (s.set f n).is g = s.is g := by
  simp [State.is, State.get_set_apart h]

theorem State.is_raise_apart {f g : Field} (h : f.apart g = true) (s : State) : (s.raise f).is g = s.is g := by
  simp [State.is, State.get_raise_apart h]

theorem State.is_raise_self {f : Field} (h : f.fits = true) (hw : 0 < f.width) (s : State) : (s.raise f).is f = true := by
  simp [State.is, State.get_raise_self h hw]

/-! ### Canonical form -/

theorem State.wf_wr {s : State} (a : Nat) (v : Word) (h : s.regs.wf = true) : (s.wr a v).regs.wf = true :=
  WordMap.wf_set a v h

theorem State.wf_set {s : State} (f : Field) (n : Nat) (h : s.regs.wf = true) : (s.set f n).regs.wf = true :=
  WordMap.wf_set _ _ h

/-! ### Conditional and repeated changes -/

@[simp] theorem State.onlyIf_true (s : State) (g : State → State) : s.onlyIf true g = g s := rfl

@[simp] theorem State.onlyIf_false (s : State) (g : State → State) : s.onlyIf false g = s := rfl

/-- What holds of a state and is kept by every change holds after a repeated change. -/
theorem State.each_induct {α : Type} {P : State → Prop} {s : State} (l : List α) (g : α → State → State) (h : P s)
    (hg : ∀ x t, P t → P (g x t)) : P (s.each l g) := by
  unfold State.each
  induction l generalizing s with
  | nil => exact h
  | cons x t ih => exact ih (hg x s h)

/-- What holds of a state and is kept by a change holds after the change under a condition. -/
theorem State.onlyIf_induct {P : State → Prop} {s : State} (b : Bool) (g : State → State) (h : P s) (hg : P s → P (g s)) : P (s.onlyIf b g) := by
  cases b
  · exact h
  · exact hg h

@[simp] theorem State.each_nil {α : Type} (s : State) (g : α → State → State) : s.each [] g = s := rfl

@[simp] theorem State.each_cons {α : Type} (s : State) (x : α) (l : List α) (g : α → State → State) : s.each (x :: l) g = (g x s).each l g := rfl

@[simp] theorem stateAfter_next (t s : State) : stateAfter (.next t) s = t := rfl

end Sys2Proof.Machine
end

