-- ==== Sys2Proof/Tests/Slice0.lean ====
section
/-!
SUPPORT. Tests on small states, and for every statement of `Certificates/Slice0/Obligations.lean` with hypotheses a witness
of each of its clauses: a state and operands that meet the clause's hypotheses together.
-/

open Sys2Proof Sys2Proof.Machine

namespace Sys2Proof.Tests

-- One theorem at a time: elaborated side by side, they would hold one waiting thread each.
set_option Elab.async false

/-- A machine in full service with no register written and an empty memory: the state that the witnesses start from. -/
def lab : State :=
  (({ saf := { inReset := none }, time := 100000000000, regs := [] } : State).wr GLB_FEAT.addr 0x0046A607#32).set GLB_REGION.SERVICE 2

/-- `Issues` as a Boolean. -/
def issuesB (s : State) (c : CtxId) (i : Instr) : Bool :=
  match verkWord i with
  | some w => s.issues c w && decide (s.cget (CTX.PC c) < 0x3FFF) && !(s.context c).frozen && !s.shedHolds c
  | none => false

theorem issues_of {s : State} {c : CtxId} {i : Instr} (h : issuesB s c i = true) : Issues s c i := by
  unfold issuesB at h
  split at h
  · rename_i w hw
    simp only [Bool.and_eq_true, decide_eq_true_eq, Bool.not_eq_true'] at h
    exact ⟨⟨w, hw, h.1.1.1⟩, h.1.1.2, h.1.2, h.2⟩
  · cases h

theorem arrives_of {s : State} {h : FrameHdr}
    (e : (s.linkUp && h.valid && !h.nak && decide (s.sel.unacked = []) && decide (s.sel.waiting = [])) = true) : Arrives s h := by
  simp only [Bool.and_eq_true, decide_eq_true_eq, Bool.not_eq_true'] at e
  exact ⟨e.1.1.1.1, e.1.1.1.2, e.1.1.2, e.1.2, e.2⟩

theorem arrivesInTurn_of {s : State} {h : FrameHdr}
    (e : (s.linkUp && h.valid && !h.nak && decide (s.sel.unacked = []) && decide (s.sel.waiting = []) &&
      decide (h.seq.toNat = s.sel.rxSeq)) = true) : ArrivesInTurn s h := by
  rw [Bool.and_eq_true] at e
  exact ⟨arrives_of e.1, of_decide_eq_true e.2⟩

theorem ringsServed_of {s : State} {m : Nat}
    (e : (s.fullService && !s.chipSafe && !s.regionSafe .interface && decide (m < 3 → s.is UPD_STATUS.HOLD = false)) = true) : RingsServed s m := by
  simp only [Bool.and_eq_true, decide_eq_true_eq, Bool.not_eq_true'] at e
  exact ⟨e.1.1.1, e.1.1.2, e.1.2, e.2⟩

theorem none_of {o : Option Nat} {P : Nat → Prop} (h : o = none) : ∀ n, o = some n → P n := by
  intro n e
  rw [h] at e
  cases e

theorem no_time {o : Option Wait} {P : Nat → Prop} (h : o = none) : ∀ t, o = some (.time t) → P t := by
  intro n e
  rw [h] at e
  cases e

/-! ### Ill-formed commands are refused by the check -/

theorem test_wf_unaligned_write : (Instr.registerWrite 0 0x0006 0).wf = false := by decide

theorem test_wf_unaligned_read : (Instr.lowWordRead 0 0x0006).wf = false := by decide

theorem test_wf_program_below_window : (Instr.programMemoryWrite 0 0x7FFC 0).wf = false := by decide

theorem test_wf_program_above_window : (Instr.programMemoryWrite 0 0xC000 0).wf = false := by decide

theorem test_wf_getm_g0 : (Instr.getm 9 0 1 (.imm 0)).wf = false := by decide

theorem test_wf_getm_g15 : (Instr.getm 9 15 1 (.imm 0)).wf = false := by decide

/-! ### Words of the worked program of chapter 10 -/

theorem test_word_txb : verkWord (.txb 9) = some 0xA0000000#32 := by decide

theorem test_word_setv : verkWord (.setv 9 .backup 3 (.imm 0)) = some 0x608E0000#32 := by decide

theorem test_word_enable : verkWord (.enable 9 .holdup 0 (.imm 1)) = some 0x74C20001#32 := by decide

theorem test_word_txc : verkWord (.txc 9 5) = some 0xA5400000#32 := by decide

theorem test_word_rdr : verkWord (.rdr 9 8 0 (.imm 0x0308)) = some 0x42020308#32 := by decide

theorem test_word_and : verkWord (.and 9 8 8 (.imm 0xFFFF)) = some 0x0E22FFFF#32 := by decide

theorem test_word_st : verkWord (.st 9 8 4 (.imm 0)) = some 0x3E120000#32 := by decide

theorem test_word_slew : verkWord (.slew 9 1 (.reg 2)) = some 0x68044000#32 := by decide

theorem test_word_waitt : verkWord (.waitt 9 0 0 (.imm 250)) = some 0x800200FA#32 := by decide

theorem test_word_sub : verkWord (.sub 9 9 1 (.reg 7)) = some 0x0A44E000#32 := by decide

theorem test_word_movi : verkWord (.movi 9 10 255) = some 0x328000FF#32 := by decide

theorem test_decode_max : verkDecode 9 0x2A654000#32 = some (.max 9 9 9 (.reg 10)) := by decide

/-! ### Worked examples of chapters 9, 12 and 17 -/

/-- R297: the CRC of the READ frame, of the NOP frame, and of the answer with status 0x05. -/
theorem test_spi_crc_read : spiCrc (frameBytes 1 1 0) = 0x33#8 := by decide +kernel

theorem test_spi_crc_nop : spiCrc (frameBytes 0 0 0) = 0x09#8 := by decide +kernel

theorem test_spi_crc_answer : spiCrc [0x05, 0x01, 0x00, 0x46, 0xA6, 0x07] = 0x1F#8 := by decide +kernel

/-- The machine after a command, or before it where it stops. -/
def after (r : Host.Outcome State Fault Refusal) (s : State) : State :=
  match r with
  | .next t => t
  | _ => s

/-- A machine in full service with its registers as after a power-on reset. -/
def ready : State := ({ saf := { inReset := none } } : State).set GLB_REGION.SERVICE 2

theorem test_spi_read_held : (after (exec (.spiRead 1 0 0x33 56) ready) ready).hif.held = 0x0046A607#32 := by
  rw [exec_spiRead]; decide +kernel

/-- Chapter 17: the burst read of six words from 0x0218. -/
theorem test_burst_words : ((after (exec (.spiBurstRead 0x86 5 (spiCrc (frameBytes 3 0x86 5)) 304 false) ready) ready).hif.words.take 6)
    = [0x03E801F4#32, 0, 0x0A145A00, 0x05145A00, 0x03840A28, 0] := by
  rw [exec_spiBurstRead]; decide +kernel

theorem test_burst_report : (after (exec (.spiBurstRead 0x86 5 (spiCrc (frameBytes 3 0x86 5)) 304 false) ready) ready).rd HIF_BURST.addr
    = 0x00060006#32 := by
  rw [exec_spiBurstRead]; decide +kernel

/-- Chapter 9: three raising orders on the rail in tick 5,000; the lowest master wins, and `LOM_LASTCONF` reads 0x0103_8000. -/
def raisingOrders : List Order :=
  [{ target := .rail, master := 1, val := 1400, aux := 20, origin := .ctx 9, at_ := 499905, tick := 5000 },
   { target := .rail, master := 0, val := 1440, origin := .ctx 4, at_ := 499940, tick := 5000 },
   { target := .rail, master := 3, val := 1380, aux := 10, at_ := 499970, tick := 5000 }]

def at13500 : State := ready.set TRK_REF.TARGET 1350

theorem test_merge_winner : ((at13500.judge raisingOrders).1.map (fun o => o.val)) = some 1440 := by decide +kernel

theorem test_merge_conflict_word :
    (((at13500.judge raisingOrders).2).foldl (fun s v => s.noteConflict v) at13500).rd LOM_LASTCONF.addr = 0x01038000#32 := by decide +kernel

/-- R2 (signed fields): 0xFC18 in 16 bits is -1,000. -/
theorem test_signed : signed 16 0xFC18 = -1000 := by decide

/-- A witness of `Obligations.ResetState`: a register of the map with an entry. -/
theorem witness_reset_state : ∃ r, r ∈ regTable ∧ ∃ k, k < r.count := ⟨regTable.head (by decide), List.head_mem _, 0, by decide +kernel⟩

/-- A witness of each clause of `Obligations.StepRunsTheFrontCommand`. -/
theorem witness_step_runs_the_front_command : ∃ (s : State) (c : Instr) (rest : List Instr), s.pending = c :: rest :=
  ⟨(let s := lab; let s : State := { s with pending := [.clockFault] }; s), .clockFault, [], by decide +kernel⟩

/-- A witness of each clause of `Obligations.IdleStep`. -/
theorem witness_idle_step :
    (∃ (s : State), s.pending = [] ∧ s.sel.slow = false ∧ s.time % 100 ≠ 99) ∧
    (∃ (s : State), s.pending = [] ∧ s.sel.slow = false ∧ s.time % 100 = 99) ∧
    (∃ (s : State), s.pending = [] ∧ s.sel.slow = true) :=
  ⟨⟨(let s := lab; let s : State := { s with pending := [] }; let s : State := { s with sel := { s.sel with slow := false } }; s), by decide +kernel⟩,
    ⟨(let s := lab; let s : State := { s with pending := [] }; let s : State := { s with sel := { s.sel with slow := false } };
      let s : State := { s with time := 99 }; s), by decide +kernel⟩,
    ⟨(let s := lab; let s : State := { s with pending := [] }; let s : State := { s with sel := { s.sel with slow := true } }; s), by decide +kernel⟩⟩

/-- A witness of each clause of `Obligations.VerkEncodingRoundTrip`. -/
theorem witness_verk_encoding_round_trip :
    (∃ (i : Instr) (w : Word), i.wf = true ∧ verkWord i = some w) ∧
    (∃ (c : CtxId) (w : Word) (i : Instr), verkDecode c w = some i) :=
  ⟨⟨.add 5 1 2 (.imm 0x1FFFF), (verkWord (.add 5 1 2 (.imm 0x1FFFF))).getD 0, by decide +kernel⟩,
    ⟨5, (verkWord (.yield 5)).getD 0, .yield 5, by decide +kernel⟩⟩

/-- A witness of each clause of `Obligations.AbsentUnits`. -/
theorem witness_absent_units : ∃ (s : State) (a : Nat), (s.is GLB_FEAT.SEL_PRESENT = false ∧ 0x1C00 ≤ a ∧ a < 0x1D00 ∨ s.is GLB_FEAT.WRP_PRESENT = false ∧ (0x0E00 ≤ a ∧
    a < 0x1000 ∨ 0xC000 ≤ a ∧ a < 0xE000)) ∧ a % 4 = 0 :=
  ⟨(lab.set GLB_FEAT.SEL_PRESENT 0), 0x1CFC, by decide +kernel⟩

/-- A witness of each clause of `Obligations.SafeStates`. -/
theorem witness_safe_states :
    (∃ (s : State) (r : Region), s.regionSafe r = false) ∧
    (∃ (s : State) (q : Region) (r : Region), q ≠ r ∧ s.regionSafe q = true ∧ s.regionSafe r = false) ∧
    (∃ (code : Nat), code < 22) ∧
    (∃ (s : State), s.chipSafe = false) ∧
    (∃ (s : State), s.chipSafe = false ∧ s.peerLive = true ∧ s.linkUp = true) :=
  ⟨⟨lab, .north, by decide +kernel⟩,
    ⟨(let q : Region := .south; (lab.set (regionField q) 3).set (regionField .south) 3), .south, .north, by decide +kernel⟩,
    ⟨21, by decide +kernel⟩,
    ⟨lab, by decide +kernel⟩,
    ⟨((lab.set SEL_STATUS.PEER_LIVE 1).set SEL_STATUS.LINK 2), by decide +kernel⟩⟩

/-- A witness of each clause of `Obligations.MergeOfOneTarget`. -/
theorem witness_merge_of_one_target :
    (∃ (s : State) (l : List Order) (o : Order), (s.judge l).1 = some o) ∧
    (∃ (s : State) (l : List Order) (o : Order) (p : Order), (s.reducing p = true ∨ s.regionSafe p.target.region = false ∧ ∀ n,
      s.lockOwner p.target = some n → p.master = n) ∧ (∀ q ∈ l, q.master < 5) ∧ (s.judge l).1 = some o ∧ p ∈ l ∧ s.reducing p = s.reducing o) ∧
    (∃ (s : State) (l : List Order) (p : Order), (s.reducing p = true ∨ s.regionSafe p.target.region = false ∧ ∀ n, s.lockOwner p.target = some n →
      p.master = n) ∧ (∀ q ∈ l, q.master < 5) ∧ p ∈ l) ∧
    (∃ (s : State) (l : List Order) (v : Verdict), v ∈ (s.judge l).2 ∧ s.reducing v.order = false ∧ s.regionSafe v.order.target.region = true) ∧
    (∃ (s : State) (l : List Order) (v : Verdict) (n : Nat), v ∈ (s.judge l).2 ∧ s.reducing v.order = false ∧
      s.regionSafe v.order.target.region = false ∧ s.lockOwner v.order.target = some n ∧ n ≠ v.order.master) ∧
    (∃ (s : State) (l : List Order) (v : Verdict) (o : Order), v ∈ (s.judge l).2 ∧ (s.reducing v.order = true ∨
      s.regionSafe v.order.target.region = false ∧ s.lockOwner v.order.target = none) ∧ (s.judge l).1 = some o) :=
  ⟨⟨lab, [{ target := .rail, master := 3, val := 1200 }], { target := .rail, master := 3, val := 1200 }, by decide +kernel⟩,
    ⟨lab, [{ target := .rail, master := 3, val := 1200 }, { target := .rail, master := 4, val := 1200 }],
      { target := .rail, master := 3, val := 1200 }, { target := .rail, master := 4, val := 1200 }, Or.inr ⟨by decide +kernel,
      none_of (by decide +kernel)⟩, by decide +kernel⟩,
    ⟨lab, [{ target := .rail, master := 3, val := 1200 }], { target := .rail, master := 3, val := 1200 }, Or.inr ⟨by decide +kernel,
      none_of (by decide +kernel)⟩, by decide +kernel⟩,
    ⟨((lab.set TRK_REF.TARGET 1200).set GLB_REGION.NORTH 3),
      [{ target := .rail, master := 3, val := 2500 }, { target := .rail, master := 4, val := 2600 }],
      { order := { target := .rail, master := 4, val := 2600 }, code := 3, winner := 4, raising := true }, by decide +kernel⟩,
    ⟨(let s := lab.set TRK_REF.TARGET 1200; let s : State := { s with lom := { s.lom with holders := [(.rail, 5)] } };
      ((s.cset (CTX.STATE 5) 2).cset (CTX.LOCKEN 5) 1).cset (CTX.OWNER 5) 1),
      [{ target := .rail, master := 3, val := 2500 }, { target := .rail, master := 4, val := 2600 }],
      { order := { target := .rail, master := 4, val := 2600 }, code := 2, winner := 1, raising := true, locked := true }, 1, by decide +kernel⟩,
    ⟨(lab.set TRK_REF.TARGET 1200), [{ target := .rail, master := 3, val := 2500 }, { target := .rail, master := 4, val := 2600 }],
      { order := { target := .rail, master := 4, val := 2600 }, code := 2, winner := 3, raising := true },
      { target := .rail, master := 3, val := 2500 }, by decide +kernel⟩⟩

/-- A witness of each clause of `Obligations.SourceNets`. -/
theorem witness_source_nets :
    (∃ (s : State) (v : Nat), s.powered = true ∧ s.is SRC_CTRL.IN48_USED = true ∧ 2400 ≤ v ∧ v ≤ 6000 ∧ s.get SRC_REV.MODE = 0 ∧
      (s.src.need48 = true → s.floorOf 1 + 200 ≤ v) ∧ s.is SRC_STATUS.IN48_UVL = false ∧ s.is SRC_STATUS.IN48_OVL = false ∧ s.trunkLost = false) ∧
    (∃ (s : State) (v : Nat), s.powered = true ∧ s.is SRC_CTRL.IN12_USED = true ∧ 650 ≤ v ∧ v ≤ 1600 ∧ s.get TRK_REF.TARGET ≤ 1600 ∧
      (s.src.need12 = true → s.floorOf 2 + 100 ≤ v) ∧ s.is SRC_STATUS.IN12_UVL = false ∧ s.is SRC_STATUS.IN12_OVL = false) ∧
    (∃ (s : State), s.powered = true) ∧
    (∃ (s : State), s.powered = true) ∧
    (∃ (s : State) (v48 : Nat) (v12 : Nat), v48 < 65536 ∧ v12 < 65536 ∧ s.get GLB_REGION.SERVICE = 0) ∧
    (∃ (s : State) (v48 : Nat) (v12 : Nat), v48 < 65536 ∧ v12 < 65536 ∧ s.powered = true ∧ s.src.evaluated48 = true ∧ s.src.evaluated12 = true ∧
      s.is SRC_STATUS.IN48_QUAL = false ∧ s.is SRC_STATUS.IN12_QUAL = false ∧ s.is SRC_STATUS.REV_ACTIVE = false) ∧
    (∃ (s : State) (i : Int), i < -50 ∧ s.is SRC_STATUS.G12_ON = true) ∧
    (∃ (s : State) (i : Int), i < -100 ∧ s.is SRC_STATUS.G48_ON = true ∧ s.is SRC_STATUS.REV_ACTIVE = false) :=
  ⟨⟨(lab.set SRC_CTRL.IN48_USED 1), 6000, by decide +kernel⟩,
    ⟨(lab.set SRC_CTRL.IN12_USED 1), 1600, by decide +kernel⟩,
    ⟨lab, by decide +kernel⟩,
    ⟨lab, by decide +kernel⟩,
    ⟨(lab.set GLB_REGION.SERVICE 0), 65535, 65535, by decide +kernel⟩,
    ⟨(let s := lab; let s : State := { s with src := { s.src with evaluated48 := true } };
      let s : State := { s with src := { s.src with evaluated12 := true } }; s), 65535, 65535, by decide +kernel⟩,
    ⟨(lab.set SRC_STATUS.G12_ON 1), -51, by decide +kernel⟩,
    ⟨(lab.set SRC_STATUS.G48_ON 1), -101, by decide +kernel⟩⟩

/-- A witness of each clause of `Obligations.NetLockouts`. -/
theorem witness_net_lockouts :
    (∃ (s : State) (v : Nat), s.powered = true ∧ v < 2000 ∧ s.is SRC_STATUS.IN48_UVL = false ∧ s.get SRC_STATUS.PRIMARY ≠ 1 ∧ s.moving = false) ∧
    (∃ (s : State) (v : Nat), s.powered = true ∧ v < 2000 ∧ s.is SRC_STATUS.IN48_UVL = false) ∧
    (∃ (s : State) (v : Nat), s.powered = true ∧ 6200 ≤ v ∧ s.is SRC_STATUS.IN48_OVL = false ∧ s.get SRC_STATUS.PRIMARY ≠ 1 ∧ s.moving = false ∧
      s.is SRC_STATUS.REV_ACTIVE = false) ∧
    (∃ (s : State) (v : Nat), s.powered = true ∧ 6200 ≤ v ∧ s.is SRC_STATUS.IN48_OVL = false) ∧
    (∃ (s : State) (v : Nat), s.powered = true ∧ v < 600 ∧ s.is SRC_STATUS.IN12_UVL = false ∧ s.get SRC_STATUS.PRIMARY ≠ 2 ∧ s.moving = false) ∧
    (∃ (s : State) (v : Nat), s.powered = true ∧ v < 600 ∧ s.is SRC_STATUS.IN12_UVL = false) ∧
    (∃ (s : State) (v : Nat), s.powered = true ∧ 1650 ≤ v ∧ s.is SRC_STATUS.IN12_OVL = false ∧ s.get SRC_STATUS.PRIMARY ≠ 2 ∧ s.moving = false) ∧
    (∃ (s : State) (v : Nat), s.powered = true ∧ 1650 ≤ v ∧ s.is SRC_STATUS.IN12_OVL = false) ∧
    (∃ (s : State) (v : Nat), 2400 < v ∧ s.is SRC_STATUS.IN48_UVL = true) ∧
    (∃ (s : State) (v : Nat), v < 5900 ∧ s.is SRC_STATUS.IN48_OVL = true) ∧
    (∃ (s : State) (v : Nat), 650 ≤ v ∧ s.is SRC_STATUS.IN12_UVL = true) ∧
    (∃ (s : State) (v : Nat), v ≤ 1600 ∧ s.is SRC_STATUS.IN12_OVL = true) :=
  ⟨⟨lab, 1999, by decide +kernel⟩,
    ⟨lab, 1999, by decide +kernel⟩,
    ⟨lab, 6200, by decide +kernel⟩,
    ⟨lab, 6200, by decide +kernel⟩,
    ⟨lab, 599, by decide +kernel⟩,
    ⟨lab, 599, by decide +kernel⟩,
    ⟨lab, 1650, by decide +kernel⟩,
    ⟨lab, 1650, by decide +kernel⟩,
    ⟨(lab.set SRC_STATUS.IN48_UVL 1), 2401, by decide +kernel⟩,
    ⟨(lab.set SRC_STATUS.IN48_OVL 1), 5899, by decide +kernel⟩,
    ⟨(lab.set SRC_STATUS.IN12_UVL 1), 650, by decide +kernel⟩,
    ⟨(lab.set SRC_STATUS.IN12_OVL 1), 1600, by decide +kernel⟩⟩

/-- A witness of each clause of `Obligations.Transfers`. -/
theorem witness_transfers :
    (∃ (s : State) (rail : Nat), s.get SRC_STATUS.XFER = 1 ∧ s.get SRC_STATUS.TARGET = 2 ∧
      100 * ((rail : Int) - s.src.xferRef).natAbs ≤ s.src.xferRef) ∧
    (∃ (s : State) (rail : Nat), s.get SRC_STATUS.XFER = 1 ∧ 100 * ((rail : Int) - s.src.xferRef).natAbs ≤ s.src.xferRef) ∧
    (∃ (s : State), s.get SRC_STATUS.XFER = 2) ∧
    (∃ (s : State), s.get SRC_STATUS.XFER = 3) ∧
    (∃ (s : State), s.moving = true ∧ s.qualified (s.get SRC_STATUS.TARGET) = false) ∧
    (∃ (s : State) (rail : Nat), s.qualified (s.get SRC_STATUS.TARGET) = true ∧ (s.get SRC_STATUS.XFER = 2 ∨ s.get SRC_STATUS.XFER = 3) ∧
      s.src.xferRef < 100 * ((rail : Int) - s.src.xferRef).natAbs) ∧
    (∃ (s : State) (at_ : Nat), s.get SRC_STATUS.XFER = 5 ∧ s.src.retryAt = some at_ ∧ at_ ≤ s.time ∧ s.get SRC_STATUS.PRIMARY = s.src.retryTo) ∧
    (∃ (s : State) (v : Nat), s.fullService = true ∧ s.powered = true ∧ s.get SRC_STATUS.PRIMARY = 2 ∧ v < s.floorOf 2) ∧
    (∃ (s : State) (v : Nat), s.fullService = true ∧ s.powered = true ∧ s.get SRC_STATUS.PRIMARY = 1 ∧ v < s.floorOf 1 ∧ s.revAvail = true) ∧
    (∃ (s : State), s.get SRC_STATUS.PRIMARY = 1 ∧ s.revAvail = false) ∧
    (∃ (s : State) (i : Nat), s.fullService = true ∧ s.get SRC_STATUS.PRIMARY = 2 ∧ 5 * s.get SRC_CEIL12.MAX < 4 * i) :=
  ⟨⟨((lab.set SRC_STATUS.XFER 1).set SRC_STATUS.TARGET 2), 0, by decide +kernel⟩,
    ⟨(lab.set SRC_STATUS.XFER 1), 0, by decide +kernel⟩,
    ⟨(lab.set SRC_STATUS.XFER 2), by decide +kernel⟩,
    ⟨(lab.set SRC_STATUS.XFER 3), by decide +kernel⟩,
    ⟨(lab.set SRC_STATUS.XFER 2), by decide +kernel⟩,
    ⟨(let s := ((lab.set SRC_STATUS.XFER 2).set SRC_STATUS.TARGET 2).set (qualField 2) 1;
      let s : State := { s with src := { s.src with xferRef := 900 } }; s), 1000, by decide +kernel⟩,
    ⟨(let at_ : Nat := 0; let s := lab.set SRC_STATUS.XFER 5; let s : State := { s with src := { s.src with retryAt := some at_ } }; s), 0,
      by decide +kernel⟩,
    ⟨(lab.set SRC_STATUS.PRIMARY 2), 0, by decide +kernel⟩,
    ⟨(((((((((((((((lab.set SRC_STATUS.PRIMARY 1).set CHG_CTRL.CHEM 1).set CHG_STATUS.STATE 4).set CHB_STATUS.PACK_G_ON 1).set CHG_PACK.VCELL 4000).set CHG_CTRL.CELLS 2).set CHB_CTRL.EN 1).set CHG_STATUS.PACK_PRESENT 1).set CHB_BACKUP.BACKUP_V 1300).set (CEL_STATUS.STATE 10) 3).set (CEL_STATUS.STATE 11) 3).set (CEL_STATUS.STATE 12) 3).set (CEL_STATUS.STATE 13) 3).set (CEL_STATUS.STATE 14) 3).set (CEL_STATUS.STATE 15) 3),
      0, by decide +kernel⟩,
    ⟨(lab.set SRC_STATUS.PRIMARY 1), by decide +kernel⟩,
    ⟨((lab.set SRC_STATUS.PRIMARY 2).set SRC_CEIL12.MAX 100), 126, by decide +kernel⟩⟩

/-- A witness of each clause of `Obligations.CapabilitySearch`. -/
theorem witness_capability_search :
    (∃ (s : State) (at_ : Nat), s.src.initialAt = some at_ ∧ at_ ≤ s.time) ∧
    (∃ (s : State) (at_ : Nat), s.src.periodAt = some at_ ∧ at_ ≤ s.time) ∧
    (∃ (s : State) (at_ : Nat), s.src.settleAt = some at_ ∧ at_ ≤ s.time) ∧
    (∃ (s : State), s.fullService = true ∧ s.is SRC_CTRL.SEARCH_EN = true ∧ s.get SRC_STATUS.PRIMARY = 1 ∧ s.src.search = none ∧
      s.searchBlocked = true) ∧
    (∃ (s : State) (m : Master), s.mayWrite m = true ∧ (s.wantSearch.src.search.isSome = true ∨ s.wantSearch.src.pending = true)) ∧
    (∃ (s : State), s.src.pending = true ∧ s.searchBlocked = false) ∧
    (∃ (s : State) (i : Nat) (x : Search), s.src.search = some x ∧ 2 * x.target ≤ 2 * i + (s.searchCfg x.source).1 ∧
      x.target + (s.searchCfg x.source).1 ≤ (s.searchCfg x.source).2.2) ∧
    (∃ (s : State) (i : Nat) (x : Search), s.src.search = some x ∧ 2 * i + (s.searchCfg x.source).1 < 2 * x.target) ∧
    (∃ (s : State) (v : Nat) (x : Search), s.src.search = some x ∧ v < x.vth) ∧
    (∃ (s : State) (v : Nat), s.fullService = true ∧ s.src.search = none ∧ s.get SRC_STATUS.PRIMARY = 1 ∧ s.regionSafe .north = false ∧
      v < s.collapseAt 1 s.src.ref48) :=
  ⟨⟨(let at_ : Nat := 0; let s := lab; let s : State := { s with src := { s.src with initialAt := some at_ } }; s), 0, by decide +kernel⟩,
    ⟨(let at_ : Nat := 0; let s := lab; let s : State := { s with src := { s.src with periodAt := some at_ } }; s), 0, by decide +kernel⟩,
    ⟨(let at_ : Nat := 0; let s := lab; let s : State := { s with src := { s.src with settleAt := some at_ } }; s), 0, by decide +kernel⟩,
    ⟨(let s := (lab.set SRC_CTRL.SEARCH_EN 1).set SRC_STATUS.PRIMARY 1; let s : State := { s with src := { s.src with search := none } };
      s.set SRC_STATUS.XFER 2), by decide +kernel⟩,
    ⟨(((lab.set SRC_CTRL.SEARCH_EN 1).set SRC_STATUS.PRIMARY 1).set SRC_STATUS.XFER 1), 3, by decide +kernel⟩,
    ⟨(let s := lab; let s : State := { s with src := { s.src with pending := true } }; s), by decide +kernel⟩,
    ⟨(let x : Search := { source := 1, vref := 4800, vth := 4600, lastGood := 0, target := 100 }; let s := lab;
      let s : State := { s with src := { s.src with search := some x } }; (s.set SRC_CEIL48.MAX 1000).set SRC_SEARCH48.STEP 1), 100,
      { source := 1, vref := 4800, vth := 4600, lastGood := 0, target := 100 }, by decide +kernel⟩,
    ⟨(let x : Search := { source := 1, vref := 4800, vth := 4600, lastGood := 0, target := 100 }; let s := lab;
      let s : State := { s with src := { s.src with search := some x } }; s), 0,
      { source := 1, vref := 4800, vth := 4600, lastGood := 0, target := 100 }, by decide +kernel⟩,
    ⟨(let x : Search := { source := 1, vref := 4800, vth := 4600, lastGood := 0, target := 100 }; let s := lab;
      let s : State := { s with src := { s.src with search := some x } }; s), 0,
      { source := 1, vref := 4800, vth := 4600, lastGood := 0, target := 100 }, by decide +kernel⟩,
    ⟨(let s := lab; let s : State := { s with src := { s.src with search := none } }; s.set SRC_STATUS.PRIMARY 1), 0, by decide +kernel⟩⟩

/-- A witness of each clause of `Obligations.TrunkReverse`. -/
theorem witness_trunk_reverse :
    (∃ (s : State) (m : Master), s.mayWrite m = true ∧ s.get SRC_REV.MODE ≠ 1 ∧ s.peerLive = false) ∧
    (∃ (s : State) (m : Master), s.mayWrite m = true ∧ s.get SRC_REV.MODE ≠ 2 ∧ s.peerLive = false) ∧
    (∃ (s : State) (m : Master), s.mayWrite m = true ∧ s.get SRC_REV.MODE ≠ 0 ∧ s.peerLive = false) ∧
    (∃ (s : State) (v : Nat), s.get SRC_REV.STATE = 2 ∧ clampN 2400 5400 (s.get SRC_REV_TGT.PRECH_V) ≤ v) ∧
    (∃ (s : State) (at_ : Nat), s.get SRC_REV.STATE = 2 ∧ s.src.revAt = some at_ ∧ at_ + ms (10 * max 1 (s.get SRC_REV.TIMEOUT)) ≤ s.time) ∧
    (∃ (s : State) (v : Nat) (at_ : Nat), s.get SRC_REV.STATE = 2 ∧ s.src.revAt = some at_ ∧ at_ + ms 10 ≤ s.time ∧ v < 500) ∧
    (∃ (s : State) (v : Nat), (s.get SRC_REV.STATE = 2 ∨ s.get SRC_REV.STATE = 3) ∧ clampN 2400 5400 (s.get SRC_REV_TGT.PRECH_V) + 200 < v) :=
  ⟨⟨lab, 3, by decide +kernel⟩,
    ⟨lab, 3, by decide +kernel⟩,
    ⟨(lab.set SRC_REV.MODE 1), 3, by decide +kernel⟩,
    ⟨(lab.set SRC_REV.STATE 2), 5400, by decide +kernel⟩,
    ⟨(let at_ : Nat := 0; let s := lab.set SRC_REV.STATE 2; let s : State := { s with src := { s.src with revAt := some at_ } }; s), 0,
      by decide +kernel⟩,
    ⟨(let at_ : Nat := 0; let s := lab.set SRC_REV.STATE 2; let s : State := { s with src := { s.src with revAt := some at_ } }; s), 499, 0,
      by decide +kernel⟩,
    ⟨(lab.set SRC_REV.STATE 2), 5601, by decide +kernel⟩⟩

/-- A witness of each clause of `Obligations.Pulses`. -/
theorem witness_pulses :
    (∃ (s : State) (b : Block) (n : Nat), b ≠ .prt ∧ (s.fleet b).packet = none ∧ (s.fleet b).waits = true ∧ s.keptOut b = false ∧ s.dealt b = some n) ∧
    (∃ (s : State) (n : Nat), n < 18 ∧ s.direct n = false ∧ s.burst (blockOf n) = false) ∧
    (∃ (s : State) (b : Block) (vfb : Int), b ≠ .prt ∧ (s.fleet b).packet = none ∧ vfb ≤ s.refOf b ∧ (s.fleet b).last = none ∧ s.keptOut b = false ∧
      s.dealt b = none) ∧
    (∃ (s : State) (b : Block) (vfb : Int), (s.fleet b).packet = none ∧ (s.fleet b).waits = false ∧ (s.fleet b).last = none ∧ s.refOf b < vfb) ∧
    (∃ (s : State) (b : Block) (k : KeepOut), b ≠ .prt ∧ (s.fleet b).packet = none ∧ (s.fleet b).waits = true ∧
      s.red.keep.find (blockNum b) = some k ∧ k.isOpen = true ∧ s.time < k.ends) ∧
    (∃ (s : State) (n : Cell) (t0 : Nat), (s.cell n.val).pulse = some t0 ∧ (s.cell n.val).refresh = 0 ∧
      64 * t0 + s.get (CEL_TON.TON n.val) ≤ 64 * s.time ∧ s.thm.toPark.contains n.val = false) ∧
    (∃ (s : State) (n : Cell) (t0 : Nat), (s.cell n.val).pulse = some t0 ∧ (s.cell n.val).refresh = 0 ∧
      64 * s.time < 64 * t0 + s.get (CEL_TON.TON n.val)) ∧
    (∃ (s : State) (n : Cell), 64 ≤ (s.cell n.val).pulses ∧ s.burst (blockOf n.val) = false ∧ (s.fleet (blockOf n.val)).holdOff = false ∧
      s.is (CEL_STATUS.CBC n.val) = false) ∧
    (∃ (s : State) (n : Cell), 64 ≤ (s.cell n.val).pulses ∧ s.is (CEL_STATUS.CBC n.val) = true) ∧
    (∃ (s : State) (n : Cell) (i : Int) (t0 : Nat), (s.cell n.val).latched = false ∧ (s.cell n.val).pulse = some t0 ∧ (s.cell n.val).refresh = 0 ∧
      s.reverse (blockOf n.val) = false ∧ (s.limits n.val).1 ≤ i) ∧
    (∃ (s : State) (n : Cell) (i : Int) (t0 : Nat), (s.cell n.val).latched = false ∧ (s.cell n.val).pulse = some t0 ∧ (s.cell n.val).refresh = 0 ∧
      s.reverse (blockOf n.val) = false ∧ i < (s.limits n.val).1) ∧
    (∃ (s : State) (n : Cell) (i : Int), i ≤ 0 ∧ s.reverse (blockOf n.val) = false ∧ s.is (CEL_CFG.ZCD_EN n.val) = true ∧ (s.cell n.val).rect = true) ∧
    (∃ (s : State) (b : Block) (vfb : Int), (s.fleet b).holdOff = false ∧
      s.refOf b * (400 + (clampN 4 40 (s.get (blockField b TRK_MODCFG.TRUNC)) : Int)) < 400 * vfb) ∧
    (∃ (s : State) (b : Block) (vfb : Int), (s.fleet b).holdOff = true ∧
      800 * vfb < s.refOf b * (800 + (clampN 4 40 (s.get (blockField b TRK_MODCFG.TRUNC)) : Int))) :=
  ⟨⟨(let b : Block := .trk;
      ((lab.setFleet b (fun x => { x with packet := none })).setFleet b (fun x => { x with waits := true })).set (CEL_STATUS.STATE 0) 3), .trk, 0,
      by decide +kernel⟩,
    ⟨((lab.set (CEL_STATUS.STATE 0) 3).set (CEL_CFG.DRVMODE 0) 1), 0, by decide +kernel⟩,
    ⟨(let b : Block := .trk; (lab.setFleet b (fun x => { x with packet := none })).setFleet b (fun x => { x with last := none })), .trk, 0,
      by decide +kernel⟩,
    ⟨(let b : Block := .trk;
      ((lab.setFleet b (fun x => { x with packet := none })).setFleet b (fun x => { x with waits := false })).setFleet b (fun x => { x with last := none })),
      .trk, 12000000, by decide +kernel⟩,
    ⟨(let b : Block := .trk; let k : KeepOut := { opened := 0, ends := 100000000001 };
      let s := (lab.setFleet b (fun x => { x with packet := none })).setFleet b (fun x => { x with waits := true });
      let s : State := { s with red := { s.red with keep := s.red.keep.put ((blockNum b)) (k) } }; s), .trk, { opened := 0, ends := 100000000001 },
      by decide +kernel⟩,
    ⟨(let n : Cell := 0; let t0 : Nat := 0;
      (lab.setCell n.val (fun x => { x with pulse := some t0 })).setCell n.val (fun x => { x with refresh := 0 })), 0, 0, by decide +kernel⟩,
    ⟨(let n : Cell := 0; let t0 : Nat := 100000000001;
      (lab.setCell n.val (fun x => { x with pulse := some t0 })).setCell n.val (fun x => { x with refresh := 0 })), 0, 100000000001,
      by decide +kernel⟩,
    ⟨(let n : Cell := 0; (lab.setFleet (blockOf n.val) (fun x => { x with holdOff := false })).setCell n.val (fun x => { x with pulses := 64 })), 0,
      by decide +kernel⟩,
    ⟨(let n : Cell := 0; (lab.set (CEL_STATUS.CBC n.val) 1).setCell n.val (fun x => { x with pulses := 64 })), 0, by decide +kernel⟩,
    ⟨(let n : Cell := 0; let t0 : Nat := 0;
      ((lab.setCell n.val (fun x => { x with latched := false })).setCell n.val (fun x => { x with pulse := some t0 })).setCell n.val (fun x => { x with refresh := 0 })),
      0, 10000, 0, by decide +kernel⟩,
    ⟨(let n : Cell := 0; let t0 : Nat := 0;
      ((lab.setCell n.val (fun x => { x with latched := false })).setCell n.val (fun x => { x with pulse := some t0 })).setCell n.val (fun x => { x with refresh := 0 })),
      0, 0, 0, by decide +kernel⟩,
    ⟨(let n : Cell := 0; (lab.set (CEL_CFG.ZCD_EN n.val) 1).setCell n.val (fun x => { x with rect := true })), 0, 0, by decide +kernel⟩,
    ⟨(let b : Block := .trk; (lab.setFleet b (fun x => { x with holdOff := false })).setFleet .trk (fun x => { x with vref := 11000000 })), .trk,
      12000000, by decide +kernel⟩,
    ⟨(let b : Block := .trk; (lab.setFleet b (fun x => { x with holdOff := true })).setFleet .trk (fun x => { x with vref := 12000000 })), .trk,
      11900000, by decide +kernel⟩⟩

/-- A witness of each clause of `Obligations.BurstAndSync`. -/
theorem witness_burst_and_sync :
    (∃ (s : State) (b : Block) (avg : Int) (p : Nat) (rest : List Nat), s.cellsWhere b (fun n => s.cellState n == 3) = p :: rest ∧
      s.fullService = true ∧ s.is (blockField b TRK_MODCFG.BURST_EN) = true ∧ s.burst b = false ∧
      400 * avg.natAbs < clampN 4 80 (s.get (blockField b (TRK_BAND_L.BURST_ENT (s.topBand b)))) * s.contRating b) ∧
    (∃ (s : State) (b : Block), s.is (blockField b TRK_MODCFG.BURST_EN) = false) ∧
    (∃ (s : State) (b : Block) (vfb : Int) (p : Nat), (s.fleet b).packet = some p ∧ (s.fleet b).packetFired = false ∧ (s.fleet b).packetLeft = 0 ∧
      s.belowBurst b vfb = true) ∧
    (∃ (s : State) (b : Block), 0 < (s.fleet b).packetLeft) ∧
    (∃ (s : State) (b : Block) (vfb : Int) (p : Nat), (s.fleet b).packet = some p ∧ 100 * vfb < 99 * s.refOf b) ∧
    (∃ (s : State) (f : Nat), s.fullService = true ∧ s.is GLB_SYNC.SYNC_EN = true ∧ 150 ≤ f ∧ f ≤ 1000) ∧
    (∃ (f : Nat), (f < 150 ∨ 1000 < f)) ∧
    (∃ (s : State), s.fullService = true ∧ s.mod.syncOk = true) ∧
    (∃ (s : State) (n : Nat), n < 18 ∧ s.target n < s.goal n) ∧
    (∃ (s : State) (n : Cell), s.mod.syncOk = true ∧ s.cellPresent n.val = true ∧ s.switching n.val = true ∧
      (s.syncGoal (blockOf n.val)).isSome = true ∧ (∀ k : Cell, s.switching k.val = true →
      200 * (((s.cell k.val).fmeas : Int) - s.target k.val).natAbs ≤ s.target k.val)) ∧
    (∃ (s : State), s.mod.syncOk = true) :=
  ⟨⟨(let b : Block := .trk; ((lab.set (blockField b TRK_MODCFG.BURST_EN) 1).set (CEL_STATUS.STATE 0) 3).set TRK_MODCFG.BURST_EN 1), .trk, 0, 0, [],
      by decide +kernel⟩,
    ⟨lab, .trk, by decide +kernel⟩,
    ⟨(let b : Block := .trk; let p : Nat := 0;
      ((lab.setFleet b (fun x => { x with packet := some p })).setFleet b (fun x => { x with packetFired := false })).setFleet b (fun x => { x with packetLeft := 0 })),
      .trk, 0, 0, by decide +kernel⟩,
    ⟨(lab.setFleet .trk (fun x => { x with packetLeft := 2 })), .trk, by decide +kernel⟩,
    ⟨(let b : Block := .trk; let p : Nat := 0;
      (lab.setFleet b (fun x => { x with packet := some p })).setFleet .trk (fun x => { x with vref := 12000000 })), .trk, 11000000, 0,
      by decide +kernel⟩,
    ⟨(lab.set GLB_SYNC.SYNC_EN 1), 1000, by decide +kernel⟩,
    ⟨0, by decide +kernel⟩,
    ⟨(let s := lab; let s : State := { s with mod := { s.mod with syncOk := true } }; s), by decide +kernel⟩,
    ⟨(lab.setCell 0 (fun x => { x with target := some 1000000 })), 0, by decide +kernel⟩,
    ⟨(let s := lab; let s : State := { s with mod := { s.mod with syncOk := true } };
      (((((s.set (CEL_STATUS.STATE 0) 3).set GLB_SYNC.SYNC_EN 1).set GLB_SYNC.FMEAS 500).set TRK_MODCFG.SYNC_MUL 1).set TRK_MODCFG.SYNC_DIV 1).setCell 0 (fun x => { x with fmeas := 5000000, target := some 5000000 })),
      0, by decide +kernel⟩,
    ⟨(let s := lab; let s : State := { s with mod := { s.mod with syncOk := true } }; s), by decide +kernel⟩⟩

/-- A witness of each clause of `Obligations.CellFaults`. -/
theorem witness_cell_faults :
    (∃ (s : State) (n : Cell), s.cellState n.val = 6 ∧ s.mod.vdrvLow = false) ∧
    (∃ (s : State) (n : Cell), (s.cellState n.val = 3 ∨ s.cellState n.val = 2 ∨ s.cellState n.val = 6) ∧ s.mod.vdrvLow = false) ∧
    (∃ (s : State) (n : Cell), (s.cellState n.val = 3 ∨ s.cellState n.val = 2 ∨ s.cellState n.val = 6) ∧ s.mod.vdrvLow = false) ∧
    (∃ (s : State), s.mod.vdrvLow = true) ∧
    (∃ (s : State) (mv : Nat), mv < 8500 ∧ s.mod.vdrvLow = false) ∧
    (∃ (mv : Nat), 8500 ≤ mv) ∧
    (∃ (mv : Nat), 9000 ≤ mv) ∧
    (∃ (s : State), s.gateBudget < s.gatePower (fun _ => true) (fun n => (s.cell n).fmeas) ∧ s.mod.overDriveSince = none) ∧
    (∃ (s : State), s.gatePower (fun _ => true) (fun n => (s.cell n).fmeas) ≤ s.gateBudget) ∧
    (∃ (s : State) (t0 : Nat), s.mod.overDriveSince = some t0 ∧ t0 + ms 1 ≤ s.time ∧ 0 < s.mod.driveUsed) ∧
    (∃ (s : State) (b : Block) (k : KeepOut), s.red.keep.find (blockNum b) = some k ∧ k.ends ≤ s.time ∧ k.held = 0) ∧
    (∃ (s : State) (b : Block) (k : KeepOut), s.red.keep.find (blockNum b) = some k ∧ k.ends ≤ s.time ∧ 0 < k.held ∧ k.released = none ∧
      s.dealt b = none) :=
  ⟨⟨(let n : Cell := 0; let s := lab.set (CEL_STATUS.STATE n.val) 6; let s : State := { s with mod := { s.mod with vdrvLow := false } }; s), 0,
      by decide +kernel⟩,
    ⟨(let n : Cell := 0; let s := lab.set (CEL_STATUS.STATE n.val) 3; let s : State := { s with mod := { s.mod with vdrvLow := false } }; s), 0,
      by decide +kernel⟩,
    ⟨(let n : Cell := 0; let s := lab.set (CEL_STATUS.STATE n.val) 3; let s : State := { s with mod := { s.mod with vdrvLow := false } }; s), 0,
      by decide +kernel⟩,
    ⟨(let s := lab; let s : State := { s with mod := { s.mod with vdrvLow := true } }; s), by decide +kernel⟩,
    ⟨(let s := lab; let s : State := { s with mod := { s.mod with vdrvLow := false } }; s), 8499, by decide +kernel⟩,
    ⟨8500, by decide +kernel⟩,
    ⟨9000, by decide +kernel⟩,
    ⟨(let s := lab; let s : State := { s with mod := { s.mod with overDriveSince := none } };
      (((s.set (CEL_STATUS.STATE 0) 3).set (CEL_QG.QG_HS 0) 200).set (CEL_QG.QG_LS 0) 200).setCell 0 (fun x => { x with fmeas := 100000000 })),
      by decide +kernel⟩,
    ⟨lab, by decide +kernel⟩,
    ⟨(let t0 : Nat := 0; let s := lab; let s : State := { s with mod := { s.mod with overDriveSince := some t0 } };
      let s : State := { s with mod := { s.mod with driveUsed := 1 } }; s), 0, by decide +kernel⟩,
    ⟨(let b : Block := .trk; let k : KeepOut := { ({ opened := 0, ends := 0 } : KeepOut) with held := 0 }; let s := lab;
      let s : State := { s with red := { s.red with keep := s.red.keep.put ((blockNum b)) (k) } }; s), .trk,
      { ({ opened := 0, ends := 0 } : KeepOut) with held := 0 }, by decide +kernel⟩,
    ⟨(let b : Block := .trk; let k : KeepOut := { opened := 0, ends := 5, held := 2 }; let s := lab;
      let s : State := { s with red := { s.red with keep := s.red.keep.put ((blockNum b)) (k) } }; s), .trk, { opened := 0, ends := 5, held := 2 },
      by decide +kernel⟩⟩

/-- A witness of each clause of `Obligations.BlockCommands`. -/
theorem witness_block_commands :
    (∃ (s : State) (m : Master), s.mayWrite m = true) ∧
    (∃ (s : State) (m : Master) (w : Word), s.mayWrite m = true ∧ CHB_ASSIGN.DEF_ACTIVE.of w ≠ s.get CHB_ASSIGN.DEF_ACTIVE) ∧
    (∃ (s : State) (m : Master), s.mayWrite m = false) ∧
    (∃ (s : State), s.mod.trk.budget = 0) ∧
    (∃ (s : State), s.mod.chb.budget = 0) ∧
    (∃ (s : State), s.reverse .trk = false ∧ (s.effLimit .trk : Int) < s.blockCurrent .trk) ∧
    (∃ (s : State), (s.effLimit .chb : Int) < s.blockCurrent .chb) ∧
    (∃ (s : State), s.reverse .trk = false ∧ s.blockCurrent .trk ≤ (s.effLimit .trk : Int)) ∧
    (∃ (s : State), s.reverse .trk = false ∧ s.is TRK_STATUS.ILIMIT = true ∧ 100 * s.blockCurrent .trk ≤ 98 * (s.effLimit .trk : Int)) ∧
    (∃ (s : State), s.is CHB_STATUS.ILIMIT = true ∧ 100 * s.blockCurrent .chb ≤ 98 * (s.effLimit .chb : Int)) ∧
    (∃ (s : State) (t0 : Nat), s.mod.trk.droopSince = some t0 ∧ (t0 + ms 100 ≤ s.time ∨
      10 * s.mod.trk.vref < 9 * (10000 * (s.get TRK_REF.TARGET : Int)))) ∧
    (∃ (s : State), s.mod.trk.droopSince = none) ∧
    (∃ (s : State) (m : Master), s.mayWrite m = true ∧ s.peerLive = false) ∧
    (∃ (s : State), s.fullService = true) ∧
    (∃ (s : State) (b : Block), s.sheds b = true ∧ (s.fleet b).ramp = none ∧ 1 < (s.cellsWhere b s.switching).length ∧
      s.blockCurrent b < (((s.cellsWhere b s.switching).length - 1) * (s.shedLevels b).1 : Nat)) ∧
    (∃ (s : State) (n : Nat) (l : List Nat), s.thermalShare .trk = false ∧
      s.cellsWhere .trk (fun n => s.cellState n == 3 && s.rampCell .trk != some n) = l ++ [n]) :=
  ⟨⟨lab, 3, by decide +kernel⟩,
    ⟨lab, 3, 1, by decide +kernel⟩,
    ⟨(lab.set GLB_REGION.SERVICE 1), 3, by decide +kernel⟩,
    ⟨(let s := lab; let s : State := { s with mod := { s.mod with trk := { s.mod.trk with budget := 0 } } }; s), by decide +kernel⟩,
    ⟨(let s := lab; let s : State := { s with mod := { s.mod with chb := { s.mod.chb with budget := 0 } } }; s), by decide +kernel⟩,
    ⟨((((lab.set (CEL_STATUS.STATE 0) 3).set (CEL_IMEAS.AVG 0) 5000).set TRK_LIMIT.IMAX 100).set THM_LIM.TRK 100), by decide +kernel⟩,
    ⟨((lab.set (CEL_STATUS.STATE 10) 3).set (CEL_IMEAS.AVG 10) 9000), by decide +kernel⟩,
    ⟨lab, by decide +kernel⟩,
    ⟨(lab.set TRK_STATUS.ILIMIT 1), by decide +kernel⟩,
    ⟨(lab.set CHB_STATUS.ILIMIT 1), by decide +kernel⟩,
    ⟨(let t0 : Nat := 0; let s := lab; let s : State := { s with mod := { s.mod with trk := { s.mod.trk with droopSince := some t0 } } }; s), 0,
      by decide +kernel⟩,
    ⟨(let s := lab; let s : State := { s with mod := { s.mod with trk := { s.mod.trk with droopSince := none } } }; s), by decide +kernel⟩,
    ⟨lab, 3, by decide +kernel⟩,
    ⟨lab, by decide +kernel⟩,
    ⟨(let b : Block := .trk;
      ((((lab.setFleet b (fun x => { x with ramp := none })).set (CEL_STATUS.STATE 0) 3).set (CEL_STATUS.STATE 1) 3).set TRK_SHED.SHED_EN 1).set TRK_SHED.SHED_I 20),
      .trk, by decide +kernel⟩,
    ⟨((lab.set (CEL_STATUS.STATE 0) 3).set (CEL_STATUS.STATE 3) 3), 3, [0], by decide +kernel⟩⟩

/-- A witness of each clause of `Obligations.CellReentry`. -/
theorem witness_cell_reentry :
    (∃ (s : State) (x : Nat) (n : Nat) (rest : List Nat), s.mod.trk.lost = x :: rest ∧ s.mod.trk.ramp = none ∧ s.spareAuto .trk = true ∧
      s.pickSubstitute .trk = some n) ∧
    (∃ (s : State) (x : Nat) (rest : List Nat), s.mod.trk.lost = x :: rest ∧ s.mod.trk.ramp = none ∧ (s.spareAuto .trk = false ∨
      s.pickSubstitute .trk = none)) ∧
    (∃ (s : State) (b : Block) (r : Ramp), (s.fleet b).ramp = some r ∧ r.cls = 0) ∧
    (∃ (s : State) (r : Ramp), s.mod.trk.ramp = some r ∧ r.cell < 10 ∧ 64 ≤ r.periods ∧ s.mod.trk.queue = [] ∧ s.mod.trk.swaps.find r.cell = none) ∧
    (∃ (s : State) (b : Block) (r : Ramp), (s.fleet b).ramp = some r ∧ r.periods < 64) ∧
    (∃ (s : State) (r : Ramp) (vfb : Int), s.mod.trk.ramp = some r ∧ r.cell < 10 ∧ (s.refOf .trk).natAbs < 100 * (vfb - s.refOf .trk).natAbs ∧
      s.mod.trk.queue = [] ∧ s.mod.trk.tries.find r.cell = none) ∧
    (∃ (s : State) (r : Ramp) (vfb : Int), s.mod.trk.ramp = some r ∧ r.cell < 10 ∧ (s.refOf .trk).natAbs < 100 * (vfb - s.refOf .trk).natAbs ∧
      s.mod.trk.queue = [] ∧ s.mod.trk.tries.find r.cell = some 2) ∧
    (∃ (s : State) (n : Nat) (at_ : Nat) (cls : Nat), n < 10 ∧ s.mod.trk.retryAt = [(n, at_, cls)] ∧ at_ ≤ s.time ∧ s.isParked n = true ∧
      s.mod.trk.ramp = none ∧ s.mod.trk.queue = []) ∧
    (∃ (s : State) (n : Nat) (p : Nat), n < 10 ∧ s.mod.trk.leaving = [(n, Leaving.remove, p)] ∧ 64 ≤ p) ∧
    (∃ (s : State) (n : Nat) (p : Nat), n < 10 ∧ s.mod.trk.leaving = [(n, Leaving.rotate, p)] ∧ 64 ≤ p) ∧
    (∃ (s : State) (n : Fin 18) (slot : Nat) (c : Nat) (tag : Nat), s.lom.slots = [(slot, c, .cellTest tag false (2 ^ n.val) 0 0)] ∧
      s.cellState n.val = 6 ∧ (s.cell n.val).testFrom ≠ 0 ∧ (s.context c).rom = none) ∧
    (∃ (s : State) (n : Fin 18) (slot : Nat) (c : Nat) (tag : Nat), s.lom.slots = [(slot, c, .cellTest tag true (2 ^ n.val) 0 0)] ∧
      s.cellState n.val = 6 ∧ (s.cell n.val).testFrom ≠ 0 ∧ (s.context c).rom = none ∧ s.causes n.val = 0) ∧
    (∃ (s : State) (n : Fin 18), s.cellState n.val ≠ 6 ∧ s.cellState n.val ≠ 5) ∧
    (∃ (s : State) (rail : Nat), s.is TRK_OVP.CROWBAR = false ∧ s.crowbarLevel < 10000 * (rail : Int)) ∧
    (∃ (s : State) (rail : Nat), 10000 * (rail : Int) ≤ s.crowbarLevel) ∧
    (∃ (s : State) (rail : Nat), s.is TRK_OVP.CROWBAR = true ∧ rail < 100) :=
  ⟨⟨(let x : Nat := 0; let rest : List Nat := []; let s := lab;
      let s : State := { s with mod := { s.mod with trk := { s.mod.trk with lost := x :: rest } } };
      let s : State := { s with mod := { s.mod with trk := { s.mod.trk with ramp := none } } };
      (((s.set (CEL_STATUS.STATE 4) 1).set (CEL_CFG.FITTED 4) 1).setZ THM_STG_WARN.FALL 1000).set TRK_CTRL.SPARE_AUTO 1), 0, 4, [], by decide +kernel⟩,
    ⟨(let x : Nat := 0; let rest : List Nat := []; let s := lab;
      let s : State := { s with mod := { s.mod with trk := { s.mod.trk with lost := x :: rest } } };
      let s : State := { s with mod := { s.mod with trk := { s.mod.trk with ramp := none } } }; s), 0, [], by decide +kernel⟩,
    ⟨(let b : Block := .trk; let r : Ramp := { ({ cell := 0, cls := 0 } : Ramp) with cls := 0 }; lab.setFleet b (fun x => { x with ramp := some r })),
      .trk, { ({ cell := 0, cls := 0 } : Ramp) with cls := 0 }, by decide +kernel⟩,
    ⟨(let r : Ramp := { cell := 0, cls := 0, periods := 64 }; let s := lab;
      let s : State := { s with mod := { s.mod with trk := { s.mod.trk with ramp := some r } } };
      let s : State := { s with mod := { s.mod with trk := { s.mod.trk with queue := [] } } }; s), { cell := 0, cls := 0, periods := 64 },
      by decide +kernel⟩,
    ⟨(let b : Block := .trk; let r : Ramp := { cell := 0, cls := 0 }; lab.setFleet b (fun x => { x with ramp := some r })), .trk,
      { cell := 0, cls := 0 }, by decide +kernel⟩,
    ⟨(let r : Ramp := { cell := 0, cls := 0 }; let s := lab;
      let s : State := { s with mod := { s.mod with trk := { s.mod.trk with ramp := some r } } };
      let s : State := { s with mod := { s.mod with trk := { s.mod.trk with queue := [] } } };
      s.setFleet .trk (fun x => { x with vref := 12000000 })), { cell := 0, cls := 0 }, 11000000, by decide +kernel⟩,
    ⟨(let r : Ramp := { cell := 0, cls := 0 }; let s := lab;
      let s : State := { s with mod := { s.mod with trk := { s.mod.trk with ramp := some r } } };
      let s : State := { s with mod := { s.mod with trk := { s.mod.trk with queue := [] } } };
      let s := s.setFleet .trk (fun x => { x with vref := 12000000 });
      let s : State := { s with mod := { s.mod with trk := { s.mod.trk with tries := [(0, 2)] } } }; s), { cell := 0, cls := 0 }, 11000000,
      by decide +kernel⟩,
    ⟨(let n : Nat := 4; let at_ : Nat := 0; let cls : Nat := 0; let s := lab;
      let s : State := { s with mod := { s.mod with trk := { s.mod.trk with retryAt := [(n, at_, cls)] } } };
      let s : State := { s with mod := { s.mod with trk := { s.mod.trk with ramp := none } } };
      let s : State := { s with mod := { s.mod with trk := { s.mod.trk with queue := [] } } };
      (s.set (CEL_STATUS.STATE 4) 4).setCell 4 (fun x => { x with sleep := .parked })), 4, 0, 0, by decide +kernel⟩,
    ⟨(let n : Nat := 9; let p : Nat := 64; let s := lab;
      let s : State := { s with mod := { s.mod with trk := { s.mod.trk with leaving := [(n, Leaving.remove, p)] } } }; s), 9, 64, by decide +kernel⟩,
    ⟨(let n : Nat := 9; let p : Nat := 64; let s := lab;
      let s : State := { s with mod := { s.mod with trk := { s.mod.trk with leaving := [(n, Leaving.rotate, p)] } } }; s), 9, 64, by decide +kernel⟩,
    ⟨(let n : Fin 18 := 0; let slot : Nat := 0; let c : Nat := 0; let tag : Nat := 0; let s := lab;
      let s : State := { s with lom := { s.lom with slots := [(slot, c, .cellTest tag false (2 ^ n.val) 0 0)] } };
      ((s.set (CEL_STATUS.STATE n.val) 6).setContext c (fun x => { x with rom := none })).setCell n.val (fun x => { x with testFrom := 3 })), 0, 0, 0,
      0, by decide +kernel⟩,
    ⟨(let n : Fin 18 := 0; let slot : Nat := 0; let c : Nat := 0; let tag : Nat := 0; let s := lab;
      let s : State := { s with lom := { s.lom with slots := [(slot, c, .cellTest tag true (2 ^ n.val) 0 0)] } };
      ((s.set (CEL_STATUS.STATE n.val) 6).setContext c (fun x => { x with rom := none })).setCell n.val (fun x => { x with testFrom := 3 })), 0, 0, 0,
      0, by decide +kernel⟩,
    ⟨lab, 0, by decide +kernel⟩,
    ⟨lab, 3601, by decide +kernel⟩,
    ⟨lab, 0, by decide +kernel⟩,
    ⟨(lab.set TRK_OVP.CROWBAR 1), 99, by decide +kernel⟩⟩

/-- A witness of each clause of `Obligations.ChargeLoop`. -/
theorem witness_charge_loop :
    (∃ (s : State) (v : Nat), (s.chgState = 5 ∨ s.chgState = 6) ∧ s.get CHB_STATUS.MODE = 1 ∧ s.cvEffPack < v) ∧
    (∃ (s : State) (v : Nat), (s.chgState = 5 ∨ s.chgState = 6) ∧ s.get CHB_STATUS.MODE = 1 ∧ v ≤ s.cvEffPack) ∧
    (∃ (s : State) (vn : Nat) (vp : Nat), s.chg.nodeAt.isSome = true ∧ ((vn : Int) - vp).natAbs ≤ 20) ∧
    (∃ (s : State) (t0 : Nat), s.chg.nodeAt = some t0 ∧ t0 + ms 20 ≤ s.time) ∧
    (∃ (s : State) (t0 : Nat), s.chg.nodeAt = some t0 ∧ s.time < t0 + ms 20) ∧
    (∃ (s : State) (t0 : Nat), s.chg.rampAt = some t0 ∧ t0 + ms 1 ≤ s.time ∧ s.chgState ≠ 1) ∧
    (∃ (s : State) (t0 : Nat), s.chg.retryAt = some t0 ∧ t0 ≤ s.time) ∧
    (∃ (s : State) (vp : Nat) (rail : Nat), s.chemValid = true ∧ 10 * (s.railRefV rail : Int) - 1000 < vp ∧ s.chg.headPause = false) ∧
    (∃ (s : State), s.chg.headPause = true) ∧
    (∃ (s : State) (vp : Nat) (rail : Nat), s.chg.headPause = true ∧ (vp : Int) ≤ 10 * (s.railRefV rail : Int) - 1100) ∧
    (∃ (s : State) (vp : Nat) (rail : Nat), s.get CHB_STATUS.MODE ≠ 3 ∧ s.chg.holdupAt = none ∧ s.is CHB_STATUS.PACK_G_ON = true ∧
      10 * (rail : Int) - 500 < vp) ∧
    (∃ (s : State), s.get CHB_STATUS.MODE = 3) ∧
    (∃ (s : State) (vp : Nat) (rail : Nat), s.chg.headOpen = true ∧ s.chg.nodeAt = none ∧ (vp : Int) ≤ 10 * (rail : Int) - 1000 ∧ s.chgState ≠ 0 ∧
      s.chgState ≠ 10) ∧
    (∃ (s : State) (m : Master) (c : BitVec 3), s.mayWrite m = true ∧ c.toNat ≠ s.get CHG_CTRL.CHEM) ∧
    (∃ (s : State) (m : Master), s.mayWrite m = true ∧ s.is CHG_CTRL.ARM = false) :=
  ⟨⟨((((((lab.set CHG_STATUS.STATE 5).set CHB_STATUS.MODE 1).set CHG_CTRL.CELLS 1).set CHG_CV.CV 4000).set SRC_STATUS.PRIMARY 1).set TRK_REF.TARGET 1200),
      5000, by decide +kernel⟩,
    ⟨((lab.set CHG_STATUS.STATE 5).set CHB_STATUS.MODE 1), 0, by decide +kernel⟩,
    ⟨(let s := lab; let s : State := { s with chg := { s.chg with nodeAt := some 0 } }; s), 0, 0, by decide +kernel⟩,
    ⟨(let t0 : Nat := 0; let s := lab; let s : State := { s with chg := { s.chg with nodeAt := some t0 } }; s), 0, by decide +kernel⟩,
    ⟨(let t0 : Nat := 100000000001; let s := lab; let s : State := { s with chg := { s.chg with nodeAt := some t0 } }; s), 100000000001,
      by decide +kernel⟩,
    ⟨(let t0 : Nat := 0; let s := lab; let s : State := { s with chg := { s.chg with rampAt := some t0 } }; s.set CHG_STATUS.STATE 4), 0,
      by decide +kernel⟩,
    ⟨(let t0 : Nat := 0; let s := lab; let s : State := { s with chg := { s.chg with retryAt := some t0 } }; s), 0, by decide +kernel⟩,
    ⟨(let s := lab; let s : State := { s with chg := { s.chg with headPause := false } }; s.set CHG_CTRL.CHEM 1), 0, 0, by decide +kernel⟩,
    ⟨(let s := lab; let s : State := { s with chg := { s.chg with headPause := true } }; s), by decide +kernel⟩,
    ⟨(let s := lab; let s : State := { s with chg := { s.chg with headPause := true } }; s), 10000, 1200, by decide +kernel⟩,
    ⟨(let s := lab; let s : State := { s with chg := { s.chg with holdupAt := none } }; s.set CHB_STATUS.PACK_G_ON 1), 0, 0, by decide +kernel⟩,
    ⟨(lab.set CHB_STATUS.MODE 3), by decide +kernel⟩,
    ⟨(let s := lab; let s : State := { s with chg := { s.chg with headOpen := true } };
      let s : State := { s with chg := { s.chg with nodeAt := none } }; s.set CHG_STATUS.STATE 4), 10000, 1200, by decide +kernel⟩,
    ⟨(lab.set CHG_CTRL.CHEM 1), 3, 0, by decide +kernel⟩,
    ⟨lab, 3, by decide +kernel⟩⟩

/-- A witness of each clause of `Obligations.ChargePhases`. -/
theorem witness_charge_phases :
    (∃ (s : State) (t0 : Nat), s.chgState = 1 ∧ s.chg.qualifyAt = some t0 ∧ t0 + ms 10 ≤ s.time ∧ s.is CHG_CTRL.ID_CHK = true ∧
      (s.get CHG_PRES.ID_MEAS < s.get CHG_PRES.ID_MIN ∨ s.get CHG_PRES.ID_MAX < s.get CHG_PRES.ID_MEAS)) ∧
    (∃ (s : State) (t0 : Nat), s.chgState = 1 ∧ s.chg.qualifyAt = some t0 ∧ t0 + ms 10 ≤ s.time ∧ s.is CHG_CTRL.ID_CHK = false ∧
      (s.chg.absentSeen = true ∨ s.is CHG_STATUS.PACK_PRESENT = false)) ∧
    (∃ (s : State) (t0 : Nat), s.chgState = 1 ∧ s.chg.qualifyAt = some t0 ∧ t0 + ms 10 ≤ s.time ∧ s.is CHG_CTRL.ID_CHK = false ∧
      s.chg.absentSeen = false ∧ s.is CHG_STATUS.PACK_PRESENT = true ∧ s.is CHB_STATUS.PACK_G_ON = false) ∧
    (∃ (s : State), s.chgState = 2 ∧ s.get CHG_THRESH.V_DEEP ≤ s.get CHG_PACK.VCELL) ∧
    (∃ (s : State), s.get CHG_PACK.VCELL < s.get CHG_THRESH.V_DEEP) ∧
    (∃ (s : State), s.chgState = 3 ∧ s.get CHG_THRESH.V_PRE ≤ s.get CHG_PACK.VCELL) ∧
    (∃ (s : State) (v : Nat), s.chgState = 4 ∧ (s.get CHG_CTRL.CHEM = 1 ∨ s.get CHG_CTRL.CHEM = 2) ∧ s.cvEffPack ≤ v) ∧
    (∃ (s : State) (v : Nat), s.chgState = 4 ∧ s.get CHG_CTRL.CHEM = 4 ∧ s.cvEffPack ≤ v) ∧
    (∃ (s : State) (t0 : Nat), s.chgState = 5 ∧ (s.get CHG_CTRL.CHEM = 1 ∨ s.get CHG_CTRL.CHEM = 2) ∧ s.is CHG_CTRL.TERM_EN = true ∧
      s.chg.termSince = some t0 ∧ t0 + ms (1000 * max 1 (s.get CHG_TERM.TERM_T)) ≤ s.time) ∧
    (∃ (s : State) (v16 : Nat) (pk : Nat) (t0 : Nat), s.chgState = 4 ∧ s.get CHG_CTRL.CHEM = 3 ∧ s.is CHG_CTRL.TERM_EN = true ∧
      s.chg.ccSince = some t0 ∧ t0 + ms 480000 ≤ s.time ∧ v16 + max 1 (s.get CHG_TERM.NDV) * s.chgCells < max s.chg.vPeak pk) ∧
    (∃ (s : State), s.chgState = 7 ∧ s.get CHG_CTRL.CHEM ≠ 4 ∧ s.get CHG_PACK.VCELL * s.chgCells < s.rechgPack) ∧
    (∃ (s : State), chargingState s.chgState = true ∧ s.pauseCause ≠ 0) ∧
    (∃ (s : State), s.pauseCause = 0) ∧
    (∃ (s : State), s.chgState = 8 ∧ s.pauseCause = 0 ∧ chargingState s.chg.kept = true) ∧
    (∃ (s : State), s.pauseCause ≠ 0) ∧
    (∃ (s : State) (v : Nat), chargingState s.chgState = true ∧ s.get CHG_CTRL.CHEM = 1 ∧ (s.get CHG_CV.CV + 100) * s.chgCells < v) ∧
    (∃ (s : State), s.chgState ≠ 0 ∧ (s.get CHG_CTRL.CHEM = 1 ∨ s.get CHG_CTRL.CHEM = 2) ∧ s.chg.ntcBad = false ∧ s.get CHG_STATUS.JEITA ≠ 7 ∧
      s.chg.zonePlaced = true ∧ jeitaNext (s.get CHG_STATUS.JEITA) s.packTemp ≠ s.get CHG_STATUS.JEITA) :=
  ⟨⟨(let t0 : Nat := 0; let s := lab.set CHG_STATUS.STATE 1; let s : State := { s with chg := { s.chg with qualifyAt := some t0 } };
      ((s.set CHG_CTRL.ID_CHK 1).set CHG_PRES.ID_MEAS 5).set CHG_PRES.ID_MIN 100), 0, by decide +kernel⟩,
    ⟨(let t0 : Nat := 0; let s := lab.set CHG_STATUS.STATE 1; let s : State := { s with chg := { s.chg with qualifyAt := some t0 } };
      let s : State := { s with chg := { s.chg with absentSeen := true } }; s), 0, by decide +kernel⟩,
    ⟨(let t0 : Nat := 0; let s := lab.set CHG_STATUS.STATE 1; let s : State := { s with chg := { s.chg with qualifyAt := some t0 } };
      let s : State := { s with chg := { s.chg with absentSeen := false } }; s.set CHG_STATUS.PACK_PRESENT 1), 0, by decide +kernel⟩,
    ⟨(lab.set CHG_STATUS.STATE 2), by decide +kernel⟩,
    ⟨((lab.set CHG_THRESH.V_DEEP 1000).set CHG_PACK.VCELL 900), by decide +kernel⟩,
    ⟨(lab.set CHG_STATUS.STATE 3), by decide +kernel⟩,
    ⟨((lab.set CHG_STATUS.STATE 4).set CHG_CTRL.CHEM 1), 0, by decide +kernel⟩,
    ⟨((lab.set CHG_STATUS.STATE 4).set CHG_CTRL.CHEM 4), 0, by decide +kernel⟩,
    ⟨(let t0 : Nat := 0; let s := ((lab.set CHG_STATUS.STATE 5).set CHG_CTRL.CHEM 1).set CHG_CTRL.TERM_EN 1;
      let s : State := { s with chg := { s.chg with termSince := some t0 } }; s), 0, by decide +kernel⟩,
    ⟨(let t0 : Nat := 0; let s := ((lab.set CHG_STATUS.STATE 4).set CHG_CTRL.CHEM 3).set CHG_CTRL.TERM_EN 1;
      let s : State := { s with chg := { s.chg with ccSince := some t0 } }; let s : State := { s with chg := { s.chg with vPeak := 100000 } }; s), 0,
      0, 0, by decide +kernel⟩,
    ⟨((((((((lab.set CHG_STATUS.STATE 7).set CHG_CTRL.CHEM 1).set CHG_CTRL.CELLS 2).set CHG_CV.RECHG 4000).set CHG_CV.CV 4200).set CHG_PACK.VCELL 3500).set SRC_STATUS.PRIMARY 1).set TRK_REF.TARGET 1200),
      by decide +kernel⟩,
    ⟨(lab.set CHG_STATUS.STATE 4), by decide +kernel⟩,
    ⟨((((((((lab.set CHG_CTRL.CHEM 1).set CHG_STATUS.JEITA 2).set (CEL_STATUS.STATE 10) 3).set (CEL_STATUS.STATE 11) 3).set (CEL_STATUS.STATE 12) 3).set (CEL_STATUS.STATE 13) 3).set (CEL_STATUS.STATE 14) 3).set (CEL_STATUS.STATE 15) 3),
      by decide +kernel⟩,
    ⟨(let s := ((((((((lab.set CHG_STATUS.STATE 8).set CHG_CTRL.CHEM 1).set CHG_STATUS.JEITA 2).set (CEL_STATUS.STATE 10) 3).set (CEL_STATUS.STATE 11) 3).set (CEL_STATUS.STATE 12) 3).set (CEL_STATUS.STATE 13) 3).set (CEL_STATUS.STATE 14) 3).set (CEL_STATUS.STATE 15) 3;
      let s : State := { s with chg := { s.chg with kept := 4 } }; s), by decide +kernel⟩,
    ⟨lab, by decide +kernel⟩,
    ⟨((((lab.set CHG_STATUS.STATE 4).set CHG_CTRL.CHEM 1).set CHG_CV.CV 4200).set CHG_CTRL.CELLS 1), 4400, by decide +kernel⟩,
    ⟨(let s := (lab.set CHG_STATUS.STATE 4).set CHG_CTRL.CHEM 1; let s : State := { s with chg := { s.chg with ntcBad := false } };
      let s : State := { s with chg := { s.chg with zonePlaced := true } }; s.set CHG_STATUS.JEITA 2), by decide +kernel⟩⟩

/-- A witness of each clause of `Obligations.ChargeSafety`. -/
theorem witness_charge_safety :
    (∃ (s : State) (src : Nat), chargingState s.chgState = true ∧ s.timerExpired = some src ∧ s.currentDone = false) ∧
    (∃ (s : State), s.timerExpired = none) ∧
    (∃ (s : State) (m : Master) (w : Word), s.mayWrite m = true ∧ w.toNat % 65536 = 0x6B29) ∧
    (∃ (s : State) (m : Master) (w : Word), s.mayWrite m = true ∧ w.toNat % 65536 ≠ 0x6B29) ∧
    (∃ (s : State), s.fullService = true ∧ s.chemValid = true ∧ s.chg.wdgLeft = 0 ∧ s.is CHG_STATUS.WDG_SAFE = false) ∧
    (∃ (s : State), 0 < s.chg.wdgLeft) ∧
    (∃ (s : State) (m : Master), s.mayWrite m = true ∧ s.is CHG_FLAGS.WDG_EXP = true ∧ s.chg.served = true) ∧
    (∃ (s : State), s.chg.served = false) ∧
    (∃ (s : State), 2 ≤ s.chg.failing ∧ s.chgState ≠ 0 ∧ s.chgState ≠ 10 ∧ s.get SRC_STATUS.PRIMARY ≠ 3) ∧
    (∃ (s : State), 2 ≤ s.chg.failing ∧ s.chgState ≠ 0 ∧ s.chgState ≠ 10 ∧ s.get SRC_STATUS.PRIMARY = 3) ∧
    (∃ (s : State), s.chgState = 10) ∧
    (∃ (s : State) (t0 : Nat), s.chgState = 10 ∧ s.chg.presentSince = some t0 ∧ t0 + ms 500 ≤ s.time) :=
  ⟨⟨(let s := (lab.set CHG_STATUS.STATE 4).set CHG_TIMER.T_FAST 1; let s : State := { s with chg := { s.chg with tFast := 65536 * 60000000 } }; s),
      1, by decide +kernel⟩,
    ⟨lab, by decide +kernel⟩,
    ⟨lab, 3, 0x6B29, by decide +kernel⟩,
    ⟨lab, 3, 0, by decide +kernel⟩,
    ⟨(let s := lab; let s : State := { s with chg := { s.chg with wdgLeft := 0 } }; s.set CHG_CTRL.CHEM 1), by decide +kernel⟩,
    ⟨lab, by decide +kernel⟩,
    ⟨(let s := lab.set CHG_FLAGS.WDG_EXP 1; let s : State := { s with chg := { s.chg with served := true } }; s), 3, by decide +kernel⟩,
    ⟨(let s := lab; let s : State := { s with chg := { s.chg with served := false } }; s), by decide +kernel⟩,
    ⟨(let s := lab.set CHG_STATUS.STATE 4; let s : State := { s with chg := { s.chg with failing := 2 } }; s), by decide +kernel⟩,
    ⟨(let s := (lab.set CHG_STATUS.STATE 4).set SRC_STATUS.PRIMARY 3; let s : State := { s with chg := { s.chg with failing := 2 } }; s),
      by decide +kernel⟩,
    ⟨(lab.set CHG_STATUS.STATE 10), by decide +kernel⟩,
    ⟨(let t0 : Nat := 0; let s := lab.set CHG_STATUS.STATE 10; let s : State := { s with chg := { s.chg with presentSince := some t0 } }; s), 0,
      by decide +kernel⟩⟩

/-- A witness of each clause of `Obligations.AngleTracks`. -/
theorem witness_angle_tracks :
    (∃ (s : State) (held : Nat), held < s.get WRP_CTRL.FILT) ∧
    (∃ (s : State) (held : Nat), s.get WRP_CTRL.FILT ≤ held ∧ s.warpRuns = true) ∧
    (∃ (s : State) (t : Nat) (stamp : Nat) (last : Nat) (older : List Nat), (s.track t).times = last :: older ∧ stamp < last + 800) ∧
    (∃ (s : State) (t : Nat), t < 16 ∧ s.trackState t = 1 ∧ (s.track t).times = [] ∧ (s.track t).count = 0 ∧ s.get (WRP_T_CFG.SRC t) = 1) ∧
    (∃ (s : State) (t : Fin 16) (last : Nat) (older : List Nat), s.trackState t.val = 2 ∧ (s.track t.val).times = last :: older ∧
      (3 + s.get (WRP_T_CFG.AGE t.val)) * s.expected t.val ≤ 2 * (4 * s.time - last)) ∧
    (∃ (s : State) (t : Fin 16), s.trackState t.val ≠ 2) ∧
    (∃ (s : State) (t : Fin 16) (e : Nat), s.trackState t.val = 3 ∧ (s.track t.val).flyEnd = some e ∧ e ≤ s.time ∧ s.gathered t.val = false) ∧
    (∃ (s : State) (t : Fin 16) (e : Nat), s.trackState t.val = 3 ∧ (s.track t.val).flyEnd = some e ∧ e ≤ s.time ∧ s.gathered t.val = true) ∧
    (∃ (t : Nat), t < 16) ∧
    (∃ (s : State) (m : Master), s.mayWrite m = true ∧ s.hasWrp = true) ∧
    (∃ (s : State) (m : Master) (t : Fin 16) (low : Nat), s.mayWrite m = true ∧ s.hasWrp = true ∧ s.red.stampTimes.find m.val = some low ∧
      s.get (WRP_T_CFG.SRC t.val) = 2) ∧
    (∃ (s : State) (m : Master) (t : Fin 16), s.mayWrite m = true ∧ s.hasWrp = true ∧ (s.red.stampTimes.find m.val = none ∨
      s.get (WRP_T_CFG.SRC t.val) ≠ 2 ∨ s.trackState t.val = 0)) :=
  ⟨⟨(lab.set WRP_CTRL.FILT 1), 0, by decide +kernel⟩,
    ⟨(lab.set WRP_CTRL.EN 1), 200, by decide +kernel⟩,
    ⟨(let t : Nat := 0; let last : Nat := 0; let older : List Nat := []; lab.setTrack t (fun x => { x with times := last :: older })), 0, 0, 0, [],
      by decide +kernel⟩,
    ⟨(let t : Nat := 15;
      (((lab.set (WRP_T_STATE.LOCK t) 1).setTrack t (fun x => { x with times := [] })).setTrack t (fun x => { x with count := 0 })).set (WRP_T_CFG.SRC t) 1),
      15, by decide +kernel⟩,
    ⟨(let t : Fin 16 := 0; let last : Nat := 0; let older : List Nat := [];
      (lab.set (WRP_T_STATE.LOCK t.val) 2).setTrack t.val (fun x => { x with times := last :: older })), 0, 0, [], by decide +kernel⟩,
    ⟨(let t : Fin 16 := 0; lab.set (WRP_T_STATE.LOCK t.val) 1), 0, by decide +kernel⟩,
    ⟨(let t : Fin 16 := 0; let e : Nat := 0; (lab.set (WRP_T_STATE.LOCK t.val) 3).setTrack t.val (fun x => { x with flyEnd := some e })), 0, 0,
      by decide +kernel⟩,
    ⟨(let t : Fin 16 := 0; let e : Nat := 0;
      (((lab.set (WRP_T_STATE.LOCK t.val) 3).setTrack t.val (fun x => { x with flyEnd := some e })).set (WRP_T_CFG.SRC t.val) 2).setTrack t.val (fun x => { x with count := 4, wNum := 1, wDen := 4000000 })),
      0, 0, by decide +kernel⟩,
    ⟨15, by decide +kernel⟩,
    ⟨lab, 3, by decide +kernel⟩,
    ⟨(let m : Master := 3; let t : Fin 16 := 0; let low : Nat := 0; let s := lab;
      let s : State := { s with red := { s.red with stampTimes := s.red.stampTimes.put (m.val) (low) } }; s.set (WRP_T_CFG.SRC t.val) 2), 3, 0, 0,
      by decide +kernel⟩,
    ⟨lab, 3, 0, by decide +kernel⟩⟩

/-- A witness of each clause of `Obligations.Picks`. -/
theorem witness_picks :
    (∃ (s : State) (m : Master) (p : BitVec 8), s.mayWrite m = true ∧ s.hasWrp = true ∧ m.val < 4 ∧ s.get RED_CTRL.LOOM_BASE ≤ p.toNat) ∧
    (∃ (s : State) (m : Master) (p : BitVec 8) (w : Word), s.mayWrite m = true ∧ s.hasWrp = true ∧ p.toNat < s.get RED_CTRL.LOOM_BASE ∧
      s.armed p.toNat = false ∧ w.toNat.testBit 31 = true) ∧
    (∃ (s : State) (m : Master) (p : BitVec 8) (k : Fin 4), s.mayWrite m = true ∧ s.hasWrp = true ∧ p.toNat < s.get RED_CTRL.LOOM_BASE ∧
      s.armed p.toNat = true ∧ k ≠ 0) ∧
    (∃ (s : State) (m : Master) (p : BitVec 8), s.mayWrite m = true ∧ s.hasWrp = true ∧ p.toNat < s.get RED_CTRL.LOOM_BASE ∧ s.armed p.toNat = false) ∧
    (∃ (s : State) (m : Master) (w : Word), s.mayWrite m = true ∧ s.hasWrp = true ∧ RED_CTRL.WEFT_EN.of w = s.get RED_CTRL.WEFT_EN ∧ (∀ p : Nat,
      p < 256 → s.armed p = false ∧ s.allocated p = false)) ∧
    (∃ (s : State) (m : Master) (w : Word) (p : Nat), s.mayWrite m = true ∧ s.hasWrp = true ∧ p < 256 ∧ s.armed p = true ∧
      s.get RED_CTRL.LOOM_BASE ≤ p ∧ p < RED_CTRL.LOOM_BASE.of w) ∧
    (∃ (s : State) (p : BitVec 8), bitOf (s.pickWord p.toNat 0) 29 = false ∧ s.trackState (s.pickWord p.toNat 0 / 2 ^ 22 % 16) = 2 ∧
      s.mayFire p.toNat = true ∧
      nextCrossing (s.pickWord p.toNat 0 % 65536) (s.pickWord p.toNat 1 % 64) ((s.red.picks.find p.toNat).getD {}).seen ≤ (s.track (s.pickWord p.toNat 0 / 2 ^ 22 % 16)).phaseAt s.time) ∧
    (∃ (s : State) (p : BitVec 8), s.mayFire p.toNat = false) ∧
    (∃ (s : State) (p : BitVec 8), bitOf (s.pickWord p.toNat 0) 29 = true ∧ s.mayFire p.toNat = true ∧
      ((s.red.picks.find p.toNat).getD {}).due ≤ s.time) ∧
    (∃ (s : State) (p : BitVec 8), s.time < ((s.red.picks.find p.toNat).getD {}).due) ∧
    (∃ (s : State) (w : SampleWait) (rest : List SampleWait), s.red.samples = w :: rest ∧ w.mask = 0) ∧
    (∃ (s : State) (w : SampleWait) (rest : List SampleWait), s.red.samples = w :: rest ∧ s.time < w.at_ + us 2) ∧
    (∃ (s : State) (time : Nat) (tag : Nat) (slot : Nat) (rest : List (Nat × Nat × Nat)), s.fullService = true ∧ s.hasWrp = true ∧
      s.red.marks = (time, tag, slot) :: rest) ∧
    (∃ (s : State), s.fullService = true ∧ s.hasWrp = true ∧ s.red.marks = []) :=
  ⟨⟨(lab.set RED_CTRL.LOOM_BASE 128), 0, 255, by decide +kernel⟩,
    ⟨(lab.set RED_CTRL.LOOM_BASE 128), 0, 3, 0x80000000, by decide +kernel⟩,
    ⟨(let p : BitVec 8 := 3; (lab.putWin (pickAddr (p.toNat) 0) 0x80000000#32).set RED_CTRL.LOOM_BASE 128), 0, 3, 1, by decide +kernel⟩,
    ⟨(lab.set RED_CTRL.LOOM_BASE 128), 0, 3, by decide +kernel⟩,
    ⟨lab, 3, 0, by decide +kernel⟩,
    ⟨(let p : Nat := 199; (lab.putWin (pickAddr (p) 0) 0x80000000#32).set RED_CTRL.LOOM_BASE 100), 3, RED_CTRL.LOOM_BASE.put 200 0, 199,
      by decide +kernel⟩,
    ⟨(let p : BitVec 8 := 0; let s := lab; let s := (s.set (WRP_T_STATE.LOCK (s.pickWord p.toNat 0 / 2 ^ 22 % 16)) 2).set RED_CTRL.EN 1;
      let s := (s.putWin (pickAddr (p.toNat) 0) (s.win.get (pickAddr (p.toNat) 0) ||| 0x80000000#32)).setTrack 0 (fun x => { x with phase := 0, since := 0, inc := 2 ^ 40 });
      let s : State := { s with red := { s.red with picks := s.red.picks.put 0 { seen := 0 } } }; s), 0, by decide +kernel⟩,
    ⟨lab, 0, by decide +kernel⟩,
    ⟨(let p : BitVec 8 := 0; let s := lab.set RED_CTRL.EN 1;
      (s.putWin (pickAddr (p.toNat) 0) (s.win.get (pickAddr (p.toNat) 0) ||| 0x80000000#32)).putWin (pickAddr 0 0) 0xA0000000#32), 0,
      by decide +kernel⟩,
    ⟨(let s := lab; let s : State := { s with red := { s.red with picks := s.red.picks.put 0 { due := 100000000001 } } }; s), 0, by decide +kernel⟩,
    ⟨(let w : SampleWait := { ({ slot := 0, adc := 0, mask := 0, tag := 0, ch := 0, at_ := 0 } : SampleWait) with mask := 0 };
      let rest : List SampleWait := []; let s := lab; let s : State := { s with red := { s.red with samples := w :: rest } }; s),
      { ({ slot := 0, adc := 0, mask := 0, tag := 0, ch := 0, at_ := 0 } : SampleWait) with mask := 0 }, [], by decide +kernel⟩,
    ⟨(let w : SampleWait := { slot := 0, adc := 0, mask := 0, tag := 0, ch := 0, at_ := 100000000000 }; let rest : List SampleWait := [];
      let s := lab; let s : State := { s with red := { s.red with samples := w :: rest } }; s),
      { slot := 0, adc := 0, mask := 0, tag := 0, ch := 0, at_ := 100000000000 }, [], by decide +kernel⟩,
    ⟨(let time : Nat := 0; let tag : Nat := 0; let slot : Nat := 0; let rest : List (Nat × Nat × Nat) := []; let s := lab;
      let s : State := { s with red := { s.red with marks := (time, tag, slot) :: rest } }; s), 0, 0, 0, [], by decide +kernel⟩,
    ⟨(let s := lab; let s : State := { s with red := { s.red with marks := [] } }; s), by decide +kernel⟩⟩

/-- A witness of each clause of `Obligations.WeftTables`. -/
theorem witness_weft_tables :
    (∃ (s : State) (m : Master) (t : Fin 16), s.mayWrite m = true ∧ s.hasWrp = true ∧ (s.is (RED_W_CFG.ACT t.val) = true ∨ (s.weft t.val).learn ≠ 0)) ∧
    (∃ (s : State) (m : Master) (t : Fin 16), s.mayWrite m = true ∧ s.hasWrp = true ∧ s.is (RED_W_CFG.ACT t.val) = false ∧ (s.weft t.val).learn = 0) ∧
    (∃ (s : State) (m : Master) (t : Fin 16), s.mayWrite m = true ∧ s.hasWrp = true ∧ (s.weft t.val).learn = 0 ∧ s.is (RED_W_CFG.ACT t.val) = false) ∧
    (∃ (s : State) (m : Master) (t : Fin 16), s.mayWrite m = true ∧ s.hasWrp = true ∧ (s.weft t.val).learn = 0 ∧ s.is (RED_W_CFG.ACT t.val) = true) ∧
    (∃ (s : State) (m : Master) (t : Fin 16), s.mayWrite m = true ∧ s.hasWrp = true ∧ (s.weft t.val).learn = 0) ∧
    (∃ (s : State) (m : Master) (t : Fin 16), s.mayWrite m = true ∧ s.hasWrp = true ∧ (s.weft t.val).learn ≠ 0) ∧
    (∃ (s : State) (t : Fin 16), (s.weft t.val).learn = 1 ∧ s.trackState t.val = 2 ∧ (s.weft t.val).fadeLen = 0 ∧
      (s.weft t.val).revPhase / 2 ^ 48 < (s.track t.val).phaseAt s.time / 2 ^ 48) ∧
    (∃ (s : State) (t : Fin 16), s.trackState t.val ≠ 2) ∧
    (∃ (s : State) (t : Fin 16), (s.weft t.val).learn = 2 ∧ (s.weft t.val).revs < 256 ∧
      (s.weft t.val).revPhase + 2 ^ 48 ≤ (s.track t.val).phaseAt s.time) ∧
    (∃ (s : State) (t : Fin 16), (s.weft t.val).learn = 2 ∧ 256 ≤ (s.weft t.val).revs ∧ s.aliased t.val = true) ∧
    (∃ (s : State) (t : Fin 16), (s.weft t.val).learn = 2 ∧ 256 ≤ (s.weft t.val).revs ∧ s.aliased t.val = false ∧
      (s.weft t.val).bins.any (fun b => decide (b.2 < 4)) = true) ∧
    (∃ (s : State) (t : Fin 16), (s.weft t.val).learn = 2 ∧ 256 ≤ (s.weft t.val).revs ∧ s.aliased t.val = false ∧
      (s.weft t.val).bins.any (fun b => decide (b.2 < 4)) = false) ∧
    (∃ (s : State) (t : Fin 16), (s.weft t.val).fadeLen ≠ 0 ∧ (s.weft t.val).fadeAt + (s.weft t.val).fadeLen ≤ s.time) ∧
    (∃ (s : State) (t : Fin 16), (s.weft t.val).fadeLen = 0) :=
  ⟨⟨(let t : Fin 16 := 0; lab.set (RED_W_CFG.ACT t.val) 1), 3, 0, by decide +kernel⟩,
    ⟨(let t : Fin 16 := 0; lab.setWeft t.val (fun x => { x with learn := 0 })), 3, 0, by decide +kernel⟩,
    ⟨(let t : Fin 16 := 0; lab.setWeft t.val (fun x => { x with learn := 0 })), 3, 0, by decide +kernel⟩,
    ⟨(let t : Fin 16 := 0; (lab.setWeft t.val (fun x => { x with learn := 0 })).set (RED_W_CFG.ACT t.val) 1), 3, 0, by decide +kernel⟩,
    ⟨(let t : Fin 16 := 0; lab.setWeft t.val (fun x => { x with learn := 0 })), 3, 0, by decide +kernel⟩,
    ⟨(let t : Fin 16 := 0; lab.setWeft t.val (fun x => { x with learn := 1 })), 3, 0, by decide +kernel⟩,
    ⟨(let t : Fin 16 := 0;
      (((lab.setWeft t.val (fun x => { x with learn := 1 })).set (WRP_T_STATE.LOCK t.val) 2).setWeft t.val (fun x => { x with fadeLen := 0 })).setTrack t.val (fun x => { x with phase := 0, since := 0, inc := 2 ^ 40 })),
      0, by decide +kernel⟩,
    ⟨(let t : Fin 16 := 0; lab.set (WRP_T_STATE.LOCK t.val) 1), 0, by decide +kernel⟩,
    ⟨(let t : Fin 16 := 0;
      (lab.setWeft t.val (fun x => { x with learn := 2 })).setTrack t.val (fun x => { x with phase := 0, since := 0, inc := 2 ^ 40 })), 0,
      by decide +kernel⟩,
    ⟨(let t : Fin 16 := 0;
      ((((((lab.setWeft t.val (fun x => { x with learn := 2 })).setWeft t.val (fun x => { x with learn := 2, revs := 256, bins := [(0, 4)] })).setWeft 0 (fun x => { x with marks := [(0, 0), (1, 0)] })).set (WRP_T_STATE.LOCK 0) 2).set (WRP_T_STATE.LOCK 1) 2).setTrack 0 (fun x => { x with phase := 2 ^ 60 })).setTrack 1 (fun x => { x with phase := 2 ^ 60 })),
      0, by decide +kernel⟩,
    ⟨(let t : Fin 16 := 0;
      ((lab.setWeft t.val (fun x => { x with learn := 2 })).setWeft t.val (fun x => { x with learn := 2, revs := 256, bins := [(0, 4)] })).setWeft t.val (fun x => { x with bins := [(0, 3)] })),
      0, by decide +kernel⟩,
    ⟨(let t : Fin 16 := 0;
      (lab.setWeft t.val (fun x => { x with learn := 2 })).setWeft t.val (fun x => { x with learn := 2, revs := 256, bins := [(0, 4)] })), 0,
      by decide +kernel⟩,
    ⟨(let t : Fin 16 := 0; lab.setWeft t.val (fun x => { x with fadeLen := 100 })), 0, by decide +kernel⟩,
    ⟨(let t : Fin 16 := 0; lab.setWeft t.val (fun x => { x with fadeLen := 0 })), 0, by decide +kernel⟩⟩

/-- A witness of each clause of `Obligations.Measurements`. -/
theorem witness_measurements :
    (∃ (s : State) (adc : Fin 2) (c : Conversion) (start : Nat), s.mea.busy.find adc.val = some (c, start) ∧ start + 50 ≤ s.time ∧ c.ch = 0 ∧
      c.asker = .protect ∧ c.late = false ∧ s.mea.scanNext = false ∧ s.adcFailed 0 = false ∧ s.mea.requests = []) ∧
    (∃ (s : State) (adc : Fin 2) (c : Conversion) (start : Nat) (pos : Nat), s.mea.busy.find adc.val = some (c, start) ∧ start + 50 ≤ s.time ∧
      c.ch = 0 ∧ c.asker = .scan pos ∧ pos < 16 ∧ c.late = false ∧ s.mea.scanNext = false ∧ s.adcFailed 0 = false ∧ s.mea.requests = []) ∧
    (∃ (s : State) (adc : Fin 2) (c : Conversion) (start : Nat), s.mea.busy.find adc.val = some (c, start) ∧ s.time < start + 50) ∧
    (∃ (s : State) (ch : BitVec 8) (adc : Fin 3) (c : Conversion), s.scheduled ch.toNat adc.val = some c ∧ s.mode < 3) ∧
    (∃ (s : State) (ch : BitVec 8) (adc : Fin 3), s.scheduled ch.toNat adc.val = none) ∧
    (∃ (s : State) (c : Conversion), definedChannel c.ch = true ∧ s.adcFailed 0 = false ∧ (s.mea.busy.find 0).isSome = true ∧
      (s.mea.busy.find 1).isSome = true) ∧
    (∃ (c : Conversion), definedChannel c.ch = false) ∧
    (∃ (s : State), s.fullService = true ∧ s.is MEA_SCAN_CFG.EN = true ∧ s.mode < 3 ∧ s.mea.scanLeft = []) ∧
    (∃ (s : State), s.fullService = true ∧ s.is MEA_SCAN_CFG.EN = true ∧ s.mode < 3 ∧ s.mea.scanLeft ≠ []) ∧
    (∃ (s : State) (adc : Fin 2), s.is MEA_CTRL.BGCAL_EN = true ∧
      (s.mea.pairAt.find adc.val).getD 0 + 10 * 10000 * max 1 (s.get MEA_CTRL.CAL_INT) ≤ s.time) ∧
    (∃ (s : State) (n : Cell) (q : Nat), (s.cell n.val).quietAt = some q ∧ q + us 50 ≤ s.time ∧ (s.cellState n.val = 0 ∨ s.cellState n.val = 1 ∨
      s.cellState n.val = 4)) ∧
    (∃ (s : State) (n : Cell), s.cellState n.val = 3) ∧
    (∃ (s : State) (m : Master), s.mayWrite m = true) ∧
    (∃ (s : State) (m : Master), s.mayWrite m = true) ∧
    (∃ (s : State), s.fullService = true) ∧
    (∃ (s : State) (code : Nat) (tag : Nat) (ch : Nat) (start : Nat) (late : Bool) (rest : List (Nat × Nat × Nat × Nat × Bool)),
      s.fullService = true ∧ s.mea.fifo = (code, tag, ch, start, late) :: rest) ∧
    (∃ (s : State), s.fullService = true ∧ s.mea.fifo = []) :=
  ⟨⟨(let adc : Fin 2 := 0;
      let c : Conversion := { ({ cls := 5, ch := 0, asker := .protect } : Conversion) with ch := 0, asker := .protect, late := false };
      let start : Nat := 0; let s := lab; let s : State := { s with mea := { s.mea with busy := s.mea.busy.put (adc.val) ((c, start)) } };
      let s : State := { s with mea := { s.mea with scanNext := false } }; let s : State := { s with mea := { s.mea with requests := [] } }; s), 0,
      { ({ cls := 5, ch := 0, asker := .protect } : Conversion) with ch := 0, asker := .protect, late := false }, 0, by decide +kernel⟩,
    ⟨(let adc : Fin 2 := 0; let c : Conversion := { cls := 4, ch := 0, asker := .scan 2 }; let start : Nat := 0; let s := lab;
      let s : State := { s with mea := { s.mea with busy := s.mea.busy.put (adc.val) ((c, start)) } };
      let s : State := { s with mea := { s.mea with scanNext := false } }; let s : State := { s with mea := { s.mea with requests := [] } }; s), 0,
      { cls := 4, ch := 0, asker := .scan 2 }, 0, 2, by decide +kernel⟩,
    ⟨(let adc : Fin 2 := 0; let c : Conversion := { cls := 5, ch := 0, asker := .protect }; let start : Nat := 99999999951; let s := lab;
      let s : State := { s with mea := { s.mea with busy := s.mea.busy.put (adc.val) ((c, start)) } }; s), 0,
      { cls := 5, ch := 0, asker := .protect }, 99999999951, by decide +kernel⟩,
    ⟨lab, 0, 0, { cls := 1, ch := 0, asker := .protect }, by decide +kernel⟩,
    ⟨lab, 0x70, 0, by decide +kernel⟩,
    ⟨(let s := lab;
      let s : State := { s with mea := { s.mea with busy := [(0, ({ cls := 1, ch := 0, asker := .protect }, 0)), (1, ({ cls := 1, ch := 1, asker := .protect }, 0))] } };
      s), { cls := 5, ch := 0, asker := .protect }, by decide +kernel⟩,
    ⟨{ cls := 4, ch := 0x22, asker := .ctx 5 1 }, by decide +kernel⟩,
    ⟨(let s := lab.set MEA_SCAN_CFG.EN 1; let s : State := { s with mea := { s.mea with scanLeft := [] } }; s), by decide +kernel⟩,
    ⟨(let s := lab.set MEA_SCAN_CFG.EN 1; let s : State := { s with mea := { s.mea with scanLeft := [3] } }; s), by decide +kernel⟩,
    ⟨(lab.set MEA_CTRL.BGCAL_EN 1), 0, by decide +kernel⟩,
    ⟨(let n : Cell := 0; let q : Nat := 0; lab.setCell n.val (fun x => { x with quietAt := some q })), 0, 0, by decide +kernel⟩,
    ⟨(let n : Cell := 0; lab.set (CEL_STATUS.STATE n.val) 3), 0, by decide +kernel⟩,
    ⟨lab, 3, by decide +kernel⟩,
    ⟨lab, 3, by decide +kernel⟩,
    ⟨lab, by decide +kernel⟩,
    ⟨(let code : Nat := 0; let tag : Nat := 0; let ch : Nat := 0; let start : Nat := 0; let late : Bool := false;
      let rest : List (Nat × Nat × Nat × Nat × Bool) := []; let s := lab;
      let s : State := { s with mea := { s.mea with fifo := (code, tag, ch, start, late) :: rest } }; s), 0, 0, 0, 0, false, [], by decide +kernel⟩,
    ⟨(let s := lab; let s : State := { s with mea := { s.mea with fifo := [] } }; s), by decide +kernel⟩⟩

/-- A witness of each clause of `Obligations.Thermal`. -/
theorem witness_thermal :
    (∃ (s : State), s.getZ THM_STATUS.TDIE_MAX < s.getZ THM_DIE_SHUT.RISE ∧ s.getZ THM_DIE_WARN.RISE ≤ s.getZ THM_STATUS.TDIE_MAX ∧
      s.is THM_STATUS.DIE_WARN = false) ∧
    (∃ (s : State), s.getZ THM_STATUS.TDIE_MAX < s.getZ THM_DIE_SHUT.RISE ∧ s.getZ THM_DIE_THR.RISE ≤ s.getZ THM_STATUS.TDIE_MAX ∧
      s.is THM_STATUS.DIE_THR = false) ∧
    (∃ (s : State), s.getZ THM_STATUS.TDIE_MAX < s.getZ THM_DIE_SHUT.RISE ∧ s.getZ THM_STATUS.TDIE_MAX < s.getZ THM_DIE_WARN.FALL ∧
      s.getZ THM_STATUS.TDIE_MAX < s.getZ THM_DIE_WARN.RISE) ∧
    (∃ (s : State), s.getZ THM_DIE_SHUT.RISE ≤ s.getZ THM_STATUS.TDIE_MAX) ∧
    (∃ (s : State), s.fullService = true ∧ s.is THM_STATUS.DIE_THR = true ∧ s.thm.dieLast < s.getZ THM_STATUS.TDIE_MAX + 8 ∧ 80 < s.get THM_LIM.PDRV) ∧
    (∃ (s : State), s.fullService = true ∧ s.is THM_STATUS.DIE_THR = true ∧ s.thm.dieLast < s.getZ THM_STATUS.TDIE_MAX + 8 ∧ s.get THM_LIM.PDRV ≤ 80 ∧
      0 < limOf s.thm.dieLim .chb) ∧
    (∃ (s : State), s.fullService = true ∧ s.is THM_STATUS.DIE_THR = true ∧ s.getZ THM_STATUS.TDIE_MAX + 8 ≤ s.thm.dieLast) ∧
    (∃ (s : State), s.fullService = true ∧ s.is THM_STATUS.DIE_THR = false ∧ limOf s.thm.dieLim .trk < 100) ∧
    (∃ (s : State), s.fullService = true ∧ s.get THM_CELL_THR.CELLS = 0) ∧
    (∃ (s : State) (n : Nat), s.fullService = true ∧ n < 10 ∧ s.cellPresent n = true ∧ bitOf (s.get THM_CELL_THR.CELLS) n = true ∧
      s.thm.stageLast.find n = none) ∧
    (∃ (s : State), s.fullService = false) ∧
    (∃ (s : State), s.fullService = true ∧ (∀ n : Nat, n < 18 → s.target n ≤ 1500000) ∧
      s.gateBudget < s.cappedPower (fun b => match b with | .trk => s.get THM_NCAP.TRK | .chb => s.get THM_NCAP.CHB | .prt => s.get THM_NCAP.PRT) (fun n => (s.cell n).fmeas)) :=
  ⟨⟨(((lab.setZ THM_STATUS.TDIE_MAX 2400).setZ THM_DIE_WARN.RISE 2000).setZ THM_DIE_SHUT.RISE 2401), by decide +kernel⟩,
    ⟨(((lab.setZ THM_STATUS.TDIE_MAX 2400).setZ THM_DIE_THR.RISE 2000).setZ THM_DIE_SHUT.RISE 2401), by decide +kernel⟩,
    ⟨(((lab.setZ THM_DIE_SHUT.RISE 2401).setZ THM_DIE_WARN.RISE 2000).setZ THM_DIE_WARN.FALL 1900), by decide +kernel⟩,
    ⟨((lab.setZ THM_STATUS.TDIE_MAX 2400).setZ THM_DIE_SHUT.RISE 2000), by decide +kernel⟩,
    ⟨((lab.set THM_STATUS.DIE_THR 1).set THM_LIM.PDRV 81), by decide +kernel⟩,
    ⟨((lab.set THM_STATUS.DIE_THR 1).set THM_LIM.PDRV 80), by decide +kernel⟩,
    ⟨(let s := lab.set THM_STATUS.DIE_THR 1; let s : State := { s with thm := { s.thm with dieLast := 100000 } }; s), by decide +kernel⟩,
    ⟨(let s := lab; let s : State := { s with thm := { s.thm with dieLim := [(0, 50)] } }; s), by decide +kernel⟩,
    ⟨lab, by decide +kernel⟩,
    ⟨(lab.set THM_CELL_THR.CELLS 1), 0, by decide +kernel⟩,
    ⟨(lab.set GLB_REGION.SERVICE 1), by decide +kernel⟩,
    ⟨(let s := (((lab.set THM_NCAP.TRK 6).set (CEL_STATUS.STATE 0) 3).set (CEL_QG.QG_HS 0) 200).set THM_LIM.PDRV 1;
      let s : State := { s with mod := { s.mod with cells := (List.range 18).map (fun n => (n, ({ target := some 1500000, fmeas := 100000000 } : CellUnit))) } };
      s), by decide +kernel⟩⟩

/-- A witness of each clause of `Obligations.LoomScheduling`. -/
theorem witness_loom_scheduling :
    (∃ (s : State) (sh : Fin 8) (c : Nat), s.loomRuns = true ∧ s.is UPD_STATUS.HOLD = false ∧ (s.shuttle sh.val).off = false ∧
      (s.shuttle sh.val).ctx = none ∧ sh.val < s.lom.shuttles.length ∧ s.firstBy 2 (fun _ => true) = some c ∧ (s.context c).rom = none ∧
      s.cget (CTX.PC c) < 0x4000) ∧
    (∃ (s : State) (sh : Fin 8) (c : Nat) (r : Nat), s.loomRuns = true ∧ s.is UPD_STATUS.HOLD = false ∧ (s.shuttle sh.val).off = false ∧
      (s.shuttle sh.val).ctx = some r ∧ s.firstBy 2 (fun _ => true) = some c ∧ s.lowestRunning = some r ∧ s.cget (CTX.PRIO r) < s.cget (CTX.PRIO c)) ∧
    (∃ (s : State), (s.loomRuns = false ∨ s.firstBy 2 (fun _ => true) = none)) ∧
    (∃ (s : State) (sh : Fin 8) (c : Nat), (s.shuttle sh.val).ctx = some c ∧ s.get LOM_CTRL.QUANTUM ≤ (s.shuttle sh.val).count ∧
      (s.firstBy 2 (fun d => decide (s.cget (CTX.PRIO c) ≤ s.cget (CTX.PRIO d)))).isSome = true) ∧
    (∃ (s : State) (sh : Fin 8), (s.shuttle sh.val).count < s.get LOM_CTRL.QUANTUM) ∧
    (∃ (s : State) (c : Nat), s.firstBy 5 (fun c => (s.openSlot c).isSome) = some c) ∧
    (∃ (s : State), s.firstBy 5 (fun c => (s.openSlot c).isSome) = none) ∧
    (∃ (s : State) (c : CtxId) (r : Nat), s.loomRuns = true ∧ s.is UPD_STATUS.HOLD = false ∧ s.away c = false ∧ s.cstate c = 1 ∧
      s.cget (CTX.PICKSTART c) = 1 ∧ bitOf (s.cget (CTX.EVPEND c)) 0 = true ∧ (s.context c).hasRun = true ∧
      s.freeRecord (s.cget (CTX.OWNER c)) = some r) ∧
    (∃ (s : State) (c : CtxId), (s.cstate c ≠ 1 ∨ s.cget (CTX.PICKSTART c) ≠ 1)) ∧
    (∃ (s : State) (c : CtxId) (t0 : Nat), (s.context c).shedAt = some t0 ∧ t0 ≤ s.time ∧ s.shedHolds c = true ∧ 2 ≤ s.cstate c ∧ s.cstate c ≤ 5) ∧
    (∃ (s : State) (c : CtxId), (s.context c).shedAt = none) ∧
    (∃ (s : State) (c : CtxId) (t0 : Nat), (s.context c).freezeAt = some t0 ∧ t0 ≤ s.time ∧ (s.context c).frozen = true ∧ 2 ≤ s.cstate c ∧
      s.cstate c ≤ 5) ∧
    (∃ (s : State) (c : CtxId), (s.context c).freezeAt = none) ∧
    (∃ (s : State) (k : Nat), s.lom.requests = [] ∧ s.lom.quietSince + ms (clampN 10 60000 (s.get LOM_SHED_CFG.RESTORE_DLY)) ≤ s.time ∧
      s.lom.lastRestore + ms (clampN 10 60000 (s.get LOM_SHED_CFG.RESTORE_DLY)) ≤ s.time ∧ s.peerLive = false ∧
      (List.range 8).find? (fun k => bitOf (s.get LOM_SHED_STATE.BY_AUTO) k) = some k ∧ 11 * s.declared k ≤ 10 * s.lom.spare) ∧
    (∃ (s : State), s.lom.requests ≠ []) ∧
    (∃ (s : State), s.cstate 0 = 8) ∧
    (∃ (s : State), s.cstate 0 ≠ 8) :=
  ⟨⟨(let sh : Fin 8 := 0; let c : Nat := 5; let s := lab.set LOM_CTRL.EN 1;
      let s : State := { s with lom := { s.lom with shuttles := s.lom.shuttles.set (sh.val) { s.shuttle (sh.val) with off := false } } };
      let s : State := { s with lom := { s.lom with shuttles := s.lom.shuttles.set (sh.val) { s.shuttle (sh.val) with ctx := none } } };
      (s.setContext c (fun x => { x with rom := none })).cset (CTX.STATE 5) 2), 0, 5, by decide +kernel⟩,
    ⟨(let sh : Fin 8 := 0; let r : Nat := 6; let s := lab.set LOM_CTRL.EN 1;
      let s : State := { s with lom := { s.lom with shuttles := s.lom.shuttles.set (sh.val) { s.shuttle (sh.val) with off := false } } };
      let s : State := { s with lom := { s.lom with shuttles := s.lom.shuttles.set (sh.val) { s.shuttle (sh.val) with ctx := some r } } };
      (((s.cset (CTX.STATE 5) 2).cset (CTX.PRIO 5) 9).cset (CTX.STATE 6) 3).cset (CTX.PRIO 6) 4), 0, 5, 6, by decide +kernel⟩,
    ⟨lab, by decide +kernel⟩,
    ⟨(let sh : Fin 8 := 0; let c : Nat := 5; let s := lab;
      let s : State := { s with lom := { s.lom with shuttles := s.lom.shuttles.set (sh.val) { s.shuttle (sh.val) with ctx := some c } } };
      let s := (s.cset (CTX.STATE 6) 2).set LOM_CTRL.QUANTUM 8;
      let s : State := { s with lom := { s.lom with shuttles := [{ ctx := some 5, count := 8 }, {}, {}, {}, {}, {}, {}, {}] } }; s), 0, 5,
      by decide +kernel⟩,
    ⟨(lab.set LOM_CTRL.QUANTUM 8), 0, by decide +kernel⟩,
    ⟨(lab.cset (CTX.STATE 7) 5), 7, by decide +kernel⟩,
    ⟨lab, by decide +kernel⟩,
    ⟨(let c : CtxId := 5;
      ((((lab.set LOM_CTRL.EN 1).cset (CTX.STATE c) 1).cset (CTX.PICKSTART c) 1).setContext c (fun x => { x with hasRun := true })).cset (CTX.EVPEND c) 1),
      5, 0, by decide +kernel⟩,
    ⟨lab, 5, by decide +kernel⟩,
    ⟨(let c : CtxId := 5; let t0 : Nat := 0;
      ((((lab.setContext c (fun x => { x with shedAt := some t0 })).cset (CTX.STATE c) 2).set LOM_SHED_STATE.SHED 1).cset (CTX.SHED c) 0).set LOM_CTRL.PROT 8),
      5, 0, by decide +kernel⟩,
    ⟨(let c : CtxId := 5; lab.setContext c (fun x => { x with shedAt := none })), 5, by decide +kernel⟩,
    ⟨(let c : CtxId := 5; let t0 : Nat := 0;
      ((lab.setContext c (fun x => { x with freezeAt := some t0 })).cset (CTX.STATE c) 2).setContext c (fun x => { x with frozenOwner := true })), 5,
      0, by decide +kernel⟩,
    ⟨(let c : CtxId := 5; lab.setContext c (fun x => { x with freezeAt := none })), 5, by decide +kernel⟩,
    ⟨(let s := lab; let s : State := { s with lom := { s.lom with requests := [] } };
      (s.set LOM_SHED_STATE.BY_AUTO 4).set LOM_SHED_CFG.RESTORE_DLY 10), 2, by decide +kernel⟩,
    ⟨(let s := lab; let s : State := { s with lom := { s.lom with requests := [{ who := 1, excess := 10 }] } }; s), by decide +kernel⟩,
    ⟨(lab.cset (CTX.STATE 0) 8), by decide +kernel⟩,
    ⟨(lab.cset (CTX.STATE 0) 2), by decide +kernel⟩⟩

/-- A witness of each clause of `Obligations.ContextCommands`. -/
theorem witness_context_commands :
    (∃ (s : State) (m : Master) (c : CtxId), s.mayWrite m = true ∧ s.away c = false ∧ c.val ≠ 0 ∧ s.cstate c = 0) ∧
    (∃ (s : State) (m : Master) (c : CtxId), s.mayWrite m = true ∧ s.away c = false ∧ s.cstate c ≠ 0 ∧ s.cget (CTX.OWNER c) ≠ m.val) ∧
    (∃ (s : State) (m : Master) (c : CtxId), s.mayWrite m = true ∧ s.away c = false ∧ c.val ≠ 0 ∧ s.owns m c = true ∧ (s.cstate c = 1 ∨
      s.cstate c = 8)) ∧
    (∃ (s : State) (m : Master) (c : CtxId), s.mayWrite m = true ∧ s.away c = false ∧ c.val ≠ 0 ∧ s.owns m c = true ∧ s.cstate c ≠ 1 ∧ s.cstate c ≠ 8) ∧
    (∃ (s : State) (m : Master) (c : CtxId), s.mayWrite m = true ∧ s.away c = false ∧ s.owns m c = true ∧ (s.context c).wait ≠ some .commit) ∧
    (∃ (s : State) (m : Master) (c : CtxId), s.mayWrite m = true ∧ s.away c = false ∧ s.owns m c = true ∧ (s.context c).wait = some .commit) ∧
    (∃ (s : State) (m : Master) (c : CtxId), s.mayWrite m = true ∧ s.away c = false ∧ s.owns m c = true ∧ (s.context c).wait = none) ∧
    (∃ (s : State) (m : Master) (c : CtxId), s.mayWrite m = true ∧ s.away c = false ∧ s.owns m c = false) ∧
    (∃ (s : State) (m : Master) (c : CtxId), s.mayWrite m = true ∧ s.away c = false ∧ s.owns m c = true ∧ s.cget (CTX.TX c) = 0 ∧ 2 ≤ s.cstate c ∧
      s.cstate c ≤ 5) ∧
    (∃ (s : State) (m : Master) (c : CtxId), s.mayWrite m = true ∧ s.away c = false ∧ s.owns m c = true ∧ s.cget (CTX.TX c) = 1) ∧
    (∃ (s : State) (m : Master) (c : CtxId), s.mayWrite m = true ∧ s.away c = false ∧ s.owns m c = true ∧ s.cstate c = 6 ∧
      (s.context c).frozenControl = false ∧ (s.context c).frozenUpdate = false ∧ s.shedHolds c = false ∧ (s.context c).wait = none) ∧
    (∃ (s : State) (m : Master), s.mayWrite m = true ∧ s.owns m (s.get LOM_CTXSEL.CTX) = true ∧ s.cstate (s.get LOM_CTXSEL.CTX) = 1) ∧
    (∃ (s : State) (m : Master) (k : Fin 32), s.mayWrite m = true ∧ (k.val < 2 ∨ 4 < k.val ∨ s.cstate (s.get LOM_CTXSEL.CTX) ≠ 1)) :=
  ⟨⟨(let c : CtxId := 5; lab.cset (CTX.STATE c) 0), 3, 5, by decide +kernel⟩,
    ⟨(let c : CtxId := 5; lab.cset (CTX.STATE c) 1), 3, 5, by decide +kernel⟩,
    ⟨(let m : Master := 3; let c : CtxId := 5; ((lab.cset (CTX.STATE c) 2).cset (CTX.OWNER c) m.val).cset (CTX.STATE c) 1), 3, 5, by decide +kernel⟩,
    ⟨(let m : Master := 3; let c : CtxId := 5; (lab.cset (CTX.STATE c) 2).cset (CTX.OWNER c) m.val), 3, 5, by decide +kernel⟩,
    ⟨(let m : Master := 3; let c : CtxId := 5; (lab.cset (CTX.STATE c) 2).cset (CTX.OWNER c) m.val), 3, 5, by decide +kernel⟩,
    ⟨(let m : Master := 3; let c : CtxId := 5;
      ((lab.cset (CTX.STATE c) 2).cset (CTX.OWNER c) m.val).setContext c (fun x => { x with wait := some .commit })), 3, 5, by decide +kernel⟩,
    ⟨(let m : Master := 3; let c : CtxId := 5; ((lab.cset (CTX.STATE c) 2).cset (CTX.OWNER c) m.val).setContext c (fun x => { x with wait := none })),
      3, 5, by decide +kernel⟩,
    ⟨lab, 3, 5, by decide +kernel⟩,
    ⟨(let m : Master := 3; let c : CtxId := 5; ((lab.cset (CTX.STATE c) 2).cset (CTX.OWNER c) m.val).cset (CTX.TX c) 0), 3, 5, by decide +kernel⟩,
    ⟨(let m : Master := 3; let c : CtxId := 5; ((lab.cset (CTX.STATE c) 2).cset (CTX.OWNER c) m.val).cset (CTX.TX c) 1), 3, 5, by decide +kernel⟩,
    ⟨(let m : Master := 3; let c : CtxId := 5;
      (((((lab.cset (CTX.STATE c) 2).cset (CTX.OWNER c) m.val).cset (CTX.STATE c) 6).setContext c (fun x => { x with frozenControl := false })).setContext c (fun x => { x with frozenUpdate := false })).setContext c (fun x => { x with wait := none })),
      3, 5, by decide +kernel⟩,
    ⟨(let m : Master := 3; let s := lab; let s := s.cset (CTX.STATE (s.get LOM_CTXSEL.CTX)) 2;
      let s := s.cset (CTX.OWNER (s.get LOM_CTXSEL.CTX)) m.val; s.cset (CTX.STATE (s.get LOM_CTXSEL.CTX)) 1), 3, by decide +kernel⟩,
    ⟨lab, 3, 0, by decide +kernel⟩⟩

/-- A witness of each clause of `Obligations.LoomMemory`. -/
theorem witness_loom_memory :
    (∃ (s : State) (m : Master), s.mayWrite m = true ∧ s.peerLive = false) ∧
    (∃ (s : State) (m : Master), s.mayWrite m = true ∧ s.peerLive = false) ∧
    (∃ (s : State) (m : Master) (a : Nat), s.mayWrite m = true ∧ 0x8000 ≤ a ∧ a < 0xC000 ∧
      s.pageLocked ((s.get LOM_PMPAGE.PAGE * 4096 + (a - 0x8000) / 4) / 256) = false ∧
      s.pageUsed ((s.get LOM_PMPAGE.PAGE * 4096 + (a - 0x8000) / 4) / 256) = false) ∧
    (∃ (s : State) (m : Master) (a : Nat), s.mayWrite m = true ∧ 0x8000 ≤ a ∧ a < 0xC000 ∧
      s.pageLocked ((s.get LOM_PMPAGE.PAGE * 4096 + (a - 0x8000) / 4) / 256) = true) ∧
    (∃ (s : State) (m : Master) (a : Nat), s.mayWrite m = true ∧ 0x8000 ≤ a ∧ a < 0xC000 ∧
      s.pageLocked ((s.get LOM_PMPAGE.PAGE * 4096 + (a - 0x8000) / 4) / 256) = false ∧
      s.pageUsed ((s.get LOM_PMPAGE.PAGE * 4096 + (a - 0x8000) / 4) / 256) = true) ∧
    (∃ (s : State) (m : Master) (a : Nat), (s.mayWrite m = false ∨ a < 0x8000 ∨ 0xC000 ≤ a)) ∧
    (∃ (s : State) (m : Master), s.mayWrite m = true) ∧
    (∃ (s : State) (m : Master), s.mayWrite m = true) ∧
    (∃ (s : State) (m : Master) (p : Fin 64), s.mayWrite m = true ∧ s.pageUsed p.val = false) ∧
    (∃ (s : State) (m : Master) (p : Fin 64), s.mayWrite m = true ∧ s.pageUsed p.val = true) ∧
    (∃ (s : State) (m : Master), s.mayWrite m = true) ∧
    (∃ (s : State), s.fullService = true) :=
  ⟨⟨lab, 3, by decide +kernel⟩,
    ⟨lab, 3, by decide +kernel⟩,
    ⟨lab, 3, 49151, by decide +kernel⟩,
    ⟨(lab.set LOM_PMLOCK0.LOCK 0x8000), 3, 0xBFFC, by decide +kernel⟩,
    ⟨(lab.cset (CTX.STATE 5) 3), 3, 0x8000, by decide +kernel⟩,
    ⟨lab, 3, 0, by decide +kernel⟩,
    ⟨lab, 3, by decide +kernel⟩,
    ⟨lab, 3, by decide +kernel⟩,
    ⟨lab, 3, 0, by decide +kernel⟩,
    ⟨(lab.cset (CTX.STATE 5) 3), 3, 0, by decide +kernel⟩,
    ⟨lab, 3, by decide +kernel⟩,
    ⟨lab, by decide +kernel⟩⟩

/-- A witness of each clause of `Obligations.VerkArithmetic`. -/
theorem witness_verk_arithmetic :
    (∃ (s : State) (c : CtxId) (d : Reg) (a : Reg) (y : Operand), Issues s c (.add c d a y)) ∧
    (∃ (s : State) (c : CtxId) (d : Reg) (a : Reg) (y : Operand), Issues s c (.sub c d a y)) ∧
    (∃ (s : State) (c : CtxId) (d : Reg) (a : Reg) (y : Operand), Issues s c (.and c d a y)) ∧
    (∃ (s : State) (c : CtxId) (d : Reg) (a : Reg) (y : Operand), Issues s c (.or c d a y)) ∧
    (∃ (s : State) (c : CtxId) (d : Reg) (a : Reg) (y : Operand), Issues s c (.xor c d a y)) ∧
    (∃ (s : State) (c : CtxId) (d : Reg) (a : Reg) (y : Operand), Issues s c (.shl c d a y)) ∧
    (∃ (s : State) (c : CtxId) (d : Reg) (a : Reg) (y : Operand), Issues s c (.shr c d a y)) ∧
    (∃ (s : State) (c : CtxId) (d : Reg) (a : Reg) (y : Operand), Issues s c (.mul c d a y)) ∧
    (∃ (s : State) (c : CtxId) (d : Reg) (a : Reg) (y : Operand), Issues s c (.min c d a y)) ∧
    (∃ (s : State) (c : CtxId) (d : Reg) (a : Reg) (y : Operand), Issues s c (.max c d a y)) ∧
    (∃ (s : State) (c : CtxId) (d : Reg) (a : Reg) (y : Operand), Issues s c (.clamp c d a y)) ∧
    (∃ (s : State) (c : CtxId) (d : Reg) (imm : BitVec 22), Issues s c (.movi c d imm)) ∧
    (∃ (s : State) (c : CtxId) (d : Reg) (imm : BitVec 16), Issues s c (.movhi c d imm)) :=
  ⟨⟨(let c : CtxId := 5; let d : Reg := 1; let a : Reg := 2; let y : Operand := (.reg 4);
      let s := ((lab.set LOM_CTRL.EN 1).cset (CTX.STATE c) 3).cset (CTX.PC c) 0x100;
      let s : State := { s with pm := s.pm.set 0x100 ((verkWord (.add c d a y)).getD 0) }; s), 5, 1, 2, (.reg 4), issues_of (by decide +kernel)⟩,
    ⟨(let c : CtxId := 5; let d : Reg := 1; let a : Reg := 2; let y : Operand := (.reg 4);
      let s := ((lab.set LOM_CTRL.EN 1).cset (CTX.STATE c) 3).cset (CTX.PC c) 0x100;
      let s : State := { s with pm := s.pm.set 0x100 ((verkWord (.sub c d a y)).getD 0) }; s), 5, 1, 2, (.reg 4), issues_of (by decide +kernel)⟩,
    ⟨(let c : CtxId := 5; let d : Reg := 1; let a : Reg := 2; let y : Operand := (.reg 4);
      let s := ((lab.set LOM_CTRL.EN 1).cset (CTX.STATE c) 3).cset (CTX.PC c) 0x100;
      let s : State := { s with pm := s.pm.set 0x100 ((verkWord (.and c d a y)).getD 0) }; s), 5, 1, 2, (.reg 4), issues_of (by decide +kernel)⟩,
    ⟨(let c : CtxId := 5; let d : Reg := 1; let a : Reg := 2; let y : Operand := (.reg 4);
      let s := ((lab.set LOM_CTRL.EN 1).cset (CTX.STATE c) 3).cset (CTX.PC c) 0x100;
      let s : State := { s with pm := s.pm.set 0x100 ((verkWord (.or c d a y)).getD 0) }; s), 5, 1, 2, (.reg 4), issues_of (by decide +kernel)⟩,
    ⟨(let c : CtxId := 5; let d : Reg := 1; let a : Reg := 2; let y : Operand := (.reg 4);
      let s := ((lab.set LOM_CTRL.EN 1).cset (CTX.STATE c) 3).cset (CTX.PC c) 0x100;
      let s : State := { s with pm := s.pm.set 0x100 ((verkWord (.xor c d a y)).getD 0) }; s), 5, 1, 2, (.reg 4), issues_of (by decide +kernel)⟩,
    ⟨(let c : CtxId := 5; let d : Reg := 1; let a : Reg := 2; let y : Operand := (.reg 4);
      let s := ((lab.set LOM_CTRL.EN 1).cset (CTX.STATE c) 3).cset (CTX.PC c) 0x100;
      let s : State := { s with pm := s.pm.set 0x100 ((verkWord (.shl c d a y)).getD 0) }; s), 5, 1, 2, (.reg 4), issues_of (by decide +kernel)⟩,
    ⟨(let c : CtxId := 5; let d : Reg := 1; let a : Reg := 2; let y : Operand := (.reg 4);
      let s := ((lab.set LOM_CTRL.EN 1).cset (CTX.STATE c) 3).cset (CTX.PC c) 0x100;
      let s : State := { s with pm := s.pm.set 0x100 ((verkWord (.shr c d a y)).getD 0) }; s), 5, 1, 2, (.reg 4), issues_of (by decide +kernel)⟩,
    ⟨(let c : CtxId := 5; let d : Reg := 1; let a : Reg := 2; let y : Operand := (.reg 4);
      let s := ((lab.set LOM_CTRL.EN 1).cset (CTX.STATE c) 3).cset (CTX.PC c) 0x100;
      let s : State := { s with pm := s.pm.set 0x100 ((verkWord (.mul c d a y)).getD 0) }; s), 5, 1, 2, (.reg 4), issues_of (by decide +kernel)⟩,
    ⟨(let c : CtxId := 5; let d : Reg := 1; let a : Reg := 2; let y : Operand := (.reg 4);
      let s := ((lab.set LOM_CTRL.EN 1).cset (CTX.STATE c) 3).cset (CTX.PC c) 0x100;
      let s : State := { s with pm := s.pm.set 0x100 ((verkWord (.min c d a y)).getD 0) }; s), 5, 1, 2, (.reg 4), issues_of (by decide +kernel)⟩,
    ⟨(let c : CtxId := 5; let d : Reg := 1; let a : Reg := 2; let y : Operand := (.reg 4);
      let s := ((lab.set LOM_CTRL.EN 1).cset (CTX.STATE c) 3).cset (CTX.PC c) 0x100;
      let s : State := { s with pm := s.pm.set 0x100 ((verkWord (.max c d a y)).getD 0) }; s), 5, 1, 2, (.reg 4), issues_of (by decide +kernel)⟩,
    ⟨(let c : CtxId := 5; let d : Reg := 1; let a : Reg := 2; let y : Operand := (.reg 4);
      let s := ((lab.set LOM_CTRL.EN 1).cset (CTX.STATE c) 3).cset (CTX.PC c) 0x100;
      let s : State := { s with pm := s.pm.set 0x100 ((verkWord (.clamp c d a y)).getD 0) }; s), 5, 1, 2, (.reg 4), issues_of (by decide +kernel)⟩,
    ⟨(let c : CtxId := 5; let d : Reg := 1; let imm : BitVec 22 := 0; let s := ((lab.set LOM_CTRL.EN 1).cset (CTX.STATE c) 3).cset (CTX.PC c) 0x100;
      let s : State := { s with pm := s.pm.set 0x100 ((verkWord (.movi c d imm)).getD 0) }; s), 5, 1, 0, issues_of (by decide +kernel)⟩,
    ⟨(let c : CtxId := 5; let d : Reg := 1; let imm : BitVec 16 := 0; let s := ((lab.set LOM_CTRL.EN 1).cset (CTX.STATE c) 3).cset (CTX.PC c) 0x100;
      let s : State := { s with pm := s.pm.set 0x100 ((verkWord (.movhi c d imm)).getD 0) }; s), 5, 1, 0, issues_of (by decide +kernel)⟩⟩

/-- A witness of each clause of `Obligations.VerkMemory`. -/
theorem witness_verk_memory :
    (∃ (s : State) (c : CtxId) (w : Word), s.issues c w = true ∧ verkDecode c w = none ∧ (c.val = 0 → s.lom.ctx0Restart = none)) ∧
    (∃ (s : State) (c : CtxId) (w : Word), (s.issues c w = false ∨ (verkDecode c w).isSome = true)) ∧
    (∃ (s : State) (c : CtxId) (d : Reg) (a : Reg) (y : Operand), Issues s c (.ld c d a y) ∧ dataAddress (s.sumAY c a.val y).toNat = true ∧
      s.cget (CTX.TX c) = 0 ∧ (s.context c).txAddrs = []) ∧
    (∃ (s : State) (c : CtxId) (d : Reg) (a : Reg) (y : Operand), Issues s c (.ld c d a y) ∧ dataAddress (s.sumAY c a.val y).toNat = true ∧
      (s.context c).txAddrs.contains (s.sumAY c a.val y).toNat = true) ∧
    (∃ (s : State) (c : CtxId) (d : Reg) (a : Reg) (y : Operand), Issues s c (.ld c d a y) ∧ dataAddress (s.sumAY c a.val y).toNat = false ∧
      (c.val = 0 → s.lom.ctx0Restart = none)) ∧
    (∃ (s : State) (c : CtxId) (d : Reg) (a : Reg) (y : Operand), Issues s c (.st c d a y) ∧ dataAddress (s.sumAY c a.val y).toNat = true ∧
      s.cget (CTX.TX c) = 0) ∧
    (∃ (s : State) (c : CtxId) (d : Reg) (a : Reg) (y : Operand), Issues s c (.st c d a y) ∧ dataAddress (s.sumAY c a.val y).toNat = true ∧
      s.cget (CTX.TX c) = 1 ∧ (s.context c).txAddrs.length < 32 ∧ (s.context c).txAddrs.contains (s.sumAY c a.val y).toNat = false) ∧
    (∃ (s : State) (c : CtxId) (d : Reg) (a : Reg) (y : Operand), Issues s c (.st c d a y) ∧ dataAddress (s.sumAY c a.val y).toNat = true ∧
      s.cget (CTX.TX c) = 1 ∧ 32 ≤ (s.context c).txAddrs.length ∧ (s.context c).txAddrs.contains (s.sumAY c a.val y).toNat = false ∧ (c.val = 0 →
      s.lom.ctx0Restart = none)) ∧
    (∃ (s : State) (c : CtxId) (d : Reg) (a : Reg) (y : Operand), Issues s c (.st c d a y) ∧ dataAddress (s.sumAY c a.val y).toNat = false ∧
      (c.val = 0 → s.lom.ctx0Restart = none)) ∧
    (∃ (s : State) (c : CtxId) (d : Reg) (a : Reg) (y : Operand), Issues s c (.rdr c d a y) ∧ (s.sumAY c a.val y).toNat % 4 = 0 ∧
      (s.sumAY c a.val y).toNat < 0x2000 ∧ s.absentAddr (s.sumAY c a.val y).toNat = false) ∧
    (∃ (s : State) (c : CtxId) (d : Reg) (a : Reg) (y : Operand), Issues s c (.rdr c d a y) ∧ (s.sumAY c a.val y).toNat % 4 = 0 ∧
      (s.sumAY c a.val y).toNat < 0x2000 ∧ s.absentAddr (s.sumAY c a.val y).toNat = true ∧ (c.val = 0 → s.lom.ctx0Restart = none)) ∧
    (∃ (s : State) (c : CtxId) (d : Reg) (a : Reg) (y : Operand), Issues s c (.rdr c d a y) ∧ ((s.sumAY c a.val y).toNat % 4 ≠ 0 ∨
      0x2000 ≤ (s.sumAY c a.val y).toNat) ∧ (c.val = 0 → s.lom.ctx0Restart = none)) :=
  ⟨⟨(let s := ((lab.set LOM_CTRL.EN 1).cset (CTX.STATE 5) 3).cset (CTX.PC 5) 0x3FFF; let s : State := { s with pm := s.pm.set 0x3FFF 0xFFFFFFFF#32 };
      s), 5, 0xFFFFFFFF, by decide +kernel⟩,
    ⟨lab, 5, 0, by decide +kernel⟩,
    ⟨(let c : CtxId := 5; let d : Reg := 1; let a : Reg := 2; let y : Operand := (.reg 4);
      let s := ((lab.set LOM_CTRL.EN 1).cset (CTX.STATE c) 3).cset (CTX.PC c) 0x100;
      let s : State := { s with pm := s.pm.set 0x100 ((verkWord (.ld c d a y)).getD 0) };
      (s.cset (CTX.TX c) 0).setContext c (fun x => { x with txAddrs := [] })), 5, 1, 2, (.reg 4), issues_of (by decide +kernel), by decide +kernel⟩,
    ⟨(let c : CtxId := 5; let d : Reg := 1; let a : Reg := 2; let y : Operand := (.reg 4);
      let s := ((lab.set LOM_CTRL.EN 1).cset (CTX.STATE c) 3).cset (CTX.PC c) 0x100;
      let s : State := { s with pm := s.pm.set 0x100 ((verkWord (.ld c d a y)).getD 0) }; s.setContext c (fun x => { x with txAddrs := [0] })), 5, 1,
      2, (.reg 4), issues_of (by decide +kernel), by decide +kernel⟩,
    ⟨(let c : CtxId := 5; let d : Reg := 1; let a : Reg := 2; let y : Operand := (.reg 4);
      let s := ((lab.set LOM_CTRL.EN 1).cset (CTX.STATE c) 3).cset (CTX.PC c) 0x100;
      let s : State := { s with pm := s.pm.set 0x100 ((verkWord (.ld c d a y)).getD 0) }; s.setG c a.val 0x4000), 5, 1, 2, (.reg 4),
      issues_of (by decide +kernel), by decide +kernel⟩,
    ⟨(let c : CtxId := 5; let d : Reg := 1; let a : Reg := 2; let y : Operand := (.reg 4);
      let s := ((lab.set LOM_CTRL.EN 1).cset (CTX.STATE c) 3).cset (CTX.PC c) 0x100;
      let s : State := { s with pm := s.pm.set 0x100 ((verkWord (.st c d a y)).getD 0) }; s.cset (CTX.TX c) 0), 5, 1, 2, (.reg 4),
      issues_of (by decide +kernel), by decide +kernel⟩,
    ⟨(let c : CtxId := 5; let d : Reg := 1; let a : Reg := 2; let y : Operand := (.reg 4);
      let s := ((lab.set LOM_CTRL.EN 1).cset (CTX.STATE c) 3).cset (CTX.PC c) 0x100;
      let s : State := { s with pm := s.pm.set 0x100 ((verkWord (.st c d a y)).getD 0) }; s.cset (CTX.TX c) 1), 5, 1, 2, (.reg 4),
      issues_of (by decide +kernel), by decide +kernel⟩,
    ⟨(let c : CtxId := 5; let d : Reg := 1; let a : Reg := 2; let y : Operand := (.reg 4);
      let s := ((lab.set LOM_CTRL.EN 1).cset (CTX.STATE c) 3).cset (CTX.PC c) 0x100;
      let s : State := { s with pm := s.pm.set 0x100 ((verkWord (.st c d a y)).getD 0) };
      (s.cset (CTX.TX c) 1).setContext c (fun x => { x with txAddrs := (List.range 32).map (fun k => 4 * k + 4) })), 5, 1, 2, (.reg 4),
      issues_of (by decide +kernel), by decide +kernel⟩,
    ⟨(let c : CtxId := 5; let d : Reg := 1; let a : Reg := 2; let y : Operand := (.reg 4);
      let s := ((lab.set LOM_CTRL.EN 1).cset (CTX.STATE c) 3).cset (CTX.PC c) 0x100;
      let s : State := { s with pm := s.pm.set 0x100 ((verkWord (.st c d a y)).getD 0) }; s.setG c a.val 0x4000), 5, 1, 2, (.reg 4),
      issues_of (by decide +kernel), by decide +kernel⟩,
    ⟨(let c : CtxId := 5; let d : Reg := 1; let a : Reg := 2; let y : Operand := (.reg 4);
      let s := ((lab.set LOM_CTRL.EN 1).cset (CTX.STATE c) 3).cset (CTX.PC c) 0x100;
      let s : State := { s with pm := s.pm.set 0x100 ((verkWord (.rdr c d a y)).getD 0) }; s), 5, 1, 2, (.reg 4), issues_of (by decide +kernel),
      by decide +kernel⟩,
    ⟨(let c : CtxId := 5; let d : Reg := 1; let a : Reg := 2; let y : Operand := (.reg 4);
      let s := ((lab.set LOM_CTRL.EN 1).cset (CTX.STATE c) 3).cset (CTX.PC c) 0x100;
      let s : State := { s with pm := s.pm.set 0x100 ((verkWord (.rdr c d a y)).getD 0) }; (s.setG c a.val 0x1C00).set GLB_FEAT.SEL_PRESENT 0), 5, 1,
      2, (.reg 4), issues_of (by decide +kernel), by decide +kernel⟩,
    ⟨(let c : CtxId := 5; let d : Reg := 1; let a : Reg := 2; let y : Operand := (.reg 4);
      let s := ((lab.set LOM_CTRL.EN 1).cset (CTX.STATE c) 3).cset (CTX.PC c) 0x100;
      let s : State := { s with pm := s.pm.set 0x100 ((verkWord (.rdr c d a y)).getD 0) }; s.setG c a.val 0x2000), 5, 1, 2, (.reg 4),
      issues_of (by decide +kernel), by decide +kernel⟩⟩

/-- A witness of each clause of `Obligations.VerkControl`. -/
theorem witness_verk_control :
    (∃ (s : State) (c : CtxId) (a : Reg) (addr : BitVec 14), Issues s c (.br c a addr) ∧ (s.g c a.val + addr.setWidth 32).toNat < 0x4000) ∧
    (∃ (s : State) (c : CtxId) (a : Reg) (addr : BitVec 14), Issues s c (.br c a addr) ∧ 0x4000 ≤ (s.g c a.val + addr.setWidth 32).toNat ∧
      (c.val = 0 → s.lom.ctx0Restart = none)) ∧
    (∃ (s : State) (c : CtxId) (k : Cond) (a : Reg) (b : Reg) (off : BitVec 14), Issues s c (.brc c k a b off) ∧
      condHolds k (s.g c a.val) (s.g c b.val) = false) ∧
    (∃ (s : State) (c : CtxId) (k : Cond) (a : Reg) (b : Reg) (off : BitVec 14), Issues s c (.brc c k a b off) ∧
      condHolds k (s.g c a.val) (s.g c b.val) = true ∧ 0 ≤ (s.cget (CTX.PC c) : Int) + off.toInt ∧ (s.cget (CTX.PC c) : Int) + off.toInt < 0x4000) ∧
    (∃ (s : State) (c : CtxId) (k : Cond) (a : Reg) (b : Reg) (off : BitVec 14), Issues s c (.brc c k a b off) ∧
      condHolds k (s.g c a.val) (s.g c b.val) = true ∧ ((s.cget (CTX.PC c) : Int) + off.toInt < 0 ∨ 0x4000 ≤ (s.cget (CTX.PC c) : Int) + off.toInt) ∧
      (c.val = 0 → s.lom.ctx0Restart = none)) ∧
    (∃ (s : State) (c : CtxId) (a : Reg) (addr : BitVec 14), Issues s c (.call c a addr) ∧ s.cget (CTX.DEPTH c) < 8 ∧
      (s.g c a.val + addr.setWidth 32).toNat < 0x4000) ∧
    (∃ (s : State) (c : CtxId) (a : Reg) (addr : BitVec 14), Issues s c (.call c a addr) ∧ 8 ≤ s.cget (CTX.DEPTH c) ∧ (c.val = 0 →
      s.lom.ctx0Restart = none)) ∧
    (∃ (s : State) (c : CtxId) (a : Reg) (addr : BitVec 14), Issues s c (.call c a addr) ∧ s.cget (CTX.DEPTH c) < 8 ∧
      0x4000 ≤ (s.g c a.val + addr.setWidth 32).toNat ∧ (c.val = 0 → s.lom.ctx0Restart = none)) ∧
    (∃ (s : State) (c : CtxId), Issues s c (.ret c) ∧ 0 < s.cget (CTX.DEPTH c) ∧ s.cget (CTX.RET c (s.cget (CTX.DEPTH c) - 1)) < 0x4000) ∧
    (∃ (s : State) (c : CtxId), Issues s c (.ret c) ∧ s.cget (CTX.DEPTH c) = 0 ∧ (c.val = 0 → s.lom.ctx0Restart = none)) ∧
    (∃ (s : State) (c : CtxId), Issues s c (.yield c)) ∧
    (∃ (s : State) (c : CtxId) (imm : BitVec 16), Issues s c (.trap c imm) ∧ (c.val = 0 → s.lom.ctx0Restart = none)) ∧
    (∃ (s : State) (imm : BitVec 16) (t0 : Nat), Issues s 0 (.trap 0 imm) ∧ s.lom.ctx0Restart = some t0 ∧ s.time < t0 + ms 1000) ∧
    (∃ (s : State) (c : CtxId) (d : Reg) (a : Reg) (y : Operand) (w : Word), verkWord (.add c d a y) = some w ∧ s.issues c w = true ∧
      s.cget (CTX.PC c) = 0x3FFF ∧ c.val ≠ 0) ∧
    (∃ (s : State) (c : CtxId), Issues s c (.halt c) ∧ 1 + s.txRails c ≤ s.openSlots c) ∧
    (∃ (s : State) (c : CtxId), Issues s c (.halt c) ∧ s.openSlots c < 1 + s.txRails c) ∧
    (∃ (s : State) (c : CtxId), (s.context c).wait = some .halt ∧ (s.context c).tags = [] ∧ s.commitWaitsPeer c = false) ∧
    (∃ (s : State) (c : CtxId), ((s.context c).wait ≠ some .halt ∨ (s.context c).tags ≠ [] ∨ s.commitWaitsPeer c = true)) :=
  ⟨⟨(let c : CtxId := 5; let a : Reg := 1; let addr : BitVec 14 := 0; let s := ((lab.set LOM_CTRL.EN 1).cset (CTX.STATE c) 3).cset (CTX.PC c) 0x100;
      let s : State := { s with pm := s.pm.set 0x100 ((verkWord (.br c a addr)).getD 0) }; s), 5, 1, 0, issues_of (by decide +kernel),
      by decide +kernel⟩,
    ⟨(let c : CtxId := 5; let a : Reg := 1; let addr : BitVec 14 := 0; let s := ((lab.set LOM_CTRL.EN 1).cset (CTX.STATE c) 3).cset (CTX.PC c) 0x100;
      let s : State := { s with pm := s.pm.set 0x100 ((verkWord (.br c a addr)).getD 0) }; s.setG c a.val 0x4000), 5, 1, 0,
      issues_of (by decide +kernel), by decide +kernel⟩,
    ⟨(let c : CtxId := 5; let k : Cond := .eq; let a : Reg := 1; let b : Reg := 2; let off : BitVec 14 := 0;
      let s := ((lab.set LOM_CTRL.EN 1).cset (CTX.STATE c) 3).cset (CTX.PC c) 0x100;
      let s : State := { s with pm := s.pm.set 0x100 ((verkWord (.brc c k a b off)).getD 0) }; s.setG c 1 1), 5, .eq, 1, 2, 0,
      issues_of (by decide +kernel), by decide +kernel⟩,
    ⟨(let c : CtxId := 5; let k : Cond := .eq; let a : Reg := 1; let b : Reg := 2; let off : BitVec 14 := 0;
      let s := ((lab.set LOM_CTRL.EN 1).cset (CTX.STATE c) 3).cset (CTX.PC c) 0x100;
      let s : State := { s with pm := s.pm.set 0x100 ((verkWord (.brc c k a b off)).getD 0) }; s), 5, .eq, 1, 2, 0, issues_of (by decide +kernel),
      by decide +kernel⟩,
    ⟨(let c : CtxId := 5; let k : Cond := .eq; let a : Reg := 1; let b : Reg := 2; let off : BitVec 14 := -0x101;
      let s := ((lab.set LOM_CTRL.EN 1).cset (CTX.STATE c) 3).cset (CTX.PC c) 0x100;
      let s : State := { s with pm := s.pm.set 0x100 ((verkWord (.brc c k a b off)).getD 0) }; s), 5, .eq, 1, 2, -0x101,
      issues_of (by decide +kernel), by decide +kernel⟩,
    ⟨(let c : CtxId := 5; let a : Reg := 1; let addr : BitVec 14 := 0; let s := ((lab.set LOM_CTRL.EN 1).cset (CTX.STATE c) 3).cset (CTX.PC c) 0x100;
      let s : State := { s with pm := s.pm.set 0x100 ((verkWord (.call c a addr)).getD 0) }; s), 5, 1, 0, issues_of (by decide +kernel),
      by decide +kernel⟩,
    ⟨(let c : CtxId := 5; let a : Reg := 1; let addr : BitVec 14 := 0; let s := ((lab.set LOM_CTRL.EN 1).cset (CTX.STATE c) 3).cset (CTX.PC c) 0x100;
      let s : State := { s with pm := s.pm.set 0x100 ((verkWord (.call c a addr)).getD 0) }; s.cset (CTX.DEPTH c) 8), 5, 1, 0,
      issues_of (by decide +kernel), by decide +kernel⟩,
    ⟨(let c : CtxId := 5; let a : Reg := 1; let addr : BitVec 14 := 0; let s := ((lab.set LOM_CTRL.EN 1).cset (CTX.STATE c) 3).cset (CTX.PC c) 0x100;
      let s : State := { s with pm := s.pm.set 0x100 ((verkWord (.call c a addr)).getD 0) }; s.setG c a.val 0x4000), 5, 1, 0,
      issues_of (by decide +kernel), by decide +kernel⟩,
    ⟨(let c : CtxId := 5; let s := ((lab.set LOM_CTRL.EN 1).cset (CTX.STATE c) 3).cset (CTX.PC c) 0x100;
      let s : State := { s with pm := s.pm.set 0x100 ((verkWord (.ret c)).getD 0) }; (s.cset (CTX.DEPTH c) 1).cset (CTX.RET c 0) 0x3FFF), 5,
      issues_of (by decide +kernel), by decide +kernel⟩,
    ⟨(let c : CtxId := 5; let s := ((lab.set LOM_CTRL.EN 1).cset (CTX.STATE c) 3).cset (CTX.PC c) 0x100;
      let s : State := { s with pm := s.pm.set 0x100 ((verkWord (.ret c)).getD 0) }; s.cset (CTX.DEPTH c) 0), 5, issues_of (by decide +kernel),
      by decide +kernel⟩,
    ⟨(let c : CtxId := 5; let s := ((lab.set LOM_CTRL.EN 1).cset (CTX.STATE c) 3).cset (CTX.PC c) 0x100;
      let s : State := { s with pm := s.pm.set 0x100 ((verkWord (.yield c)).getD 0) }; s), 5, issues_of (by decide +kernel)⟩,
    ⟨(let c : CtxId := 5; let imm : BitVec 16 := 0; let s := ((lab.set LOM_CTRL.EN 1).cset (CTX.STATE c) 3).cset (CTX.PC c) 0x100;
      let s : State := { s with pm := s.pm.set 0x100 ((verkWord (.trap c imm)).getD 0) }; s), 5, 0, issues_of (by decide +kernel), by decide +kernel⟩,
    ⟨(let imm : BitVec 16 := 0; let t0 : Nat := 100000000000; let s := ((lab.set LOM_CTRL.EN 1).cset (CTX.STATE 0) 3).cset (CTX.PC 0) 0x100;
      let s : State := { s with pm := s.pm.set 0x100 ((verkWord (.trap 0 imm)).getD 0) };
      let s : State := { s with lom := { s.lom with ctx0Restart := some t0 } }; s), 0, 100000000000, issues_of (by decide +kernel), by decide +kernel⟩,
    ⟨(let c : CtxId := 5; let s := (((lab.cset (CTX.PC c) 0x3FFF).set LOM_CTRL.EN 1).cset (CTX.STATE 5) 3).cset (CTX.PC 5) 0x3FFF;
      let s : State := { s with pm := s.pm.set 0x3FFF ((verkWord (.add 5 1 2 (.reg 4))).getD 0) }; s), 5, 1, 2, (.reg 4),
      (verkWord (.add 5 1 2 (.reg 4))).getD 0, by decide +kernel⟩,
    ⟨(let c : CtxId := 5; let s := ((lab.set LOM_CTRL.EN 1).cset (CTX.STATE c) 3).cset (CTX.PC c) 0x100;
      let s : State := { s with pm := s.pm.set 0x100 ((verkWord (.halt c)).getD 0) }; s), 5, issues_of (by decide +kernel), by decide +kernel⟩,
    ⟨(let c : CtxId := 5; let s := ((lab.set LOM_CTRL.EN 1).cset (CTX.STATE c) 3).cset (CTX.PC c) 0x100;
      let s : State := { s with pm := s.pm.set 0x100 ((verkWord (.halt c)).getD 0) };
      let s : State := { s with lom := { s.lom with slots := (List.range 8).map (fun i => (i, (c.val, SlotUse.rail))) } }; s), 5,
      issues_of (by decide +kernel), by decide +kernel⟩,
    ⟨(let c : CtxId := 5; (lab.setContext c (fun x => { x with wait := some .halt })).setContext c (fun x => { x with tags := [] })), 5,
      by decide +kernel⟩,
    ⟨lab, 5, by decide +kernel⟩⟩

/-- A witness of each clause of `Obligations.VerkOrders`. -/
theorem witness_verk_orders :
    (∃ (s : State) (c : CtxId) (a : Reg) (y : Operand) (i : Nat), Issues s c (.setv c .rail a y) ∧ s.cget (CTX.TX c) = 0 ∧ s.peerLive = false ∧
      s.openSlot c = some i) ∧
    (∃ (s : State) (c : CtxId) (a : Reg) (y : Operand) (i : Nat), Issues s c (.slew c a y) ∧ s.cget (CTX.TX c) = 0 ∧ s.peerLive = false ∧
      s.openSlot c = some i) ∧
    (∃ (s : State) (c : CtxId) (a : Reg) (y : Operand), Issues s c (.setv c .rail a y) ∧ s.cget (CTX.TX c) = 0 ∧ s.openSlot c = none) ∧
    (∃ (s : State) (c : CtxId) (a : Reg) (y : Operand), Issues s c (.slew c a y) ∧ s.cget (CTX.TX c) = 0 ∧ s.openSlot c = none) ∧
    (∃ (s : State) (c : CtxId) (a : Reg) (y : Operand), Issues s c (.setv c .cv a y) ∧ s.cget (CTX.TX c) = 0 ∧ s.get CHG_CTRL.CHEM = 1) ∧
    (∃ (s : State) (c : CtxId) (a : Reg) (y : Operand), Issues s c (.setv c .cv a y) ∧ s.cget (CTX.TX c) = 0 ∧ s.get CHG_CTRL.CHEM = 2) ∧
    (∃ (s : State) (c : CtxId) (a : Reg) (y : Operand), Issues s c (.setv c .cv a y) ∧ s.cget (CTX.TX c) = 0 ∧ s.get CHG_CTRL.CHEM = 4) ∧
    (∃ (s : State) (c : CtxId) (a : Reg) (y : Operand), Issues s c (.setv c .cv a y) ∧ s.cget (CTX.TX c) = 0 ∧ s.get CHG_CTRL.CHEM = 0) ∧
    (∃ (s : State) (c : CtxId) (a : Reg) (y : Operand), Issues s c (.setv c .backup a y) ∧ s.cget (CTX.TX c) = 0) ∧
    (∃ (s : State) (c : CtxId) (a : Reg) (y : Operand), Issues s c (.setv c .vbus a y) ∧ s.cget (CTX.TX c) = 0) ∧
    (∃ (s : State) (c : CtxId) (a : Reg) (y : Operand), Issues s c (.seti c .cc a y) ∧ s.cget (CTX.TX c) = 0) ∧
    (∃ (s : State) (c : CtxId) (a : Reg) (y : Operand), Issues s c (.seti c .trickle a y) ∧ s.cget (CTX.TX c) = 0) ∧
    (∃ (s : State) (c : CtxId) (a : Reg) (y : Operand), Issues s c (.seti c .vbusI a y) ∧ s.cget (CTX.TX c) = 0) ∧
    (∃ (s : State) (c : CtxId) (a : Reg) (y : Operand), Issues s c (.limit c .imax a y) ∧ s.cget (CTX.TX c) = 0) ∧
    (∃ (s : State) (c : CtxId) (a : Reg) (y : Operand), Issues s c (.limit c .chgMax a y) ∧ s.cget (CTX.TX c) = 0) ∧
    (∃ (s : State) (c : CtxId) (a : Reg) (y : Operand), Issues s c (.limit c .disMax a y) ∧ s.cget (CTX.TX c) = 0) ∧
    (∃ (s : State) (c : CtxId) (a : Reg) (y : Operand), Issues s c (.limit c .wmax a y) ∧ s.cget (CTX.TX c) = 0 ∧ s.hasWrp = true) ∧
    (∃ (s : State) (c : CtxId) (a : Reg) (y : Operand), Issues s c (.phases c a y) ∧ s.cget (CTX.TX c) = 0) ∧
    (∃ (s : State) (c : CtxId) (sel : EnableSel) (a : Reg) (y : Operand), Issues s c (.enable c sel a y) ∧ s.cget (CTX.TX c) = 0 ∧
      s.peerLive = false ∧ (s.hasWrp = true ∨ (sel ≠ .weft ∧ sel ≠ .act))) ∧
    (∃ (s : State) (c : CtxId) (a : Reg) (y : Operand), Issues s c (.limit c .wmax a y) ∧ s.hasWrp = false ∧ (c.val = 0 → s.lom.ctx0Restart = none)) ∧
    (∃ (s : State) (c : CtxId) (a : Reg) (y : Operand), Issues s c (.enable c .weft a y) ∧ s.hasWrp = false ∧ (c.val = 0 → s.lom.ctx0Restart = none)) ∧
    (∃ (s : State) (c : CtxId) (a : Reg) (y : Operand), Issues s c (.enable c .act a y) ∧ s.hasWrp = false ∧ (c.val = 0 → s.lom.ctx0Restart = none)) ∧
    (∃ (s : State) (c : CtxId) (a : Reg) (y : Operand), Issues s c (.shed c a y) ∧ s.cget (CTX.TX c) = 0 ∧ s.peerLive = false) ∧
    (∃ (s : State) (c : CtxId) (a : Reg) (y : Operand), Issues s c (.shed c a y) ∧ s.cget (CTX.TX c) = 1 ∧ (s.context c).txOrders.length < 16) ∧
    (∃ (s : State) (c : CtxId) (a : Reg) (y : Operand), Issues s c (.restore c a y) ∧ s.cget (CTX.TX c) = 0 ∧ s.peerLive = false) ∧
    (∃ (s : State) (c : CtxId) (a : Reg) (y : Operand), Issues s c (.restore c a y) ∧ s.cget (CTX.TX c) = 1 ∧ (s.context c).txOrders.length < 16) ∧
    (∃ (s : State) (c : CtxId) (a : Reg) (y : Operand), Issues s c (.phases c a y) ∧ s.cget (CTX.TX c) = 1 ∧ (s.context c).txOrders.length < 16) ∧
    (∃ (s : State) (c : CtxId) (a : Reg) (y : Operand), Issues s c (.shed c a y) ∧ s.cget (CTX.TX c) = 1 ∧ 16 ≤ (s.context c).txOrders.length ∧
      (c.val = 0 → s.lom.ctx0Restart = none)) ∧
    (∃ (s : State) (c : CtxId) (a : Reg) (y : Operand), Issues s c (.phases c a y) ∧ s.cget (CTX.TX c) = 1 ∧ 16 ≤ (s.context c).txOrders.length ∧
      (c.val = 0 → s.lom.ctx0Restart = none)) ∧
    (∃ (s : State) (c : CtxId) (a : Reg) (y : Operand), Issues s c (.slew c a y) ∧ s.cget (CTX.TX c) = 1 ∧ 7 ≤ s.txRails c ∧ (c.val = 0 →
      s.lom.ctx0Restart = none)) :=
  ⟨⟨(let c : CtxId := 5; let a : Reg := 1; let y : Operand := (.reg 4);
      let s := ((lab.set LOM_CTRL.EN 1).cset (CTX.STATE c) 3).cset (CTX.PC c) 0x100;
      let s : State := { s with pm := s.pm.set 0x100 ((verkWord (.setv c .rail a y)).getD 0) }; s.cset (CTX.TX c) 0), 5, 1, (.reg 4), 0,
      issues_of (by decide +kernel), by decide +kernel⟩,
    ⟨(let c : CtxId := 5; let a : Reg := 1; let y : Operand := (.reg 4);
      let s := ((lab.set LOM_CTRL.EN 1).cset (CTX.STATE c) 3).cset (CTX.PC c) 0x100;
      let s : State := { s with pm := s.pm.set 0x100 ((verkWord (.slew c a y)).getD 0) }; s.cset (CTX.TX c) 0), 5, 1, (.reg 4), 0,
      issues_of (by decide +kernel), by decide +kernel⟩,
    ⟨(let c : CtxId := 5; let a : Reg := 1; let y : Operand := (.reg 4);
      let s := (((lab.cset (CTX.TX c) 0).set LOM_CTRL.EN 1).cset (CTX.STATE c) 3).cset (CTX.PC c) 0x100;
      let s : State := { s with pm := s.pm.set 0x100 ((verkWord (.setv c .rail a y)).getD 0) };
      let s : State := { s with lom := { s.lom with slots := (List.range 8).map (fun i => (i, (c.val, SlotUse.rail))) } }; s), 5, 1, (.reg 4),
      issues_of (by decide +kernel), by decide +kernel⟩,
    ⟨(let c : CtxId := 5; let a : Reg := 1; let y : Operand := (.reg 4);
      let s := (((lab.cset (CTX.TX c) 0).set LOM_CTRL.EN 1).cset (CTX.STATE c) 3).cset (CTX.PC c) 0x100;
      let s : State := { s with pm := s.pm.set 0x100 ((verkWord (.slew c a y)).getD 0) };
      let s : State := { s with lom := { s.lom with slots := (List.range 8).map (fun i => (i, (c.val, SlotUse.rail))) } }; s), 5, 1, (.reg 4),
      issues_of (by decide +kernel), by decide +kernel⟩,
    ⟨(let c : CtxId := 5; let a : Reg := 1; let y : Operand := (.reg 4);
      let s := ((lab.set LOM_CTRL.EN 1).cset (CTX.STATE c) 3).cset (CTX.PC c) 0x100;
      let s : State := { s with pm := s.pm.set 0x100 ((verkWord (.setv c .cv a y)).getD 0) }; (s.cset (CTX.TX c) 0).set CHG_CTRL.CHEM 1), 5, 1,
      (.reg 4), issues_of (by decide +kernel), by decide +kernel⟩,
    ⟨(let c : CtxId := 5; let a : Reg := 1; let y : Operand := (.reg 4);
      let s := ((lab.set LOM_CTRL.EN 1).cset (CTX.STATE c) 3).cset (CTX.PC c) 0x100;
      let s : State := { s with pm := s.pm.set 0x100 ((verkWord (.setv c .cv a y)).getD 0) }; (s.cset (CTX.TX c) 0).set CHG_CTRL.CHEM 2), 5, 1,
      (.reg 4), issues_of (by decide +kernel), by decide +kernel⟩,
    ⟨(let c : CtxId := 5; let a : Reg := 1; let y : Operand := (.reg 4);
      let s := ((lab.set LOM_CTRL.EN 1).cset (CTX.STATE c) 3).cset (CTX.PC c) 0x100;
      let s : State := { s with pm := s.pm.set 0x100 ((verkWord (.setv c .cv a y)).getD 0) }; (s.cset (CTX.TX c) 0).set CHG_CTRL.CHEM 4), 5, 1,
      (.reg 4), issues_of (by decide +kernel), by decide +kernel⟩,
    ⟨(let c : CtxId := 5; let a : Reg := 1; let y : Operand := (.reg 4);
      let s := ((lab.set LOM_CTRL.EN 1).cset (CTX.STATE c) 3).cset (CTX.PC c) 0x100;
      let s : State := { s with pm := s.pm.set 0x100 ((verkWord (.setv c .cv a y)).getD 0) }; s.cset (CTX.TX c) 0), 5, 1, (.reg 4),
      issues_of (by decide +kernel), by decide +kernel⟩,
    ⟨(let c : CtxId := 5; let a : Reg := 1; let y : Operand := (.reg 4);
      let s := ((lab.set LOM_CTRL.EN 1).cset (CTX.STATE c) 3).cset (CTX.PC c) 0x100;
      let s : State := { s with pm := s.pm.set 0x100 ((verkWord (.setv c .backup a y)).getD 0) }; s.cset (CTX.TX c) 0), 5, 1, (.reg 4),
      issues_of (by decide +kernel), by decide +kernel⟩,
    ⟨(let c : CtxId := 5; let a : Reg := 1; let y : Operand := (.reg 4);
      let s := ((lab.set LOM_CTRL.EN 1).cset (CTX.STATE c) 3).cset (CTX.PC c) 0x100;
      let s : State := { s with pm := s.pm.set 0x100 ((verkWord (.setv c .vbus a y)).getD 0) }; s.cset (CTX.TX c) 0), 5, 1, (.reg 4),
      issues_of (by decide +kernel), by decide +kernel⟩,
    ⟨(let c : CtxId := 5; let a : Reg := 1; let y : Operand := (.reg 4);
      let s := ((lab.set LOM_CTRL.EN 1).cset (CTX.STATE c) 3).cset (CTX.PC c) 0x100;
      let s : State := { s with pm := s.pm.set 0x100 ((verkWord (.seti c .cc a y)).getD 0) }; s.cset (CTX.TX c) 0), 5, 1, (.reg 4),
      issues_of (by decide +kernel), by decide +kernel⟩,
    ⟨(let c : CtxId := 5; let a : Reg := 1; let y : Operand := (.reg 4);
      let s := ((lab.set LOM_CTRL.EN 1).cset (CTX.STATE c) 3).cset (CTX.PC c) 0x100;
      let s : State := { s with pm := s.pm.set 0x100 ((verkWord (.seti c .trickle a y)).getD 0) }; s.cset (CTX.TX c) 0), 5, 1, (.reg 4),
      issues_of (by decide +kernel), by decide +kernel⟩,
    ⟨(let c : CtxId := 5; let a : Reg := 1; let y : Operand := (.reg 4);
      let s := ((lab.set LOM_CTRL.EN 1).cset (CTX.STATE c) 3).cset (CTX.PC c) 0x100;
      let s : State := { s with pm := s.pm.set 0x100 ((verkWord (.seti c .vbusI a y)).getD 0) }; s.cset (CTX.TX c) 0), 5, 1, (.reg 4),
      issues_of (by decide +kernel), by decide +kernel⟩,
    ⟨(let c : CtxId := 5; let a : Reg := 1; let y : Operand := (.reg 4);
      let s := ((lab.set LOM_CTRL.EN 1).cset (CTX.STATE c) 3).cset (CTX.PC c) 0x100;
      let s : State := { s with pm := s.pm.set 0x100 ((verkWord (.limit c .imax a y)).getD 0) }; s.cset (CTX.TX c) 0), 5, 1, (.reg 4),
      issues_of (by decide +kernel), by decide +kernel⟩,
    ⟨(let c : CtxId := 5; let a : Reg := 1; let y : Operand := (.reg 4);
      let s := ((lab.set LOM_CTRL.EN 1).cset (CTX.STATE c) 3).cset (CTX.PC c) 0x100;
      let s : State := { s with pm := s.pm.set 0x100 ((verkWord (.limit c .chgMax a y)).getD 0) }; s.cset (CTX.TX c) 0), 5, 1, (.reg 4),
      issues_of (by decide +kernel), by decide +kernel⟩,
    ⟨(let c : CtxId := 5; let a : Reg := 1; let y : Operand := (.reg 4);
      let s := ((lab.set LOM_CTRL.EN 1).cset (CTX.STATE c) 3).cset (CTX.PC c) 0x100;
      let s : State := { s with pm := s.pm.set 0x100 ((verkWord (.limit c .disMax a y)).getD 0) }; s.cset (CTX.TX c) 0), 5, 1, (.reg 4),
      issues_of (by decide +kernel), by decide +kernel⟩,
    ⟨(let c : CtxId := 5; let a : Reg := 1; let y : Operand := (.reg 4);
      let s := ((lab.set LOM_CTRL.EN 1).cset (CTX.STATE c) 3).cset (CTX.PC c) 0x100;
      let s : State := { s with pm := s.pm.set 0x100 ((verkWord (.limit c .wmax a y)).getD 0) }; s.cset (CTX.TX c) 0), 5, 1, (.reg 4),
      issues_of (by decide +kernel), by decide +kernel⟩,
    ⟨(let c : CtxId := 5; let a : Reg := 1; let y : Operand := (.reg 4);
      let s := ((lab.set LOM_CTRL.EN 1).cset (CTX.STATE c) 3).cset (CTX.PC c) 0x100;
      let s : State := { s with pm := s.pm.set 0x100 ((verkWord (.phases c a y)).getD 0) }; s.cset (CTX.TX c) 0), 5, 1, (.reg 4),
      issues_of (by decide +kernel), by decide +kernel⟩,
    ⟨(let c : CtxId := 5; let sel : EnableSel := .trk; let a : Reg := 1; let y : Operand := (.reg 4);
      let s := ((lab.set LOM_CTRL.EN 1).cset (CTX.STATE c) 3).cset (CTX.PC c) 0x100;
      let s : State := { s with pm := s.pm.set 0x100 ((verkWord (.enable c sel a y)).getD 0) }; s.cset (CTX.TX c) 0), 5, .trk, 1, (.reg 4),
      issues_of (by decide +kernel), by decide +kernel⟩,
    ⟨(let c : CtxId := 5; let a : Reg := 1; let y : Operand := (.reg 4);
      let s := (((lab.set GLB_FEAT.WRP_PRESENT 0).set LOM_CTRL.EN 1).cset (CTX.STATE c) 3).cset (CTX.PC c) 0x100;
      let s : State := { s with pm := s.pm.set 0x100 ((verkWord (.limit c .wmax a y)).getD 0) }; s), 5, 1, (.reg 4), issues_of (by decide +kernel),
      by decide +kernel⟩,
    ⟨(let c : CtxId := 5; let a : Reg := 1; let y : Operand := (.reg 4);
      let s := (((lab.set GLB_FEAT.WRP_PRESENT 0).set LOM_CTRL.EN 1).cset (CTX.STATE c) 3).cset (CTX.PC c) 0x100;
      let s : State := { s with pm := s.pm.set 0x100 ((verkWord (.enable c .weft a y)).getD 0) }; s), 5, 1, (.reg 4), issues_of (by decide +kernel),
      by decide +kernel⟩,
    ⟨(let c : CtxId := 5; let a : Reg := 1; let y : Operand := (.reg 4);
      let s := (((lab.set GLB_FEAT.WRP_PRESENT 0).set LOM_CTRL.EN 1).cset (CTX.STATE c) 3).cset (CTX.PC c) 0x100;
      let s : State := { s with pm := s.pm.set 0x100 ((verkWord (.enable c .act a y)).getD 0) }; s), 5, 1, (.reg 4), issues_of (by decide +kernel),
      by decide +kernel⟩,
    ⟨(let c : CtxId := 5; let a : Reg := 1; let y : Operand := (.reg 4);
      let s := ((lab.set LOM_CTRL.EN 1).cset (CTX.STATE c) 3).cset (CTX.PC c) 0x100;
      let s : State := { s with pm := s.pm.set 0x100 ((verkWord (.shed c a y)).getD 0) }; s.cset (CTX.TX c) 0), 5, 1, (.reg 4),
      issues_of (by decide +kernel), by decide +kernel⟩,
    ⟨(let c : CtxId := 5; let a : Reg := 1; let y : Operand := (.reg 4);
      let s := ((lab.set LOM_CTRL.EN 1).cset (CTX.STATE c) 3).cset (CTX.PC c) 0x100;
      let s : State := { s with pm := s.pm.set 0x100 ((verkWord (.shed c a y)).getD 0) }; s.cset (CTX.TX c) 1), 5, 1, (.reg 4),
      issues_of (by decide +kernel), by decide +kernel⟩,
    ⟨(let c : CtxId := 5; let a : Reg := 1; let y : Operand := (.reg 4);
      let s := ((lab.set LOM_CTRL.EN 1).cset (CTX.STATE c) 3).cset (CTX.PC c) 0x100;
      let s : State := { s with pm := s.pm.set 0x100 ((verkWord (.restore c a y)).getD 0) }; s.cset (CTX.TX c) 0), 5, 1, (.reg 4),
      issues_of (by decide +kernel), by decide +kernel⟩,
    ⟨(let c : CtxId := 5; let a : Reg := 1; let y : Operand := (.reg 4);
      let s := ((lab.set LOM_CTRL.EN 1).cset (CTX.STATE c) 3).cset (CTX.PC c) 0x100;
      let s : State := { s with pm := s.pm.set 0x100 ((verkWord (.restore c a y)).getD 0) }; s.cset (CTX.TX c) 1), 5, 1, (.reg 4),
      issues_of (by decide +kernel), by decide +kernel⟩,
    ⟨(let c : CtxId := 5; let a : Reg := 1; let y : Operand := (.reg 4);
      let s := ((lab.set LOM_CTRL.EN 1).cset (CTX.STATE c) 3).cset (CTX.PC c) 0x100;
      let s : State := { s with pm := s.pm.set 0x100 ((verkWord (.phases c a y)).getD 0) }; s.cset (CTX.TX c) 1), 5, 1, (.reg 4),
      issues_of (by decide +kernel), by decide +kernel⟩,
    ⟨(let c : CtxId := 5; let a : Reg := 1; let y : Operand := (.reg 4);
      let s := (((lab.cset (CTX.TX c) 1).set LOM_CTRL.EN 1).cset (CTX.STATE c) 3).cset (CTX.PC c) 0x100;
      let s : State := { s with pm := s.pm.set 0x100 ((verkWord (.shed c a y)).getD 0) };
      s.setContext c (fun x => { x with txOrders := (List.range 16).map (fun _ => .shed 1 true) })), 5, 1, (.reg 4), issues_of (by decide +kernel),
      by decide +kernel⟩,
    ⟨(let c : CtxId := 5; let a : Reg := 1; let y : Operand := (.reg 4);
      let s := (((lab.cset (CTX.TX c) 1).set LOM_CTRL.EN 1).cset (CTX.STATE c) 3).cset (CTX.PC c) 0x100;
      let s : State := { s with pm := s.pm.set 0x100 ((verkWord (.phases c a y)).getD 0) };
      s.setContext c (fun x => { x with txOrders := (List.range 16).map (fun _ => .shed 1 true) })), 5, 1, (.reg 4), issues_of (by decide +kernel),
      by decide +kernel⟩,
    ⟨(let c : CtxId := 5; let a : Reg := 1; let y : Operand := (.reg 4);
      let s := ((lab.set LOM_CTRL.EN 1).cset (CTX.STATE c) 3).cset (CTX.PC c) 0x100;
      let s : State := { s with pm := s.pm.set 0x100 ((verkWord (.slew c a y)).getD 0) };
      (s.cset (CTX.TX c) 1).setContext c (fun x => { x with txOrders := (List.range 7).map (fun _ => .power { target := .rail, master := 3, val := 1200 }) })),
      5, 1, (.reg 4), issues_of (by decide +kernel), by decide +kernel⟩⟩

/-- A witness of each clause of `Obligations.PairWideOrder`. -/
theorem witness_pair_wide_order :
    (∃ (s : State) (m : Master), s.mayWrite m = true ∧ s.peerLive = true ∧ s.sel.unacked = []) ∧
    (∃ (s : State) (c : CtxId) (a : Reg) (y : Operand) (i : Nat), Issues s c (.setv c .rail a y) ∧ s.cget (CTX.TX c) = 0 ∧ s.peerLive = true ∧
      s.sel.unacked = [] ∧ s.openSlot c = some i) ∧
    (∃ (s : State) (o : Order), (pairWide o.target = false ∨ s.peerLive = false)) :=
  ⟨⟨(let s := lab.set SEL_STATUS.PEER_LIVE 1; let s : State := { s with sel := { s.sel with unacked := [] } }; s), 3, by decide +kernel⟩,
    ⟨(let c : CtxId := 5; let a : Reg := 1; let y : Operand := (.reg 4);
      let s := ((lab.set LOM_CTRL.EN 1).cset (CTX.STATE c) 3).cset (CTX.PC c) 0x100;
      let s : State := { s with pm := s.pm.set 0x100 ((verkWord (.setv c .rail a y)).getD 0) };
      let s := (s.cset (CTX.TX c) 0).set SEL_STATUS.PEER_LIVE 1; let s : State := { s with sel := { s.sel with unacked := [] } }; s), 5, 1, (.reg 4),
      0, issues_of (by decide +kernel), by decide +kernel⟩,
    ⟨lab, { target := .rail, master := 3, val := 1200 }, by decide +kernel⟩⟩

/-- A witness of each clause of `Obligations.VerkWaits`. -/
theorem witness_verk_waits :
    (∃ (s : State) (c : CtxId) (d : Reg) (a : Reg) (y : Operand), Issues s c (.waitt c d a y) ∧ s.sumAY c a.val y = 0) ∧
    (∃ (s : State) (c : CtxId) (d : Reg) (a : Reg) (y : Operand) (i : Nat), Issues s c (.waitt c d a y) ∧ s.sumAY c a.val y ≠ 0 ∧
      s.openSlot c = some i) ∧
    (∃ (s : State) (c : CtxId) (d : Reg) (a : Reg) (y : Operand), Issues s c (.waitt c d a y) ∧ s.sumAY c a.val y ≠ 0 ∧ s.openSlot c = none) ∧
    (∃ (s : State) (c : CtxId) (t0 : Nat), (s.context c).wait = some (.time t0) ∧ t0 ≤ s.time ∧ s.loomRuns = true ∧ s.cstate c = 4 ∧
      (s.context c).waitReg < 16) ∧
    (∃ (s : State) (c : CtxId), (∀ t0, (s.context c).wait = some (.time t0) → s.time < t0 ∨ s.loomRuns = false)) ∧
    (∃ (s : State) (c : CtxId) (d : Reg) (a : Reg) (y : Operand), Issues s c (.waita c d a y) ∧ s.hasWrp = false ∧ (c.val = 0 →
      s.lom.ctx0Restart = none)) ∧
    (∃ (s : State) (c : CtxId) (d : Reg) (a : Reg) (y : Operand), Issues s c (.waita c d a y) ∧ s.hasWrp = true ∧ s.cget (CTX.WBIND c) = 0) ∧
    (∃ (s : State) (c : CtxId) (d : Reg) (a : Reg) (y : Operand) (i : Nat), Issues s c (.waita c d a y) ∧ s.hasWrp = true ∧ s.cget (CTX.WBIND c) = 1 ∧
      s.openSlot c = some i) ∧
    (∃ (s : State) (c : CtxId) (a : Nat) (seen : Nat) (lim : Option Nat), (s.context c).wait = some (.angle a seen lim) ∧ s.loomRuns = true ∧
      s.trackState (s.cget (CTX.WARP c)) = 2 ∧ s.cstate c = 4 ∧ (s.context c).waitReg < 16 ∧
      nextCrossing a 0 (max seen (s.track (s.cget (CTX.WARP c))).lockPhase) ≤ (s.track (s.cget (CTX.WARP c))).phaseAt s.time) ∧
    (∃ (s : State) (c : CtxId), s.trackState (s.cget (CTX.WARP c)) ≠ 2) ∧
    (∃ (s : State) (c : CtxId) (d : Reg) (a : Reg) (y : Operand), Issues s c (.waite c d a y) ∧
      s.cget (CTX.EVPEND c) &&& ((s.yval c y).toNat % 32) ≠ 0 ∧ d.val ≠ 0) ∧
    (∃ (s : State) (c : CtxId) (d : Reg) (a : Reg) (y : Operand) (i : Nat), Issues s c (.waite c d a y) ∧
      s.cget (CTX.EVPEND c) &&& ((s.yval c y).toNat % 32) = 0 ∧ s.openSlot c = some i) ∧
    (∃ (s : State) (c : CtxId) (d : Reg) (a : Reg) (y : Operand), Issues s c (.waite c d a y) ∧
      s.cget (CTX.EVPEND c) &&& ((s.yval c y).toNat % 32) = 0 ∧ s.openSlot c = none) ∧
    (∃ (s : State) (c : CtxId) (a : Nat) (seen : Nat) (t0 : Nat), (s.context c).wait = some (.angle a seen (some t0)) ∧ t0 ≤ s.time ∧
      s.loomRuns = true ∧ s.cstate c = 4 ∧ 0 < (s.context c).waitReg ∧ (s.context c).waitReg < 16) ∧
    (∃ (s : State) (c : CtxId) (t0 : Nat), (s.context c).wait = some (.event (some t0)) ∧ t0 ≤ s.time ∧ s.loomRuns = true ∧ s.cstate c = 4 ∧
      (s.context c).waitReg < 16) ∧
    (∃ (s : State) (c : CtxId), (s.context c).wait = none) ∧
    (∃ (s : State) (c : CtxId) (d : Reg) (a : Reg) (y : Operand) (p : Nat), Issues s c (.pick c d a y) ∧ s.hasWrp = true ∧
      (s.sumAY c a.val y).toNat % 4 = 0 ∧ (s.sumAY c a.val y).toNat ≤ 0x3FF0 ∧ s.cget (CTX.TX c) = 0 ∧ s.freePick = some p ∧ d.val ≠ 0) ∧
    (∃ (s : State) (c : CtxId) (d : Reg) (a : Reg) (y : Operand), Issues s c (.pick c d a y) ∧ s.hasWrp = true ∧ (s.sumAY c a.val y).toNat % 4 = 0 ∧
      (s.sumAY c a.val y).toNat ≤ 0x3FF0 ∧ s.freePick = none) ∧
    (∃ (s : State) (c : CtxId) (d : Reg) (a : Reg) (y : Operand), Issues s c (.pick c d a y) ∧ s.hasWrp = true ∧ ((s.sumAY c a.val y).toNat % 4 ≠ 0 ∨
      0x3FF0 < (s.sumAY c a.val y).toNat) ∧ (c.val = 0 → s.lom.ctx0Restart = none)) ∧
    (∃ (s : State) (c : CtxId) (d : Reg) (a : Reg) (y : Operand), Issues s c (.pick c d a y) ∧ s.hasWrp = false ∧ (c.val = 0 →
      s.lom.ctx0Restart = none)) ∧
    (∃ (s : State) (c : CtxId) (d : Reg) (a : Reg) (y : Operand), Issues s c (.unpick c d a y) ∧ s.hasWrp = false ∧ (c.val = 0 →
      s.lom.ctx0Restart = none)) ∧
    (∃ (s : State) (c : CtxId) (d : Reg) (a : Reg) (y : Operand), Issues s c (.unpick c d a y) ∧ s.hasWrp = true ∧ s.cget (CTX.TX c) = 0 ∧
      (s.context c).picks.contains ((s.sumAY c a.val y).toNat % 256) = true) ∧
    (∃ (s : State) (c : CtxId) (d : Reg) (a : Reg) (y : Operand), Issues s c (.unpick c d a y) ∧ s.hasWrp = true ∧ d.val ≠ 0 ∧
      (s.context c).picks.contains ((s.sumAY c a.val y).toNat % 256) = false) :=
  ⟨⟨(let c : CtxId := 5; let d : Reg := 1; let a : Reg := 2; let y : Operand := (.reg 4);
      let s := ((lab.set LOM_CTRL.EN 1).cset (CTX.STATE c) 3).cset (CTX.PC c) 0x100;
      let s : State := { s with pm := s.pm.set 0x100 ((verkWord (.waitt c d a y)).getD 0) }; s), 5, 1, 2, (.reg 4), issues_of (by decide +kernel),
      by decide +kernel⟩,
    ⟨(let c : CtxId := 5; let d : Reg := 1; let a : Reg := 2; let y : Operand := (.reg 4);
      let s := ((lab.set LOM_CTRL.EN 1).cset (CTX.STATE c) 3).cset (CTX.PC c) 0x100;
      let s : State := { s with pm := s.pm.set 0x100 ((verkWord (.waitt c d a y)).getD 0) }; s.setG c a.val 100), 5, 1, 2, (.reg 4), 0,
      issues_of (by decide +kernel), by decide +kernel⟩,
    ⟨(let c : CtxId := 5; let d : Reg := 1; let a : Reg := 2; let y : Operand := (.reg 4);
      let s := ((lab.set LOM_CTRL.EN 1).cset (CTX.STATE c) 3).cset (CTX.PC c) 0x100;
      let s : State := { s with pm := s.pm.set 0x100 ((verkWord (.waitt c d a y)).getD 0) }; let s := s.setG c a.val 100;
      let s : State := { s with lom := { s.lom with slots := (List.range 8).map (fun i => (i, (c.val, SlotUse.rail))) } }; s), 5, 1, 2, (.reg 4),
      issues_of (by decide +kernel), by decide +kernel⟩,
    ⟨(let c : CtxId := 5; let t0 : Nat := 0;
      ((lab.setContext c (fun x => { x with wait := some (.time t0) })).set LOM_CTRL.EN 1).cset (CTX.STATE c) 4), 5, 0, by decide +kernel⟩,
    ⟨lab, 5, no_time (by decide +kernel)⟩,
    ⟨(let c : CtxId := 5; let d : Reg := 1; let a : Reg := 2; let y : Operand := (.reg 4);
      let s := ((lab.set LOM_CTRL.EN 1).cset (CTX.STATE c) 3).cset (CTX.PC c) 0x100;
      let s : State := { s with pm := s.pm.set 0x100 ((verkWord (.waita c d a y)).getD 0) }; s.set GLB_FEAT.WRP_PRESENT 0), 5, 1, 2, (.reg 4),
      issues_of (by decide +kernel), by decide +kernel⟩,
    ⟨(let c : CtxId := 5; let d : Reg := 1; let a : Reg := 2; let y : Operand := (.reg 4);
      let s := ((lab.set LOM_CTRL.EN 1).cset (CTX.STATE c) 3).cset (CTX.PC c) 0x100;
      let s : State := { s with pm := s.pm.set 0x100 ((verkWord (.waita c d a y)).getD 0) }; s.cset (CTX.WBIND c) 0), 5, 1, 2, (.reg 4),
      issues_of (by decide +kernel), by decide +kernel⟩,
    ⟨(let c : CtxId := 5; let d : Reg := 1; let a : Reg := 2; let y : Operand := (.reg 4);
      let s := ((lab.set LOM_CTRL.EN 1).cset (CTX.STATE c) 3).cset (CTX.PC c) 0x100;
      let s : State := { s with pm := s.pm.set 0x100 ((verkWord (.waita c d a y)).getD 0) }; s.cset (CTX.WBIND c) 1), 5, 1, 2, (.reg 4), 0,
      issues_of (by decide +kernel), by decide +kernel⟩,
    ⟨(let c : CtxId := 5; let a : Nat := 0; let seen : Nat := 0; let lim : Option Nat := none;
      let s := (lab.setContext c (fun x => { x with wait := some (.angle a seen lim) })).set LOM_CTRL.EN 1;
      ((s.set (WRP_T_STATE.LOCK (s.cget (CTX.WARP c))) 2).cset (CTX.STATE c) 4).setTrack 0 (fun x => { x with phase := 2 ^ 49 })), 5, 0, 0, none,
      by decide +kernel⟩,
    ⟨(let c : CtxId := 5; let s := lab; s.set (WRP_T_STATE.LOCK (s.cget (CTX.WARP c))) 1), 5, by decide +kernel⟩,
    ⟨(let c : CtxId := 5; let d : Reg := 1; let a : Reg := 2; let y : Operand := (.reg 4);
      let s := ((lab.set LOM_CTRL.EN 1).cset (CTX.STATE c) 3).cset (CTX.PC c) 0x100;
      let s : State := { s with pm := s.pm.set 0x100 ((verkWord (.waite c d a y)).getD 0) }; (s.cset (CTX.EVPEND c) 1).setG c 4 1), 5, 1, 2, (.reg 4),
      issues_of (by decide +kernel), by decide +kernel⟩,
    ⟨(let c : CtxId := 5; let d : Reg := 1; let a : Reg := 2; let y : Operand := (.reg 4);
      let s := ((lab.set LOM_CTRL.EN 1).cset (CTX.STATE c) 3).cset (CTX.PC c) 0x100;
      let s : State := { s with pm := s.pm.set 0x100 ((verkWord (.waite c d a y)).getD 0) }; s), 5, 1, 2, (.reg 4), 0, issues_of (by decide +kernel),
      by decide +kernel⟩,
    ⟨(let c : CtxId := 5; let d : Reg := 1; let a : Reg := 2; let y : Operand := (.reg 4);
      let s := ((lab.set LOM_CTRL.EN 1).cset (CTX.STATE c) 3).cset (CTX.PC c) 0x100;
      let s : State := { s with pm := s.pm.set 0x100 ((verkWord (.waite c d a y)).getD 0) };
      let s : State := { s with lom := { s.lom with slots := (List.range 8).map (fun i => (i, (c.val, SlotUse.rail))) } }; s), 5, 1, 2, (.reg 4),
      issues_of (by decide +kernel), by decide +kernel⟩,
    ⟨(let c : CtxId := 5; let a : Nat := 0; let seen : Nat := 0; let t0 : Nat := 0;
      (((lab.setContext c (fun x => { x with wait := some (.angle a seen (some t0)) })).set LOM_CTRL.EN 1).cset (CTX.STATE c) 4).setContext c (fun x => { x with waitReg := 1 })),
      5, 0, 0, 0, by decide +kernel⟩,
    ⟨(let c : CtxId := 5; let t0 : Nat := 0;
      ((lab.setContext c (fun x => { x with wait := some (.event (some t0)) })).set LOM_CTRL.EN 1).cset (CTX.STATE c) 4), 5, 0, by decide +kernel⟩,
    ⟨(let c : CtxId := 5; lab.setContext c (fun x => { x with wait := none })), 5, by decide +kernel⟩,
    ⟨(let c : CtxId := 5; let d : Reg := 1; let a : Reg := 2; let y : Operand := (.reg 4);
      let s := ((lab.set LOM_CTRL.EN 1).cset (CTX.STATE c) 3).cset (CTX.PC c) 0x100;
      let s : State := { s with pm := s.pm.set 0x100 ((verkWord (.pick c d a y)).getD 0) }; (s.cset (CTX.TX c) 0).set RED_CTRL.LOOM_BASE 255), 5, 1,
      2, (.reg 4), 255, issues_of (by decide +kernel), by decide +kernel⟩,
    ⟨(let c : CtxId := 5; let d : Reg := 1; let a : Reg := 2; let y : Operand := (.reg 4);
      let s := ((lab.set LOM_CTRL.EN 1).cset (CTX.STATE c) 3).cset (CTX.PC c) 0x100;
      let s : State := { s with pm := s.pm.set 0x100 ((verkWord (.pick c d a y)).getD 0) };
      (s.set RED_CTRL.LOOM_BASE 255).putWin (pickAddr 255 0) 0x80000000#32), 5, 1, 2, (.reg 4), issues_of (by decide +kernel), by decide +kernel⟩,
    ⟨(let c : CtxId := 5; let d : Reg := 1; let a : Reg := 2; let y : Operand := (.reg 4);
      let s := ((lab.set LOM_CTRL.EN 1).cset (CTX.STATE c) 3).cset (CTX.PC c) 0x100;
      let s : State := { s with pm := s.pm.set 0x100 ((verkWord (.pick c d a y)).getD 0) }; s.setG c a.val 0x3FF4), 5, 1, 2, (.reg 4),
      issues_of (by decide +kernel), by decide +kernel⟩,
    ⟨(let c : CtxId := 5; let d : Reg := 1; let a : Reg := 2; let y : Operand := (.reg 4);
      let s := (((lab.set GLB_FEAT.WRP_PRESENT 0).set LOM_CTRL.EN 1).cset (CTX.STATE c) 3).cset (CTX.PC c) 0x100;
      let s : State := { s with pm := s.pm.set 0x100 ((verkWord (.pick c d a y)).getD 0) }; s), 5, 1, 2, (.reg 4), issues_of (by decide +kernel),
      by decide +kernel⟩,
    ⟨(let c : CtxId := 5; let d : Reg := 1; let a : Reg := 2; let y : Operand := (.reg 4);
      let s := (((lab.set GLB_FEAT.WRP_PRESENT 0).set LOM_CTRL.EN 1).cset (CTX.STATE c) 3).cset (CTX.PC c) 0x100;
      let s : State := { s with pm := s.pm.set 0x100 ((verkWord (.unpick c d a y)).getD 0) }; s), 5, 1, 2, (.reg 4), issues_of (by decide +kernel),
      by decide +kernel⟩,
    ⟨(let c : CtxId := 5; let d : Reg := 1; let a : Reg := 2; let y : Operand := (.reg 4);
      let s := ((lab.set LOM_CTRL.EN 1).cset (CTX.STATE c) 3).cset (CTX.PC c) 0x100;
      let s : State := { s with pm := s.pm.set 0x100 ((verkWord (.unpick c d a y)).getD 0) };
      (s.cset (CTX.TX c) 0).setContext c (fun x => { x with picks := [0] })), 5, 1, 2, (.reg 4), issues_of (by decide +kernel), by decide +kernel⟩,
    ⟨(let c : CtxId := 5; let d : Reg := 1; let a : Reg := 2; let y : Operand := (.reg 4);
      let s := ((lab.set LOM_CTRL.EN 1).cset (CTX.STATE c) 3).cset (CTX.PC c) 0x100;
      let s : State := { s with pm := s.pm.set 0x100 ((verkWord (.unpick c d a y)).getD 0) }; s), 5, 1, 2, (.reg 4), issues_of (by decide +kernel),
      by decide +kernel⟩⟩

/-- A witness of each clause of `Obligations.VerkResults`. -/
theorem witness_verk_results :
    (∃ (s : State) (c : CtxId) (d : Reg) (a : Reg) (y : Operand) (i : Nat), Issues s c (.meas c d a y) ∧ s.openSlot c = some i ∧ d.val ≠ 0 ∧
      definedChannel ((s.sumAY c a.val y).toNat % 256) = true ∧ s.adcFailed 0 = false) ∧
    (∃ (s : State) (c : CtxId) (d : Reg) (a : Reg) (y : Operand) (i : Nat), Issues s c (.meas c d a y) ∧ s.openSlot c = some i ∧ d.val ≠ 0 ∧
      definedChannel ((s.sumAY c a.val y).toNat % 256) = false) ∧
    (∃ (s : State) (c : CtxId) (d : Reg) (a : Reg) (y : Operand), Issues s c (.meas c d a y) ∧ s.openSlot c = none) ∧
    (∃ (s : State) (c : CtxId) (d : Reg) (a : Reg) (y : Operand), Issues s c (.getm c d a y) ∧ 0 < d.val ∧ d.val < 15) ∧
    (∃ (s : State) (c : CtxId) (tag : Nat), (s.context c).results.find? (fun p => p.1 == tag) = none) ∧
    (∃ (s : State) (c : CtxId), Issues s c (.txb c) ∧ s.cget (CTX.TX c) = 0) ∧
    (∃ (s : State) (c : CtxId), Issues s c (.txb c) ∧ s.cget (CTX.TX c) = 1 ∧ (c.val = 0 → s.lom.ctx0Restart = none)) ∧
    (∃ (s : State) (c : CtxId) (d : Reg), Issues s c (.txc c d) ∧ s.cget (CTX.TX c) = 0 ∧ (c.val = 0 → s.lom.ctx0Restart = none)) ∧
    (∃ (s : State) (c : CtxId) (d : Reg), Issues s c (.txc c d) ∧ s.cget (CTX.TX c) = 1 ∧ 1 + s.txRails c ≤ s.openSlots c) ∧
    (∃ (s : State) (c : CtxId) (d : Reg), Issues s c (.txc c d) ∧ s.cget (CTX.TX c) = 1 ∧ s.openSlots c < 1 + s.txRails c) ∧
    (∃ (s : State) (c : CtxId), (s.context c).wait = some .commit ∧ s.commitWaitsPeer c = false ∧ (s.context c).aborting = false ∧ s.cstate c = 4 ∧
      (s.context c).txOrders = [] ∧ (s.context c).waitReg < 16 ∧ 0 < (s.context c).waitReg) ∧
    (∃ (s : State) (c : CtxId), (s.context c).wait = some .commit ∧ s.commitWaitsPeer c = false ∧ (s.context c).aborting = true) ∧
    (∃ (s : State) (c : CtxId), ((s.context c).wait ≠ some .commit ∨ s.commitWaitsPeer c = true)) ∧
    (∃ (s : State) (c : CtxId) (d : Reg) (a : Reg) (y : Operand) (m : Nat) (r : Nat), Issues s c (.emit c d a y) ∧ s.cget (CTX.TX c) = 0 ∧
      (s.sumAY c a.val y).toNat % 4 = 0 ∧ (s.sumAY c a.val y).toNat ≤ 0x3FC0 ∧ (s.context c).job = some (m, r) ∧ (s.job m r).live = true) ∧
    (∃ (s : State) (c : CtxId) (a : Reg) (y : Operand) (m : Nat) (r : Nat), Issues s c (.done c a y) ∧ s.cget (CTX.TX c) = 0 ∧
      (s.sumAY c a.val y).toNat % 4 = 0 ∧ (s.sumAY c a.val y).toNat ≤ 0x3FC0 ∧ (s.context c).job = some (m, r) ∧ (s.job m r).live = true) ∧
    (∃ (s : State) (c : CtxId) (d : Reg) (a : Reg) (y : Operand), Issues s c (.emit c d a y) ∧ ((s.sumAY c a.val y).toNat % 4 ≠ 0 ∨
      0x3FC0 < (s.sumAY c a.val y).toNat) ∧ (c.val = 0 → s.lom.ctx0Restart = none)) ∧
    (∃ (s : State) (c : CtxId) (a : Reg) (y : Operand), Issues s c (.done c a y) ∧ ((s.sumAY c a.val y).toNat % 4 ≠ 0 ∨
      0x3FC0 < (s.sumAY c a.val y).toNat) ∧ (c.val = 0 → s.lom.ctx0Restart = none)) ∧
    (∃ (s : State) (c : CtxId) (d : Reg) (a : Reg) (y : Operand) (i : Nat), Issues s c (.selftest c d a y) ∧ s.openSlot c = some i ∧
      (s.sumAY c a.val y).toNat % 2 ^ 18 = 0 ∧ d.val ≠ 0) ∧
    (∃ (s : State) (c : CtxId) (d : Reg) (a : Reg) (y : Operand) (i : Nat), Issues s c (.cal c d a y) ∧ s.openSlot c = some i ∧
      (s.sumAY c a.val y).toNat % 2 ^ 18 = 0 ∧ d.val ≠ 0) ∧
    (∃ (s : State) (c : CtxId) (d : Reg) (a : Reg) (y : Operand) (n : Nat), Issues s c (.selftest c d a y) ∧ n < 18 ∧
      (s.sumAY c a.val y).toNat.testBit n = true ∧ s.cellPresent n = false ∧ (c.val = 0 → s.lom.ctx0Restart = none)) ∧
    (∃ (s : State) (c : CtxId) (d : Reg) (a : Reg) (y : Operand) (n : Nat), Issues s c (.cal c d a y) ∧ n < 18 ∧
      (s.sumAY c a.val y).toNat.testBit n = true ∧ s.cellPresent n = false ∧ (c.val = 0 → s.lom.ctx0Restart = none)) ∧
    (∃ (s : State) (c : CtxId) (d : Reg), Issues s c (.fence c d) ∧ s.slotsOf c = []) ∧
    (∃ (s : State) (c : CtxId) (d : Reg), Issues s c (.fence c d) ∧ s.slotsOf c ≠ []) ∧
    (∃ (s : State) (c : CtxId), (s.context c).wait = some .fence ∧ s.slotsOf c = [] ∧ s.cstate c = 4 ∧ (s.context c).waitReg < 16) ∧
    (∃ (s : State) (c : CtxId), (s.slotsOf c ≠ [] ∨ (s.context c).wait ≠ some .fence)) :=
  ⟨⟨(let c : CtxId := 5; let d : Reg := 1; let a : Reg := 2; let y : Operand := (.reg 4);
      let s := ((lab.set LOM_CTRL.EN 1).cset (CTX.STATE c) 3).cset (CTX.PC c) 0x100;
      let s : State := { s with pm := s.pm.set 0x100 ((verkWord (.meas c d a y)).getD 0) }; s), 5, 1, 2, (.reg 4), 0, issues_of (by decide +kernel),
      by decide +kernel⟩,
    ⟨(let c : CtxId := 5; let d : Reg := 1; let a : Reg := 2; let y : Operand := (.reg 4);
      let s := ((lab.set LOM_CTRL.EN 1).cset (CTX.STATE c) 3).cset (CTX.PC c) 0x100;
      let s : State := { s with pm := s.pm.set 0x100 ((verkWord (.meas c d a y)).getD 0) }; s.setG c a.val 0x22), 5, 1, 2, (.reg 4), 0,
      issues_of (by decide +kernel), by decide +kernel⟩,
    ⟨(let c : CtxId := 5; let d : Reg := 1; let a : Reg := 2; let y : Operand := (.reg 4);
      let s := ((lab.set LOM_CTRL.EN 1).cset (CTX.STATE c) 3).cset (CTX.PC c) 0x100;
      let s : State := { s with pm := s.pm.set 0x100 ((verkWord (.meas c d a y)).getD 0) };
      let s : State := { s with lom := { s.lom with slots := (List.range 8).map (fun i => (i, (c.val, SlotUse.rail))) } }; s), 5, 1, 2, (.reg 4),
      issues_of (by decide +kernel), by decide +kernel⟩,
    ⟨(let c : CtxId := 5; let d : Reg := 1; let a : Reg := 2; let y : Operand := (.reg 4);
      let s := ((lab.set LOM_CTRL.EN 1).cset (CTX.STATE c) 3).cset (CTX.PC c) 0x100;
      let s : State := { s with pm := s.pm.set 0x100 ((verkWord (.getm c d a y)).getD 0) }; s), 5, 1, 2, (.reg 4), issues_of (by decide +kernel),
      by decide +kernel⟩,
    ⟨lab, 5, 0, by decide +kernel⟩,
    ⟨(let c : CtxId := 5; let s := ((lab.set LOM_CTRL.EN 1).cset (CTX.STATE c) 3).cset (CTX.PC c) 0x100;
      let s : State := { s with pm := s.pm.set 0x100 ((verkWord (.txb c)).getD 0) }; s.cset (CTX.TX c) 0), 5, issues_of (by decide +kernel),
      by decide +kernel⟩,
    ⟨(let c : CtxId := 5; let s := ((lab.set LOM_CTRL.EN 1).cset (CTX.STATE c) 3).cset (CTX.PC c) 0x100;
      let s : State := { s with pm := s.pm.set 0x100 ((verkWord (.txb c)).getD 0) }; s.cset (CTX.TX c) 1), 5, issues_of (by decide +kernel),
      by decide +kernel⟩,
    ⟨(let c : CtxId := 5; let d : Reg := 1; let s := ((lab.set LOM_CTRL.EN 1).cset (CTX.STATE c) 3).cset (CTX.PC c) 0x100;
      let s : State := { s with pm := s.pm.set 0x100 ((verkWord (.txc c d)).getD 0) }; s.cset (CTX.TX c) 0), 5, 1, issues_of (by decide +kernel),
      by decide +kernel⟩,
    ⟨(let c : CtxId := 5; let d : Reg := 1; let s := ((lab.set LOM_CTRL.EN 1).cset (CTX.STATE c) 3).cset (CTX.PC c) 0x100;
      let s : State := { s with pm := s.pm.set 0x100 ((verkWord (.txc c d)).getD 0) }; s.cset (CTX.TX c) 1), 5, 1, issues_of (by decide +kernel),
      by decide +kernel⟩,
    ⟨(let c : CtxId := 5; let d : Reg := 1; let s := ((lab.set LOM_CTRL.EN 1).cset (CTX.STATE c) 3).cset (CTX.PC c) 0x100;
      let s : State := { s with pm := s.pm.set 0x100 ((verkWord (.txc c d)).getD 0) }; let s := s.cset (CTX.TX c) 1;
      let s : State := { s with lom := { s.lom with slots := (List.range 8).map (fun i => (i, (c.val, SlotUse.rail))) } }; s), 5, 1,
      issues_of (by decide +kernel), by decide +kernel⟩,
    ⟨(let c : CtxId := 5;
      ((((lab.setContext c (fun x => { x with wait := some .commit })).setContext c (fun x => { x with aborting := false })).cset (CTX.STATE c) 4).setContext c (fun x => { x with txOrders := [] })).setContext c (fun x => { x with waitReg := 1 })),
      5, by decide +kernel⟩,
    ⟨(let c : CtxId := 5; (lab.setContext c (fun x => { x with wait := some .commit })).setContext c (fun x => { x with aborting := true })), 5,
      by decide +kernel⟩,
    ⟨lab, 5, by decide +kernel⟩,
    ⟨(let c : CtxId := 5; let d : Reg := 1; let a : Reg := 2; let y : Operand := (.reg 4); let m : Nat := 0; let r : Nat := 0;
      let s := ((lab.set LOM_CTRL.EN 1).cset (CTX.STATE c) 3).cset (CTX.PC c) 0x100;
      let s : State := { s with pm := s.pm.set 0x100 ((verkWord (.emit c d a y)).getD 0) };
      let s := (s.cset (CTX.TX c) 0).setContext c (fun x => { x with job := some (m, r) }); s.setJob m r { s.job m r with state := 3 }), 5, 1, 2,
      (.reg 4), 0, 0, issues_of (by decide +kernel), by decide +kernel⟩,
    ⟨(let c : CtxId := 5; let a : Reg := 1; let y : Operand := (.reg 4); let m : Nat := 0; let r : Nat := 0;
      let s := ((lab.set LOM_CTRL.EN 1).cset (CTX.STATE c) 3).cset (CTX.PC c) 0x100;
      let s : State := { s with pm := s.pm.set 0x100 ((verkWord (.done c a y)).getD 0) };
      let s := (s.cset (CTX.TX c) 0).setContext c (fun x => { x with job := some (m, r) }); s.setJob m r { s.job m r with state := 3 }), 5, 1,
      (.reg 4), 0, 0, issues_of (by decide +kernel), by decide +kernel⟩,
    ⟨(let c : CtxId := 5; let d : Reg := 1; let a : Reg := 2; let y : Operand := (.reg 4);
      let s := ((lab.set LOM_CTRL.EN 1).cset (CTX.STATE c) 3).cset (CTX.PC c) 0x100;
      let s : State := { s with pm := s.pm.set 0x100 ((verkWord (.emit c d a y)).getD 0) }; s.setG c a.val 0x3FC4), 5, 1, 2, (.reg 4),
      issues_of (by decide +kernel), by decide +kernel⟩,
    ⟨(let c : CtxId := 5; let a : Reg := 2; let y : Operand := (.reg 4);
      let s := ((lab.set LOM_CTRL.EN 1).cset (CTX.STATE c) 3).cset (CTX.PC c) 0x100;
      let s : State := { s with pm := s.pm.set 0x100 ((verkWord (.done c a y)).getD 0) }; s.setG c a.val 0x3FC4), 5, 2, (.reg 4),
      issues_of (by decide +kernel), by decide +kernel⟩,
    ⟨(let c : CtxId := 5; let d : Reg := 1; let a : Reg := 2; let y : Operand := (.reg 4);
      let s := ((lab.set LOM_CTRL.EN 1).cset (CTX.STATE c) 3).cset (CTX.PC c) 0x100;
      let s : State := { s with pm := s.pm.set 0x100 ((verkWord (.selftest c d a y)).getD 0) }; s), 5, 1, 2, (.reg 4), 0,
      issues_of (by decide +kernel), by decide +kernel⟩,
    ⟨(let c : CtxId := 5; let d : Reg := 1; let a : Reg := 2; let y : Operand := (.reg 4);
      let s := ((lab.set LOM_CTRL.EN 1).cset (CTX.STATE c) 3).cset (CTX.PC c) 0x100;
      let s : State := { s with pm := s.pm.set 0x100 ((verkWord (.cal c d a y)).getD 0) }; s), 5, 1, 2, (.reg 4), 0, issues_of (by decide +kernel),
      by decide +kernel⟩,
    ⟨(let c : CtxId := 5; let d : Reg := 1; let a : Reg := 2; let y : Operand := (.reg 4);
      let s := ((lab.set LOM_CTRL.EN 1).cset (CTX.STATE c) 3).cset (CTX.PC c) 0x100;
      let s : State := { s with pm := s.pm.set 0x100 ((verkWord (.selftest c d a y)).getD 0) }; (s.setG c a.val 0x3FFFF).set GLB_FEAT.TRK_CELLS 5), 5,
      1, 2, (.reg 4), 9, issues_of (by decide +kernel), by decide +kernel⟩,
    ⟨(let c : CtxId := 5; let d : Reg := 1; let a : Reg := 2; let y : Operand := (.reg 4);
      let s := ((lab.set LOM_CTRL.EN 1).cset (CTX.STATE c) 3).cset (CTX.PC c) 0x100;
      let s : State := { s with pm := s.pm.set 0x100 ((verkWord (.cal c d a y)).getD 0) }; (s.setG c a.val 0x3FFFF).set GLB_FEAT.TRK_CELLS 5), 5, 1,
      2, (.reg 4), 9, issues_of (by decide +kernel), by decide +kernel⟩,
    ⟨(let c : CtxId := 5; let d : Reg := 1; let s := ((lab.set LOM_CTRL.EN 1).cset (CTX.STATE c) 3).cset (CTX.PC c) 0x100;
      let s : State := { s with pm := s.pm.set 0x100 ((verkWord (.fence c d)).getD 0) }; s), 5, 1, issues_of (by decide +kernel), by decide +kernel⟩,
    ⟨(let c : CtxId := 5; let d : Reg := 1; let s := ((lab.set LOM_CTRL.EN 1).cset (CTX.STATE c) 3).cset (CTX.PC c) 0x100;
      let s : State := { s with pm := s.pm.set 0x100 ((verkWord (.fence c d)).getD 0) };
      let s : State := { s with lom := { s.lom with slots := [(0, (c.val, SlotUse.rail))] } }; s), 5, 1, issues_of (by decide +kernel),
      by decide +kernel⟩,
    ⟨(let c : CtxId := 5; (lab.setContext c (fun x => { x with wait := some .fence })).cset (CTX.STATE c) 4), 5, by decide +kernel⟩,
    ⟨lab, 5, by decide +kernel⟩⟩

/-- A witness of each clause of `Obligations.JobRings`. -/
theorem witness_job_rings :
    (∃ (s : State) (m : Fin 4) (tail : BitVec 6), RingsServed s m.val ∧ (tail.toNat + 64 - s.get (JOB_SQ.HEAD m.val)) % 64 ≤ 32 ∧
      (s.get (JOB_SQ.TAIL m.val) + 64 - s.get (JOB_SQ.HEAD m.val)) % 64 ≤ (tail.toNat + 64 - s.get (JOB_SQ.HEAD m.val)) % 64) ∧
    (∃ (s : State) (m : Fin 4) (tail : BitVec 6), RingsServed s m.val ∧ (32 < (tail.toNat + 64 - s.get (JOB_SQ.HEAD m.val)) % 64 ∨
      (tail.toNat + 64 - s.get (JOB_SQ.HEAD m.val)) % 64 < (s.get (JOB_SQ.TAIL m.val) + 64 - s.get (JOB_SQ.HEAD m.val)) % 64)) ∧
    (∃ (s : State) (m : Fin 4), s.fullService = true ∧ s.chipSafe = false ∧ (m.val < 3 → s.is UPD_STATUS.HOLD = false) ∧
      s.regionSafe .interface = true) ∧
    (∃ (s : State) (m : Fin 4) (head : BitVec 6), RingsServed s m.val ∧
      (s.get (JOB_CQ.TAIL m.val) + 64 - head.toNat) % 64 ≤ (s.get (JOB_CQ.TAIL m.val) + 64 - s.get (JOB_CQ.HEAD m.val)) % 64) ∧
    (∃ (s : State) (m : Fin 4) (head : BitVec 6), RingsServed s m.val ∧
      (s.get (JOB_CQ.TAIL m.val) + 64 - s.get (JOB_CQ.HEAD m.val)) % 64 < (s.get (JOB_CQ.TAIL m.val) + 64 - head.toNat) % 64) ∧
    (∃ (s : State) (m : Fin 4), (s.copyHeld = true ∨ s.get (JOB_SQ.HEAD m.val) = s.get (JOB_SQ.TAIL m.val))) ∧
    (∃ (s : State) (m : Fin 4), s.copyHeld = false ∧ s.get (JOB_SQ.HEAD m.val) ≠ s.get (JOB_SQ.TAIL m.val) ∧
      (s.get (JOB_CQ.TAIL m.val) + 64 - s.get (JOB_CQ.HEAD m.val)) % 64 = 32) ∧
    (∃ (s : State) (m : Fin 4) (w : Nat → Word) (r : Nat), (∀ k, w k = s.sqWord m.val (s.get (JOB_SQ.HEAD m.val) % 32) k) ∧ s.copyHeld = false ∧
      s.get (JOB_SQ.HEAD m.val) ≠ s.get (JOB_SQ.TAIL m.val) ∧ s.cqFull m.val = false ∧ (w 1).toNat / 128 % 512 = 0 ∧ (w 6).toNat < 4 ∧ w 7 = 0 ∧
      w 0 ≠ 0 ∧ (s.windowOf m.val).find? (fun e => e.jobId == w 0) = none ∧ entryValid ((w 1).toNat / 65536) = true ∧ (w 1).toNat % 128 ≠ 0 ∧
      s.ownsAny m.val ((w 1).toNat % 128) = true ∧ s.entryAbsent ((w 1).toNat / 65536) [w 2, w 3, w 4, w 5] = false ∧ s.freeRecord m.val = some r ∧
      s.paired = false) ∧
    (∃ (s : State) (m : Fin 4) (w : Nat → Word), (∀ k, w k = s.sqWord m.val (s.get (JOB_SQ.HEAD m.val) % 32) k) ∧ s.copyHeld = false ∧
      s.get (JOB_SQ.HEAD m.val) ≠ s.get (JOB_SQ.TAIL m.val) ∧ s.cqFull m.val = false ∧ bitOf (s.get JOB_CTRL.ACK_EN) m.val = true) ∧
    (∃ (s : State) (m : Fin 4) (p : Nat × List Word), s.jobs.posts.find? (fun p => p.1 == m.val) = some p ∧ s.cqFull m.val = false) ∧
    (∃ (s : State) (m : Fin 4) (p : Nat × List Word), s.jobs.posts.find? (fun p => p.1 == m.val) = some p ∧ s.cqFull m.val = true) ∧
    (∃ (s : State) (m : Fin 4), (∀ p ∈ s.jobs.posts, p.1 ≠ m.val)) :=
  ⟨⟨lab, 0, 0, ringsServed_of (by decide +kernel), by decide +kernel⟩,
    ⟨lab, 0, 33, ringsServed_of (by decide +kernel), by decide +kernel⟩,
    ⟨(lab.set (regionField .interface) 3), 0, by decide +kernel⟩,
    ⟨lab, 0, 0, ringsServed_of (by decide +kernel), by decide +kernel⟩,
    ⟨lab, 0, 1, ringsServed_of (by decide +kernel), by decide +kernel⟩,
    ⟨lab, 0, by decide +kernel⟩,
    ⟨(let m : Fin 4 := 0; (lab.set (JOB_SQ.TAIL m.val) 1).set (JOB_CQ.TAIL m.val) 32), 0, by decide +kernel⟩,
    ⟨(((((lab.set (JOB_SQ.TAIL 3) 1).putWin (0x4C00) 7).putWin (0x4C04) 0x00050005).cset (CTX.STATE 5) 1).cset (CTX.OWNER 5) 3), 3,
      ((((((lab.set (JOB_SQ.TAIL 3) 1).putWin (0x4C00) 7).putWin (0x4C04) 0x00050005).cset (CTX.STATE 5) 1).cset (CTX.OWNER 5) 3).sqWord 3 0), 0,
      fun _ => rfl, by decide +kernel⟩,
    ⟨((lab.set (JOB_SQ.TAIL 3) 1).set JOB_CTRL.ACK_EN 15), 3, (((lab.set (JOB_SQ.TAIL 3) 1).set JOB_CTRL.ACK_EN 15).sqWord 3 0), fun _ => rfl,
      by decide +kernel⟩,
    ⟨(let s := lab; let s : State := { s with jobs := { s.jobs with posts := [(0, [])] } }; s), 0, (0, []), by decide +kernel⟩,
    ⟨(let m : Fin 4 := 0; let s := lab; let s : State := { s with jobs := { s.jobs with posts := [(0, [])] } }; s.set (JOB_CQ.TAIL m.val) 32), 0, (0,
      []), by decide +kernel⟩,
    ⟨lab, 0, by decide +kernel⟩⟩

/-- A witness of each clause of `Obligations.JobRecords`. -/
theorem witness_job_records :
    (∃ (s : State) (m : Master) (r : Fin 32), (s.job m.val r.val).state = 1 ∧ s.fullService = true ∧ s.regionSafe .interface = false ∧
      (s.paired = false ∨ (s.job m.val r.val).confirmed = true) ∧ (s.windowOf m.val).find? (fun e => e.jobId == (s.job m.val r.val).jobId) = none) ∧
    (∃ (s : State) (m : Master) (r : Fin 32) (e : Accepted), (s.job m.val r.val).state = 1 ∧ s.fullService = true ∧ s.regionSafe .interface = false ∧
      (s.paired = false ∨ (s.job m.val r.val).confirmed = true) ∧ (s.windowOf m.val).find? (fun e => e.jobId == (s.job m.val r.val).jobId) = some e) ∧
    (∃ (s : State) (m : Master) (r : Fin 32), ((s.job m.val r.val).state ≠ 1 ∨ (s.paired = true ∧ (s.job m.val r.val).confirmed = false))) ∧
    (∃ (s : State) (m : Master) (r : Fin 32) (c : Nat), (s.job m.val r.val).ctx = c ∧ s.loomRuns = true ∧ s.is UPD_STATUS.HOLD = false ∧
      s.away c = false ∧ (s.job m.val r.val).state = 2 ∧ s.cstate c = 1 ∧ s.firstForCtx m.val r.val = true ∧ (s.job m.val r.val).entry < 65536) ∧
    (∃ (s : State) (m : Master) (r : Fin 32), (s.loomRuns = false ∨ s.is UPD_STATUS.HOLD = true ∨ (s.job m.val r.val).state ≠ 2 ∨
      s.cstate (s.job m.val r.val).ctx ≠ 1 ∨ s.firstForCtx m.val r.val = false)) ∧
    (∃ (s : State) (reader : Master) (m : Fin 4) (r : Fin 32), reader.val = m.val ∧ s.fullService = true ∧ (s.job m.val r.val).state ≠ 0) ∧
    (∃ (reader : Master) (m : Fin 4), reader.val ≠ m.val) ∧
    (∃ (s : State) (m : Master) (r : Fin 32), RingsServed s m.val ∧ (s.job m.val r.val).state ≠ 0 ∧ terminalState (s.job m.val r.val).state = true ∧
      (∀ q : Nat, q < 32 → q ≠ r.val → (s.job m.val q).jobId = (s.job m.val r.val).jobId → (s.job m.val q).state = 0)) ∧
    (∃ (s : State) (m : Master) (r : Fin 32), RingsServed s m.val ∧ (s.job m.val r.val).state ≠ 0 ∧ (∀ q : Nat, q < 32 →
      (s.job m.val q).jobId = (s.job m.val r.val).jobId → terminalState (s.job m.val q).state = false)) ∧
    (∃ (s : State) (m : Master) (w : Word), RingsServed s m.val ∧ (∀ q : Nat, q < 32 → (s.job m.val q).jobId = w → (s.job m.val q).state = 0)) :=
  ⟨⟨(let m : Master := 3; let r : Fin 32 := 0; let s := lab; s.setJob (m.val) (r.val) { s.job (m.val) (r.val) with state := 1 }), 3, 0,
      by decide +kernel⟩,
    ⟨(let m : Master := 3; let r : Fin 32 := 0; let s := lab; let s := s.setJob (m.val) (r.val) { s.job (m.val) (r.val) with state := 1 };
      let s : State := { s with beam := { s.beam with window := [(3, [{ jobId := 0, asn := 0, record := 0 }])] } }; s), 3, 0,
      { jobId := 0, asn := 0, record := 0 }, by decide +kernel⟩,
    ⟨lab, 3, 0, by decide +kernel⟩,
    ⟨(let m : Master := 3; let r : Fin 32 := 0; let c : Nat := 0; let s := lab;
      let s := (s.setJob (m.val) (r.val) { s.job (m.val) (r.val) with ctx := c }).set LOM_CTRL.EN 1;
      (s.setJob (m.val) (r.val) { s.job (m.val) (r.val) with state := 2 }).cset (CTX.STATE c) 1), 3, 0, 0, by decide +kernel⟩,
    ⟨lab, 3, 0, by decide +kernel⟩,
    ⟨(let m : Fin 4 := 0; let r : Fin 32 := 0; let s := lab; s.setJob (m.val) (r.val) { s.job (m.val) (r.val) with state := 3 }), 0, 0, 0,
      by decide +kernel⟩,
    ⟨3, 0, by decide +kernel⟩,
    ⟨(let m : Master := 3; let r : Fin 32 := 0; let s := lab; s.setJob m.val r.val { s.job m.val r.val with state := 5, jobId := 9 }), 3, 0,
      ringsServed_of (by decide +kernel), by decide +kernel⟩,
    ⟨(let m : Master := 3; let r : Fin 32 := 0; let s := lab; s.setJob m.val r.val { s.job m.val r.val with state := 3, jobId := 9 }), 3, 0,
      ringsServed_of (by decide +kernel), by decide +kernel⟩,
    ⟨lab, 3, 9, ringsServed_of (by decide +kernel), by decide +kernel⟩⟩

/-- A witness of each clause of `Obligations.SpiFrames`. -/
theorem witness_spi_frames :
    (∃ (s : State), s.busesRun = false) ∧
    (∃ (s : State) (a : BitVec 14) (d : Word) (crc : BitVec 8), s.busesRun = true ∧ spiCrc (frameBytes 0 a d) = crc) ∧
    (∃ (s : State) (a : BitVec 14) (d : Word) (h : BitVec 31) (crc : BitVec 8) (n : Nat) (b : Bool) (segs : List (Word × BitVec 8)) (c : Instr),
      s.busesRun = true ∧ (n ≠ 56 ∧ (c = .spiRead a d crc n ∨ c = .spiWrite a d crc n ∨ c = .spiNop a d crc n) ∨ n < 56 ∧
      (c = .spiBurstRead a h crc n b ∨ c = .spiBurstWrite a h crc n segs))) ∧
    (∃ (s : State) (a : BitVec 14) (d : Word) (h : BitVec 31) (crc : BitVec 8) (n : Nat) (b : Bool) (segs : List (Word × BitVec 8)) (c : Instr),
      s.busesRun = true ∧ 56 ≤ n ∧ (c = .spiRead a d crc 56 ∧ spiCrc (frameBytes 1 a d) ≠ crc ∨ c = .spiWrite a d crc 56 ∧
      spiCrc (frameBytes 2 a d) ≠ crc ∨ c = .spiNop a d crc 56 ∧ spiCrc (frameBytes 0 a d) ≠ crc ∨ c = .spiBurstRead a h crc n b ∧
      spiCrc (frameBytes 3 a (h.setWidth 32)) ≠ crc ∨ c = .spiBurstWrite a h crc n segs ∧
      spiCrc (frameBytes 3 a (0x80000000#32 ||| h.setWidth 32)) ≠ crc)) ∧
    (∃ (s : State) (a : BitVec 14) (d : Word) (crc : BitVec 8), s.busesRun = true ∧ spiCrc (frameBytes 1 a d) = crc ∧
      s.readServed (4 * a.toNat) = true) ∧
    (∃ (s : State) (a : BitVec 14) (d : Word) (crc : BitVec 8), s.busesRun = true ∧ spiCrc (frameBytes 2 a d) = crc ∧
      s.writeServed (4 * a.toNat) = true ∧ (s.respond.busWrite 0 (4 * a.toNat) d).saf.inReset = none) ∧
    (∃ (s : State) (a : BitVec 14) (d : Word) (h : BitVec 31) (crc : BitVec 8) (n : Nat) (segs : List (Word × BitVec 8)) (c : Instr),
      s.busesRun = true ∧ 56 ≤ n ∧ (c = .spiRead a d crc 56 ∧ spiCrc (frameBytes 1 a d) = crc ∧ s.readServed (4 * a.toNat) = false ∨
      c = .spiWrite a d crc 56 ∧ spiCrc (frameBytes 2 a d) = crc ∧ s.writeServed (4 * a.toNat) = false ∨ c = .spiBurstWrite a h crc n segs ∧
      spiCrc (frameBytes 3 a (0x80000000#32 ||| h.setWidth 32)) = crc ∧ badHeader (4 * a.toNat) h = false ∧ s.writeServed (4 * a.toNat) = false)) ∧
    (∃ (s : State) (a : BitVec 14) (h : BitVec 31) (crc : BitVec 8) (n : Nat) (b : Bool) (segs : List (Word × BitVec 8)) (c : Instr),
      s.busesRun = true ∧ 56 ≤ n ∧ (c = .spiBurstRead a h crc n b ∧ spiCrc (frameBytes 3 a (h.setWidth 32)) = crc ∨
      c = .spiBurstWrite a h crc n segs ∧ spiCrc (frameBytes 3 a (0x80000000#32 ||| h.setWidth 32)) = crc) ∧ (256 ≤ h.toNat ∨
      0x10000 < 4 * a.toNat + 4 * (h.toNat % 256 + 1))) ∧
    (∃ (s : State) (a : BitVec 14) (h : BitVec 31) (crc : BitVec 8) (k : Nat), s.busesRun = true ∧ spiCrc (frameBytes 3 a (h.setWidth 32)) = crc ∧
      badHeader (4 * a.toNat) h = false ∧ (∀ j : Nat, j ≤ h.toNat → s.readServed (4 * a.toNat + 4 * j) = true) ∧ k ≤ h.toNat + 1) ∧
    (∃ (s : State) (a : BitVec 14) (h : BitVec 31) (crc : BitVec 8) (segs : List (Word × BitVec 8)) (done : Nat) (ref : Bool) (u : State),
      s.busesRun = true ∧ spiCrc (frameBytes 3 a (0x80000000#32 ||| h.setWidth 32)) = crc ∧ badHeader (4 * a.toNat) h = false ∧ s.chipSafe = false ∧
      s.writeServed (4 * a.toNat) = true ∧ segs.length = h.toNat + 1 ∧ s.respond.writeSegments (4 * a.toNat) segs 0 = (done, ref, u) ∧
      u.saf.inReset = none) :=
  ⟨⟨(let s := lab; let s : State := { s with saf := { s.saf with vioLow := true } }; s), by decide +kernel⟩,
    ⟨lab, 0, 0, spiCrc (frameBytes 0 0 0), by decide +kernel⟩,
    ⟨lab, 0, 0, 0, 0, 55, false, [], .spiRead 0 0 0 55, by decide +kernel⟩,
    ⟨lab, 0, 0, 0, 0, 56, false, [], .spiRead 0 0 0 56, by decide +kernel⟩,
    ⟨lab, 0, 0, spiCrc (frameBytes 1 0 0), by decide +kernel⟩,
    ⟨lab, 0, 0, spiCrc (frameBytes 2 0 0), by decide +kernel⟩,
    ⟨(lab.set GLB_REGION.SERVICE 1), 0x1000, 0, 0, spiCrc (frameBytes 1 0x1000 0), 56, [], .spiRead 0x1000 0 (spiCrc (frameBytes 1 0x1000 0)) 56,
      by decide +kernel⟩,
    ⟨lab, 0, 256, spiCrc (frameBytes 3 0 256), 56, false, [], .spiBurstRead 0 256 (spiCrc (frameBytes 3 0 256)) 56 false, by decide +kernel⟩,
    ⟨lab, 0, 0, spiCrc (frameBytes 3 0 0), 0, by decide +kernel⟩,
    ⟨lab, 0, 0, spiCrc (frameBytes 3 0 0x80000000), [(0, 0)], (lab.respond.writeSegments 0 [(0, 0)] 0).1,
      (lab.respond.writeSegments 0 [(0, 0)] 0).2.1, (lab.respond.writeSegments 0 [(0, 0)] 0).2.2, by decide +kernel⟩⟩

/-- A witness of each clause of `Obligations.I2cTransactions`. -/
theorem witness_i2c_transactions :
    (∃ (s : State), s.busesRun = false) ∧
    (∃ (s : State) (reg : BitVec 16) (bytes : List (BitVec 8)) (n : Nat) (c : Instr), s.busesRun = true ∧ s.is HIF_CTRL.I2C_EN = false ∧
      (c = .i2cWrite reg bytes ∨ c = .i2cRead (some reg) n ∨ c = .i2cRead none n)) ∧
    (∃ (s : State) (reg : BitVec 16) (bytes : List (BitVec 8)) (n : Nat) (c : Instr), s.busesRun = true ∧ s.is HIF_CTRL.I2C_EN = true ∧
      reg.toNat % 4 ≠ 0 ∧ (c = .i2cWrite reg bytes ∨ c = .i2cRead (some reg) n)) ∧
    (∃ (s : State) (reg : BitVec 16) (b0 : BitVec 8) (b1 : BitVec 8) (b2 : BitVec 8) (b3 : BitVec 8), s.busesRun = true ∧
      s.is HIF_CTRL.I2C_EN = true ∧ reg.toNat % 4 = 0 ∧ s.is HIF_CTRL.PEC_EN = false ∧ s.writeServed reg.toNat = true ∧
      (s.busWrite 1 reg.toNat (b0 ++ b1 ++ b2 ++ b3)).saf.inReset = none) ∧
    (∃ (s : State) (reg : BitVec 16) (bytes : List (BitVec 8)), s.busesRun = true ∧ s.is HIF_CTRL.I2C_EN = true ∧ reg.toNat % 4 = 0 ∧ bytes ≠ [] ∧
      s.writeServed reg.toNat = true ∧ (s.is HIF_CTRL.PEC_EN = false ∧ bytes.length < 4 ∨ s.is HIF_CTRL.PEC_EN = true ∧ bytes.length < 5)) ∧
    (∃ (s : State) (reg : BitVec 16) (bytes : List (BitVec 8)), s.busesRun = true ∧ s.is HIF_CTRL.I2C_EN = true ∧ reg.toNat % 4 = 0 ∧ bytes ≠ [] ∧
      s.writeServed reg.toNat = false) ∧
    (∃ (s : State) (reg : BitVec 16) (b0 : BitVec 8) (b1 : BitVec 8) (b2 : BitVec 8) (b3 : BitVec 8) (p : BitVec 8), s.busesRun = true ∧
      s.is HIF_CTRL.I2C_EN = true ∧ reg.toNat % 4 = 0 ∧ s.is HIF_CTRL.PEC_EN = true ∧ s.writeServed reg.toNat = true ∧
      smbusPec [BitVec.ofNat 8 (2 * s.get GLB_STRAP.I2C_ADDR), reg.extractLsb' 8 8, reg.extractLsb' 0 8, b0, b1, b2, b3] = p ∧
      (s.busWrite 1 reg.toNat (b0 ++ b1 ++ b2 ++ b3)).saf.inReset = none) ∧
    (∃ (s : State) (reg : BitVec 16) (b0 : BitVec 8) (b1 : BitVec 8) (b2 : BitVec 8) (b3 : BitVec 8) (p : BitVec 8), s.busesRun = true ∧
      s.is HIF_CTRL.I2C_EN = true ∧ reg.toNat % 4 = 0 ∧ s.is HIF_CTRL.PEC_EN = true ∧ s.writeServed reg.toNat = true ∧
      smbusPec [BitVec.ofNat 8 (2 * s.get GLB_STRAP.I2C_ADDR), reg.extractLsb' 8 8, reg.extractLsb' 0 8, b0, b1, b2, b3] ≠ p) ∧
    (∃ (s : State) (reg : Option (BitVec 16)) (a : Nat) (n : Nat), a = (reg.map (fun r => r.toNat)).getD (s.get HIF_I2C_PTR.PTR) ∧ s.busesRun = true ∧
      s.is HIF_CTRL.I2C_EN = true ∧ a % 4 = 0 ∧ s.readServed a = true ∧ (s.is HIF_CTRL.PEC_EN = true ∨ n ≤ 4)) ∧
    (∃ (s : State), s.busesRun = true ∧ s.is HIF_CTRL.I2C_EN = true) ∧
    (∃ (s : State) (t0 : Nat), s.hif.rearmUntil = some t0 ∧ t0 ≤ s.time) ∧
    (∃ (s : State) (t0 : Nat), (s.hif.rearmUntil = none ∨ (s.hif.rearmUntil = some t0 ∧ s.time < t0))) :=
  ⟨⟨(let s := lab; let s : State := { s with saf := { s.saf with vioLow := true } }; s), by decide +kernel⟩,
    ⟨lab, 0, [], 0, .i2cWrite 0 [], by decide +kernel⟩,
    ⟨(lab.set HIF_CTRL.I2C_EN 1), 1, [], 0, .i2cWrite 1 [], by decide +kernel⟩,
    ⟨(lab.set HIF_CTRL.I2C_EN 1), 0, 0, 0, 0, 0, by decide +kernel⟩,
    ⟨(lab.set HIF_CTRL.I2C_EN 1), 0, [1, 2, 3], by decide +kernel⟩,
    ⟨((lab.set HIF_CTRL.I2C_EN 1).set UPD_STATUS.HOLD 1), 0, [1, 2, 3], by decide +kernel⟩,
    ⟨(((lab.set HIF_CTRL.I2C_EN 1).set HIF_CTRL.PEC_EN 1).set GLB_STRAP.I2C_ADDR 0x48), 0, 0, 0, 0, 0, smbusPec [0x90, 0, 0, 0, 0, 0, 0],
      by decide +kernel⟩,
    ⟨(((lab.set HIF_CTRL.I2C_EN 1).set HIF_CTRL.PEC_EN 1).set GLB_STRAP.I2C_ADDR 0x48), 0, 0, 0, 0, 0, 0, by decide +kernel⟩,
    ⟨((lab.set HIF_CTRL.I2C_EN 1).set HIF_CTRL.PEC_EN 1), none, 0, 0, by decide +kernel⟩,
    ⟨(lab.set HIF_CTRL.I2C_EN 1), by decide +kernel⟩,
    ⟨(let t0 : Nat := 0; let s := lab; let s : State := { s with hif := { s.hif with rearmUntil := some t0 } }; s), 0, by decide +kernel⟩,
    ⟨(let s := lab; let s : State := { s with hif := { s.hif with rearmUntil := none } }; s), 0, by decide +kernel⟩⟩

/-- A witness of each clause of `Obligations.AuxController`. -/
theorem witness_aux_controller :
    (∃ (s : State) (m : Master) (cmd : Word), s.mayWrite m = true ∧ AUX_CMD.GO.of cmd = 1 ∧ s.is AUX_CTRL.EN = true ∧ s.is AUX_STATUS.STUCK = false ∧
      AUX_CMD.RLEN.of cmd ≤ 16 ∧ AUX_CMD.WLEN.of cmd ≤ 16 ∧ s.get AUX_STATUS.STATE ≠ 1 ∧ s.is AUX_STATUS.BUSY = false) ∧
    (∃ (s : State) (m : Master) (cmd : Word), s.mayWrite m = true ∧ AUX_CMD.GO.of cmd = 1 ∧ (s.is AUX_CTRL.EN = false ∨ s.is AUX_STATUS.STUCK = true)) ∧
    (∃ (s : State) (m : Master) (cmd : Word), s.mayWrite m = true ∧ AUX_CMD.GO.of cmd = 1 ∧ s.is AUX_CTRL.EN = true ∧ s.is AUX_STATUS.STUCK = false ∧
      (16 < AUX_CMD.RLEN.of cmd ∨ 16 < AUX_CMD.WLEN.of cmd)) ∧
    (∃ (s : State) (m : Master) (cmd : Word), s.mayWrite m = true ∧ AUX_CMD.GO.of cmd = 1 ∧ s.is AUX_CTRL.EN = true ∧ s.is AUX_STATUS.STUCK = false ∧
      AUX_CMD.RLEN.of cmd ≤ 16 ∧ AUX_CMD.WLEN.of cmd ≤ 16 ∧ s.get AUX_STATUS.STATE = 1 ∧ s.aux.held = none) ∧
    (∃ (s : State) (m : Master) (cmd : Word), s.mayWrite m = true ∧ AUX_CMD.GO.of cmd = 1 ∧ s.is AUX_CTRL.EN = true ∧ s.is AUX_STATUS.STUCK = false ∧
      AUX_CMD.RLEN.of cmd ≤ 16 ∧ AUX_CMD.WLEN.of cmd ≤ 16 ∧ s.get AUX_STATUS.STATE ≠ 1 ∧ s.is AUX_STATUS.BUSY = true) ∧
    (∃ (s : State) (m : Master) (cmd : Word), (s.mayWrite m = false ∨ AUX_CMD.GO.of cmd = 0)) ∧
    (∃ (s : State) (aw : Bool) (ar : Bool) (acked : Nat) (rx : List (BitVec 8)), s.is AUX_STATUS.BUSY = true ∧ s.get AUX_STATUS.STATE ≠ 1 ∧
      AUX_CMD.WLEN.of s.aux.cmd ≤ acked ∧ AUX_CMD.WLEN.of s.aux.cmd ≤ 16 ∧ AUX_CMD.RLEN.of s.aux.cmd ≤ 16 ∧ rx.length = AUX_CMD.RLEN.of s.aux.cmd ∧
      aw = true ∧ ar = true) ∧
    (∃ (s : State), s.is AUX_STATUS.BUSY = true ∧ s.get AUX_STATUS.STATE ≠ 1 ∧ AUX_CMD.WLEN.of s.aux.cmd ≠ 0) ∧
    (∃ (s : State) (acked : Nat), s.is AUX_STATUS.BUSY = true ∧ s.get AUX_STATUS.STATE ≠ 1 ∧ acked < AUX_CMD.WLEN.of s.aux.cmd ∧
      AUX_CMD.WLEN.of s.aux.cmd ≤ 16) ∧
    (∃ (s : State), s.is AUX_STATUS.BUSY = false) ∧
    (∃ (s : State) (m : Master) (data : Word), s.mayWrite m = true ∧ s.is AUX_CTRL.EN = false ∧ AUX_CTRL.EN.of data = 1) ∧
    (∃ (s : State) (m : Master) (data : Word), (s.mayWrite m = false ∨ s.is AUX_CTRL.EN = true ∨ AUX_CTRL.EN.of data = 0)) ∧
    (∃ (s : State) (scl : Bool) (p : Nat), s.get AUX_STATUS.STATE = 1 ∧ s.aux.clearAt + us 10 ≤ s.time ∧ (scl = true ∨ 9 < p)) ∧
    (∃ (s : State) (p : Nat), s.get AUX_STATUS.STATE = 1 ∧ s.aux.clearAt + us 10 ≤ s.time ∧ p ≤ 9 ∧ s.aux.held = none) ∧
    (∃ (s : State) (p : Nat) (m : Nat) (cmd : Word), s.get AUX_STATUS.STATE = 1 ∧ s.aux.clearAt + us 10 ≤ s.time ∧ p ≤ 9 ∧ s.aux.held = some (m, cmd)) ∧
    (∃ (s : State), (s.get AUX_STATUS.STATE ≠ 1 ∨ s.time < s.aux.clearAt + us 10)) ∧
    (∃ (s : State), s.is AUX_STATUS.BUSY = true ∧ s.get AUX_STATUS.STATE ≠ 1) ∧
    (∃ (s : State), s.is AUX_STATUS.BUSY = false) :=
  ⟨⟨(lab.set AUX_CTRL.EN 1), 3, AUX_CMD.GO.put 1 0, by decide +kernel⟩,
    ⟨lab, 3, AUX_CMD.GO.put 1 0, by decide +kernel⟩,
    ⟨(lab.set AUX_CTRL.EN 1), 3, AUX_CMD.RLEN.put 17 (AUX_CMD.GO.put 1 0), by decide +kernel⟩,
    ⟨(let s := (lab.set AUX_CTRL.EN 1).set AUX_STATUS.STATE 1; let s : State := { s with aux := { s.aux with held := none } }; s), 3,
      AUX_CMD.GO.put 1 0, by decide +kernel⟩,
    ⟨((lab.set AUX_CTRL.EN 1).set AUX_STATUS.BUSY 1), 3, AUX_CMD.GO.put 1 0, by decide +kernel⟩,
    ⟨lab, 3, 0, by decide +kernel⟩,
    ⟨(lab.set AUX_STATUS.BUSY 1), true, true, 0, [], by decide +kernel⟩,
    ⟨(let s := lab.set AUX_STATUS.BUSY 1; let s : State := { s with aux := { s.aux with cmd := AUX_CMD.WLEN.put 16 0 } }; s), by decide +kernel⟩,
    ⟨(let s := lab.set AUX_STATUS.BUSY 1; let s : State := { s with aux := { s.aux with cmd := AUX_CMD.WLEN.put 16 0 } }; s), 15, by decide +kernel⟩,
    ⟨lab, by decide +kernel⟩,
    ⟨lab, 3, AUX_CTRL.EN.put 1 0, by decide +kernel⟩,
    ⟨lab, 3, 0, by decide +kernel⟩,
    ⟨(lab.set AUX_STATUS.STATE 1), true, 0, by decide +kernel⟩,
    ⟨(let s := lab.set AUX_STATUS.STATE 1; let s : State := { s with aux := { s.aux with held := none } }; s), 9, by decide +kernel⟩,
    ⟨(let m : Nat := 0; let cmd : Word := 0; let s := lab.set AUX_STATUS.STATE 1;
      let s : State := { s with aux := { s.aux with held := some (m, cmd) } }; s), 9, 0, 0, by decide +kernel⟩,
    ⟨lab, by decide +kernel⟩,
    ⟨(lab.set AUX_STATUS.BUSY 1), by decide +kernel⟩,
    ⟨lab, by decide +kernel⟩⟩

/-- A witness of each clause of `Obligations.PortAttachment`. -/
theorem witness_port_attachment :
    (∃ (s : State) (l : Fin 4), s.portUp = true ∧ l.val ≠ 0 ∧ s.get SVC_CTRL.ROLE ≠ 2 ∧ 1 ≤ s.get SVC_STATUS.TC_STATE ∧ s.get SVC_STATUS.TC_STATE ≤ 4) ∧
    (∃ (s : State), s.portUp = true ∧ s.get SVC_CTRL.ROLE = 0 ∧ s.packBars = false ∧ 1 ≤ s.get SVC_STATUS.TC_STATE ∧ s.get SVC_STATUS.TC_STATE ≤ 3) ∧
    (∃ (s : State), s.portUp = true ∧ s.get SVC_CTRL.ROLE = 2 ∧ s.packBars = false ∧ 1 ≤ s.get SVC_STATUS.TC_STATE ∧ s.get SVC_STATUS.TC_STATE ≤ 3) ∧
    (∃ (s : State) (l : Fin 4), (s.get GLB_REGION.SERVICE = 1 ∨ s.get GLB_REGION.SERVICE = 3) ∧ l.val ≠ 0) ∧
    (∃ (s : State), s.portUp = true ∧ s.get SVC_STATUS.TC_STATE = 5 ∧ s.get SRC_STATUS.PRIMARY ≠ 4 ∧ s.svc.swap = none ∧ s.svc.recoveryEnd = none) ∧
    (∃ (s : State), s.get GLB_REGION.SERVICE = 2 ∧ s.get SVC_STATUS.TC_STATE < 4) ∧
    (∃ (s : State), s.portUp = true ∧ s.get SVC_CTRL.ROLE = 0 ∧ s.packBars = false ∧ (s.get SVC_STATUS.TC_STATE = 1 ∨ s.get SVC_STATUS.TC_STATE = 2)) ∧
    (∃ (s : State), (s.get SVC_CTRL.ROLE ≠ 0 ∨ s.packBars = true ∨ s.portUp = false)) ∧
    (∃ (s : State) (v : Nat), 1 ≤ s.get PRT_STATUS.MODE ∧ s.get PRT_STATUS.MODE ≤ 4 ∧ s.svc.swap = none ∧ (5200 < v ∨ s.get PRT_STATUS.MODE = 4 ∧
      11 * s.contractVolt + 500 < 10 * v ∨ s.get PRT_STATUS.MODE ≠ 4 ∧ 11 * s.contractVolt < 10 * v ∧ 5500 < 10 * v)) ∧
    (∃ (s : State), (s.get PRT_STATUS.MODE = 0 ∨ 5 ≤ s.get PRT_STATUS.MODE)) ∧
    (∃ (s : State) (i : Int), s.svc.swap = none ∧ (s.get PRT_STATUS.MODE = 4 ∧ i < -50 ∨ 1 ≤ s.get PRT_STATUS.MODE ∧ s.get PRT_STATUS.MODE ≤ 3 ∧
      50 < i)) ∧
    (∃ (s : State) (v : Nat), v < 400 ∧ s.is SRC_STATUS.VBUS_QUAL = true) ∧
    (∃ (s : State) (v : Nat), (400 ≤ v ∨ s.is SRC_STATUS.VBUS_QUAL = false)) ∧
    (∃ (s : State) (l : Fin 4), (s.get GLB_REGION.SERVICE = 1 ∨ s.get GLB_REGION.SERVICE = 3) ∧ s.chipSafe = false ∧ s.qualified 1 = false ∧
      s.qualified 2 = false ∧ bitOf s.saf.keepInputs 2 = true ∧ l.val ≠ 0 ∧ s.get SRC_STATUS.PRIMARY ≠ 4) ∧
    (∃ (s : State), (s.get GLB_REGION.SERVICE = 2 ∨ s.qualified 1 = true ∨ s.qualified 2 = true)) ∧
    (∃ (s : State) (v : Nat), s.isSink = true ∧ 475 ≤ v ∧ s.svc.awaitVbus = 1) ∧
    (∃ (s : State) (v : Nat), s.isSink = true ∧ 475 ≤ v ∧ s.svc.awaitVbus = 2) ∧
    (∃ (s : State) (v : Nat), (v < 475 ∨ s.isSink = false ∨ s.svc.awaitVbus = 0)) ∧
    (∃ (s : State) (t0 : Nat), s.svc.tryAt = some t0 ∧ s.get SVC_STATUS.TC_STATE = 4 ∧ t0 + ms 100 ≤ s.time ∧ s.portUp = true ∧ s.packBars = false) ∧
    (∃ (s : State) (t0 : Nat), s.svc.tryAt = some t0 ∧ s.get SVC_STATUS.TC_STATE = 4 ∧ t0 + ms 600 ≤ s.time ∧ s.portUp = true ∧
      s.get SVC_CTRL.ROLE = 0 ∧ s.svc.recoveryEnd = none) ∧
    (∃ (s : State), s.svc.tryAt = none) ∧
    (∃ (s : State), s.portRuns = true) ∧
    (∃ (s : State), s.portRuns = false) ∧
    (∃ (s : State) (t0 : Nat), s.svc.recoveryEnd = some t0 ∧ t0 ≤ s.time) ∧
    (∃ (s : State), s.svc.recoveryEnd = none) ∧
    (∃ (s : State), s.svc.stopped = true ∧ s.svc.recoveryEnd = none ∧ s.stopGone = true ∧ s.fullService = true ∧ s.is SVC_CTRL.EN = true ∧
      s.is UPD_STATUS.HOLD = false ∧ s.mode < 2 ∧ s.chipSafe = false ∧ s.is PRT_CTRL.EN = true) ∧
    (∃ (s : State), (s.svc.stopped = false ∨ s.stopGone = false)) ∧
    (∃ (s : State) (i : Nat), s.is SVC_STATUS.VCONN_ON = true ∧ 400 < i ∧ s.get SVC_STATUS.CONTRACT ≠ 3) ∧
    (∃ (s : State) (i : Nat), s.is SVC_STATUS.VCONN_ON = true ∧ 400 < i ∧ s.get SVC_STATUS.CONTRACT = 3 ∧ s.svc.swap = none) ∧
    (∃ (s : State) (i : Nat), (s.is SVC_STATUS.VCONN_ON = false ∨ i ≤ 400)) ∧
    (∃ (s : State) (v : Nat), s.get PRT_STATUS.MODE = 5 ∧ v < 70) ∧
    (∃ (s : State) (v : Nat), (s.get PRT_STATUS.MODE ≠ 5 ∨ 70 ≤ v)) ∧
    (∃ (s : State) (t0 : Nat), s.packBars = true ∧ s.isSource = true ∧ s.svc.packSince = some t0 ∧ t0 + ms 10 ≤ s.time ∧ s.svc.swap = none) ∧
    (∃ (s : State), (s.packBars = false ∨ s.isSource = false)) :=
  ⟨⟨(((lab.set SVC_CTRL.EN 1).set PRT_CTRL.EN 1).set SVC_STATUS.TC_STATE 1), 1, by decide +kernel⟩,
    ⟨(((lab.set SVC_CTRL.EN 1).set PRT_CTRL.EN 1).set SVC_STATUS.TC_STATE 1), by decide +kernel⟩,
    ⟨(((((lab.set SVC_CTRL.EN 1).set PRT_CTRL.EN 1).set SVC_CTRL.ROLE 0).set SVC_CTRL.ROLE 2).set SVC_STATUS.TC_STATE 3), by decide +kernel⟩,
    ⟨(lab.set GLB_REGION.SERVICE 1), 1, by decide +kernel⟩,
    ⟨(let s := ((lab.set SVC_CTRL.EN 1).set PRT_CTRL.EN 1).set SVC_STATUS.TC_STATE 5; let s : State := { s with svc := { s.svc with swap := none } };
      let s : State := { s with svc := { s.svc with recoveryEnd := none } }; s), by decide +kernel⟩,
    ⟨lab, by decide +kernel⟩,
    ⟨(((lab.set SVC_CTRL.EN 1).set PRT_CTRL.EN 1).set SVC_STATUS.TC_STATE 1), by decide +kernel⟩,
    ⟨lab, by decide +kernel⟩,
    ⟨(let s := lab; let s : State := { s with svc := { s.svc with swap := none } }; s.set PRT_STATUS.MODE 2), 5201, by decide +kernel⟩,
    ⟨lab, by decide +kernel⟩,
    ⟨(let s := lab; let s : State := { s with svc := { s.svc with swap := none } }; s.set PRT_STATUS.MODE 4), -51, by decide +kernel⟩,
    ⟨(lab.set SRC_STATUS.VBUS_QUAL 1), 399, by decide +kernel⟩,
    ⟨lab, 0, by decide +kernel⟩,
    ⟨(let s := lab.set GLB_REGION.SERVICE 1; let s : State := { s with saf := { s.saf with keepInputs := 7 } }; s), 1, by decide +kernel⟩,
    ⟨lab, by decide +kernel⟩,
    ⟨(let s := lab.set SVC_STATUS.TC_STATE 5; let s : State := { s with svc := { s.svc with awaitVbus := 1 } }; s), 475, by decide +kernel⟩,
    ⟨(let s := lab.set SVC_STATUS.TC_STATE 5; let s : State := { s with svc := { s.svc with awaitVbus := 2 } }; s), 475, by decide +kernel⟩,
    ⟨lab, 0, by decide +kernel⟩,
    ⟨(let t0 : Nat := 0; let s := lab; let s : State := { s with svc := { s.svc with tryAt := some t0 } };
      ((s.set SVC_STATUS.TC_STATE 4).set SVC_CTRL.EN 1).set PRT_CTRL.EN 1), 0, by decide +kernel⟩,
    ⟨(let t0 : Nat := 0; let s := lab; let s : State := { s with svc := { s.svc with tryAt := some t0 } };
      let s := ((s.set SVC_STATUS.TC_STATE 4).set SVC_CTRL.EN 1).set PRT_CTRL.EN 1;
      let s : State := { s with svc := { s.svc with recoveryEnd := none } }; s), 0, by decide +kernel⟩,
    ⟨(let s := lab; let s : State := { s with svc := { s.svc with tryAt := none } }; s), by decide +kernel⟩,
    ⟨(let s := lab.set SVC_CTRL.EN 1; let s : State := { s with svc := { s.svc with coreBackAt := none } }; s), by decide +kernel⟩,
    ⟨lab, by decide +kernel⟩,
    ⟨(let t0 : Nat := 0; let s := lab; let s : State := { s with svc := { s.svc with recoveryEnd := some t0 } }; s), 0, by decide +kernel⟩,
    ⟨(let s := lab; let s : State := { s with svc := { s.svc with recoveryEnd := none } }; s), by decide +kernel⟩,
    ⟨(let s := lab; let s : State := { s with svc := { s.svc with stopped := true } };
      let s : State := { s with svc := { s.svc with recoveryEnd := none } };
      ((((s.set SVC_CTRL.EN 1).set PRT_CTRL.EN 1).setZ THM_STG_WARN.FALL 1000).set THM_NCAP.PRT 2).set THM_LIM.PRT 100), by decide +kernel⟩,
    ⟨(let s := lab; let s : State := { s with svc := { s.svc with stopped := false } }; s), by decide +kernel⟩,
    ⟨(lab.set SVC_STATUS.VCONN_ON 1), 401, by decide +kernel⟩,
    ⟨(let s := (lab.set SVC_STATUS.VCONN_ON 1).set SVC_STATUS.CONTRACT 3; let s : State := { s with svc := { s.svc with swap := none } }; s), 401,
      by decide +kernel⟩,
    ⟨lab, 0, by decide +kernel⟩,
    ⟨(lab.set PRT_STATUS.MODE 5), 69, by decide +kernel⟩,
    ⟨lab, 0, by decide +kernel⟩,
    ⟨(let t0 : Nat := 0; let s := lab.set SVC_STATUS.TC_STATE 6; let s : State := { s with svc := { s.svc with packSince := some t0 } };
      let s : State := { s with svc := { s.svc with swap := none } }; s.set SRC_STATUS.PRIMARY 3), 0, by decide +kernel⟩,
    ⟨lab, by decide +kernel⟩⟩

/-- A witness of each clause of `Obligations.PdMessages`. -/
theorem witness_pd_messages :
    (∃ (s : State) (l : List Pdo) (b : Bool) (b' : Bool) (x : Nat) (y : Nat) (z : Nat) (c : Instr), s.portRuns = false ∧
      c ∈ [Instr.pdSourceCapabilities l b, .pdRequest x y z, .pdAccept, .pdReject, .pdWait, .pdPsRdy, .pdPrSwap, .pdDrSwap, .pdHardReset, .pdSoftReset b, .pdEprModeEntry b, .pdCableIdentity b b' 0 0, .pdVconnSwap, .pdUnsupported]) ∧
    (∃ (s : State) (p : Pdo), s.portRuns = true ∧ s.isSink = true ∧ s.is SVC_CTRL.PD_EN = true ∧ s.is SVC_SNK_PREF.PPS_REQ = false ∧ p.kind = .fixed ∧
      clampN 500 4800 (s.get SVC_SNK_PREF.VMIN) ≤ p.volt ∧ p.volt ≤ clampN 500 4800 (s.get PRT_LIM.VMAX)) ∧
    (∃ (s : State), s.portRuns = true ∧ s.isSink = true ∧ s.is SVC_CTRL.PD_EN = true ∧ s.get SRC_STATUS.PRIMARY ≠ 4 ∧ s.svc.swap = none) ∧
    (∃ (s : State) (pos : Nat) (v : Nat) (i : Nat) (r : Pdo × Nat × Nat), s.portRuns = true ∧ s.isSource = true ∧ s.is SVC_CTRL.PD_EN = true ∧
      s.fits pos v i = some r) ∧
    (∃ (s : State) (pos : Nat) (v : Nat) (i : Nat), s.portRuns = true ∧ s.isSource = true ∧ s.is SVC_CTRL.PD_EN = true ∧ s.fits pos v i = none) ∧
    (∃ (s : State) (w : Swap), s.portRuns = true ∧ s.isSource = true ∧ s.svc.swap = some w ∧ w.phase = 1) ∧
    (∃ (s : State), s.portRuns = true ∧ s.svc.swap = none ∧ s.svc.sent = some .drSwap) ∧
    (∃ (s : State) (w : Swap), s.portRuns = true ∧ s.svc.swap = some w ∧ w.phase = 1 ∧ w.job = none) ∧
    (∃ (s : State), s.portRuns = true ∧ s.svc.swap = none ∧ s.svc.request.isSome = true ∧ s.isSink = true) ∧
    (∃ (s : State), s.portRuns = true ∧ s.svc.swap = none ∧ s.svc.request.isSome = true ∧ s.isSink = true) ∧
    (∃ (s : State) (w : Swap), s.portRuns = true ∧ s.svc.swap = some w ∧ w.phase = 1 ∧ w.retries < 3) ∧
    (∃ (s : State) (w : Swap), s.portRuns = true ∧ s.svc.swap = some w ∧ w.phase = 1 ∧ 3 ≤ w.retries ∧ w.job = none) ∧
    (∃ (s : State) (r : Pdo × Nat × Nat), s.portRuns = true ∧ s.svc.swap = none ∧ s.svc.request = some r ∧ s.isSink = true) ∧
    (∃ (s : State) (w : Swap), s.portRuns = true ∧ s.svc.swap = some w ∧ w.phase = 2 ∧ w.goal = 0 ∧ w.job = none ∧ s.get PRT_STATUS.MODE ≠ 5 ∧
      s.svc.transAt = none) ∧
    (∃ (s : State) (w : Swap), s.portRuns = true ∧ s.svc.swap = some w ∧ w.phase = 2 ∧ w.goal = 1 ∧ w.job = none) ∧
    (∃ (s : State), s.portRuns = true ∧ s.isSource = true ∧ s.get SVC_CTRL.ROLE = 0 ∧ s.svc.swap = none) ∧
    (∃ (s : State), s.portRuns = true ∧ s.isSink = true ∧ (s.get SVC_CTRL.ROLE ≠ 0 ∨ s.get SVC_PDP.PCAP < 150) ∧ s.svc.swap = none) ∧
    (∃ (s : State), s.portRuns = true ∧ s.isSink = true ∧ s.get SVC_CTRL.ROLE = 0 ∧ 150 ≤ s.get SVC_PDP.PCAP ∧ s.svc.swap = none ∧
      s.is SRC_STATUS.VBUS_QUAL = false) ∧
    (∃ (s : State) (w : Swap), s.portRuns = true ∧ (s.isSink = true ∨ s.isSource = true) ∧ s.svc.swap = some w ∧ w.phase = 3) ∧
    (∃ (s : State), s.portRuns = true ∧ (s.isSink = true ∨ s.isSource = true) ∧ s.is SVC_STATUS.DATA_ROLE = true) ∧
    (∃ (s : State), s.portRuns = true ∧ (s.isSink = true ∨ s.isSource = true) ∧ s.is SVC_STATUS.DATA_ROLE = false) ∧
    (∃ (s : State), s.portRuns = true ∧ s.isSource = true ∧ s.svc.swap = none) ∧
    (∃ (s : State), s.portRuns = true ∧ s.isSink = true ∧ s.svc.swap = none ∧ s.is SRC_STATUS.VBUS_QUAL = false) ∧
    (∃ (s : State), s.portRuns = true ∧ s.isSink = true ∧ s.svc.swap = none) ∧
    (∃ (s : State), s.portRuns = true ∧ s.isSink = true ∧ s.svc.swap = none) ∧
    (∃ (s : State), s.portRuns = true ∧ s.isSource = true ∧ s.svc.swap = none ∧ s.is SVC_CTRL.PD_EN = true) ∧
    (∃ (s : State), s.portRuns = true ∧ s.is SVC_CTRL.PD_EN = true ∧ s.isSource = true ∧ s.is SVC_STATUS.EPR_CABLE = false) ∧
    (∃ (s : State), s.portRuns = true ∧ s.is SVC_CTRL.PD_EN = true ∧ s.isSource = true ∧ s.is SVC_STATUS.EPR_CABLE = true ∧
      s.is SVC_CTRL.EPR_EN = true) ∧
    (∃ (s : State), s.portRuns = true ∧ s.is SVC_CTRL.PD_EN = true ∧ s.isSink = true ∧ s.svc.sent = some .eprEnter) ∧
    (∃ (s : State), s.portRuns = true ∧ s.isSource = true ∧ s.is SVC_STATUS.VCONN_ON = true) ∧
    (∃ (s : State), s.portRuns = true) :=
  ⟨⟨lab, [], false, false, 0, 0, 0, .pdAccept, by decide +kernel⟩,
    ⟨(let s := lab.set SVC_CTRL.EN 1; let s : State := { s with svc := { s.svc with coreBackAt := none } };
      (s.set SVC_STATUS.TC_STATE 5).set SVC_CTRL.PD_EN 1), { ({ kind := .fixed, pos := 1, volt := 500, curr := 300 } : Pdo) with kind := .fixed },
      by decide +kernel⟩,
    ⟨(let s := lab.set SVC_CTRL.EN 1; let s : State := { s with svc := { s.svc with coreBackAt := none } };
      let s := (s.set SVC_STATUS.TC_STATE 5).set SVC_CTRL.PD_EN 1; let s : State := { s with svc := { s.svc with swap := none } }; s),
      by decide +kernel⟩,
    ⟨(let pos : Nat := 1; let s := lab.set SVC_CTRL.EN 1; let s : State := { s with svc := { s.svc with coreBackAt := none } };
      let s := (s.set SVC_STATUS.TC_STATE 6).set SVC_CTRL.PD_EN 1;
      let s : State := { s with svc := { s.svc with offered := [{ kind := .fixed, pos := 1, volt := 500, curr := 300 }] } }; s), 1, 500, 300,
      ({ kind := .fixed, pos := 1, volt := 500, curr := 300 }, 500, 300), by decide +kernel⟩,
    ⟨(let s := lab.set SVC_CTRL.EN 1; let s : State := { s with svc := { s.svc with coreBackAt := none } };
      (s.set SVC_STATUS.TC_STATE 6).set SVC_CTRL.PD_EN 1), 0, 0, 0, by decide +kernel⟩,
    ⟨(let w : Swap := { ({ goal := 0, phase := 0 } : Swap) with phase := 1 }; let s := lab.set SVC_CTRL.EN 1;
      let s : State := { s with svc := { s.svc with coreBackAt := none } }; let s := s.set SVC_STATUS.TC_STATE 6;
      let s : State := { s with svc := { s.svc with swap := some w } }; s), { ({ goal := 0, phase := 0 } : Swap) with phase := 1 }, by decide +kernel⟩,
    ⟨(let s := lab.set SVC_CTRL.EN 1; let s : State := { s with svc := { s.svc with coreBackAt := none } };
      let s : State := { s with svc := { s.svc with swap := none } }; let s : State := { s with svc := { s.svc with sent := some .drSwap } }; s),
      by decide +kernel⟩,
    ⟨(let w : Swap := { ({ goal := 0, phase := 0 } : Swap) with phase := 1, job := none }; let s := lab.set SVC_CTRL.EN 1;
      let s : State := { s with svc := { s.svc with coreBackAt := none } }; let s : State := { s with svc := { s.svc with swap := some w } }; s),
      { ({ goal := 0, phase := 0 } : Swap) with phase := 1, job := none }, by decide +kernel⟩,
    ⟨(let s := lab.set SVC_CTRL.EN 1; let s : State := { s with svc := { s.svc with coreBackAt := none } };
      let s : State := { s with svc := { s.svc with swap := none } }; let s := s.set SVC_STATUS.TC_STATE 5;
      let s : State := { s with svc := { s.svc with request := some ({ kind := .fixed, pos := 1, volt := 500, curr := 300 }, 500, 300) } }; s),
      by decide +kernel⟩,
    ⟨(let s := lab.set SVC_CTRL.EN 1; let s : State := { s with svc := { s.svc with coreBackAt := none } };
      let s : State := { s with svc := { s.svc with swap := none } }; let s := s.set SVC_STATUS.TC_STATE 5;
      let s : State := { s with svc := { s.svc with request := some ({ kind := .fixed, pos := 1, volt := 500, curr := 300 }, 500, 300) } }; s),
      by decide +kernel⟩,
    ⟨(let w : Swap := { ({ goal := 0, phase := 0 } : Swap) with phase := 1 }; let s := lab.set SVC_CTRL.EN 1;
      let s : State := { s with svc := { s.svc with coreBackAt := none } }; let s : State := { s with svc := { s.svc with swap := some w } }; s),
      { ({ goal := 0, phase := 0 } : Swap) with phase := 1 }, by decide +kernel⟩,
    ⟨(let w : Swap := { ({ goal := 0, phase := 0 } : Swap) with phase := 1, retries := 4, job := none }; let s := lab.set SVC_CTRL.EN 1;
      let s : State := { s with svc := { s.svc with coreBackAt := none } }; let s : State := { s with svc := { s.svc with swap := some w } }; s),
      { ({ goal := 0, phase := 0 } : Swap) with phase := 1, retries := 4, job := none }, by decide +kernel⟩,
    ⟨(let r : Pdo × Nat × Nat := ({ kind := .fixed, pos := 1, volt := 500, curr := 300 }, 500, 300); let s := lab.set SVC_CTRL.EN 1;
      let s : State := { s with svc := { s.svc with coreBackAt := none } }; let s : State := { s with svc := { s.svc with swap := none } };
      let s : State := { s with svc := { s.svc with request := some r } }; s.set SVC_STATUS.TC_STATE 5),
      ({ kind := .fixed, pos := 1, volt := 500, curr := 300 }, 500, 300), by decide +kernel⟩,
    ⟨(let w : Swap := { ({ goal := 0, phase := 0 } : Swap) with phase := 2, goal := 0, job := none }; let s := lab.set SVC_CTRL.EN 1;
      let s : State := { s with svc := { s.svc with coreBackAt := none } }; let s : State := { s with svc := { s.svc with swap := some w } };
      let s : State := { s with svc := { s.svc with transAt := none } }; s),
      { ({ goal := 0, phase := 0 } : Swap) with phase := 2, goal := 0, job := none }, by decide +kernel⟩,
    ⟨(let w : Swap := { ({ goal := 0, phase := 0 } : Swap) with phase := 2, goal := 1, job := none }; let s := lab.set SVC_CTRL.EN 1;
      let s : State := { s with svc := { s.svc with coreBackAt := none } }; let s : State := { s with svc := { s.svc with swap := some w } }; s),
      { ({ goal := 0, phase := 0 } : Swap) with phase := 2, goal := 1, job := none }, by decide +kernel⟩,
    ⟨(let s := lab.set SVC_CTRL.EN 1; let s : State := { s with svc := { s.svc with coreBackAt := none } }; let s := s.set SVC_STATUS.TC_STATE 6;
      let s : State := { s with svc := { s.svc with swap := none } }; s), by decide +kernel⟩,
    ⟨(let s := lab.set SVC_CTRL.EN 1; let s : State := { s with svc := { s.svc with coreBackAt := none } }; let s := s.set SVC_STATUS.TC_STATE 5;
      let s : State := { s with svc := { s.svc with swap := none } }; s), by decide +kernel⟩,
    ⟨(let s := lab.set SVC_CTRL.EN 1; let s : State := { s with svc := { s.svc with coreBackAt := none } }; let s := s.set SVC_STATUS.TC_STATE 5;
      let s : State := { s with svc := { s.svc with swap := none } }; s.set SVC_PDP.PCAP 150), by decide +kernel⟩,
    ⟨(let w : Swap := { ({ goal := 0, phase := 0 } : Swap) with phase := 3 }; let s := lab.set SVC_CTRL.EN 1;
      let s : State := { s with svc := { s.svc with coreBackAt := none } }; let s := s.set SVC_STATUS.TC_STATE 5;
      let s : State := { s with svc := { s.svc with swap := some w } }; s), { ({ goal := 0, phase := 0 } : Swap) with phase := 3 }, by decide +kernel⟩,
    ⟨(let s := lab.set SVC_CTRL.EN 1; let s : State := { s with svc := { s.svc with coreBackAt := none } };
      (s.set SVC_STATUS.TC_STATE 5).set SVC_STATUS.DATA_ROLE 1), by decide +kernel⟩,
    ⟨(let s := lab.set SVC_CTRL.EN 1; let s : State := { s with svc := { s.svc with coreBackAt := none } }; s.set SVC_STATUS.TC_STATE 5),
      by decide +kernel⟩,
    ⟨(let s := lab.set SVC_CTRL.EN 1; let s : State := { s with svc := { s.svc with coreBackAt := none } }; let s := s.set SVC_STATUS.TC_STATE 6;
      let s : State := { s with svc := { s.svc with swap := none } }; s), by decide +kernel⟩,
    ⟨(let s := lab.set SVC_CTRL.EN 1; let s : State := { s with svc := { s.svc with coreBackAt := none } }; let s := s.set SVC_STATUS.TC_STATE 5;
      let s : State := { s with svc := { s.svc with swap := none } }; s), by decide +kernel⟩,
    ⟨(let s := lab.set SVC_CTRL.EN 1; let s : State := { s with svc := { s.svc with coreBackAt := none } }; let s := s.set SVC_STATUS.TC_STATE 5;
      let s : State := { s with svc := { s.svc with swap := none } }; s), by decide +kernel⟩,
    ⟨(let s := lab.set SVC_CTRL.EN 1; let s : State := { s with svc := { s.svc with coreBackAt := none } }; let s := s.set SVC_STATUS.TC_STATE 5;
      let s : State := { s with svc := { s.svc with swap := none } }; s), by decide +kernel⟩,
    ⟨(let s := lab.set SVC_CTRL.EN 1; let s : State := { s with svc := { s.svc with coreBackAt := none } }; let s := s.set SVC_STATUS.TC_STATE 6;
      let s : State := { s with svc := { s.svc with swap := none } }; s.set SVC_CTRL.PD_EN 1), by decide +kernel⟩,
    ⟨(let s := lab.set SVC_CTRL.EN 1; let s : State := { s with svc := { s.svc with coreBackAt := none } };
      (s.set SVC_CTRL.PD_EN 1).set SVC_STATUS.TC_STATE 6), by decide +kernel⟩,
    ⟨(let s := lab.set SVC_CTRL.EN 1; let s : State := { s with svc := { s.svc with coreBackAt := none } };
      (((s.set SVC_CTRL.PD_EN 1).set SVC_STATUS.TC_STATE 6).set SVC_STATUS.EPR_CABLE 1).set SVC_CTRL.EPR_EN 1), by decide +kernel⟩,
    ⟨(let s := lab.set SVC_CTRL.EN 1; let s : State := { s with svc := { s.svc with coreBackAt := none } };
      let s := (s.set SVC_CTRL.PD_EN 1).set SVC_STATUS.TC_STATE 5; let s : State := { s with svc := { s.svc with sent := some .eprEnter } }; s),
      by decide +kernel⟩,
    ⟨(let s := lab.set SVC_CTRL.EN 1; let s : State := { s with svc := { s.svc with coreBackAt := none } };
      (s.set SVC_STATUS.TC_STATE 6).set SVC_STATUS.VCONN_ON 1), by decide +kernel⟩,
    ⟨(let s := lab.set SVC_CTRL.EN 1; let s : State := { s with svc := { s.svc with coreBackAt := none } }; s), by decide +kernel⟩⟩

/-- A witness of each clause of `Obligations.PdTimers`. -/
theorem witness_pd_timers :
    (∃ (s : State) (t0 : Nat), s.portRuns = true ∧ s.isSink = true ∧ s.svc.retryAt = some t0 ∧ t0 ≤ s.time) ∧
    (∃ (s : State), s.svc.retryAt = none) ∧
    (∃ (s : State) (w : Swap) (t0 : Nat), s.portRuns = true ∧ s.svc.swap = some w ∧ w.phase = 0 ∧ s.svc.sinkTxAt = some t0 ∧ t0 ≤ s.time ∧
      (s.isSink = false ∨ s.get SVC_STATUS.RP_LEVEL = 3)) ∧
    (∃ (s : State), (s.svc.swap = none ∨ s.svc.sinkTxAt = none)) ∧
    (∃ (s : State) (w : Swap) (t0 : Nat), s.portRuns = true ∧ s.svc.transAt = some t0 ∧ t0 ≤ s.time ∧ s.svc.swap = some w ∧ w.phase = 2 ∧ w.goal = 0) ∧
    (∃ (s : State) (t0 : Nat) (r : Pdo × Nat × Nat), s.portRuns = true ∧ s.svc.transAt = some t0 ∧ t0 ≤ s.time ∧ s.svc.swap = none ∧
      s.svc.request = some r ∧ s.isSource = true) ∧
    (∃ (s : State), s.svc.transAt = none) ∧
    (∃ (s : State) (t0 : Nat), s.portRuns = true ∧ s.isSource = true ∧ s.svc.recoverAt = some t0 ∧ t0 ≤ s.time) ∧
    (∃ (s : State), s.svc.recoverAt = none) ∧
    (∃ (s : State) (w : Swap), s.portRuns = true ∧ s.svc.swap = some w ∧ w.phase = 3 ∧ w.at_ ≤ s.time ∧ s.isSource = true) ∧
    (∃ (s : State), s.svc.swap = none) ∧
    (∃ (s : State) (t0 : Nat), s.portRuns = true ∧ s.svc.softAt = some t0 ∧ t0 ≤ s.time) ∧
    (∃ (s : State), s.svc.softAt = none) ∧
    (∃ (s : State), s.portRuns = true) ∧
    (∃ (s : State), s.portRuns = false) ∧
    (∃ (s : State) (t0 : Nat), s.portRuns = true ∧ s.isSource = true ∧ s.svc.lowSince = some t0 ∧ t0 + ms 10 ≤ s.time ∧ s.is SVC_CTRL.PD_EN = true) ∧
    (∃ (s : State), s.svc.lowSince = none) ∧
    (∃ (s : State) (t0 : Nat), s.portRuns = true ∧ s.isSource = true ∧ s.svc.highSince = some t0 ∧ t0 + ms 1000 ≤ s.time ∧ s.is SVC_CTRL.PD_EN = true) ∧
    (∃ (s : State), s.svc.highSince = none) :=
  ⟨⟨(let t0 : Nat := 0; let s := lab.set SVC_CTRL.EN 1; let s : State := { s with svc := { s.svc with coreBackAt := none } };
      let s := s.set SVC_STATUS.TC_STATE 5; let s : State := { s with svc := { s.svc with retryAt := some t0 } }; s), 0, by decide +kernel⟩,
    ⟨(let s := lab; let s : State := { s with svc := { s.svc with retryAt := none } }; s), by decide +kernel⟩,
    ⟨(let w : Swap := { ({ goal := 0, phase := 0 } : Swap) with phase := 0 }; let t0 : Nat := 0; let s := lab.set SVC_CTRL.EN 1;
      let s : State := { s with svc := { s.svc with coreBackAt := none } }; let s : State := { s with svc := { s.svc with swap := some w } };
      let s : State := { s with svc := { s.svc with sinkTxAt := some t0 } }; s), { ({ goal := 0, phase := 0 } : Swap) with phase := 0 }, 0,
      by decide +kernel⟩,
    ⟨(let s := lab; let s : State := { s with svc := { s.svc with swap := none } }; s), by decide +kernel⟩,
    ⟨(let w : Swap := { ({ goal := 0, phase := 0 } : Swap) with phase := 2, goal := 0 }; let t0 : Nat := 0; let s := lab.set SVC_CTRL.EN 1;
      let s : State := { s with svc := { s.svc with coreBackAt := none } }; let s : State := { s with svc := { s.svc with transAt := some t0 } };
      let s : State := { s with svc := { s.svc with swap := some w } }; s), { ({ goal := 0, phase := 0 } : Swap) with phase := 2, goal := 0 }, 0,
      by decide +kernel⟩,
    ⟨(let t0 : Nat := 0; let r : Pdo × Nat × Nat := ({ kind := .fixed, pos := 1, volt := 500, curr := 300 }, 500, 300);
      let s := lab.set SVC_CTRL.EN 1; let s : State := { s with svc := { s.svc with coreBackAt := none } };
      let s : State := { s with svc := { s.svc with transAt := some t0 } }; let s : State := { s with svc := { s.svc with swap := none } };
      let s : State := { s with svc := { s.svc with request := some r } }; s.set SVC_STATUS.TC_STATE 6), 0,
      ({ kind := .fixed, pos := 1, volt := 500, curr := 300 }, 500, 300), by decide +kernel⟩,
    ⟨(let s := lab; let s : State := { s with svc := { s.svc with transAt := none } }; s), by decide +kernel⟩,
    ⟨(let t0 : Nat := 0; let s := lab.set SVC_CTRL.EN 1; let s : State := { s with svc := { s.svc with coreBackAt := none } };
      let s := s.set SVC_STATUS.TC_STATE 6; let s : State := { s with svc := { s.svc with recoverAt := some t0 } }; s), 0, by decide +kernel⟩,
    ⟨(let s := lab; let s : State := { s with svc := { s.svc with recoverAt := none } }; s), by decide +kernel⟩,
    ⟨(let w : Swap := { ({ goal := 0, phase := 0 } : Swap) with phase := 3 }; let s := lab.set SVC_CTRL.EN 1;
      let s : State := { s with svc := { s.svc with coreBackAt := none } }; let s : State := { s with svc := { s.svc with swap := some w } };
      s.set SVC_STATUS.TC_STATE 6), { ({ goal := 0, phase := 0 } : Swap) with phase := 3 }, by decide +kernel⟩,
    ⟨(let s := lab; let s : State := { s with svc := { s.svc with swap := none } }; s), by decide +kernel⟩,
    ⟨(let t0 : Nat := 0; let s := lab.set SVC_CTRL.EN 1; let s : State := { s with svc := { s.svc with coreBackAt := none } };
      let s : State := { s with svc := { s.svc with softAt := some t0 } }; s), 0, by decide +kernel⟩,
    ⟨(let s := lab; let s : State := { s with svc := { s.svc with softAt := none } }; s), by decide +kernel⟩,
    ⟨(let s := lab.set SVC_CTRL.EN 1; let s : State := { s with svc := { s.svc with coreBackAt := none } }; s), by decide +kernel⟩,
    ⟨lab, by decide +kernel⟩,
    ⟨(let t0 : Nat := 0; let s := lab.set SVC_CTRL.EN 1; let s : State := { s with svc := { s.svc with coreBackAt := none } };
      let s := s.set SVC_STATUS.TC_STATE 6; let s : State := { s with svc := { s.svc with lowSince := some t0 } }; s.set SVC_CTRL.PD_EN 1), 0,
      by decide +kernel⟩,
    ⟨(let s := lab; let s : State := { s with svc := { s.svc with lowSince := none } }; s), by decide +kernel⟩,
    ⟨(let t0 : Nat := 0; let s := lab.set SVC_CTRL.EN 1; let s : State := { s with svc := { s.svc with coreBackAt := none } };
      let s := s.set SVC_STATUS.TC_STATE 6; let s : State := { s with svc := { s.svc with highSince := some t0 } }; s.set SVC_CTRL.PD_EN 1), 0,
      by decide +kernel⟩,
    ⟨(let s := lab; let s : State := { s with svc := { s.svc with highSince := none } }; s), by decide +kernel⟩⟩

/-- A witness of each clause of `Obligations.UsbDevice`. -/
theorem witness_usb_device :
    (∃ (s : State), s.usbUp = false) ∧
    (∃ (s : State), s.usbUp = true) ∧
    (∃ (s : State), s.usbUp = true ∧ s.get SVC_DFU.STATE ≠ 10 ∧ s.session = true ∧ s.get UPD_STATUS.OWNER ≠ 2) ∧
    (∃ (s : State) (n : BitVec 16), s.usbUp = true ∧ s.get SVC_DFU.STATE ≠ 10 ∧ s.session = true ∧ s.get UPD_STATUS.OWNER = 2 ∧
      s.upd.programming = none ∧ n.toNat = s.upd.next ∧ 0 < n.toNat ∧ n.toNat < 96) ∧
    (∃ (s : State) (n : BitVec 16), s.usbUp = true ∧ s.get SVC_DFU.STATE ≠ 10 ∧ s.session = true ∧ s.get UPD_STATUS.OWNER = 2 ∧
      s.upd.programming = none ∧ s.upd.next < n.toNat ∧ 0 < n.toNat) ∧
    (∃ (s : State) (n : BitVec 16), s.usbUp = true ∧ s.get SVC_DFU.STATE ≠ 10 ∧ s.session = true ∧ s.get UPD_STATUS.OWNER = 2 ∧
      s.upd.programming.isSome = true ∧ n.toNat < 96) ∧
    (∃ (s : State), s.usbUp = true ∧ s.get SVC_DFU.STATE ≠ 10 ∧ (s.session = false ∨ s.get UPD_STATUS.OWNER ≠ 2)) ∧
    (∃ (s : State), s.usbUp = true ∧ s.fullService = true ∧ s.get SVC_DFU.STATE ≠ 10 ∧ s.session = true ∧ s.get UPD_STATUS.OWNER = 2 ∧
      s.beam.stage = 1 ∧ s.upd.programming = none ∧ s.beam.size ≤ s.upd.next * 4096) ∧
    (∃ (s : State), s.usbUp = true ∧ s.get GLB_REGION.SERVICE = 3 ∧ s.get SVC_DFU.STATE ≠ 10 ∧ s.session = true ∧ s.get UPD_STATUS.OWNER = 2 ∧
      s.beam.stage = 2 ∧ s.upd.programming = none ∧ s.beam.size ≤ s.upd.next * 4096 ∧ s.checkBank s.upd.staging = 0) ∧
    (∃ (s : State), s.usbUp = true) ∧
    (∃ (s : State), s.usbUp = true ∧ s.upd.programming = none) ∧
    (∃ (s : State), s.usbUp = true ∧ s.upd.programming.isSome = true ∧ s.get UPD_STATUS.OWNER = 2) ∧
    (∃ (s : State), s.usbUp = true ∧ s.get SVC_DFU.STATE = 10) ∧
    (∃ (s : State), s.get SVC_DFU.STATE ≠ 10) ∧
    (∃ (s : State), s.usbUp = true) ∧
    (∃ (s : State) (q : BitVec 8), s.vendorUp = true ∧ s.svc.lastSeq = some q.toNat) ∧
    (∃ (s : State) (q : BitVec 8) (a : BitVec 16), s.vendorUp = true ∧ s.svc.lastSeq ≠ some q.toNat ∧ a.toNat % 4 = 0 ∧ s.readServed a.toNat = true) ∧
    (∃ (s : State) (q : BitVec 8) (a : BitVec 16) (w : Word), s.vendorUp = true ∧ s.svc.lastSeq ≠ some q.toNat ∧ a.toNat % 4 = 0 ∧
      s.writeServed a.toNat = true ∧ (s.busWrite 2 a.toNat w).saf.inReset = none) ∧
    (∃ (s : State) (q : BitVec 8) (c : BitVec 16) (a : BitVec 16), s.vendorUp = true ∧ s.svc.lastSeq ≠ some q.toNat ∧ 0 < c.toNat ∧ c.toNat ≤ 128 ∧
      a.toNat % 4 = 0 ∧ s.readServed a.toNat = false) ∧
    (∃ (s : State) (q : BitVec 8) (c : BitVec 16), s.vendorUp = true ∧ s.svc.lastSeq ≠ some q.toNat ∧ (c.toNat = 0 ∨ 128 < c.toNat)) ∧
    (∃ (s : State) (q : BitVec 8) (c : BitVec 16) (a : BitVec 16), s.vendorUp = true ∧ s.svc.lastSeq ≠ some q.toNat ∧ 0 < c.toNat ∧ c.toNat ≤ 128 ∧
      a.toNat % 4 ≠ 0) :=
  ⟨⟨lab, by decide +kernel⟩,
    ⟨(lab.set SVC_CTRL.USB_EN 1), by decide +kernel⟩,
    ⟨((lab.set SVC_CTRL.USB_EN 1).set UPD_STATUS.SESSION 1), by decide +kernel⟩,
    ⟨(let n : BitVec 16 := 95; let s := ((lab.set SVC_CTRL.USB_EN 1).set UPD_STATUS.SESSION 1).set UPD_STATUS.OWNER 2;
      let s : State := { s with upd := { s.upd with programming := none } }; let s : State := { s with upd := { s.upd with next := n.toNat } }; s),
      95, by decide +kernel⟩,
    ⟨(let s := ((lab.set SVC_CTRL.USB_EN 1).set UPD_STATUS.SESSION 1).set UPD_STATUS.OWNER 2;
      let s : State := { s with upd := { s.upd with programming := none } }; s), 1, by decide +kernel⟩,
    ⟨(let s := ((lab.set SVC_CTRL.USB_EN 1).set UPD_STATUS.SESSION 1).set UPD_STATUS.OWNER 2;
      let s : State := { s with upd := { s.upd with programming := some (0, []) } }; s), 95, by decide +kernel⟩,
    ⟨(lab.set SVC_CTRL.USB_EN 1), by decide +kernel⟩,
    ⟨(let s := ((lab.set SVC_CTRL.USB_EN 1).set UPD_STATUS.SESSION 1).set UPD_STATUS.OWNER 2;
      let s : State := { s with beam := { s.beam with stage := 1 } }; let s : State := { s with upd := { s.upd with programming := none } }; s),
      by decide +kernel⟩,
    ⟨(let s := ((((lab.set GLB_REGION.SERVICE 2).set SVC_CTRL.USB_EN 1).set GLB_REGION.SERVICE 3).set UPD_STATUS.SESSION 1).set UPD_STATUS.OWNER 2;
      let s : State := { s with beam := { s.beam with stage := 2 } }; let s : State := { s with upd := { s.upd with programming := none } };
      let s : State := { s with upd := { s.upd with staging := { shipped := true } } }; s), by decide +kernel⟩,
    ⟨(lab.set SVC_CTRL.USB_EN 1), by decide +kernel⟩,
    ⟨(let s := lab.set SVC_CTRL.USB_EN 1; let s : State := { s with upd := { s.upd with programming := none } }; s), by decide +kernel⟩,
    ⟨(let s := (lab.set SVC_CTRL.USB_EN 1).set UPD_STATUS.OWNER 2; let s : State := { s with upd := { s.upd with programming := some (0, []) } }; s),
      by decide +kernel⟩,
    ⟨((lab.set SVC_CTRL.USB_EN 1).set SVC_DFU.STATE 10), by decide +kernel⟩,
    ⟨lab, by decide +kernel⟩,
    ⟨(lab.set SVC_CTRL.USB_EN 1), by decide +kernel⟩,
    ⟨(let q : BitVec 8 := 0; let s := lab.set SVC_CTRL.USB_EN 1; let s : State := { s with svc := { s.svc with lastSeq := some q.toNat } }; s), 0,
      by decide +kernel⟩,
    ⟨(lab.set SVC_CTRL.USB_EN 1), 0, 0, by decide +kernel⟩,
    ⟨(lab.set SVC_CTRL.USB_EN 1), 0, 0, 0, by decide +kernel⟩,
    ⟨((lab.set SVC_CTRL.USB_EN 1).set GLB_REGION.CHIP 1), 0, 128, 0x200, by decide +kernel⟩,
    ⟨(lab.set SVC_CTRL.USB_EN 1), 0, 0, by decide +kernel⟩,
    ⟨(lab.set SVC_CTRL.USB_EN 1), 0, 128, 1, by decide +kernel⟩⟩

/-- A witness of each clause of `Obligations.LinkFrames`. -/
theorem witness_link_frames :
    (∃ (s : State), s.linkUp = false) ∧
    (∃ (s : State) (h : FrameHdr), s.linkUp = true ∧ h.valid = false) ∧
    (∃ (s : State) (h : FrameHdr), Arrives s h ∧ h.seq.toNat ≠ s.sel.rxSeq) ∧
    (∃ (s : State) (h : FrameHdr) (a : Sent), s.linkUp = true ∧ h.valid = true ∧ h.nak = true ∧ s.peerLive = false ∧ s.sel.unacked = [a] ∧
      s.sel.waiting = [] ∧ h.ack.toNat = a.seq ∧ a.seq < 65536 ∧ s.sel.resends < 8) ∧
    (∃ (s : State) (h : FrameHdr) (a : Sent), s.linkUp = true ∧ h.valid = true ∧ h.nak = false ∧ s.peerLive = false ∧ s.sel.unacked = [a] ∧
      s.sel.waiting = [] ∧ h.ack.toNat = (a.seq + 1) % 65536 ∧ a.seq < 65536) ∧
    (∃ (s : State) (u : Sent) (l : List Sent), s.linkUp = true ∧ s.sel.unacked = u :: l ∧ u.at_ + 4000 ≤ s.time ∧ s.sel.resends < 8) ∧
    (∃ (s : State) (u : Sent) (l : List Sent), s.linkUp = true ∧ s.sel.unacked = u :: l ∧ u.at_ + 4000 ≤ s.time ∧ 8 ≤ s.sel.resends) ∧
    (∃ (s : State), (s.sel.unacked = [] ∨ ∃ u l, s.sel.unacked = u :: l ∧ s.time < u.at_ + 4000)) ∧
    (∃ (s : State), s.linkRuns = true ∧ s.linkUp = false) ∧
    (∃ (s : State), s.hasSel = true) ∧
    (∃ (s : State), s.linkRuns = true ∧ s.linkUp = true ∧ s.soloMode = false) ∧
    (∃ (s : State), s.linkRuns = true ∧ s.linkUp = true ∧ s.soloMode = false ∧ s.peerLive = false) ∧
    (∃ (s : State) (h : FrameHdr) (b : Heartbeat), Arrives s h ∧ s.peerLive = false ∧ b.t1 ≠ 0 ∧ -32768 ≤ b.curr ∧ b.curr < 32768 ∧ b.cap < 65536 ∧
      b.pairState < 9 ∧ b.service < 4 ∧ -6000 < (b.t2 : Int) - b.t1 - (s.time - b.t3) ∧ (b.t2 : Int) - b.t1 - (s.time - b.t3) < 6000) ∧
    (∃ (s : State) (h : FrameHdr) (b : Heartbeat), Arrives s h ∧ s.paired = true ∧ s.roleB = true ∧ s.is SEL_STATUS.TIME_MASTER = false ∧ b.t1 ≠ 0 ∧
      10 ≤ 5 * ((b.t2 : Int) - b.t1 - (s.time - b.t3)) ∧ s.time % 100 < 99) ∧
    (∃ (s : State) (h : FrameHdr) (e : Hello) (n : Nat), Arrives s h ∧ s.soloMode = false ∧ s.peerLive = false ∧ s.pairState ≠ 8 ∧ e.proto < 256 ∧
      e.fwver < 65536 ∧
      n = (if s.is GLB_STRAP.TWIN_ID = e.roleB then 1 else if s.rd GLB_FEAT.addr ≠ e.feat then 2 else if s.get SEL_VER.PROTO ≠ e.proto then 3 else if s.rd SEL_PAIR_ID.addr ≠ e.pairId then 4 else if s.get SEL_CTRL.MODE ≠ e.mode then 5 else 0) ∧
      n ≠ 0) ∧
    (∃ (s : State) (h : FrameHdr) (e : Hello), Arrives s h ∧ s.soloMode = false ∧ s.peerLive = false ∧ s.is GLB_STRAP.TWIN_ID ≠ e.roleB ∧
      s.rd GLB_FEAT.addr = e.feat ∧ s.get SEL_VER.PROTO = e.proto ∧ s.rd SEL_PAIR_ID.addr = e.pairId ∧ s.get SEL_CTRL.MODE = e.mode ∧
      s.beam.epoch = e.epoch ∧ s.beam.peerJsn < e.jsnOwn ∧ s.lacking e.jsnPeer = []) ∧
    (∃ (s : State) (h : FrameHdr) (kind : Nat) (i : Instr) (n : Nat), Arrives s h ∧ s.peerLive = true ∧ s.sel.handover = none ∧ s.upd.pushing = none ∧
      s.sel.handBack = false ∧ s.sel.idleTrunk = false ∧ s.sel.returning = false ∧ s.sel.adopted = false ∧ s.beam.mirJobs = [] ∧
      s.beam.mirCommits = [] ∧ s.pairState ≠ 4 ∧ (i = .noticeReset h kind ∧ n = 2 ∨ i = .noticeSafe h ∧ n = 3 ∨ i = .noticeLeave h ∧ n = 4)) ∧
    (∃ (s : State) (h : FrameHdr), Arrives s h ∧ s.peerLive = false) ∧
    (∃ (s : State) (h : FrameHdr) (p : Word), Arrives s h ∧ (p ≠ s.rd SEL_PAIR_ID.addr ∨ s.is SEL_CTRL.PEER_RST_EN = false)) ∧
    (∃ (s : State) (h : FrameHdr), Arrives s h ∧ s.is SEL_CTRL.PEER_RST_EN = true ∧ s.saf.inReset = none ∧ s.is UPD_STATUS.NVM_BUSY = false) :=
  ⟨⟨lab, by decide +kernel⟩,
    ⟨(lab.set SEL_STATUS.LINK 2), { ({ valid := true, seq := 0, ack := 0, nak := false } : FrameHdr) with valid := false }, by decide +kernel⟩,
    ⟨(let h : FrameHdr := { valid := true, seq := 1, ack := 0, nak := false }; let s := lab.set SEL_STATUS.LINK 2;
      let s : State := { s with sel := { s.sel with rxSeq := h.seq.toNat } }; let s : State := { s with sel := { s.sel with rxSeq := 0 } }; s),
      { valid := true, seq := 1, ack := 0, nak := false }, arrives_of (by decide +kernel), by decide +kernel⟩,
    ⟨(let a : Sent := { seq := 65535, at_ := 0, frame := .notice 2 0 }; let s := lab.set SEL_STATUS.LINK 2;
      let s : State := { s with sel := { s.sel with unacked := [a] } }; let s : State := { s with sel := { s.sel with waiting := [] } }; s),
      { valid := true, seq := 0, ack := 65535, nak := true }, { seq := 65535, at_ := 0, frame := .notice 2 0 }, by decide +kernel⟩,
    ⟨(let a : Sent := { seq := 65535, at_ := 0, frame := .notice 2 0 }; let s := lab.set SEL_STATUS.LINK 2;
      let s : State := { s with sel := { s.sel with unacked := [a] } }; let s : State := { s with sel := { s.sel with waiting := [] } }; s),
      { valid := true, seq := 0, ack := 0, nak := false }, { seq := 65535, at_ := 0, frame := .notice 2 0 }, by decide +kernel⟩,
    ⟨(let u : Sent := { seq := 5, at_ := 0, frame := .hello { roleB := true, feat := 0, proto := 1, fwver := 1, pairId := 0, mode := 1, epoch := 0, jsnOwn := 0, jsnPeer := 0 } };
      let l : List Sent := []; let s := lab.set SEL_STATUS.LINK 2; let s : State := { s with sel := { s.sel with unacked := u :: l } }; s),
      { seq := 5, at_ := 0, frame := .hello { roleB := true, feat := 0, proto := 1, fwver := 1, pairId := 0, mode := 1, epoch := 0, jsnOwn := 0, jsnPeer := 0 } },
      [], by decide +kernel⟩,
    ⟨(let u : Sent := { seq := 5, at_ := 0, frame := .hello { roleB := true, feat := 0, proto := 1, fwver := 1, pairId := 0, mode := 1, epoch := 0, jsnOwn := 0, jsnPeer := 0 } };
      let l : List Sent := []; let s := lab.set SEL_STATUS.LINK 2; let s : State := { s with sel := { s.sel with unacked := u :: l } };
      let s : State := { s with sel := { s.sel with resends := 8 } }; s),
      { seq := 5, at_ := 0, frame := .hello { roleB := true, feat := 0, proto := 1, fwver := 1, pairId := 0, mode := 1, epoch := 0, jsnOwn := 0, jsnPeer := 0 } },
      [], by decide +kernel⟩,
    ⟨lab, Or.inl (by decide +kernel)⟩,
    ⟨lab, by decide +kernel⟩,
    ⟨lab, by decide +kernel⟩,
    ⟨((lab.set SEL_STATUS.LINK 2).set SEL_CTRL.MODE 1), by decide +kernel⟩,
    ⟨((lab.set SEL_STATUS.LINK 2).set SEL_CTRL.MODE 1), by decide +kernel⟩,
    ⟨(let h : FrameHdr := { valid := true, seq := 0, ack := 0, nak := false }; let s := lab.set SEL_STATUS.LINK 2;
      let s : State := { s with sel := { s.sel with rxSeq := h.seq.toNat } }; s), { valid := true, seq := 0, ack := 0, nak := false },
      { t1 := 99999999000, t2 := 99999999500, t3 := 99999999500, pairState := 2, service := 2, chip := false, region := 0, curr := 0, cap := 0, weight := 128, intended := 0, intendedTick := 0, jsnHeld := 0, quals := 0 },
      arrives_of (by decide +kernel), by decide +kernel⟩,
    ⟨(let h : FrameHdr := { valid := true, seq := 0, ack := 0, nak := false }; let s := lab.set SEL_STATUS.LINK 2;
      let s : State := { s with sel := { s.sel with rxSeq := h.seq.toNat } };
      ((s.set SEL_STATUS.PEER_LIVE 1).set SEL_STATUS.PAIR_STATE 2).set GLB_STRAP.TWIN_ID 1), { valid := true, seq := 0, ack := 0, nak := false },
      { t1 := 99999999000, t2 := 99999999503, t3 := 99999999500, pairState := 2, service := 2, chip := false, region := 0, curr := 0, cap := 0, weight := 128, intended := 0, intendedTick := 0, jsnHeld := 0, quals := 0 },
      arrives_of (by decide +kernel), by decide +kernel⟩,
    ⟨(let h : FrameHdr := { valid := true, seq := 0, ack := 0, nak := false }; let s := lab.set SEL_STATUS.LINK 2;
      let s : State := { s with sel := { s.sel with rxSeq := h.seq.toNat } }; (s.set SEL_CTRL.MODE 1).set SEL_STATUS.PAIR_STATE 2),
      { valid := true, seq := 0, ack := 0, nak := false },
      { roleB := false, feat := 0x0046A607, proto := 1, fwver := 1, pairId := 0, mode := 1, epoch := 0, jsnOwn := 0, jsnPeer := 0 }, 1,
      arrives_of (by decide +kernel), by decide +kernel⟩,
    ⟨(let h : FrameHdr := { valid := true, seq := 0, ack := 0, nak := false };
      let e : Hello := { roleB := true, feat := 0x0046A607, proto := 1, fwver := 1, pairId := 0, mode := 1, epoch := 0, jsnOwn := 1, jsnPeer := 0 };
      let s := lab.set SEL_STATUS.LINK 2; let s : State := { s with sel := { s.sel with rxSeq := h.seq.toNat } }; let s := s.set SEL_CTRL.MODE 1;
      let s : State := { s with beam := { s.beam with epoch := e.epoch } }; s.set SEL_VER.PROTO 1),
      { valid := true, seq := 0, ack := 0, nak := false },
      { roleB := true, feat := 0x0046A607, proto := 1, fwver := 1, pairId := 0, mode := 1, epoch := 0, jsnOwn := 1, jsnPeer := 0 },
      arrives_of (by decide +kernel), by decide +kernel⟩,
    ⟨(let h : FrameHdr := { valid := true, seq := 0, ack := 0, nak := false }; let s := lab.set SEL_STATUS.LINK 2;
      let s : State := { s with sel := { s.sel with rxSeq := h.seq.toNat } }; let s := s.set SEL_STATUS.PEER_LIVE 1;
      let s : State := { s with sel := { s.sel with handover := none } }; let s : State := { s with upd := { s.upd with pushing := none } };
      let s : State := { s with sel := { s.sel with handBack := false } }; let s : State := { s with sel := { s.sel with idleTrunk := false } };
      let s : State := { s with sel := { s.sel with returning := false } }; let s : State := { s with sel := { s.sel with adopted := false } };
      let s : State := { s with beam := { s.beam with mirJobs := [] } }; let s : State := { s with beam := { s.beam with mirCommits := [] } };
      s.set SEL_STATUS.PAIR_STATE 2), { valid := true, seq := 0, ack := 0, nak := false }, 0,
      .noticeSafe { valid := true, seq := 0, ack := 0, nak := false }, 3, arrives_of (by decide +kernel), by decide +kernel⟩,
    ⟨(let h : FrameHdr := { valid := true, seq := 0, ack := 0, nak := false }; let s := lab.set SEL_STATUS.LINK 2;
      let s : State := { s with sel := { s.sel with rxSeq := h.seq.toNat } }; s), { valid := true, seq := 0, ack := 0, nak := false },
      arrives_of (by decide +kernel), by decide +kernel⟩,
    ⟨(let h : FrameHdr := { valid := true, seq := 0, ack := 0, nak := false }; let s := lab.set SEL_STATUS.LINK 2;
      let s : State := { s with sel := { s.sel with rxSeq := h.seq.toNat } }; s), { valid := true, seq := 0, ack := 0, nak := false }, 0,
      arrives_of (by decide +kernel), by decide +kernel⟩,
    ⟨(let h : FrameHdr := { valid := true, seq := 0, ack := 0, nak := false }; let s := lab.set SEL_STATUS.LINK 2;
      let s : State := { s with sel := { s.sel with rxSeq := h.seq.toNat } }; let s := s.set SEL_CTRL.PEER_RST_EN 1;
      let s : State := { s with saf := { s.saf with inReset := none } }; s), { valid := true, seq := 0, ack := 0, nak := false },
      arrives_of (by decide +kernel), by decide +kernel⟩⟩

/-- A witness of each clause of `Obligations.PeerFrames`. -/
theorem witness_peer_frames :
    (∃ (s : State) (h : FrameHdr) (o : Order), ArrivesInTurn s h ∧ pairWide o.target = true ∧ s.time / 100 < o.tick) ∧
    (∃ (s : State) (h : FrameHdr) (o : Order), ArrivesInTurn s h ∧ pairWide o.target = true ∧ o.tick ≤ s.time / 100) ∧
    (∃ (s : State) (h : FrameHdr) (tick : Nat), ArrivesInTurn s h ∧ s.time / 100 < tick) ∧
    (∃ (s : State) (h : FrameHdr), ArrivesInTurn s h ∧ s.warpRuns = false) ∧
    (∃ (s : State) (h : FrameHdr), ArrivesInTurn s h ∧ s.warpRuns = true) ∧
    (∃ (s : State) (h : FrameHdr) (n : Nat), ArrivesInTurn s h ∧ s.sel.acks.find n = none) ∧
    (∃ (s : State) (h : FrameHdr) (n : Nat) (m : Nat) (r : Nat) (j : Job), ArrivesInTurn s h ∧ s.sel.acks.find n = some (.job m r j) ∧
      (s.job m r).state = 1 ∧ (s.job m r).jobId = j.jobId) ∧
    (∃ (s : State) (h : FrameHdr) (n : Nat) (m : Nat) (r : Nat) (j : Job), ArrivesInTurn s h ∧ s.sel.acks.find n = some (.job m r j) ∧
      (s.job m r).state = 1 ∧ (s.job m r).jobId = j.jobId ∧ s.beam.mirJobs = [] ∧ m < 4 ∧ bitOf (s.get JOB_CTRL.ACK_EN) m = true) ∧
    (∃ (s : State) (h : FrameHdr), ArrivesInTurn s h) ∧
    (∃ (s : State) (h : FrameHdr), ArrivesInTurn s h) ∧
    (∃ (s : State) (h : FrameHdr) (m : Nat) (r : Nat) (q : Nat) (j : Job), ArrivesInTurn s h ∧ s.roleB = false ∧ q < 32 ∧ q ≠ r ∧
      (s.job m q).state ≠ 0 ∧ (s.job m q).foreign = false ∧ (s.job m q).jobId = j.jobId) ∧
    (∃ (s : State) (h : FrameHdr) (m : Nat) (r : Nat) (j : Job), ArrivesInTurn s h ∧ (s.job m r).state ≠ 0 ∧ (s.job m r).jobId = j.jobId ∧
      j.state ≠ 0 ∧ terminalState j.state = false) ∧
    (∃ (s : State) (h : FrameHdr) (m : Nat) (r : Nat) (j : Job), ArrivesInTurn s h ∧ m < 4 ∧ (s.job m r).state ≠ 0 ∧ (s.job m r).jobId = j.jobId ∧
      (s.job m r).foreign = false ∧ terminalState (s.job m r).state = false ∧ terminalState j.state = true) ∧
    (∃ (s : State) (h : FrameHdr) (l : List Word), ArrivesInTurn s h ∧ l.length = 8 ∧ (s.get (JOB_SQ.TAIL 3) + 64 - s.get (JOB_SQ.HEAD 3)) % 64 ≠ 32) ∧
    (∃ (s : State) (h : FrameHdr), ArrivesInTurn s h ∧ (s.get (JOB_SQ.TAIL 3) + 64 - s.get (JOB_SQ.HEAD 3)) % 64 = 32) ∧
    (∃ (s : State) (h : FrameHdr) (left : Nat), ArrivesInTurn s h ∧ 0 < left) ∧
    (∃ (s : State) (h : FrameHdr), ArrivesInTurn s h ∧ s.pairState = 1 ∧ s.sel.returning = false ∧ s.sel.idleTrunk = false ∧
      s.beam.epoch ≤ s.sel.peerEpoch ∧ s.get SEL_CTRL.MODE = 1) ∧
    (∃ (s : State) (h : FrameHdr), ArrivesInTurn s h ∧ s.peerLive = false) ∧
    (∃ (s : State) (h : FrameHdr), ArrivesInTurn s h ∧ s.peerLive = true ∧ s.sel.handover = none ∧ s.sel.handBack = true) ∧
    (∃ (s : State) (h : FrameHdr), ArrivesInTurn s h ∧ s.peerLive = true) ∧
    (∃ (s : State) (h : FrameHdr) (k : Nat) (w : Word), ArrivesInTurn s h ∧ s.peerLive = true ∧ s.warpRuns = true ∧ k < 16 ∧
      s.rd (WRP_T_CFG.addr k) ≠ w) ∧
    (∃ (s : State) (h : FrameHdr), ArrivesInTurn s h ∧ s.session = true) ∧
    (∃ (s : State) (h : FrameHdr), ArrivesInTurn s h ∧ s.session = false ∧ s.fullService = true ∧ s.is UPD_STATUS.HOLD = false) ∧
    (∃ (s : State) (h : FrameHdr), ArrivesInTurn s h ∧ (s.session = false ∨ s.get UPD_STATUS.OWNER ≠ 3)) ∧
    (∃ (s : State) (h : FrameHdr) (n : Nat), ArrivesInTurn s h ∧ s.session = true ∧ s.get UPD_STATUS.OWNER = 3 ∧ s.upd.programming = none ∧
      n = s.upd.next ∧ 0 < n ∧ n < 96) ∧
    (∃ (s : State) (h : FrameHdr), ArrivesInTurn s h ∧ s.upd.pushing = none) ∧
    (∃ (s : State) (h : FrameHdr) (k : Nat), ArrivesInTurn s h ∧ s.upd.pushing = some k) :=
  ⟨⟨(let h : FrameHdr := { valid := true, seq := 0, ack := 0, nak := false }; let s := lab.set SEL_STATUS.LINK 2;
      let s : State := { s with sel := { s.sel with rxSeq := h.seq.toNat } }; s), { valid := true, seq := 0, ack := 0, nak := false },
      { target := .rail, master := 3, val := 1200, tick := 1000000001 }, arrivesInTurn_of (by decide +kernel), by decide +kernel⟩,
    ⟨(let h : FrameHdr := { valid := true, seq := 0, ack := 0, nak := false }; let s := lab.set SEL_STATUS.LINK 2;
      let s : State := { s with sel := { s.sel with rxSeq := h.seq.toNat } }; s), { valid := true, seq := 0, ack := 0, nak := false },
      { target := .rail, master := 3, val := 1200 }, arrivesInTurn_of (by decide +kernel), by decide +kernel⟩,
    ⟨(let h : FrameHdr := { valid := true, seq := 0, ack := 0, nak := false }; let s := lab.set SEL_STATUS.LINK 2;
      let s : State := { s with sel := { s.sel with rxSeq := h.seq.toNat } }; s), { valid := true, seq := 0, ack := 0, nak := false }, 1000000001,
      arrivesInTurn_of (by decide +kernel), by decide +kernel⟩,
    ⟨(let h : FrameHdr := { valid := true, seq := 0, ack := 0, nak := false }; let s := lab.set SEL_STATUS.LINK 2;
      let s : State := { s with sel := { s.sel with rxSeq := h.seq.toNat } }; s), { valid := true, seq := 0, ack := 0, nak := false },
      arrivesInTurn_of (by decide +kernel), by decide +kernel⟩,
    ⟨(let h : FrameHdr := { valid := true, seq := 0, ack := 0, nak := false }; let s := lab.set SEL_STATUS.LINK 2;
      let s : State := { s with sel := { s.sel with rxSeq := h.seq.toNat } }; s.set WRP_CTRL.EN 1),
      { valid := true, seq := 0, ack := 0, nak := false }, arrivesInTurn_of (by decide +kernel), by decide +kernel⟩,
    ⟨(let h : FrameHdr := { valid := true, seq := 0, ack := 0, nak := false }; let s := lab.set SEL_STATUS.LINK 2;
      let s : State := { s with sel := { s.sel with rxSeq := h.seq.toNat } }; s), { valid := true, seq := 0, ack := 0, nak := false }, 0,
      arrivesInTurn_of (by decide +kernel), by decide +kernel⟩,
    ⟨(let h : FrameHdr := { valid := true, seq := 0, ack := 0, nak := false }; let n : Nat := 0; let m : Nat := 0; let r : Nat := 0;
      let j : Job := {}; let s := lab.set SEL_STATUS.LINK 2; let s : State := { s with sel := { s.sel with rxSeq := h.seq.toNat } };
      let s : State := { s with sel := { s.sel with acks := s.sel.acks.put (n) ((.job m r j)) } };
      let s := s.setJob (m) (r) { s.job (m) (r) with state := 1 }; s.setJob (m) (r) { s.job (m) (r) with jobId := j.jobId }),
      { valid := true, seq := 0, ack := 0, nak := false }, 0, 0, 0, {}, arrivesInTurn_of (by decide +kernel), by decide +kernel⟩,
    ⟨(let h : FrameHdr := { valid := true, seq := 0, ack := 0, nak := false }; let n : Nat := 0; let m : Nat := 3; let r : Nat := 0;
      let j : Job := {}; let s := lab.set SEL_STATUS.LINK 2; let s : State := { s with sel := { s.sel with rxSeq := h.seq.toNat } };
      let s : State := { s with sel := { s.sel with acks := s.sel.acks.put (n) ((.job m r j)) } };
      let s := s.setJob (m) (r) { s.job (m) (r) with state := 1 }; let s := s.setJob (m) (r) { s.job (m) (r) with jobId := j.jobId };
      let s : State := { s with beam := { s.beam with mirJobs := [] } }; s.set JOB_CTRL.ACK_EN 15),
      { valid := true, seq := 0, ack := 0, nak := false }, 0, 3, 0, {}, arrivesInTurn_of (by decide +kernel), by decide +kernel⟩,
    ⟨(let h : FrameHdr := { valid := true, seq := 0, ack := 0, nak := false }; let s := lab.set SEL_STATUS.LINK 2;
      let s : State := { s with sel := { s.sel with rxSeq := h.seq.toNat } }; s), { valid := true, seq := 0, ack := 0, nak := false },
      arrivesInTurn_of (by decide +kernel)⟩,
    ⟨(let h : FrameHdr := { valid := true, seq := 0, ack := 0, nak := false }; let s := lab.set SEL_STATUS.LINK 2;
      let s : State := { s with sel := { s.sel with rxSeq := h.seq.toNat } }; s), { valid := true, seq := 0, ack := 0, nak := false },
      arrivesInTurn_of (by decide +kernel)⟩,
    ⟨(let h : FrameHdr := { valid := true, seq := 0, ack := 0, nak := false }; let m : Nat := 0; let q : Nat := 31; let j : Job := {};
      let s := lab.set SEL_STATUS.LINK 2; let s : State := { s with sel := { s.sel with rxSeq := h.seq.toNat } };
      let s := s.setJob (m) (q) { s.job (m) (q) with state := 3 }; let s := s.setJob (m) (q) { s.job (m) (q) with foreign := false };
      s.setJob (m) (q) { s.job (m) (q) with jobId := j.jobId }), { valid := true, seq := 0, ack := 0, nak := false }, 0, 0, 31, {},
      arrivesInTurn_of (by decide +kernel), by decide +kernel⟩,
    ⟨(let h : FrameHdr := { valid := true, seq := 0, ack := 0, nak := false }; let m : Nat := 0; let r : Nat := 0;
      let j : Job := { ({} : Job) with state := 1 }; let s := lab.set SEL_STATUS.LINK 2;
      let s : State := { s with sel := { s.sel with rxSeq := h.seq.toNat } }; let s := s.setJob (m) (r) { s.job (m) (r) with state := 3 };
      s.setJob (m) (r) { s.job (m) (r) with jobId := j.jobId }), { valid := true, seq := 0, ack := 0, nak := false }, 0, 0,
      { ({} : Job) with state := 1 }, arrivesInTurn_of (by decide +kernel), by decide +kernel⟩,
    ⟨(let h : FrameHdr := { valid := true, seq := 0, ack := 0, nak := false }; let m : Nat := 3; let r : Nat := 0; let s := lab.set SEL_STATUS.LINK 2;
      let s : State := { s with sel := { s.sel with rxSeq := h.seq.toNat } }; let s := s.setJob (m) (r) { s.job (m) (r) with state := 3 };
      let s := s.setJob (m) (r) { s.job (m) (r) with foreign := false }; s.setJob m r { s.job m r with jobId := 9, state := 3 }),
      { valid := true, seq := 0, ack := 0, nak := false }, 3, 0, { state := 5, jobId := 9 }, arrivesInTurn_of (by decide +kernel), by decide +kernel⟩,
    ⟨(let h : FrameHdr := { valid := true, seq := 0, ack := 0, nak := false }; let s := lab.set SEL_STATUS.LINK 2;
      let s : State := { s with sel := { s.sel with rxSeq := h.seq.toNat } }; s), { valid := true, seq := 0, ack := 0, nak := false },
      [1, 2, 3, 4, 5, 6, 7, 8], arrivesInTurn_of (by decide +kernel), by decide +kernel⟩,
    ⟨(let h : FrameHdr := { valid := true, seq := 0, ack := 0, nak := false }; let s := lab.set SEL_STATUS.LINK 2;
      let s : State := { s with sel := { s.sel with rxSeq := h.seq.toNat } }; s.set (JOB_SQ.TAIL 3) 32),
      { valid := true, seq := 0, ack := 0, nak := false }, arrivesInTurn_of (by decide +kernel), by decide +kernel⟩,
    ⟨(let h : FrameHdr := { valid := true, seq := 0, ack := 0, nak := false }; let s := lab.set SEL_STATUS.LINK 2;
      let s : State := { s with sel := { s.sel with rxSeq := h.seq.toNat } }; s), { valid := true, seq := 0, ack := 0, nak := false }, 1,
      arrivesInTurn_of (by decide +kernel), by decide +kernel⟩,
    ⟨(let h : FrameHdr := { valid := true, seq := 0, ack := 0, nak := false }; let s := lab.set SEL_STATUS.LINK 2;
      let s : State := { s with sel := { s.sel with rxSeq := h.seq.toNat } }; let s := s.set SEL_STATUS.PAIR_STATE 1;
      let s : State := { s with sel := { s.sel with returning := false } }; let s : State := { s with sel := { s.sel with idleTrunk := false } };
      s.set SEL_CTRL.MODE 1), { valid := true, seq := 0, ack := 0, nak := false }, arrivesInTurn_of (by decide +kernel), by decide +kernel⟩,
    ⟨(let h : FrameHdr := { valid := true, seq := 0, ack := 0, nak := false }; let s := lab.set SEL_STATUS.LINK 2;
      let s : State := { s with sel := { s.sel with rxSeq := h.seq.toNat } }; s), { valid := true, seq := 0, ack := 0, nak := false },
      arrivesInTurn_of (by decide +kernel), by decide +kernel⟩,
    ⟨(let h : FrameHdr := { valid := true, seq := 0, ack := 0, nak := false }; let s := lab.set SEL_STATUS.LINK 2;
      let s : State := { s with sel := { s.sel with rxSeq := h.seq.toNat } }; let s := s.set SEL_STATUS.PEER_LIVE 1;
      let s : State := { s with sel := { s.sel with handover := none } }; let s : State := { s with sel := { s.sel with handBack := true } }; s),
      { valid := true, seq := 0, ack := 0, nak := false }, arrivesInTurn_of (by decide +kernel), by decide +kernel⟩,
    ⟨(let h : FrameHdr := { valid := true, seq := 0, ack := 0, nak := false }; let s := lab.set SEL_STATUS.LINK 2;
      let s : State := { s with sel := { s.sel with rxSeq := h.seq.toNat } }; s.set SEL_STATUS.PEER_LIVE 1),
      { valid := true, seq := 0, ack := 0, nak := false }, arrivesInTurn_of (by decide +kernel), by decide +kernel⟩,
    ⟨(let h : FrameHdr := { valid := true, seq := 0, ack := 0, nak := false }; let s := lab.set SEL_STATUS.LINK 2;
      let s : State := { s with sel := { s.sel with rxSeq := h.seq.toNat } }; (s.set SEL_STATUS.PEER_LIVE 1).set WRP_CTRL.EN 1),
      { valid := true, seq := 0, ack := 0, nak := false }, 15, 1, arrivesInTurn_of (by decide +kernel), by decide +kernel⟩,
    ⟨(let h : FrameHdr := { valid := true, seq := 0, ack := 0, nak := false }; let s := lab.set SEL_STATUS.LINK 2;
      let s : State := { s with sel := { s.sel with rxSeq := h.seq.toNat } }; s.set UPD_STATUS.SESSION 1),
      { valid := true, seq := 0, ack := 0, nak := false }, arrivesInTurn_of (by decide +kernel), by decide +kernel⟩,
    ⟨(let h : FrameHdr := { valid := true, seq := 0, ack := 0, nak := false }; let s := lab.set SEL_STATUS.LINK 2;
      let s : State := { s with sel := { s.sel with rxSeq := h.seq.toNat } }; s), { valid := true, seq := 0, ack := 0, nak := false },
      arrivesInTurn_of (by decide +kernel), by decide +kernel⟩,
    ⟨(let h : FrameHdr := { valid := true, seq := 0, ack := 0, nak := false }; let s := lab.set SEL_STATUS.LINK 2;
      let s : State := { s with sel := { s.sel with rxSeq := h.seq.toNat } }; s), { valid := true, seq := 0, ack := 0, nak := false },
      arrivesInTurn_of (by decide +kernel), by decide +kernel⟩,
    ⟨(let h : FrameHdr := { valid := true, seq := 0, ack := 0, nak := false }; let s := lab.set SEL_STATUS.LINK 2;
      let s : State := { s with sel := { s.sel with rxSeq := h.seq.toNat } }; let s := (s.set UPD_STATUS.SESSION 1).set UPD_STATUS.OWNER 3;
      let s : State := { s with upd := { s.upd with programming := none } }; let s : State := { s with upd := { s.upd with next := 95 } }; s),
      { valid := true, seq := 0, ack := 0, nak := false }, 95, arrivesInTurn_of (by decide +kernel), by decide +kernel⟩,
    ⟨(let h : FrameHdr := { valid := true, seq := 0, ack := 0, nak := false }; let s := lab.set SEL_STATUS.LINK 2;
      let s : State := { s with sel := { s.sel with rxSeq := h.seq.toNat } }; let s : State := { s with upd := { s.upd with pushing := none } }; s),
      { valid := true, seq := 0, ack := 0, nak := false }, arrivesInTurn_of (by decide +kernel), by decide +kernel⟩,
    ⟨(let h : FrameHdr := { valid := true, seq := 0, ack := 0, nak := false }; let k : Nat := 0; let s := lab.set SEL_STATUS.LINK 2;
      let s : State := { s with sel := { s.sel with rxSeq := h.seq.toNat } }; let s : State := { s with upd := { s.upd with pushing := some k } }; s),
      { valid := true, seq := 0, ack := 0, nak := false }, 0, arrivesInTurn_of (by decide +kernel), by decide +kernel⟩⟩

/-- A witness of each clause of `Obligations.PairUpkeep`. -/
theorem witness_pair_upkeep :
    (∃ (s : State) (t0 : Nat), s.peerLive = true ∧ s.sel.lastFrame = some t0 ∧ s.sel.probeAt = none ∧ s.sel.probeLost = none) ∧
    (∃ (s : State) (t0 : Nat), s.sel.probeAt = some t0) ∧
    (∃ (s : State) (t0 : Nat) (gone : Bool), s.sel.lastFrame = some t0 ∧ s.sel.probeLost = some gone ∧ s.time < t0 + 5000) ∧
    (∃ (s : State) (t0 : Nat) (gone : Bool), s.sel.lastFrame = some t0 ∧ s.sel.probeLost = some gone ∧ t0 + 5000 ≤ s.time ∧ s.peerLive = true ∧
      s.sel.handover = none ∧ s.upd.pushing = none ∧ s.sel.handBack = false ∧ s.sel.idleTrunk = false ∧ s.sel.returning = false ∧
      s.sel.adopted = false ∧ s.beam.mirJobs = [] ∧ s.beam.mirCommits = [] ∧ s.pairState ≠ 4) ∧
    (∃ (s : State), s.get SRC_STATUS.PRIMARY = 1) ∧
    (∃ (s : State) (mv : Nat), mv < 65536 ∧ s.trimming = true ∧ s.sel.probeAt = none) ∧
    (∃ (s : State) (mv : Nat), mv < 65536 ∧ s.hasSel = true ∧ s.fullService = true ∧ s.trimming = false) ∧
    (∃ (s : State), s.trimming = true ∧ s.peerLive = true ∧ s.get SRC_STATUS.PRIMARY = 1) ∧
    (∃ (s : State), s.peerLive = false) ∧
    (∃ (s : State) (mv : Nat), s.sel.idleTrunk = true ∧ s.get GLB_REGION.SERVICE = 1 ∧ s.chipSafe = false ∧ 400 ≤ mv) ∧
    (∃ (s : State) (mv : Nat), s.sel.idleTrunk = true ∧ s.get GLB_REGION.SERVICE = 1 ∧ s.chipSafe = false ∧ mv < 400) ∧
    (∃ (s : State) (t0 : Nat), s.sel.joinStart = some t0 ∧ s.time < t0 + s.rampPeriod) ∧
    (∃ (s : State) (t0 : Nat), s.sel.joinStart = some t0 ∧ t0 + s.rampPeriod ≤ s.time ∧ s.sel.unacked = []) ∧
    (∃ (s : State) (rail : Nat) (t0 : Nat), s.sel.joinStart = some t0 ∧
      (s.fleet .trk).vref.natAbs < 100 * (10000 * (rail : Int) - (s.fleet .trk).vref).natAbs) ∧
    (∃ (s : State) (rail : Nat), 100 * (10000 * (rail : Int) - (s.fleet .trk).vref).natAbs ≤ (s.fleet .trk).vref.natAbs) ∧
    (∃ (s : State) (t0 : Nat), s.sel.joinRetryAt = some t0 ∧ s.time < t0) ∧
    (∃ (s : State) (t0 : Nat), s.sel.joinRetryAt = some t0 ∧ t0 ≤ s.time ∧ s.pairState = 5 ∧ s.peerLive = true) ∧
    (∃ (s : State), s.sel.backReady = true ∧ s.pairState = 5 ∧ s.beam.commits = [] ∧ s.sel.unacked = []) ∧
    (∃ (s : State) (m : Master) (key : BitVec 16) (i : Instr), s.mayWrite m = true ∧ s.hasSel = true ∧ key ≠ 0xB47A ∧ (i = .peerReset m key ∨
      i = .retrain m key ∨ i = .pair m key)) ∧
    (∃ (s : State) (m : Master), s.mayWrite m = true ∧ s.hasSel = true) ∧
    (∃ (s : State) (m : Master), s.mayWrite m = true ∧ s.linkRuns = true) ∧
    (∃ (s : State) (m : Master), s.mayWrite m = true ∧ s.hasSel = true ∧ s.linkUp = true ∧ s.soloMode = false) ∧
    (∃ (s : State) (m : Master), s.mayWrite m = true ∧ s.hasSel = true ∧ s.peerLive = false) ∧
    (∃ (s : State) (m : Master), s.mayWrite m = true ∧ s.hasSel = true ∧ s.peerLive = true ∧ s.sel.unacked = []) :=
  ⟨⟨(let t0 : Nat := 0; let s := lab.set SEL_STATUS.PEER_LIVE 1; let s : State := { s with sel := { s.sel with lastFrame := some t0 } };
      let s : State := { s with sel := { s.sel with probeAt := none } }; let s : State := { s with sel := { s.sel with probeLost := none } }; s), 0,
      by decide +kernel⟩,
    ⟨(let t0 : Nat := 0; let s := lab; let s : State := { s with sel := { s.sel with probeAt := some t0 } }; s), 0, by decide +kernel⟩,
    ⟨(let t0 : Nat := 100000000001; let gone : Bool := false; let s := lab; let s : State := { s with sel := { s.sel with lastFrame := some t0 } };
      let s : State := { s with sel := { s.sel with probeLost := some gone } }; s), 100000000001, false, by decide +kernel⟩,
    ⟨(let t0 : Nat := 0; let gone : Bool := false; let s := lab; let s : State := { s with sel := { s.sel with lastFrame := some t0 } };
      let s : State := { s with sel := { s.sel with probeLost := some gone } }; let s := s.set SEL_STATUS.PEER_LIVE 1;
      let s : State := { s with sel := { s.sel with handover := none } }; let s : State := { s with upd := { s.upd with pushing := none } };
      let s : State := { s with sel := { s.sel with handBack := false } }; let s : State := { s with sel := { s.sel with idleTrunk := false } };
      let s : State := { s with sel := { s.sel with returning := false } }; let s : State := { s with sel := { s.sel with adopted := false } };
      let s : State := { s with beam := { s.beam with mirJobs := [] } }; let s : State := { s with beam := { s.beam with mirCommits := [] } };
      s.set SEL_STATUS.PAIR_STATE 2), 0, false, by decide +kernel⟩,
    ⟨(lab.set SRC_STATUS.PRIMARY 1), by decide +kernel⟩,
    ⟨(let s := lab; let s : State := { s with sel := { s.sel with probeAt := none } };
      ((s.set SEL_STATUS.PAIR_STATE 2).set SRC_STATUS.PRIMARY 1).set SEL_CTRL.MODE 1), 65535, by decide +kernel⟩,
    ⟨lab, 65535, by decide +kernel⟩,
    ⟨((((lab.set SEL_STATUS.PEER_LIVE 1).set SRC_STATUS.PRIMARY 1).set SEL_STATUS.PAIR_STATE 2).set SEL_CTRL.MODE 1), by decide +kernel⟩,
    ⟨lab, by decide +kernel⟩,
    ⟨(let s := lab; let s : State := { s with sel := { s.sel with idleTrunk := true } }; s.set GLB_REGION.SERVICE 1), 400, by decide +kernel⟩,
    ⟨(let s := lab; let s : State := { s with sel := { s.sel with idleTrunk := true } }; s.set GLB_REGION.SERVICE 1), 399, by decide +kernel⟩,
    ⟨(let t0 : Nat := 100000000001; let s := lab; let s : State := { s with sel := { s.sel with joinStart := some t0 } }; s), 100000000001,
      by decide +kernel⟩,
    ⟨(let t0 : Nat := 0; let s := lab; let s : State := { s with sel := { s.sel with joinStart := some t0 } };
      let s : State := { s with sel := { s.sel with unacked := [] } }; s), 0, by decide +kernel⟩,
    ⟨(let t0 : Nat := 0; let s := lab; let s : State := { s with sel := { s.sel with joinStart := some t0 } };
      s.setFleet .trk (fun x => { x with vref := 12000000 })), 1300, 0, by decide +kernel⟩,
    ⟨lab, 0, by decide +kernel⟩,
    ⟨(let t0 : Nat := 100000000001; let s := lab; let s : State := { s with sel := { s.sel with joinRetryAt := some t0 } }; s), 100000000001,
      by decide +kernel⟩,
    ⟨(let t0 : Nat := 0; let s := lab; let s : State := { s with sel := { s.sel with joinRetryAt := some t0 } };
      (s.set SEL_STATUS.PAIR_STATE 5).set SEL_STATUS.PEER_LIVE 1), 0, by decide +kernel⟩,
    ⟨(let s := lab; let s : State := { s with sel := { s.sel with backReady := true } }; let s := s.set SEL_STATUS.PAIR_STATE 5;
      let s : State := { s with beam := { s.beam with commits := [] } }; let s : State := { s with sel := { s.sel with unacked := [] } }; s),
      by decide +kernel⟩,
    ⟨lab, 3, 0, .pair 3 0, by decide +kernel⟩,
    ⟨lab, 3, by decide +kernel⟩,
    ⟨lab, 3, by decide +kernel⟩,
    ⟨((lab.set SEL_STATUS.LINK 2).set SEL_CTRL.MODE 1), 3, by decide +kernel⟩,
    ⟨lab, 3, by decide +kernel⟩,
    ⟨(let s := lab.set SEL_STATUS.PEER_LIVE 1; let s : State := { s with sel := { s.sel with unacked := [] } }; s), 3, by decide +kernel⟩⟩

/-- A witness of each clause of `Obligations.Watchdog`. -/
theorem witness_watchdog :
    (∃ (m : Master), m.val ≠ 4) ∧
    (∃ (s : State), s.saf.inReset = none ∧ s.mode < 3 ∧ s.saf.wdgArmed = none) ∧
    (∃ (s : State) (a : Nat), s.saf.inReset = none ∧ s.mode < 3 ∧ s.saf.wdgArmed = some a ∧ s.aon ≤ a + 64 ∧ s.saf.wdgC ≤ s.wdgIndex ∧
      s.wdgIndex < s.saf.wdgC + s.saf.wdgO ∧ s.wdgIndex < 2097152) ∧
    (∃ (s : State) (i : Instr) (code : Nat), (i = .wdgKeySecond 4 ∧ s.saf.wdgArmed = none ∧ code = 3 ∨ i = .wdgKeyFirst 4 ∧
      s.saf.wdgArmed.isSome = true ∧ code = 3 ∨ (∃ k : BitVec 16, i = .wdgKeyInvalid 4 k ∧ k ≠ 0xA5C3 ∧ k ≠ 0x5A3C ∧ code = 3) ∨ (∃ a,
      i = .wdgKeySecond 4 ∧ s.saf.wdgArmed = some a ∧ a + 64 < s.aon ∧ code = 4) ∨ (∃ a, i = .wdgKeyTimeout ∧ s.saf.wdgArmed = some a ∧
      a + 65 ≤ s.aon ∧ code = 4) ∨ (∃ a, i = .wdgKeySecond 4 ∧ s.saf.wdgArmed = some a ∧ s.aon ≤ a + 64 ∧ s.wdgIndex < s.saf.wdgC ∧ code = 2) ∨ (∃ a,
      i = .wdgKeySecond 4 ∧ s.saf.wdgArmed = some a ∧ s.aon ≤ a + 64 ∧ s.saf.wdgC + s.saf.wdgO ≤ s.wdgIndex ∧ code = 5) ∨ i = .wdgExpiry ∧
      s.saf.wdgC + s.saf.wdgO ≤ s.wdgIndex ∧ code = 5) ∧ s.saf.inReset = none ∧ s.mode < 3 ∧ s.is UPD_STATUS.NVM_BUSY = false ∧
      (s.is SAF_WDG_CTRL.DIS = false ∨ s.is SAF_STATUS.TEST_ACT = false)) ∧
    (∃ (s : State), s.saf.inReset = none ∧ s.mode < 3 ∧ s.saf.deferred = none ∧ s.is UPD_STATUS.NVM_BUSY = true ∧ s.is SAF_WDG_CTRL.DIS = false ∧
      s.saf.wdgC + s.saf.wdgO ≤ s.wdgIndex) ∧
    (∃ (s : State), s.saf.inReset = none ∧ s.mode < 3 ∧ s.is SAF_WDG_CTRL.DIS = true ∧ s.is SAF_STATUS.TEST_ACT = true ∧
      s.saf.wdgC + s.saf.wdgO ≤ s.wdgIndex) ∧
    (∃ (s : State), s.wdgIndex < s.saf.wdgC + s.saf.wdgO) ∧
    (∃ (s : State), (s.saf.wdgArmed = none ∨ ∃ a, s.saf.wdgArmed = some a ∧ s.aon < a + 65)) ∧
    (∃ (s : State) (m : Master), s.mayWrite m = true) ∧
    (∃ (s : State) (m : Master), s.mayWrite m = false) :=
  ⟨⟨3, by decide +kernel⟩,
    ⟨(let s := lab; let s : State := { s with saf := { s.saf with inReset := none } };
      let s : State := { s with saf := { s.saf with wdgArmed := none } }; s), by decide +kernel⟩,
    ⟨(let a : Nat := 0; let s := lab; let s : State := { s with saf := { s.saf with inReset := none } };
      let s : State := { s with saf := { s.saf with wdgArmed := some a } }; s), 0, by decide +kernel⟩,
    ⟨(let s := lab; let s : State := { s with saf := { s.saf with inReset := none } };
      let s : State := { s with saf := { s.saf with wdgArmed := none } }; s), .wdgKeySecond 4, 3, Or.inl (by decide +kernel), by decide +kernel⟩,
    ⟨(let s := lab; let s : State := { s with saf := { s.saf with inReset := none } };
      let s : State := { s with saf := { s.saf with deferred := none } }; let s := s.set UPD_STATUS.NVM_BUSY 1;
      let s : State := { s with aon := 300000, saf := { s.saf with wdgT0 := 0, wdgC := 100, wdgO := 250000, wdgFrozen := none } }; s),
      by decide +kernel⟩,
    ⟨(let s := lab; let s : State := { s with saf := { s.saf with inReset := none } }; let s := (s.set SAF_WDG_CTRL.DIS 1).set SAF_STATUS.TEST_ACT 1;
      let s : State := { s with aon := 300000, saf := { s.saf with wdgT0 := 0, wdgC := 100, wdgO := 250000, wdgFrozen := none } }; s),
      by decide +kernel⟩,
    ⟨lab, by decide +kernel⟩,
    ⟨lab, Or.inl (by decide +kernel)⟩,
    ⟨lab, 3, by decide +kernel⟩,
    ⟨(lab.set GLB_REGION.SERVICE 1), 3, by decide +kernel⟩⟩

/-- A witness of each clause of `Obligations.ResetsAndPower`. -/
theorem witness_resets_and_power :
    (∃ (s : State) (m : Master) (k : Nat) (c : Nat), s.mayWrite m = true ∧ s.chipSafe = false ∧ (k ≠ 0x3C96 ∨ 21 < c ∧ c ≠ 0xFF)) ∧
    (∃ (s : State) (m : Master) (c : Nat), s.mayWrite m = true ∧ s.chipSafe = false ∧ c ≤ 21 ∧ c ≠ 4 ∧ (c < 8 ∨ 16 < c) ∧
      bitOf (s.get SAF_FAULT.FAULT) c = true ∧ s.causeGone c = true) ∧
    (∃ (s : State) (m : Master) (c : Nat), s.mayWrite m = true ∧ s.chipSafe = false ∧ c ≤ 21 ∧ bitOf (s.get SAF_FAULT.FAULT) c = true ∧
      s.causeGone c = false) ∧
    (∃ (s : State) (m : Master), s.mayWrite m = true ∧ s.chipSafe = false ∧ bitOf (s.get SAF_FAULT.FAULT) 12 = true ∧ s.contained .north = false ∧
      s.get GLB_REGION.NORTH = 2) ∧
    (∃ (s : State) (m : Master), s.mayWrite m = true ∧ s.chipSafe = false ∧ s.saf.inReset = none ∧ s.is UPD_STATUS.NVM_BUSY = false) ∧
    (∃ (s : State) (m : Master), s.mayWrite m = true ∧ s.chipSafe = false ∧ s.saf.inReset = none ∧ s.is UPD_STATUS.NVM_BUSY = true ∧
      s.saf.deferred = none) ∧
    (∃ (s : State) (m : Master) (k : Nat) (c : Nat), s.mayWrite m = true ∧ s.chipSafe = false ∧ (k ≠ 0x9E47 ∨ c ≠ 1)) ∧
    (∃ (s : State) (m : Master), 3 ≤ m.val ∧ s.chipSafe = true) ∧
    (∃ (s : State) (m : Master) (i : Instr) (n : Nat), m.val ≠ 3 ∧ s.mayWrite m = true ∧ s.modeBusy n = false ∧ (i = .pwrRun m 0x6D12 ∧ n = 0 ∨
      i = .pwrLight m 0x6D12 ∧ n = 1 ∨ i = .pwrStandby m 0x6D12 ∧ n = 2 ∨ i = .pwrDeepSleep m 0x6D12 ∧ n = 3 ∨ i = .pwrOff m 0x6D12 ∧ n = 4)) ∧
    (∃ (s : State) (m : Master) (i : Instr), (s.chipSafe = true ∨ s.is SAF_STATUS.DEFER = true ∨ s.is UPD_STATUS.SESSION = true ∨
      s.is UPD_STATUS.NVM_BUSY = true ∨ s.is SAF_STATUS.LC_PENDING = true ∨ ∃ r, s.regionSafe r = true) ∧ s.fullService = true ∧ m.val ≠ 3 ∧
      (i = .pwrRun m 0x6D12 ∨ i = .pwrLight m 0x6D12 ∨ i = .pwrStandby m 0x6D12 ∨ i = .pwrDeepSleep m 0x6D12 ∨ i = .pwrOff m 0x6D12)) ∧
    (∃ (s : State) (m : Master) (k : BitVec 16) (i : Instr), s.mayWrite m = true ∧ m.val ≠ 3 ∧ k ≠ 0x6D12 ∧ (i = .pwrRun m k ∨ i = .pwrLight m k ∨
      i = .pwrStandby m k ∨ i = .pwrDeepSleep m k ∨ i = .pwrOff m k)) ∧
    (∃ (s : State) (src : Fin 7), bitOf (s.get SAF_WAKE_EN.EN) src.val = false) ∧
    (∃ (s : State) (src : Fin 7) (v : Bool), bitOf (s.get SAF_WAKE_EN.EN) src.val = true ∧ s.mode = 4 ∧ (src = 0 ∨ src = 2 ∨ src = 3 ∨ src = 1 ∧
      v = true)) ∧
    (∃ (s : State) (src : Fin 7), bitOf (s.get SAF_WAKE_EN.EN) src.val = true ∧ (src.val < 4 ∨ src.val = 5) ∧ (s.mode = 2 ∨ s.mode = 3)) ∧
    (∃ (s : State), bitOf (s.get SAF_WAKE_EN.EN) 6 = true ∧ s.mode = 2 ∧ s.saf.loadWake = true) ∧
    (∃ (s : State) (src : Fin 7), bitOf (s.get SAF_WAKE_EN.EN) src.val = true ∧ src.val < 4 ∧ s.mode < 2 ∧ (s.saf.modeReq = some 3 ∨
      s.saf.modeReq = some 4)) ∧
    (∃ (s : State), s.mode = 3 ∧ s.get SAF_AON_TMR.MS ≠ 0 ∧ bitOf (s.get SAF_WAKE_EN.EN) 4 = true ∧
      s.aon < s.saf.sleptAt + 1000 * s.get SAF_AON_TMR.MS) ∧
    (∃ (s : State), s.mode = 3 ∧ s.get SAF_AON_TMR.MS ≠ 0 ∧ bitOf (s.get SAF_WAKE_EN.EN) 4 = true ∧
      s.saf.sleptAt + 1000 * s.get SAF_AON_TMR.MS ≤ s.aon) ∧
    (∃ (ns : Nat), ns < 200) ∧
    (∃ (s : State) (ns : Nat), 1000 ≤ ns ∧ s.saf.inReset = none ∧ s.is UPD_STATUS.NVM_BUSY = false) :=
  ⟨⟨lab, 3, 0, 0, by decide +kernel⟩,
    ⟨(lab.set SAF_FAULT.FAULT (2 ^ 21)), 3, 21, by decide +kernel⟩,
    ⟨(let s := lab.set SAF_FAULT.FAULT (2 ^ 1); let s : State := { s with saf := { s.saf with clocksGood := none } }; s), 3, 1, by decide +kernel⟩,
    ⟨((lab.set GLB_REGION.NORTH 2).set SAF_FAULT.FAULT (2 ^ 12)), 3, by decide +kernel⟩,
    ⟨(let s := lab; let s : State := { s with saf := { s.saf with inReset := none } }; s), 3, by decide +kernel⟩,
    ⟨(let s := lab; let s : State := { s with saf := { s.saf with inReset := none } }; let s := s.set UPD_STATUS.NVM_BUSY 1;
      let s : State := { s with saf := { s.saf with deferred := none } }; s), 3, by decide +kernel⟩,
    ⟨lab, 3, 0, 0, by decide +kernel⟩,
    ⟨(lab.set GLB_REGION.CHIP 1), 3, by decide +kernel⟩,
    ⟨lab, 4, .pwrRun 4 0x6D12, 0, by decide +kernel⟩,
    ⟨(lab.set SAF_STATUS.DEFER 1), 4, .pwrRun 4 0x6D12, Or.inr (Or.inl (by decide +kernel)), by decide +kernel⟩,
    ⟨lab, 4, 0, .pwrRun 4 0, by decide +kernel⟩,
    ⟨lab, 0, by decide +kernel⟩,
    ⟨((lab.set SAF_STATUS.MODE 4).set SAF_WAKE_EN.EN 127), 0, false, by decide +kernel⟩,
    ⟨((lab.set SAF_WAKE_EN.EN 127).set SAF_STATUS.MODE 2), 0, by decide +kernel⟩,
    ⟨(let s := lab.set SAF_STATUS.MODE 2; let s : State := { s with saf := { s.saf with loadWake := true } }; s.set SAF_WAKE_EN.EN 127),
      by decide +kernel⟩,
    ⟨(let s := lab; let s : State := { s with saf := { s.saf with modeReq := some 3 } }; s.set SAF_WAKE_EN.EN 127), 3, by decide +kernel⟩,
    ⟨(((lab.set SAF_STATUS.MODE 3).set SAF_AON_TMR.MS 1).set SAF_WAKE_EN.EN 127), by decide +kernel⟩,
    ⟨(let s := ((lab.set SAF_STATUS.MODE 3).set SAF_AON_TMR.MS 1).set SAF_WAKE_EN.EN 127; let s : State := { s with aon := 1000 }; s),
      by decide +kernel⟩,
    ⟨199, by decide +kernel⟩,
    ⟨(let s := lab; let s : State := { s with saf := { s.saf with inReset := none } }; s), 1000, by decide +kernel⟩⟩

/-- A witness of each clause of `Obligations.Lifecycle`, but for the verdict of the token check, which is left uninterpreted (log entry 42). -/
theorem witness_lifecycle :
    (∃ (s : State) (m : Master) (k : BitVec 16) (i : Instr), (i = .lcProvisioned m k ∨ i = .lcField m k ∨ i = .lcReturn m k ∨ i = .lcScrapped m k ∨
      i = .lcDebug m k) ∧ s.mayWrite m = false) ∧
    (∃ (s : State) (m : Master) (k : BitVec 16) (i : Instr), (i = .lcProvisioned m k ∨ i = .lcField m k ∨ i = .lcReturn m k ∨ i = .lcScrapped m k ∨
      i = .lcDebug m k) ∧ s.mayWrite m = true ∧ m.val < 3 ∧ k ≠ 0xD1E8) ∧
    (∃ (s : State) (m : Master) (i : Instr), s.mayWrite m = true ∧ m.val < 3 ∧ (i = .lcProvisioned m 0xD1E8 ∨ i = .lcField m 0xD1E8 ∨
      i = .lcReturn m 0xD1E8 ∨ i = .lcScrapped m 0xD1E8 ∨ i = .lcDebug m 0xD1E8) ∧ (s.saf.tokenFor.isSome = true ∨ s.is SAF_STATUS.LC_PENDING = true)) ∧
    (∃ (s : State) (m : Master) (i : Instr) (n : Nat), s.mayWrite m = true ∧ m.val < 3 ∧ s.saf.tokenFor = none ∧ s.is SAF_STATUS.LC_PENDING = false ∧
      (i = .lcProvisioned m 0xD1E8 ∧ n = 1 ∧ s.get SAF_STATUS.LC = 0 ∧ s.is SAF_STATUS.KEY_SET = true ∨ i = .lcField m 0xD1E8 ∧ n = 2 ∧
      s.get SAF_STATUS.LC = 1 ∨ i = .lcScrapped m 0xD1E8 ∧ n = 4 ∧ s.get SAF_STATUS.LC < 2)) ∧
    (∃ (s : State) (m : Master) (i : Instr) (n : Nat), s.mayWrite m = true ∧ m.val < 3 ∧ s.saf.tokenFor = none ∧ s.is SAF_STATUS.LC_PENDING = false ∧
      (i = .lcReturn m 0xD1E8 ∧ n = 3 ∧ s.get SAF_STATUS.LC = 2 ∨ i = .lcScrapped m 0xD1E8 ∧ n = 4 ∧ (s.get SAF_STATUS.LC = 2 ∨
      s.get SAF_STATUS.LC = 3) ∨ i = .lcDebug m 0xD1E8 ∧ n = 8 ∧ (s.get SAF_STATUS.LC = 2 ∨ s.get SAF_STATUS.LC = 3))) ∧
    (∃ (s : State) (m : Master) (i : Instr), s.mayWrite m = true ∧ m.val < 3 ∧ s.saf.tokenFor = none ∧ s.is SAF_STATUS.LC_PENDING = false ∧
      (i = .lcProvisioned m 0xD1E8 ∧ (s.get SAF_STATUS.LC ≠ 0 ∨ s.is SAF_STATUS.KEY_SET = false) ∨ i = .lcField m 0xD1E8 ∧ s.get SAF_STATUS.LC ≠ 1 ∨
      i = .lcReturn m 0xD1E8 ∧ s.get SAF_STATUS.LC ≠ 2 ∨ i = .lcScrapped m 0xD1E8 ∧ 3 < s.get SAF_STATUS.LC ∨ i = .lcDebug m 0xD1E8 ∧
      s.get SAF_STATUS.LC ≠ 2 ∧ s.get SAF_STATUS.LC ≠ 3)) ∧
    (∃ (s : State), s.saf.tokenFor = none) ∧
    (∃ (s : State) (m : Nat) (n : Nat), s.saf.tokenFor = some (m, n)) ∧
    (∃ (s : State) (m : Nat), s.saf.tokenFor = some (m, 8)) ∧
    (∃ (s : State) (m : Nat) (n : Nat), s.saf.tokenFor = some (m, n) ∧ (n = 3 ∨ n = 4)) ∧
    (∃ (s : State), s.is SAF_STATUS.LC_PENDING = false) ∧
    (∃ (s : State), s.is SAF_STATUS.LC_PENDING = true) :=
  ⟨⟨(lab.set GLB_REGION.SERVICE 1), 3, 0, .lcField 3 0, by decide +kernel⟩,
    ⟨lab, 0, 0, .lcField 0 0, by decide +kernel⟩,
    ⟨(lab.set SAF_STATUS.LC_PENDING 1), 0, .lcField 0 0xD1E8, by decide +kernel⟩,
    ⟨(let s := lab; let s : State := { s with saf := { s.saf with tokenFor := none } }; s.set SAF_STATUS.LC 1), 0, .lcField 0 0xD1E8, 2,
      by decide +kernel⟩,
    ⟨(let s := lab; let s : State := { s with saf := { s.saf with tokenFor := none } }; s.set SAF_STATUS.LC 2), 0, .lcReturn 0 0xD1E8, 3,
      by decide +kernel⟩,
    ⟨(let s := lab; let s : State := { s with saf := { s.saf with tokenFor := none } }; s), 0, .lcField 0 0xD1E8, by decide +kernel⟩,
    ⟨(let s := lab; let s : State := { s with saf := { s.saf with tokenFor := none } }; s), by decide +kernel⟩,
    ⟨(let m : Nat := 0; let n : Nat := 0; let s := lab; let s : State := { s with saf := { s.saf with tokenFor := some (m, n) } }; s), 0, 0,
      by decide +kernel⟩,
    ⟨(let m : Nat := 0; let s := lab; let s : State := { s with saf := { s.saf with tokenFor := some (m, 8) } }; s), 0, by decide +kernel⟩,
    ⟨(let m : Nat := 0; let n : Nat := 3; let s := lab; let s : State := { s with saf := { s.saf with tokenFor := some (m, n) } }; s), 0, 3,
      by decide +kernel⟩,
    ⟨lab, by decide +kernel⟩,
    ⟨(lab.set SAF_STATUS.LC_PENDING 1), by decide +kernel⟩⟩

/-- A witness of each clause of `Obligations.ChipEvents`. -/
theorem witness_chip_events :
    (∃ (s : State) (sh : Fin 8) (c : Nat), (s.shuttle sh.val).ctx = some c ∧ s.slotsOf c ≠ [] ∧ c ≠ 0 ∧ (s.shuttle sh.val).lastStall = none ∧
      sh.val < s.lom.shuttles.length) ∧
    (∃ (s : State) (sh : Fin 8) (c : Nat) (a : Nat), (s.shuttle sh.val).ctx = some c ∧ s.slotsOf c ≠ [] ∧ c ≠ 0 ∧
      (s.shuttle sh.val).lastStall = some a ∧ s.time < a + 100000000 ∧ sh.val < s.lom.shuttles.length ∧ (∃ k : Fin 8, k ≠ sh ∧
      (s.shuttle k.val).off = false ∧ k.val < s.lom.shuttles.length)) ∧
    (∃ (s : State) (sh : Fin 8), ((s.shuttle sh.val).ctx = none ∨ ∃ c, (s.shuttle sh.val).ctx = some c ∧ s.slotsOf c = [])) ∧
    (∃ (s : State) (v : Int), s.is TRK_STATUS.ENABLED = true ∧ (s.fleet .trk).droopSince = none ∧ s.regulatesCurrent .trk = false ∧
      s.regionSafe .north = false ∧ 100 * (v - s.refOf .trk).natAbs ≤ 3 * (s.refOf .trk).natAbs) ∧
    (∃ (s : State) (v : Int), s.is TRK_STATUS.ENABLED = true ∧ (s.fleet .trk).droopSince = none ∧ s.regulatesCurrent .trk = false ∧
      s.regionSafe .north = false ∧ 3 * (s.refOf .trk).natAbs < 100 * (v - s.refOf .trk).natAbs) ∧
    (∃ (s : State), s.get CHB_STATUS.MODE = 0) ∧
    (∃ (s : State) (v : Int), s.get PRT_STATUS.MODE = 4 ∧ s.regulatesCurrent .prt = false ∧ s.regionSafe .south = false ∧
      3 * (s.refOf .prt).natAbs < 100 * (v - s.refOf .prt).natAbs) ∧
    (∃ (s : State) (r : Region) (a : Nat), s.saf.safeAt.find (regionFault r) = some a ∧ s.regionSafe r = true ∧ s.time < a + 100000) ∧
    (∃ (s : State) (r : Region) (a : Nat), s.saf.safeAt.find (regionFault r) = some a ∧ s.regionSafe r = true ∧ a + 100000 ≤ s.time) ∧
    (∃ (s : State) (a : Nat), s.saf.chipSafeAt = some a ∧ (s.saf.chipSafeCode = 1 ∨ s.saf.chipSafeCode = 5 ∨ s.saf.chipSafeCode = 6) ∧
      s.saf.inReset = none ∧ s.is UPD_STATUS.NVM_BUSY = false ∧ a + 1000 ≤ s.time) ∧
    (∃ (s : State) (a : Nat), s.saf.chipSafeAt = some a ∧ s.saf.chipSafeCode = 3 ∧ s.saf.inReset = none ∧ s.is UPD_STATUS.NVM_BUSY = false ∧
      s.getZ THM_DIE_SHUT.FALL ≤ s.getZ THM_STATUS.TDIE_MAX) ∧
    (∃ (s : State) (a : Nat), s.saf.chipSafeAt = some a ∧ s.saf.chipSafeCode = 3 ∧ s.saf.inReset = none ∧ s.is UPD_STATUS.NVM_BUSY = false ∧
      s.getZ THM_STATUS.TDIE_MAX < s.getZ THM_DIE_SHUT.FALL) ∧
    (∃ (s : State), s.saf.chipSafeAt = none) ∧
    (∃ (s : State), s.saf.inReset = none ∧ s.mode < 3 ∧ s.chipSafe = false) ∧
    (∃ (s : State), s.regionSafe .interface = false) ∧
    (∃ (s : State), s.regionSafe .interface = true) ∧
    (∃ (s : State), s.saf.inReset = none) ∧
    (∃ (n : BitVec 5), n ≠ 0) ∧
    (∃ (n : BitVec 5), n ≠ 0) ∧
    (∃ (c : CtxId), c.val ≠ 0) ∧
    (∃ (s : State) (c : CtxId), c.val ≠ 0 ∧ s.cstate c ≠ 0) ∧
    (∃ (s : State) (c : CtxId), s.cstate c = 0) ∧
    (∃ (s : State) (p : Fin 64), (∀ c : Nat, c < 128 → s.executesIn p c = false)) ∧
    (∃ (s : State) (m : Master) (r : Fin 32), (s.job m r).state = 2 ∧ s.saf.jobsEcc = none ∧ (s.context (s.job m r).ctx).job ≠ some (m.val, r.val)) ∧
    (∃ (s : State), s.saf.inReset = none ∧ s.is UPD_STATUS.NVM_BUSY = false) ∧
    (∃ (s : State) (m : Master) (r : Fin 32) (c : CtxId) (i : EccSite), s.paired = false ∧ (i = .beamJob m r ∨ i = .beamContext c ∨ i = .beamOther)) :=
  ⟨⟨(let sh : Fin 8 := 0; let c : Nat := 1; let s := lab;
      let s : State := { s with lom := { s.lom with shuttles := s.lom.shuttles.set (sh.val) { s.shuttle (sh.val) with ctx := some c } } };
      let s : State := { s with lom := { s.lom with shuttles := s.lom.shuttles.set (sh.val) { s.shuttle (sh.val) with lastStall := none } } };
      let s : State := { s with lom := { s.lom with slots := [(0, (c, SlotUse.rail))] } }; s), 0, 1, by decide +kernel⟩,
    ⟨(let sh : Fin 8 := 0; let c : Nat := 1; let a : Nat := 100000000000; let s := lab;
      let s : State := { s with lom := { s.lom with shuttles := s.lom.shuttles.set (sh.val) { s.shuttle (sh.val) with ctx := some c } } };
      let s : State := { s with lom := { s.lom with shuttles := s.lom.shuttles.set (sh.val) { s.shuttle (sh.val) with lastStall := some a } } };
      let s : State := { s with lom := { s.lom with slots := [(0, (c, SlotUse.rail))] } }; s), 0, 1, 100000000000, by decide +kernel⟩,
    ⟨lab, 0, Or.inl (by decide +kernel)⟩,
    ⟨((lab.set TRK_STATUS.ENABLED 1).setFleet .trk (fun x => { x with droopSince := none })), 0, by decide +kernel⟩,
    ⟨((lab.set TRK_STATUS.ENABLED 1).setFleet .trk (fun x => { x with droopSince := none })), 1000000, by decide +kernel⟩,
    ⟨lab, by decide +kernel⟩,
    ⟨(lab.set PRT_STATUS.MODE 4), 1000000, by decide +kernel⟩,
    ⟨(let r : Region := .north; let a : Nat := 100000000001; let s := lab;
      let s : State := { s with saf := { s.saf with safeAt := s.saf.safeAt.put ((regionFault r)) (a) } }; s.set (regionField r) 3), .north,
      100000000001, by decide +kernel⟩,
    ⟨(let r : Region := .north; let a : Nat := 0; let s := lab;
      let s : State := { s with saf := { s.saf with safeAt := s.saf.safeAt.put ((regionFault r)) (a) } }; s.set (regionField r) 3), .north, 0,
      by decide +kernel⟩,
    ⟨(let a : Nat := 0; let s := lab; let s : State := { s with saf := { s.saf with chipSafeAt := some a } };
      let s : State := { s with saf := { s.saf with chipSafeCode := 1 } }; let s : State := { s with saf := { s.saf with inReset := none } }; s), 0,
      by decide +kernel⟩,
    ⟨(let a : Nat := 0; let s := lab; let s : State := { s with saf := { s.saf with chipSafeAt := some a } };
      let s : State := { s with saf := { s.saf with chipSafeCode := 3 } }; let s : State := { s with saf := { s.saf with inReset := none } };
      (s.setZ THM_STATUS.TDIE_MAX 2400).setZ THM_DIE_SHUT.FALL 2300), 0, by decide +kernel⟩,
    ⟨(let a : Nat := 0; let s := lab; let s : State := { s with saf := { s.saf with chipSafeAt := some a } };
      let s : State := { s with saf := { s.saf with chipSafeCode := 3 } }; let s : State := { s with saf := { s.saf with inReset := none } };
      s.setZ THM_DIE_SHUT.FALL 2000), 0, by decide +kernel⟩,
    ⟨(let s := lab; let s : State := { s with saf := { s.saf with chipSafeAt := none } }; s), by decide +kernel⟩,
    ⟨(let s := lab; let s : State := { s with saf := { s.saf with inReset := none } }; s), by decide +kernel⟩,
    ⟨lab, by decide +kernel⟩,
    ⟨(lab.set (regionField .interface) 3), by decide +kernel⟩,
    ⟨(let s := lab; let s : State := { s with saf := { s.saf with inReset := none } }; s), by decide +kernel⟩,
    ⟨1, by decide +kernel⟩,
    ⟨1, by decide +kernel⟩,
    ⟨5, by decide +kernel⟩,
    ⟨(let c : CtxId := 5; lab.cset (CTX.STATE c) 1), 5, by decide +kernel⟩,
    ⟨(let c : CtxId := 5; lab.cset (CTX.STATE c) 0), 5, by decide +kernel⟩,
    ⟨lab, 0, by decide +kernel⟩,
    ⟨(let m : Master := 3; let r : Fin 32 := 0; let s := lab; let s := s.setJob (m) (r) { s.job (m) (r) with state := 2 };
      let s : State := { s with saf := { s.saf with jobsEcc := none } }; s), 3, 0, by decide +kernel⟩,
    ⟨(let s := lab; let s : State := { s with saf := { s.saf with inReset := none } }; s), by decide +kernel⟩,
    ⟨lab, 3, 0, 5, .beamOther, by decide +kernel⟩⟩

/-- A witness of each clause of `Obligations.BootSequence`. -/
theorem witness_boot_sequence :
    (∃ (s : State), (s.saf.inReset = none ∨ s.saf.keepGoodAt = none)) ∧
    (∃ (s : State) (k : Nat) (g : Nat), s.saf.inReset = some k ∧ s.saf.keepGoodAt = some g ∧ s.calArea = [] ∧ s.upd.settings = [] ∧
      s.is TRK_OVP.CROWBAR = false) ∧
    (∃ (s : State), (s.get GLB_REGION.SERVICE ≠ 0 ∨ s.chipSafe = true ∨ s.saf.inReset.isSome = true ∨ s.saf.keepGoodAt = none ∨
      s.get SAF_STATUS.LC = 4)) ∧
    (∃ (s : State) (g : Nat), s.get GLB_REGION.SERVICE = 0 ∧ s.chipSafe = false ∧ s.saf.inReset = none ∧ s.saf.keepGoodAt = some g ∧
      g + 2000 ≤ s.aon ∧ s.saf.releasedAt + 300 ≤ s.aon ∧ s.get SAF_STATUS.LC ≠ 4) ∧
    (∃ (s : State), (s.get GLB_REGION.SERVICE ≠ 1 ∨ s.saf.firmware = true ∨ s.chipSafe = true ∨ s.saf.inReset.isSome = true ∨
      s.is SAF_STATUS.LC_PENDING = true)) ∧
    (∃ (s : State), s.get GLB_REGION.SERVICE = 1 ∧ s.saf.firmware = false ∧ s.chipSafe = false ∧ s.saf.inReset = none ∧
      s.is SAF_STATUS.LC_PENDING = false ∧ s.upd.copy.isSome = true) ∧
    (∃ (s : State), s.get GLB_REGION.SERVICE = 1 ∧ s.saf.firmware = false ∧ s.chipSafe = false ∧ s.saf.inReset = none ∧
      s.is SAF_STATUS.LC_PENDING = false ∧ s.upd.copy = none ∧ s.beam.cleanup = false ∧ s.saf.chosen = false ∧ s.beam.stage ≠ 3 ∧
      s.beam.trial = false ∧ s.checkBank s.upd.active = 0) ∧
    (∃ (s : State), s.get GLB_REGION.SERVICE = 1 ∧ s.saf.firmware = false ∧ s.chipSafe = false ∧ s.saf.inReset = none ∧
      s.is SAF_STATUS.LC_PENDING = false ∧ s.upd.copy = none ∧ s.beam.cleanup = false ∧ s.saf.chosen = false ∧ s.beam.stage ≠ 3 ∧
      s.beam.trial = true ∧ s.beam.boots < 3 ∧ s.checkBank s.upd.active = 0) ∧
    (∃ (s : State), s.get GLB_REGION.SERVICE = 1 ∧ s.saf.firmware = false ∧ s.chipSafe = false ∧ s.saf.inReset = none ∧
      s.is SAF_STATUS.LC_PENDING = false ∧ s.upd.copy = none ∧ s.beam.cleanup = false ∧ s.saf.chosen = false ∧ s.beam.stage = 3 ∧
      s.checkBank s.upd.staging = 0) ∧
    (∃ (s : State), s.get GLB_REGION.SERVICE = 1 ∧ s.saf.firmware = false ∧ s.chipSafe = false ∧ s.saf.inReset = none ∧
      s.is SAF_STATUS.LC_PENDING = false ∧ s.upd.copy = none ∧ s.beam.cleanup = false ∧ s.saf.chosen = false ∧ s.beam.stage ≠ 3 ∧
      s.beam.trial = false ∧ s.upd.activeOk = false ∧ s.checkBank s.upd.active ≠ 0 ∧ s.checkBank s.upd.fallback ≠ 0) ∧
    (∃ (s : State), (s.saf.firmware = false ∨ s.get GLB_REGION.SERVICE ≠ 1 ∨ s.chipSafe = true ∨ s.saf.inReset.isSome = true ∨ s.time % 100 ≠ 0)) ∧
    (∃ (s : State), s.saf.firmware = true ∧ s.get GLB_REGION.SERVICE = 1 ∧ s.chipSafe = false ∧ s.saf.inReset = none ∧ s.time % 100 = 0) ∧
    (∃ (s : State), (s.is UPD_STATUS.HOLD = false ∨ s.upd.copy.isSome = true)) ∧
    (∃ (s : State), s.is UPD_STATUS.HOLD = true ∧ s.upd.copy = none ∧ s.upd.holdCopied = false ∧ s.beam.commits = []) :=
  ⟨⟨(let s := lab; let s : State := { s with saf := { s.saf with inReset := none } }; s), by decide +kernel⟩,
    ⟨(let k : Nat := 0; let g : Nat := 0; let s := lab; let s : State := { s with saf := { s.saf with inReset := some k } };
      let s : State := { s with saf := { s.saf with keepGoodAt := some g } }; let s : State := { s with upd := { s.upd with settings := [] } }; s), 0,
      0, by decide +kernel⟩,
    ⟨lab, by decide +kernel⟩,
    ⟨(let g : Nat := 0; let s := lab.set GLB_REGION.SERVICE 0; let s : State := { s with saf := { s.saf with inReset := none } };
      let s : State := { s with saf := { s.saf with keepGoodAt := some g } }; let s : State := { s with aon := 5000 }; s), 0, by decide +kernel⟩,
    ⟨lab, by decide +kernel⟩,
    ⟨(let s := lab.set GLB_REGION.SERVICE 1; let s : State := { s with saf := { s.saf with firmware := false } };
      let s : State := { s with saf := { s.saf with inReset := none } };
      let s : State := { s with upd := { s.upd with copy := some { fromFallback := false, save := false } } }; s), by decide +kernel⟩,
    ⟨(let s := lab.set GLB_REGION.SERVICE 1; let s : State := { s with saf := { s.saf with firmware := false } };
      let s : State := { s with saf := { s.saf with inReset := none } }; let s : State := { s with upd := { s.upd with copy := none } };
      let s : State := { s with beam := { s.beam with cleanup := false } }; let s : State := { s with saf := { s.saf with chosen := false } };
      let s : State := { s with beam := { s.beam with trial := false } }; s), by decide +kernel⟩,
    ⟨(let s := lab.set GLB_REGION.SERVICE 1; let s : State := { s with saf := { s.saf with firmware := false } };
      let s : State := { s with saf := { s.saf with inReset := none } }; let s : State := { s with upd := { s.upd with copy := none } };
      let s : State := { s with beam := { s.beam with cleanup := false } }; let s : State := { s with saf := { s.saf with chosen := false } };
      let s : State := { s with beam := { s.beam with trial := true } }; s), by decide +kernel⟩,
    ⟨(let s := lab.set GLB_REGION.SERVICE 1; let s : State := { s with saf := { s.saf with firmware := false } };
      let s : State := { s with saf := { s.saf with inReset := none } }; let s : State := { s with upd := { s.upd with copy := none } };
      let s : State := { s with beam := { s.beam with cleanup := false } }; let s : State := { s with saf := { s.saf with chosen := false } };
      let s : State := { s with beam := { s.beam with stage := 3 } };
      let s : State := { s with upd := { s.upd with staging := { shipped := true } } }; s), by decide +kernel⟩,
    ⟨(let s := lab.set GLB_REGION.SERVICE 1; let s : State := { s with saf := { s.saf with firmware := false } };
      let s : State := { s with saf := { s.saf with inReset := none } }; let s : State := { s with upd := { s.upd with copy := none } };
      let s : State := { s with beam := { s.beam with cleanup := false } }; let s : State := { s with saf := { s.saf with chosen := false } };
      let s : State := { s with beam := { s.beam with trial := false } }; let s : State := { s with upd := { s.upd with activeOk := false } };
      let s : State := { s with upd := { s.upd with active := {} } }; s), by decide +kernel⟩,
    ⟨(let s := lab; let s : State := { s with saf := { s.saf with firmware := false } }; s), by decide +kernel⟩,
    ⟨(let s := lab; let s : State := { s with saf := { s.saf with firmware := true } }; let s := s.set GLB_REGION.SERVICE 1;
      let s : State := { s with saf := { s.saf with inReset := none } }; s), by decide +kernel⟩,
    ⟨lab, by decide +kernel⟩,
    ⟨(let s := lab.set UPD_STATUS.HOLD 1; let s : State := { s with upd := { s.upd with copy := none } };
      let s : State := { s with upd := { s.upd with holdCopied := false } }; let s : State := { s with beam := { s.beam with commits := [] } }; s),
      by decide +kernel⟩⟩

/-- A witness of each clause of `Obligations.UpdateSessions`. -/
theorem witness_update_sessions :
    (∃ (s : State) (data : Word), s.mayWrite 0 = true ∧ UPD_SESSION.KEY.of data = 0x71C4 ∧ UPD_SESSION.CMD.of data = 1 ∧ s.fullService = true ∧
      s.is UPD_STATUS.HOLD = false ∧ s.session = false) ∧
    (∃ (s : State) (data : Word), s.mayWrite 0 = true ∧ UPD_SESSION.KEY.of data = 0x71C4 ∧ UPD_SESSION.CMD.of data = 1 ∧ s.fullService = true ∧
      s.is UPD_STATUS.HOLD = false ∧ s.session = true) ∧
    (∃ (s : State) (m : Master) (data : Word), s.mayWrite m = true ∧ (UPD_SESSION.KEY.of data ≠ 0x71C4 ∨ UPD_SESSION.CMD.of data ≠ 1)) ∧
    (∃ (s : State) (m : Master) (data : Word), s.mayWrite m = true ∧ UPD_SESSION.KEY.of data = 0x71C4 ∧ UPD_SESSION.CMD.of data = 1 ∧ m.val ≠ 0) ∧
    (∃ (s : State) (m : Master) (a : Nat), s.mayWrite m = true ∧ s.session = true ∧ s.get UPD_STATUS.OWNER = m.val ∧ 0xE000 ≤ a ∧ a < 0x10000) ∧
    (∃ (s : State) (m : Master), (s.mayWrite m = false ∨ s.session = false ∨ s.get UPD_STATUS.OWNER ≠ m.val)) ∧
    (∃ (s : State) (m : Master) (data : Word), s.mayWrite m = true ∧ s.session = true ∧ UPD_BLOCK.TOKEN.of data = s.upd.token ∧
      s.get UPD_STATUS.OWNER = m.val ∧ UPD_BLOCK.BLOCK.of data < 96 ∧ 0 < UPD_BLOCK.BLOCK.of data ∧ s.upd.programming = none ∧
      UPD_BLOCK.BLOCK.of data = s.upd.next) ∧
    (∃ (s : State) (m : Master) (data : Word), s.mayWrite m = true ∧ s.session = true ∧ UPD_BLOCK.TOKEN.of data = s.upd.token ∧
      s.get UPD_STATUS.OWNER = m.val ∧ UPD_BLOCK.BLOCK.of data < 96 ∧ 0 < UPD_BLOCK.BLOCK.of data ∧ s.upd.programming = none ∧
      UPD_BLOCK.BLOCK.of data < s.upd.next) ∧
    (∃ (s : State) (m : Master) (data : Word), s.mayWrite m = true ∧ s.session = true ∧ UPD_BLOCK.TOKEN.of data = s.upd.token ∧
      s.get UPD_STATUS.OWNER = m.val ∧ UPD_BLOCK.BLOCK.of data < 96 ∧ 0 < UPD_BLOCK.BLOCK.of data ∧ s.upd.programming = none ∧
      s.upd.next < UPD_BLOCK.BLOCK.of data) ∧
    (∃ (s : State) (m : Master) (data : Word), s.mayWrite m = true ∧ s.session = true ∧ UPD_BLOCK.TOKEN.of data = s.upd.token ∧
      s.get UPD_STATUS.OWNER = m.val ∧ UPD_BLOCK.BLOCK.of data < 96 ∧ 0 < UPD_BLOCK.BLOCK.of data ∧ s.upd.programming.isSome = true) ∧
    (∃ (s : State) (m : Master) (data : Word), s.mayWrite m = true ∧ (s.session = false ∨ UPD_BLOCK.TOKEN.of data ≠ s.upd.token)) ∧
    (∃ (s : State) (m : Master) (data : Word), s.mayWrite m = true ∧ s.session = true ∧ UPD_BLOCK.TOKEN.of data = s.upd.token ∧
      s.get UPD_STATUS.OWNER ≠ m.val) ∧
    (∃ (s : State) (m : Master) (data : Word), s.mayWrite m = true ∧ s.session = true ∧ UPD_BLOCK.TOKEN.of data = s.upd.token ∧
      s.get UPD_STATUS.OWNER = m.val ∧ 96 ≤ UPD_BLOCK.BLOCK.of data) ∧
    (∃ (s : State) (n : Nat) (words : List Word), s.is UPD_STATUS.NVM_BUSY = true ∧ s.upd.erasing = false ∧ s.upd.programming = some (n, words) ∧
      s.saf.deferred = none ∧ s.upd.copy = none) ∧
    (∃ (s : State), s.is UPD_STATUS.NVM_BUSY = true ∧ 0 < s.upd.spares) ∧
    (∃ (s : State), s.is UPD_STATUS.NVM_BUSY = true ∧ s.upd.spares = 0 ∧ s.saf.deferred = none ∧ s.session = true ∧ s.get UPD_STATUS.OWNER = 0) ∧
    (∃ (s : State) (c : ImageCopy), s.is UPD_STATUS.NVM_BUSY = true ∧ s.upd.erasing = false ∧ s.upd.programming = none ∧ s.upd.copy = some c ∧
      s.saf.deferred = none ∧ s.saf.inReset = none ∧ c.markers + 1 < c.base) ∧
    (∃ (s : State) (c : ImageCopy), s.is UPD_STATUS.NVM_BUSY = true ∧ s.upd.erasing = false ∧ s.upd.programming = none ∧ s.upd.copy = some c ∧
      s.saf.deferred = none ∧ s.saf.inReset = none ∧ c.markers + 1 = c.base ∧ c.save = true) ∧
    (∃ (s : State) (c : ImageCopy), s.is UPD_STATUS.NVM_BUSY = true ∧ s.upd.erasing = false ∧ s.upd.programming = none ∧ s.upd.copy = some c ∧
      s.saf.deferred = none ∧ s.saf.inReset = none ∧ c.markers + 1 = c.base + c.parts + 3 ∧ c.fromFallback = false ∧ s.upd.staging.findPart 7 = none) ∧
    (∃ (s : State), s.is UPD_STATUS.NVM_BUSY = false) ∧
    (∃ (s : State) (t0 : Nat), s.session = true ∧ s.beam.stage ≠ 2 ∧ s.upd.idleAt = some t0 ∧ t0 ≤ s.time) ∧
    (∃ (s : State), (s.session = false ∨ s.beam.stage = 2 ∨ s.upd.idleAt = none)) :=
  ⟨⟨lab, UPD_SESSION.CMD.put 1 (UPD_SESSION.KEY.put 0x71C4 0), by decide +kernel⟩,
    ⟨(lab.set UPD_STATUS.SESSION 1), UPD_SESSION.CMD.put 1 (UPD_SESSION.KEY.put 0x71C4 0), by decide +kernel⟩,
    ⟨lab, 3, 0, by decide +kernel⟩,
    ⟨lab, 3, UPD_SESSION.CMD.put 1 (UPD_SESSION.KEY.put 0x71C4 0), by decide +kernel⟩,
    ⟨(let m : Master := 3; (lab.set UPD_STATUS.SESSION 1).set UPD_STATUS.OWNER m.val), 3, 0xFFFC, by decide +kernel⟩,
    ⟨lab, 3, by decide +kernel⟩,
    ⟨(let m : Master := 3; let s := lab.set UPD_STATUS.SESSION 1; let s : State := { s with upd := { s.upd with programming := none } };
      let s := s.set UPD_STATUS.OWNER m.val; let s : State := { s with upd := { s.upd with next := 95 } }; s), 3, UPD_BLOCK.BLOCK.put 95 0,
      by decide +kernel⟩,
    ⟨(let m : Master := 3; let s := lab.set UPD_STATUS.SESSION 1; let s : State := { s with upd := { s.upd with programming := none } };
      let s := s.set UPD_STATUS.OWNER m.val; let s : State := { s with upd := { s.upd with next := 96 } }; s), 3, UPD_BLOCK.BLOCK.put 95 0,
      by decide +kernel⟩,
    ⟨(let m : Master := 3; let s := lab.set UPD_STATUS.SESSION 1; let s : State := { s with upd := { s.upd with programming := none } };
      s.set UPD_STATUS.OWNER m.val), 3, UPD_BLOCK.BLOCK.put 95 0, by decide +kernel⟩,
    ⟨(let m : Master := 3; let s := (lab.set UPD_STATUS.SESSION 1).set UPD_STATUS.OWNER m.val;
      let s : State := { s with upd := { s.upd with programming := some (0, []) } }; s), 3, UPD_BLOCK.BLOCK.put 95 0, by decide +kernel⟩,
    ⟨lab, 3, 0, by decide +kernel⟩,
    ⟨(lab.set UPD_STATUS.SESSION 1), 3, 0, by decide +kernel⟩,
    ⟨(let m : Master := 3; (lab.set UPD_STATUS.SESSION 1).set UPD_STATUS.OWNER m.val), 3, UPD_BLOCK.BLOCK.put 96 0, by decide +kernel⟩,
    ⟨(let n : Nat := 0; let words : List Word := []; let s := lab.set UPD_STATUS.NVM_BUSY 1;
      let s : State := { s with upd := { s.upd with erasing := false } };
      let s : State := { s with upd := { s.upd with programming := some (n, words) } };
      let s : State := { s with saf := { s.saf with deferred := none } }; let s : State := { s with upd := { s.upd with copy := none } }; s), 0, [],
      by decide +kernel⟩,
    ⟨(lab.set UPD_STATUS.NVM_BUSY 1), by decide +kernel⟩,
    ⟨(let s := lab.set UPD_STATUS.NVM_BUSY 1; let s : State := { s with upd := { s.upd with spares := 0 } };
      let s : State := { s with saf := { s.saf with deferred := none } }; s.set UPD_STATUS.SESSION 1), by decide +kernel⟩,
    ⟨(let c : ImageCopy := { fromFallback := false, save := true, markers := 0, parts := 6, saveParts := 6 }; let s := lab.set UPD_STATUS.NVM_BUSY 1;
      let s : State := { s with upd := { s.upd with erasing := false } }; let s : State := { s with upd := { s.upd with programming := none } };
      let s : State := { s with upd := { s.upd with copy := some c } }; let s : State := { s with saf := { s.saf with deferred := none } };
      let s : State := { s with saf := { s.saf with inReset := none } }; s),
      { fromFallback := false, save := true, markers := 0, parts := 6, saveParts := 6 }, by decide +kernel⟩,
    ⟨(let c : ImageCopy := { fromFallback := false, save := true, markers := 7, parts := 6, saveParts := 6 }; let s := lab.set UPD_STATUS.NVM_BUSY 1;
      let s : State := { s with upd := { s.upd with erasing := false } }; let s : State := { s with upd := { s.upd with programming := none } };
      let s : State := { s with upd := { s.upd with copy := some c } }; let s : State := { s with saf := { s.saf with deferred := none } };
      let s : State := { s with saf := { s.saf with inReset := none } }; s),
      { fromFallback := false, save := true, markers := 7, parts := 6, saveParts := 6 }, by decide +kernel⟩,
    ⟨(let c : ImageCopy := { fromFallback := false, save := false, markers := 9, parts := 6, saveParts := 0 }; let s := lab.set UPD_STATUS.NVM_BUSY 1;
      let s : State := { s with upd := { s.upd with erasing := false } }; let s : State := { s with upd := { s.upd with programming := none } };
      let s : State := { s with upd := { s.upd with copy := some c } }; let s : State := { s with saf := { s.saf with deferred := none } };
      let s : State := { s with saf := { s.saf with inReset := none } }; s),
      { fromFallback := false, save := false, markers := 9, parts := 6, saveParts := 0 }, by decide +kernel⟩,
    ⟨lab, by decide +kernel⟩,
    ⟨(let t0 : Nat := 0; let s := lab.set UPD_STATUS.SESSION 1; let s : State := { s with upd := { s.upd with idleAt := some t0 } }; s), 0,
      by decide +kernel⟩,
    ⟨lab, by decide +kernel⟩⟩

/-- A witness of each clause of `Obligations.UpdateCommands`. -/
theorem witness_update_commands :
    (∃ (s : State) (m : Master) (token : BitVec 16) (c : Instr), s.mayWrite m = true ∧
      c ∈ [Instr.activateNext m token, .activateNow m token, .updateConfirm m token, .discard m token, .push m token, .close m token, .complete m token] ∧
      (s.session = true ∧ (s.get UPD_STATUS.OWNER ≠ m.val ∨ token.toNat ≠ s.upd.token) ∨ s.session = false ∧ (token ≠ 0x5B1E ∨ m.val = 4))) ∧
    (∃ (s : State) (m : Master) (token : BitVec 16) (c : Instr), s.mayWrite m = true ∧
      c ∈ [Instr.activateNext m token, .activateNow m token, .updateConfirm m token, .discard m token, .push m token, .close m token, .complete m token] ∧
      (s.session = true ∧ s.get UPD_STATUS.OWNER = m.val ∧ token.toNat = s.upd.token ∨ s.session = false ∧ token = 0x5B1E ∧ m.val ≠ 4) ∧
      (s.regionSafe .north = true ∨ s.regionSafe .south = true ∨ s.regionSafe .control = true ∨ s.is SAF_STATUS.DEFER = true ∨
      s.is SAF_STATUS.LC_PENDING = true ∨ s.is UPD_STATUS.HOLD = true)) ∧
    (∃ (s : State) (m : Master) (token : BitVec 16), (∀ r, s.regionSafe r = false) ∧ s.mayWrite m = true ∧ s.fullService = true ∧ (s.session = true ∧
      s.get UPD_STATUS.OWNER = m.val ∧ token.toNat = s.upd.token ∨ s.session = false ∧ token = 0x5B1E ∧ m.val ≠ 4) ∧ s.chipSafe = false ∧
      s.is SAF_STATUS.DEFER = false ∧ s.is SAF_STATUS.LC_PENDING = false ∧ s.is UPD_STATUS.HOLD = false ∧ s.beam.stage = 2) ∧
    (∃ (s : State) (m : Master) (token : BitVec 16), (∀ r, s.regionSafe r = false) ∧ s.mayWrite m = true ∧ s.fullService = true ∧ (s.session = true ∧
      s.get UPD_STATUS.OWNER = m.val ∧ token.toNat = s.upd.token ∨ s.session = false ∧ token = 0x5B1E ∧ m.val ≠ 4) ∧ s.chipSafe = false ∧
      s.is SAF_STATUS.DEFER = false ∧ s.is SAF_STATUS.LC_PENDING = false ∧ s.is UPD_STATUS.HOLD = false ∧ s.beam.stage ≠ 2) ∧
    (∃ (s : State) (m : Master) (token : BitVec 16), (∀ r, s.regionSafe r = false) ∧ s.mayWrite m = true ∧ s.fullService = true ∧ (s.session = true ∧
      s.get UPD_STATUS.OWNER = m.val ∧ token.toNat = s.upd.token ∨ s.session = false ∧ token = 0x5B1E ∧ m.val ≠ 4) ∧ s.chipSafe = false ∧
      s.is SAF_STATUS.DEFER = false ∧ s.is SAF_STATUS.LC_PENDING = false ∧ s.is UPD_STATUS.HOLD = false ∧ s.beam.stage = 2 ∧ s.pairState = 0 ∧
      s.checkBank s.upd.staging = 0) ∧
    (∃ (s : State) (m : Master) (token : BitVec 16), (∀ r, s.regionSafe r = false) ∧ s.mayWrite m = true ∧ s.fullService = true ∧ (s.session = true ∧
      s.get UPD_STATUS.OWNER = m.val ∧ token.toNat = s.upd.token ∨ s.session = false ∧ token = 0x5B1E ∧ m.val ≠ 4) ∧ s.chipSafe = false ∧
      s.is SAF_STATUS.DEFER = false ∧ s.is SAF_STATUS.LC_PENDING = false ∧ s.is UPD_STATUS.HOLD = false ∧ s.beam.stage = 2 ∧ s.pairState = 0 ∧
      s.checkBank s.upd.staging ≠ 0) ∧
    (∃ (s : State) (m : Master) (token : BitVec 16), (∀ r, s.regionSafe r = false) ∧ s.mayWrite m = true ∧ s.fullService = true ∧ (s.session = true ∧
      s.get UPD_STATUS.OWNER = m.val ∧ token.toNat = s.upd.token ∨ s.session = false ∧ token = 0x5B1E ∧ m.val ≠ 4) ∧ s.chipSafe = false ∧
      s.is SAF_STATUS.DEFER = false ∧ s.is SAF_STATUS.LC_PENDING = false ∧ s.is UPD_STATUS.HOLD = false ∧ s.beam.trial = true) ∧
    (∃ (s : State) (m : Master) (token : BitVec 16), (∀ r, s.regionSafe r = false) ∧ s.mayWrite m = true ∧ s.fullService = true ∧ (s.session = true ∧
      s.get UPD_STATUS.OWNER = m.val ∧ token.toNat = s.upd.token ∨ s.session = false ∧ token = 0x5B1E ∧ m.val ≠ 4) ∧ s.chipSafe = false ∧
      s.is SAF_STATUS.DEFER = false ∧ s.is SAF_STATUS.LC_PENDING = false ∧ s.is UPD_STATUS.HOLD = false ∧ s.beam.trial = false) ∧
    (∃ (s : State) (m : Master) (token : BitVec 16), (∀ r, s.regionSafe r = false) ∧ s.mayWrite m = true ∧ s.fullService = true ∧ (s.session = true ∧
      s.get UPD_STATUS.OWNER = m.val ∧ token.toNat = s.upd.token ∨ s.session = false ∧ token = 0x5B1E ∧ m.val ≠ 4) ∧ s.chipSafe = false ∧
      s.is SAF_STATUS.DEFER = false ∧ s.is SAF_STATUS.LC_PENDING = false ∧ s.is UPD_STATUS.HOLD = false ∧ s.beam.stage ≠ 3 ∧ s.upd.copy = none) ∧
    (∃ (s : State) (m : Master) (token : BitVec 16), (∀ r, s.regionSafe r = false) ∧ s.mayWrite m = true ∧ s.fullService = true ∧ (s.session = true ∧
      s.get UPD_STATUS.OWNER = m.val ∧ token.toNat = s.upd.token ∨ s.session = false ∧ token = 0x5B1E ∧ m.val ≠ 4) ∧ s.chipSafe = false ∧
      s.is SAF_STATUS.DEFER = false ∧ s.is SAF_STATUS.LC_PENDING = false ∧ s.is UPD_STATUS.HOLD = false ∧ s.beam.stage = 3) ∧
    (∃ (s : State) (m : Master) (token : BitVec 16), (∀ r, s.regionSafe r = false) ∧ s.mayWrite m = true ∧ s.fullService = true ∧ (s.session = true ∧
      s.get UPD_STATUS.OWNER = m.val ∧ token.toNat = s.upd.token ∨ s.session = false ∧ token = 0x5B1E ∧ m.val ≠ 4) ∧ s.chipSafe = false ∧
      s.is SAF_STATUS.DEFER = false ∧ s.is SAF_STATUS.LC_PENDING = false ∧ s.is UPD_STATUS.HOLD = false ∧ s.session = true ∧ s.beam.stage = 2 ∧
      s.paired = true) ∧
    (∃ (s : State) (m : Master) (token : BitVec 16), (∀ r, s.regionSafe r = false) ∧ s.mayWrite m = true ∧ s.fullService = true ∧ (s.session = true ∧
      s.get UPD_STATUS.OWNER = m.val ∧ token.toNat = s.upd.token ∨ s.session = false ∧ token = 0x5B1E ∧ m.val ≠ 4) ∧ s.chipSafe = false ∧
      s.is SAF_STATUS.DEFER = false ∧ s.is SAF_STATUS.LC_PENDING = false ∧ s.is UPD_STATUS.HOLD = false ∧ (s.session = false ∨ s.beam.stage ≠ 2 ∨
      s.paired = false)) ∧
    (∃ (s : State) (m : Master) (token : BitVec 16), (∀ r, s.regionSafe r = false) ∧ s.mayWrite m = true ∧ s.fullService = true ∧ (s.session = true ∧
      s.get UPD_STATUS.OWNER = m.val ∧ token.toNat = s.upd.token ∨ s.session = false ∧ token = 0x5B1E ∧ m.val ≠ 4) ∧ s.chipSafe = false ∧
      s.is SAF_STATUS.DEFER = false ∧ s.is SAF_STATUS.LC_PENDING = false ∧ s.is UPD_STATUS.HOLD = false ∧ s.session = true) ∧
    (∃ (s : State) (m : Master) (token : BitVec 16), (∀ r, s.regionSafe r = false) ∧ s.mayWrite m = true ∧ s.fullService = true ∧ (s.session = true ∧
      s.get UPD_STATUS.OWNER = m.val ∧ token.toNat = s.upd.token ∨ s.session = false ∧ token = 0x5B1E ∧ m.val ≠ 4) ∧ s.chipSafe = false ∧
      s.is SAF_STATUS.DEFER = false ∧ s.is SAF_STATUS.LC_PENDING = false ∧ s.is UPD_STATUS.HOLD = false ∧ s.session = false) ∧
    (∃ (s : State) (m : Master) (token : BitVec 16), (∀ r, s.regionSafe r = false) ∧ s.mayWrite m = true ∧ s.fullService = true ∧ (s.session = true ∧
      s.get UPD_STATUS.OWNER = m.val ∧ token.toNat = s.upd.token ∨ s.session = false ∧ token = 0x5B1E ∧ m.val ≠ 4) ∧ s.chipSafe = false ∧
      s.is SAF_STATUS.DEFER = false ∧ s.is SAF_STATUS.LC_PENDING = false ∧ s.is UPD_STATUS.HOLD = false ∧ s.session = true ∧ s.beam.stage = 1 ∧
      s.upd.programming = none ∧ s.beam.size ≤ s.upd.next * 4096) ∧
    (∃ (s : State) (m : Master) (token : BitVec 16), (∀ r, s.regionSafe r = false) ∧ s.mayWrite m = true ∧ s.fullService = true ∧ (s.session = true ∧
      s.get UPD_STATUS.OWNER = m.val ∧ token.toNat = s.upd.token ∨ s.session = false ∧ token = 0x5B1E ∧ m.val ≠ 4) ∧ s.chipSafe = false ∧
      s.is SAF_STATUS.DEFER = false ∧ s.is SAF_STATUS.LC_PENDING = false ∧ s.is UPD_STATUS.HOLD = false ∧ s.session = true ∧ (s.beam.stage = 0 ∨
      s.upd.programming.isSome = true ∨ s.upd.next * 4096 < s.beam.size)) ∧
    (∃ (s : State), s.fullService = true ∧ s.beam.trial = true ∧ 300000000 ≤ s.upd.healthy ∧ s.is UPD_FLAGS.MIGRATE_FAIL = false ∧
      s.is UPD_STATUS.HOLD = false) ∧
    (∃ (s : State), (s.fullService = false ∨ s.beam.trial = false ∨ s.upd.healthy < 300000000 ∨ s.is UPD_FLAGS.MIGRATE_FAIL = true)) :=
  ⟨⟨lab, 3, 0, .close 3 0, by decide +kernel⟩,
    ⟨(let m : Master := 3; ((lab.set UPD_STATUS.SESSION 1).set UPD_STATUS.OWNER m.val).set SAF_STATUS.DEFER 1), 3, 0, .close 3 0, by decide +kernel⟩,
    ⟨(let m : Master := 3; let s := lab; let s : State := { s with beam := { s.beam with stage := 2 } };
      (s.set UPD_STATUS.SESSION 1).set UPD_STATUS.OWNER m.val), 3, 0, (fun r => by cases r <;> decide +kernel), by decide +kernel⟩,
    ⟨(let m : Master := 3; (lab.set UPD_STATUS.SESSION 1).set UPD_STATUS.OWNER m.val), 3, 0, (fun r => by cases r <;> decide +kernel),
      by decide +kernel⟩,
    ⟨(let m : Master := 3; let s := lab; let s : State := { s with beam := { s.beam with stage := 2 } };
      let s := (s.set UPD_STATUS.SESSION 1).set UPD_STATUS.OWNER m.val;
      let s : State := { s with upd := { s.upd with staging := { shipped := true } } }; s), 3, 0, (fun r => by cases r <;> decide +kernel),
      by decide +kernel⟩,
    ⟨(let m : Master := 3; let s := lab; let s : State := { s with beam := { s.beam with stage := 2 } };
      (s.set UPD_STATUS.SESSION 1).set UPD_STATUS.OWNER m.val), 3, 0, (fun r => by cases r <;> decide +kernel), by decide +kernel⟩,
    ⟨(let m : Master := 3; let s := lab; let s : State := { s with beam := { s.beam with trial := true } };
      (s.set UPD_STATUS.SESSION 1).set UPD_STATUS.OWNER m.val), 3, 0, (fun r => by cases r <;> decide +kernel), by decide +kernel⟩,
    ⟨(let m : Master := 3; let s := lab; let s : State := { s with beam := { s.beam with trial := false } };
      (s.set UPD_STATUS.SESSION 1).set UPD_STATUS.OWNER m.val), 3, 0, (fun r => by cases r <;> decide +kernel), by decide +kernel⟩,
    ⟨(let m : Master := 3; let s := lab; let s : State := { s with upd := { s.upd with copy := none } };
      (s.set UPD_STATUS.SESSION 1).set UPD_STATUS.OWNER m.val), 3, 0, (fun r => by cases r <;> decide +kernel), by decide +kernel⟩,
    ⟨(let m : Master := 3; let s := lab; let s : State := { s with beam := { s.beam with stage := 3 } };
      (s.set UPD_STATUS.SESSION 1).set UPD_STATUS.OWNER m.val), 3, 0, (fun r => by cases r <;> decide +kernel), by decide +kernel⟩,
    ⟨(let m : Master := 3; let s := lab.set UPD_STATUS.SESSION 1; let s : State := { s with beam := { s.beam with stage := 2 } };
      ((s.set SEL_STATUS.PEER_LIVE 1).set SEL_STATUS.PAIR_STATE 2).set UPD_STATUS.OWNER m.val), 3, 0, (fun r => by cases r <;> decide +kernel),
      by decide +kernel⟩,
    ⟨(let m : Master := 3; (lab.set UPD_STATUS.SESSION 1).set UPD_STATUS.OWNER m.val), 3, 0, (fun r => by cases r <;> decide +kernel),
      by decide +kernel⟩,
    ⟨(let m : Master := 3; (lab.set UPD_STATUS.SESSION 1).set UPD_STATUS.OWNER m.val), 3, 0, (fun r => by cases r <;> decide +kernel),
      by decide +kernel⟩,
    ⟨(let m : Master := 3; ((lab.set UPD_STATUS.SESSION 1).set UPD_STATUS.OWNER m.val).set UPD_STATUS.SESSION 0), 3, 0x5B1E,
      (fun r => by cases r <;> decide +kernel), by decide +kernel⟩,
    ⟨(let m : Master := 3; let s := lab.set UPD_STATUS.SESSION 1; let s : State := { s with beam := { s.beam with stage := 1 } };
      let s : State := { s with upd := { s.upd with programming := none } }; s.set UPD_STATUS.OWNER m.val), 3, 0,
      (fun r => by cases r <;> decide +kernel), by decide +kernel⟩,
    ⟨(let m : Master := 3; let s := lab.set UPD_STATUS.SESSION 1; let s : State := { s with beam := { s.beam with stage := 0 } };
      s.set UPD_STATUS.OWNER m.val), 3, 0, (fun r => by cases r <;> decide +kernel), by decide +kernel⟩,
    ⟨(let s := lab; let s : State := { s with beam := { s.beam with trial := true } };
      let s : State := { s with upd := { s.upd with healthy := 300000000 } }; s), by decide +kernel⟩,
    ⟨lab, by decide +kernel⟩⟩

/-- A witness of each clause of `Obligations.BusAccess`. -/
theorem witness_bus_access :
    (∃ (a : Nat), (a % 4 ≠ 0 ∨ 0x10000 ≤ a)) ∧
    (∃ (a : Nat), a % 4 = 0 ∧ a < 0x2000 ∧ (a < 0x1600 ∨ 0x1800 ≤ a) ∧ findSpec a = none) ∧
    (∃ (s : State) (m : Master) (a : Nat), s.mayWrite m = false ∧
      a ∉ [SAF_FAULT_CLR.addr, SAF_RST_CMD.addr, SAF_PWR_CMD.addr, SAF_LC_CMD.addr, SAF_WDG_KEY.addr]) ∧
    (∃ (s : State) (m : Master) (a : Nat) (v : Word), s.mayWrite m = true ∧ ((a,
      v) ∈ [(BEM_IRQ_EN.addr, 0x7F#32), (JOB_IRQ_EN.addr, 0x3FF#32), (HIF_IRQ_EN.addr, 0x3FFF#32), (UPD_IRQ_EN.addr, 0x3FFF#32)] ∨ (a,
      v) = (SEL_IRQ_EN.addr, 0xFFF#32) ∧ s.hasSel = true)) ∧
    (∃ (s : State) (m : Master), s.mayWrite m = true) ∧
    (∃ (s : State) (m : Master) (a : Nat), s.mayWrite m = true ∧ a ∈ [GLB_FEAT.addr, GLB_REGION.addr, GLB_STRAP.addr, GLB_CLK.addr, BEM_STATUS.addr]) ∧
    (∃ (s : State) (m : Master), s.mayWrite m = true ∧ s.peerLive = false) ∧
    (∃ (s : State) (a : Nat), a % 4 = 0 ∧ s.fullService = true ∧ 0x8000 ≤ a ∧ a < 0xC000) ∧
    (∃ (s : State) (a : Nat), a % 4 = 0 ∧ s.fullService = true ∧ 0x4000 ≤ a ∧ a < 0x5000) ∧
    (∃ (s : State) (a : Nat), a % 4 = 0 ∧ s.fullService = true ∧ 0xE000 ≤ a ∧ a < 0x10000) ∧
    (∃ (s : State) (m : Master) (a : Nat), s.mayWrite m = true ∧ a % 4 = 0 ∧ 0x4000 + 0x400 * m.val ≤ a ∧ a < 0x4400 + 0x400 * m.val ∧ m.val < 4) ∧
    (∃ (s : State) (a : Nat), (a = TST_AMUX.addr ∨ a = TST_DMUX.addr) ∧ s.is SAF_STATUS.TEST_ACT = false) ∧
    (∃ (s : State) (m : Master), s.is SAF_STATUS.TEST_ACT = true ∧ s.mayWrite m = true) :=
  ⟨⟨0x10000, by decide +kernel⟩,
    ⟨0x1FFC, by decide +kernel⟩,
    ⟨(lab.set GLB_REGION.SERVICE 1), 3, 0, by decide +kernel⟩,
    ⟨lab, 3, BEM_IRQ_EN.addr, 0x7F, by decide +kernel⟩,
    ⟨lab, 3, by decide +kernel⟩,
    ⟨lab, 3, GLB_REGION.addr, by decide +kernel⟩,
    ⟨lab, 3, by decide +kernel⟩,
    ⟨lab, 0xBFFC, by decide +kernel⟩,
    ⟨lab, 0x4FFC, by decide +kernel⟩,
    ⟨lab, 0xFFFC, by decide +kernel⟩,
    ⟨lab, 3, 0x4FFC, by decide +kernel⟩,
    ⟨lab, TST_AMUX.addr, by decide +kernel⟩,
    ⟨(lab.set SAF_STATUS.TEST_ACT 1), 3, by decide +kernel⟩⟩

/-- A witness of each clause of `Obligations.DecisionTicks`. -/
theorem witness_decision_ticks :
    (∃ (s : State), s.mode = 4) ∧
    (∃ (s : State), s.mode ≠ 4 ∧ (s.saf.inReset.isSome = true ∨ s.mode = 3)) ∧
    (∃ (s : State), s.mode < 3 ∧ s.saf.inReset = none ∧ s.get GLB_REGION.SERVICE = 0) ∧
    (∃ (s : State), s.sel.slow = false) :=
  ⟨⟨(lab.set SAF_STATUS.MODE 4), by decide +kernel⟩,
    ⟨(lab.set SAF_STATUS.MODE 3), by decide +kernel⟩,
    ⟨(let s := lab; let s : State := { s with saf := { s.saf with inReset := none } }; s.set GLB_REGION.SERVICE 0), by decide +kernel⟩,
    ⟨(let s := lab; let s : State := { s with sel := { s.sel with slow := false } }; s), by decide +kernel⟩⟩

end Sys2Proof.Tests
end

section
/-!
PROOFS. The statements of 00_scope.md: the reset state, the address space, absent units, and the way to full service.
-/

namespace Sys2Proof.Machine

-- One theorem at a time, as in Tests/Slice0.lean: elaborated side by side, they would hold one waiting thread each.
set_option Elab.async false

/-! ### The state after a power-on reset (R14, 17_register_map.md) -/

/-- The POR words stand in address order, and none of them is zero. -/
theorem porWords_wf : WordMap.wf porWords = true := by decide +kernel

/-- `porWords` lists exactly the POR column of the register map. -/
theorem reset_rd_por : ∀ r ∈ regTable, ∀ k, k < r.count → State.reset.rd (r.base + r.stride * k) = BitVec.ofNat 32 r.por := by
  decide +kernel

/-- Settles O5: the registers hold the POR words, and every other store is empty. -/
theorem resetMeetsTheInvariant : Obligations.ResetMeetsTheInvariant :=
  ⟨porWords_wf, WordMap.wf_nil, WordMap.wf_nil, WordMap.wf_nil, WordMap.wf_nil, WordMap.wf_nil, WordMap.wf_nil, WordMap.wf_nil⟩

/-- Settles O6: the map's rows read their POR words (`reset_rd_por`), and the other fields stand at the defaults of `State`. -/
theorem resetState : Obligations.ResetState :=
  ⟨reset_rd_por, rfl, rfl, rfl, rfl, rfl, rfl, rfl, rfl, by decide +kernel⟩


/-! ### Accesses by address (R4, R9, R10) -/

/-- The supervisor's keyed registers, which judge a write themselves. -/
def keyedRegisters : List Nat := [SAF_FAULT_CLR.addr, SAF_RST_CMD.addr, SAF_PWR_CMD.addr, SAF_LC_CMD.addr, SAF_WDG_KEY.addr]

/-- The registers whose read has an effect beside its answer: it consumes or advances something, or takes part in a latch (R13, R444). -/
def actingReads : List Nat :=
  [RED_MARK_LO.addr, RED_MARK_HI.addr, MEA_RES_LO.addr, MEA_RES_HI.addr, LOM_DMDATA.addr, GLB_SYSTIME_LO.addr, GLB_SYSTIME_HI.addr,
   JOB_ASN_LO.addr, JOB_ASN_HI.addr, BEM_JSN_LO.addr, BEM_JSN_HI.addr, SAF_NONCE_LO.addr, SAF_NONCE_HI.addr]

/-- The job status words, a read of which counts (R286). -/
def isJobStatus (a : Nat) : Prop := (0x1600 ≤ a ∧ a < 0x1800) ∧ a % 4 = 0

/-- A write that no mapped register takes (R4, R9). -/
theorem State.busWrite_off_map {s : State} {a : Nat} (h : a % 4 ≠ 0 ∨ 0x10000 ≤ a ∨ s.absentAddr a = true) (m : Master) (w : Word) :
    s.busWrite m a w = s := by
  rcases h with h | h | h <;> simp [State.busWrite, h]

/-- A write that is not served (R23, R305, R434). -/
theorem State.busWrite_unserved {s : State} {m : Master} {a : Nat} (hm : s.mayWrite m = false) (hk : a ∉ keyedRegisters) (w : Word) :
    s.busWrite m a w = s := by
  simp only [keyedRegisters, List.mem_cons, List.not_mem_nil, or_false, not_or] at hk
  simp [State.busWrite, hm, hk]

/-- A write of reserved space. -/
theorem State.busWrite_reserved {s : State} {a : Nat} (ha : a < 0x2000) (hk : a ∉ keyedRegisters) (hf : findSpec a = none) (m : Master) (w : Word) :
    s.busWrite m a w = s := by
  simp only [keyedRegisters, List.mem_cons, List.not_mem_nil, or_false, not_or] at hk
  have : ¬ 0x2000 ≤ a := by omega
  simp [State.busWrite, hk, hf, this]

/-- A served write of a register goes to the register's own row of the map; clearing event flags may re-arm `INT_N`. -/
theorem State.busWrite_served {s : State} {m : Master} {a : Nat} {r : RegSpec} (hm : s.mayWrite m = true) (ha : a % 4 = 0) (hl : a < 0x2000)
    (hp : s.absentAddr a = false) (hk : a ∉ keyedRegisters) (hf : findSpec a = some r) (w : Word) :
    s.busWrite m a w = (s.writeRegister r m a w).onlyIf (r.clears w) (fun t => t.rearm m.val) := by
  simp only [keyedRegisters, List.mem_cons, List.not_mem_nil, or_false, not_or] at hk
  have h1 : ¬ 0x2000 ≤ a := by omega
  have h2 : ¬ 0x10000 ≤ a := by omega
  simp [State.busWrite, hk, hf, h1, h2, ha, hp, hm]

/-- A served write of a window. -/
theorem State.busWrite_window {s : State} {m : Master} {a : Nat} (hm : s.mayWrite m = true) (ha : a % 4 = 0) (hl : 0x2000 ≤ a) (hu : a < 0x10000)
    (hp : s.absentAddr a = false) (w : Word) : s.busWrite m a w = s.writeWindow m a w := by
  have h2 : ¬ 0x10000 ≤ a := by omega
  have hk : ∀ b ∈ keyedRegisters, a ≠ b := fun b hb => by
    have : b < 0x2000 := by revert b; decide
    omega
  simp only [keyedRegisters, List.mem_cons, List.not_mem_nil, or_false, forall_eq_or_imp, forall_eq] at hk
  simp [State.busWrite, hk, h2, ha, hp, hm, hl]

/-- A read without an effect answers its word and leaves the rest of the machine alone. -/
theorem State.busRead_quiet {a : Nat} (h : a ∉ actingReads) (hj : ¬ isJobStatus a) (s : State) (m : Master) :
    s.busRead m a = (s.readWord m.val a, { s with readData := s.readWord m.val a }) := by
  simp only [actingReads, List.mem_cons, List.not_mem_nil, or_false, not_or] at h
  replace hj := eq_false hj
  rw [isJobStatus] at hj
  have hu : isUpper a = false := by simp [isUpper, h]
  simp [State.busRead, State.upperOf, h, hj, hu]

/-- Every register whose read has an effect stands in the map. -/
theorem actingReads_mapped : ∀ a ∈ actingReads, a % 4 = 0 ∧ a < 0x2000 ∧ findSpec a ≠ none := by decide +kernel


/-! ### Reads of addresses without a register -/

/-- An address that no row of the map, or no unit of the variant, stands behind reads zero. -/
theorem State.readWord_off_map {s : State} {a : Nat}
    (h : a % 4 ≠ 0 ∨ 0x10000 ≤ a ∨ s.absentAddr a = true ∨ a < 0x2000 ∧ findSpec a = none) (m : Nat) : s.readWord m a = 0 := by
  rcases h with h | h | h | ⟨h1, h2⟩
  · simp [State.readWord, h]
  · simp [State.readWord, h]
  · simp [State.readWord, State.registerWord, State.windowWord, h]
  · simp [State.readWord, State.registerWord, h1, h2]

/-- A read of an address outside the map answers zero and does nothing else. -/
theorem State.busRead_off_map {a : Nat} (h : a % 4 ≠ 0 ∨ 0x10000 ≤ a ∨ a < 0x2000 ∧ (a < 0x1600 ∨ 0x1800 ≤ a) ∧ findSpec a = none) (s : State) (m : Master) :
    s.busRead m a = (0, { s with readData := 0 }) := by
  have hq : a ∉ actingReads := fun hm => by
    obtain ⟨h1, h2, h3⟩ := actingReads_mapped a hm
    rcases h with h | h | ⟨-, -, h⟩
    · exact h h1
    · omega
    · exact h3 h
  have hj : ¬ isJobStatus a := by
    rintro ⟨⟨h1, h2⟩, h3⟩
    omega
  rw [State.busRead_quiet hq hj, State.readWord_off_map (h.imp_right (.imp_right fun ⟨hl, _, hf⟩ => .inr ⟨hl, hf⟩))]

/-- A read of a latched upper word takes the latch away (R13, R444). -/
theorem State.busRead_upper {a : Nat} (h : isUpper a = true) (s : State) (m : Master) :
    s.busRead m a = (s.readWord m.val a, { s with latches := s.latches.erase (a * 8 + m.val), readData := s.readWord m.val a }) := by
  simp only [isUpper, Bool.or_eq_true, beq_iff_eq, or_assoc] at h
  rcases h with rfl | rfl | rfl | rfl | rfl | rfl <;> rfl

/-- A read of the mark FIFO takes the oldest mark (R444). -/
theorem State.busRead_markFifo (s : State) (m : Master) :
    s.busRead m RED_MARK_LO.addr =
      (s.readWord m.val RED_MARK_LO.addr, { stateAfter (execMarkFifoRead m s) s with readData := s.readWord m.val RED_MARK_LO.addr }) := rfl

theorem execMarkFifoRead_absent {s : State} (h : s.hasWrp = false) (m : Master) : execMarkFifoRead m s = .next { s with readData := 0 } := by
  simp [execMarkFifoRead, h]

/-- The ranges of the units that a variant may lack hold no read with an effect but those of the mark FIFO. -/
theorem actingReads_absent : ∀ a ∈ actingReads, (0x1C00 ≤ a ∧ a < 0x1D00 ∨ 0xC000 ≤ a ∧ a < 0xE000 → False) ∧
    (0x0E00 ≤ a ∧ a < 0x1000 → a = RED_MARK_LO.addr ∨ isUpper a = true) := by decide

/-- The registers and windows of an absent unit (R4): Selvedge, or Warp with Reed and the pick and weft window. -/
def State.unitAbsent (s : State) (a : Nat) : Prop :=
  s.hasSel = false ∧ 0x1C00 ≤ a ∧ a < 0x1D00 ∨ s.hasWrp = false ∧ (0x0E00 ≤ a ∧ a < 0x1000 ∨ 0xC000 ≤ a ∧ a < 0xE000)

theorem State.unitAbsent.absentAddr {s : State} {a : Nat} (h : s.unitAbsent a) : s.absentAddr a = true := by
  rcases h with ⟨h1, h2, h3⟩ | ⟨h1, h2⟩
  · simp [State.absentAddr, h1, h2, h3]
  · rcases h2 with h2 | h2 <;> simp [State.absentAddr, h1, h2]

/-- A read of an absent unit answers zero; at most a latch goes. -/
theorem State.busRead_absent {s : State} {a : Nat} (h : s.unitAbsent a) (m : Master) :
    ∃ l, s.busRead m a = (0, { s with readData := 0, latches := l }) := by
  have hz : s.readWord m.val a = 0 := State.readWord_off_map (.inr (.inr (.inl h.absentAddr))) _
  by_cases hq : a ∈ actingReads
  · obtain ⟨hno, hmark⟩ := actingReads_absent a hq
    rcases h with ⟨-, h⟩ | ⟨hw, h | h⟩
    · exact (hno (.inl h)).elim
    · rcases hmark h with rfl | hu
      · exact ⟨s.latches, by rw [State.busRead_markFifo, execMarkFifoRead_absent hw, hz]; rfl⟩
      · exact ⟨_, by rw [State.busRead_upper hu, hz]⟩
    · exact (hno (.inr h)).elim
  · have hj : ¬ isJobStatus a := by
      rintro ⟨⟨h1, h2⟩, h3⟩
      rcases h with h | ⟨-, h⟩ <;> omega
    exact ⟨s.latches, by rw [State.busRead_quiet hq hj, hz]⟩

/-- Settles O8: a write of an absent unit stops at its address (`busWrite_off_map`), and a read answers zero (`busRead_absent`). -/
theorem absentUnits : Obligations.AbsentUnits := by
  intro s m a w h _
  have hu : s.unitAbsent a := h
  obtain ⟨l, hl⟩ := State.busRead_absent hu m
  refine ⟨congrArg _ (State.busWrite_off_map (.inr (.inr hu.absentAddr)) m w), _, rfl, ?_⟩
  rw [hl]
  exact ⟨rfl, fun _ _ => rfl, rfl, rfl, rfl, rfl⟩


/-! ### Plain registers (R10, R235) -/

/-- No unit that a variant may lack, and no trunk cell, stands at the address. -/
theorem State.absentAddr_elsewhere {a : Nat} (h : ¬ (0x1C00 ≤ a ∧ a < 0x1D00) ∧ ¬ (0x0600 ≤ a ∧ a < 0x1000) ∧ ¬ (0xC000 ≤ a ∧ a < 0xE000)) (s : State) :
    s.absentAddr a = false := by
  obtain ⟨h1, h2, h3⟩ := h
  have h4 : ¬ (0x0E00 ≤ a ∧ a < 0x1000) := fun ⟨p, q⟩ => h2 ⟨by omega, q⟩
  have h5 : ¬ (0x0600 ≤ a ∧ a < 0x0880) := fun ⟨p, q⟩ => h2 ⟨p, by omega⟩
  simp only [State.absentAddr, h1, h3, h4, h5, decide_false, Bool.and_false, Bool.false_and, Bool.or_false]

/-- A register without order fields and clamped fields. -/
def plainRegister (a : Nat) : Bool := !(orderFields ++ clampedFields).any (fun f => f.field.addr == a)

/-- The store of a plain register: the access codes of its row, where a W1S bit acts through its own operation. -/
theorem State.storeWord_plain {a : Nat} (h : plainRegister a = true) (s : State) (r : RegSpec) (w : Word) :
    s.storeWord r a w = s.wr a (({ r with w1s := 0 } : RegSpec).apply (s.rd a) w) := by
  simp only [plainRegister, List.any_append, Bool.not_or, Bool.and_eq_true, Bool.not_eq_true', List.any_eq_false, beq_iff_eq] at h
  have ho : orderMask a = 0#32 := by
    rw [orderMask, List.filter_eq_nil_iff.2 (by simpa using h.1)]
    rfl
  have hc : clampWord a w = w := by
    rw [clampWord, List.filter_eq_nil_iff.2 (by simpa using h.2)]
    rfl
  have hr : BitVec.ofNat 32 (BitVec.ofNat 32 r.rw &&& ~~~0#32).toNat = BitVec.ofNat 32 r.rw := by
    rw [BitVec.not_zero, BitVec.and_allOnes, BitVec.ofNat_toNat, BitVec.setWidth_eq]
  simp only [State.storeWord, RegSpec.apply, ho, hc, hr]

/-- The access codes of a row whose bits are read-write only (R10). -/
theorem RegSpec.apply_rw {r : RegSpec} (hc : r.w1c = 0) (old w : Word) :
    ({ r with w1s := 0 } : RegSpec).apply old w = (old &&& ~~~BitVec.ofNat 32 r.rw) ||| (w &&& BitVec.ofNat 32 r.rw) := by
  simp only [RegSpec.apply, hc, BitVec.and_zero, BitVec.or_zero, BitVec.not_zero, BitVec.and_allOnes]

/-- The access codes of a row whose bits are event flags only (R10). -/
theorem RegSpec.apply_w1c {r : RegSpec} (hr : r.rw = 0) (old w : Word) :
    ({ r with w1s := 0 } : RegSpec).apply old w = old &&& ~~~(w &&& BitVec.ofNat 32 r.w1c) := by
  simp only [RegSpec.apply, hr, BitVec.and_zero, BitVec.or_zero, BitVec.not_zero, BitVec.and_allOnes]

theorem RegSpec.clears_eq_false {r : RegSpec} (hc : r.w1c = 0) (w : Word) : r.clears w = false := by
  simp [RegSpec.clears, hc]

/-- The registers whose served write is a plain store. -/
def plainAddresses : List Nat :=
  [GLB_FEAT.addr, GLB_STRAP.addr, GLB_REGION.addr, GLB_CLK.addr, JOB_IRQ_EN.addr, HIF_IRQ_EN.addr, SEL_IRQ_EN.addr, BEM_STATUS.addr, BEM_FLAGS.addr, BEM_IRQ_EN.addr,
   UPD_IRQ_EN.addr]

theorem plainAddresses_plain : ∀ a ∈ plainAddresses, a % 4 = 0 ∧ a < 0x2000 ∧ a ∉ keyedRegisters ∧ plainRegister a = true := by decide +kernel

theorem State.writeRegister_plain {a : Nat} (h : a ∈ plainAddresses) (s : State) (r : RegSpec) (m : Master) (w : Word) :
    s.writeRegister r m a w = s.storeWord r a w := by
  simp only [plainAddresses, List.mem_cons, List.not_mem_nil, or_false] at h
  rcases h with rfl | rfl | rfl | rfl | rfl | rfl | rfl | rfl | rfl | rfl | rfl
  case inr.inr.inr.inr.inl =>
    have h1 : JOB_IRQ_EN.addr ≠ 0x1420 + 8 * m.val := by unfold JOB_IRQ_EN.addr; omega
    have h2 : JOB_IRQ_EN.addr ≠ 0x1424 + 8 * m.val := by unfold JOB_IRQ_EN.addr; omega
    change s.writeJob r m JOB_IRQ_EN.addr w = _
    simp only [State.writeJob, h1, h2, if_false, dite_eq_ite, ite_self]
    rfl
  all_goals rfl

/-- A served write of a plain register: its row's access codes act on its word. -/
theorem State.busWrite_plain {s : State} {m : Master} {a : Nat} {r : RegSpec} (hm : s.mayWrite m = true) (ha : a ∈ plainAddresses)
    (hp : s.absentAddr a = false) (hf : findSpec a = some r) (w : Word) :
    s.busWrite m a w = (s.wr a (({ r with w1s := 0 } : RegSpec).apply (s.rd a) w)).onlyIf (r.clears w) (fun t => t.rearm m.val) := by
  obtain ⟨h4, hl, hk, hpl⟩ := plainAddresses_plain a ha
  rw [State.busWrite_served hm h4 hl hp hk hf, State.writeRegister_plain ha, State.storeWord_plain hpl]

/-- A served write of a plain read-write register stores its bits and does nothing else. -/
theorem State.busWrite_rw {s : State} {m : Master} {a : Nat} {r : RegSpec} (hm : s.mayWrite m = true) (ha : a ∈ plainAddresses)
    (hp : s.absentAddr a = false) (hf : findSpec a = some r) (hc : r.w1c = 0) (w : Word) :
    s.busWrite m a w = s.wr a ((s.rd a &&& ~~~BitVec.ofNat 32 r.rw) ||| (w &&& BitVec.ofNat 32 r.rw)) := by
  rw [State.busWrite_plain hm ha hp hf, RegSpec.clears_eq_false hc, State.onlyIf_false, RegSpec.apply_rw hc]

/-- Only the written register changes. -/
theorem State.wr_onlyRegisters (s : State) (a : Nat) (v : Word) : OnlyRegisters [a] s (s.wr a v) :=
  ⟨rfl, fun _ hb => s.rd_wr_ne v (Ne.symm (by simpa using hb))⟩

/-- Opening the re-arm gap of `INT_N` leaves registers and memories alone. -/
theorem State.rearm_frame (s : State) (m : Nat) : (s.rearm m).regs = s.regs ∧ SameMemories s (s.rearm m) := by
  unfold State.rearm
  split <;> exact ⟨rfl, rfl, rfl, rfl, rfl⟩


theorem exec_lowWordRead_eq {s : State} {m : Master} {a : Nat} {p : Word × State} (h : s.busRead m a = p) : exec (.lowWordRead m a) s = .next p.2 := by
  subst h
  rfl

theorem exec_registerWrite_eq {s t : State} {m : Master} {a : Nat} {w : Word} (h : s.busWrite m a w = t) : exec (.registerWrite m a w) s = .next t := by
  subst h
  rfl

/-! ### Latched upper words (R13) -/

/-- A read of the lower word of the system time latches the upper one for the reading master. -/
theorem State.busRead_systimeLo (s : State) (m : Master) :
    s.busRead m GLB_SYSTIME_LO.addr = (BitVec.ofNat 32 s.time,
      { s with readData := BitVec.ofNat 32 s.time, latches := s.latches.put (GLB_SYSTIME_HI.addr * 8 + m.val) (BitVec.ofNat 32 (s.time / 4294967296)) }) := by
  have hv : s.readWord m.val GLB_SYSTIME_LO.addr = BitVec.ofNat 32 s.time := by
    have hf : (findSpec GLB_SYSTIME_LO.addr).isNone = false := by decide +kernel
    have hp := State.absentAddr_elsewhere (a := GLB_SYSTIME_LO.addr) (by decide) s
    change (if s.absentAddr _ || _ then _ else _) = _
    rw [hp, hf]
    rfl
  rw [← hv]
  rfl

/-- A read of the upper word of the system time answers what the master has latched, if anything. -/
theorem State.readWord_systimeHi (s : State) (m : Nat) :
    s.readWord m GLB_SYSTIME_HI.addr = (s.latches.find (GLB_SYSTIME_HI.addr * 8 + m)).getD (BitVec.ofNat 32 (s.time / 4294967296)) := by
  have hf : (findSpec GLB_SYSTIME_HI.addr).isNone = false := by decide +kernel
  have hp := State.absentAddr_elsewhere (a := GLB_SYSTIME_HI.addr) (by decide) s
  change (if s.absentAddr _ || _ then _ else _) = _
  rw [hp, hf]
  rfl

theorem State.readWord_systimeHi_latched {s : State} {m : Nat} {w : Word} (h : s.latches.find (GLB_SYSTIME_HI.addr * 8 + m) = some w) :
    s.readWord m GLB_SYSTIME_HI.addr = w := by
  rw [State.readWord_systimeHi, h, Option.getD_some]

theorem State.readWord_systimeHi_live {s : State} {m : Nat} (h : s.latches.find (GLB_SYSTIME_HI.addr * 8 + m) = none) :
    s.readWord m GLB_SYSTIME_HI.addr = BitVec.ofNat 32 (s.time / 4294967296) := by
  rw [State.readWord_systimeHi, h, Option.getD_none]

theorem State.busRead_systimeHi (s : State) (m : Master) :
    s.busRead m GLB_SYSTIME_HI.addr = (s.readWord m.val GLB_SYSTIME_HI.addr,
      { s with latches := s.latches.erase (GLB_SYSTIME_HI.addr * 8 + m.val), readData := s.readWord m.val GLB_SYSTIME_HI.addr }) :=
  State.busRead_upper (by decide) s m

/-- After a read of the lower word the next read of the upper one by the same master belongs to the same instant, and another master's does
not (R13). -/
theorem systime_latch (s : State) (m : Master) :
    ∃ t, exec (.lowWordRead m GLB_SYSTIME_LO.addr) s = .next t ∧ t.readData = BitVec.ofNat 32 s.time ∧
    t = { s with readData := t.readData, latches := t.latches } ∧
    (∀ u : State, u.latches = t.latches → ∃ v : State, exec (.lowWordRead m GLB_SYSTIME_HI.addr) u = .next v ∧ v.readData = BitVec.ofNat 32 (s.time / 4294967296) ∧
      v = { u with readData := v.readData, latches := v.latches } ∧
      (∀ x : State, x.latches = v.latches → ∃ y, exec (.lowWordRead m GLB_SYSTIME_HI.addr) x = .next y ∧ y.readData = BitVec.ofNat 32 (x.time / 4294967296))) ∧
    (∀ (u : State) (n : Master), n ≠ m → u.latches = t.latches → s.latches.find (GLB_SYSTIME_HI.addr * 8 + n.val) = none →
      ∃ v, exec (.lowWordRead n GLB_SYSTIME_HI.addr) u = .next v ∧ v.readData = BitVec.ofNat 32 (u.time / 4294967296)) := by
  refine ⟨_, exec_lowWordRead_eq (s.busRead_systimeLo m), rfl, rfl, fun u hu => ?_, fun u n hn hu hs => ?_⟩
  · refine ⟨_, exec_lowWordRead_eq (u.busRead_systimeHi m), State.readWord_systimeHi_latched ?_, rfl, fun x hx =>
      ⟨_, exec_lowWordRead_eq (x.busRead_systimeHi m), State.readWord_systimeHi_live ?_⟩⟩
    · rw [hu]
      exact Store.find_put_self _ _ _
    · rw [hx]
      exact (Store.find_erase _ _ _).trans (if_pos rfl)
  · refine ⟨_, exec_lowWordRead_eq (u.busRead_systimeHi n), State.readWord_systimeHi_live ?_⟩
    have hne : GLB_SYSTIME_HI.addr * 8 + m.val ≠ GLB_SYSTIME_HI.addr * 8 + n.val := fun h => hn (Fin.ext (by omega))
    rw [hu]
    exact (Store.find_put _ _ _ _).trans ((if_neg hne).trans hs)

/-! ### Windows (R443) -/

/-- A read of a window is quiet. -/
theorem State.busRead_window {a : Nat} (h : 0x2000 ≤ a) (s : State) (m : Master) :
    s.busRead m a = (s.readWord m.val a, { s with readData := s.readWord m.val a }) :=
  State.busRead_quiet (fun hq => absurd (actingReads_mapped a hq).2.1 (by omega)) (fun ⟨⟨_, h2⟩, _⟩ => by omega) s m

/-- The words of the program memory window, of a master's ring window and of the update buffer window. -/
theorem State.windowWord_served {s : State} (hf : s.fullService = true) (m a : Nat) :
    (0x8000 ≤ a → a < 0xC000 → s.windowWord m a = s.pm.get (s.get LOM_PMPAGE.PAGE * 4096 + (a - 0x8000) / 4)) ∧
    (0x4000 ≤ a → a < 0x5000 → s.windowWord m a = if (a - 0x4000) / 0x400 = m then s.win.get a else 0) ∧
    (0xE000 ≤ a → a < 0x10000 → s.windowWord m a = 0) := by
  refine ⟨fun h1 h2 => ?_, fun h1 h2 => ?_, fun h1 h2 => ?_⟩ <;>
    rw [State.windowWord, hf, State.absentAddr_elsewhere (by omega)]
  · simp [show ¬ a < 0x4000 by omega, show ¬ a < 0x5000 by omega, show ¬ a < 0x5800 by omega, show ¬ a < 0x6000 by omega, show ¬ a < 0x8000 by omega, h2]
  · simp [show ¬ a < 0x4000 by omega, h2]
  · simp [show ¬ a < 0x4000 by omega, show ¬ a < 0x5000 by omega, show ¬ a < 0x5800 by omega, show ¬ a < 0x6000 by omega, show ¬ a < 0x8000 by omega,
      show ¬ a < 0xC000 by omega, show ¬ a < 0xE000 by omega]

theorem State.lowWordRead_window {s : State} {a : Nat} (h4 : a % 4 = 0) (hl : 0x2000 ≤ a) (hu : a < 0x10000) (m : Master) :
    exec (.lowWordRead m a) s = .next { s with readData := s.windowWord m.val a } := by
  have hw : s.readWord m.val a = s.windowWord m.val a := by
    simp [State.readWord, h4, show ¬ 0x10000 ≤ a by omega, show ¬ a < 0x2000 by omega]
  rw [← hw]
  exact exec_lowWordRead_eq (State.busRead_window hl s m)

/-- A served write of a master's own ring window stores the word. -/
theorem State.busWrite_ring {s : State} {m : Master} {a : Nat} (hm : s.mayWrite m = true) (h4 : a % 4 = 0) (hl : 0x4000 + 0x400 * m.val ≤ a)
    (hu : a < 0x4400 + 0x400 * m.val) (h : m.val < 4) (w : Word) : s.busWrite m a w = s.putWin a w := by
  rw [State.busWrite_window hm h4 (by omega) (by omega) (State.absentAddr_elsewhere (by omega) s)]
  simp [State.writeWindow, show ¬ a < 0x4000 by omega, show a < 0x5000 by omega, show (a - 0x4000) / 0x400 = m.val by omega]

/-! ### Test registers (R442) -/

theorem State.writeRegister_tst {a : Nat} (h : a = TST_AMUX.addr ∨ a = TST_DMUX.addr) (s : State) (r : RegSpec) (m : Master) (w : Word) :
    s.writeRegister r m a w = s.onlyIf (s.is SAF_STATUS.TEST_ACT) (fun t => t.storeWord r a w) := by
  rcases h with rfl | rfl <;> rfl

theorem State.readWord_tst {a : Nat} (h : a = TST_AMUX.addr ∨ a = TST_DMUX.addr) (s : State) (m : Nat) :
    s.readWord m a = if s.is SAF_STATUS.TEST_ACT then s.rd a else 0 := by
  have hf : (findSpec a).isNone = false := by rcases h with rfl | rfl <;> decide +kernel
  have hp : s.absentAddr a = false := State.absentAddr_elsewhere (by rcases h with rfl | rfl <;> decide) s
  have hw : s.readWord m a = if s.absentAddr a || (findSpec a).isNone then 0 else if s.is SAF_STATUS.TEST_ACT then s.rd a else 0 := by
    rcases h with rfl | rfl <;> rfl
  rw [hw, hp, hf]
  rfl

/-- The rows of the test registers. -/
theorem findSpec_tst {a : Nat} (h : a = TST_AMUX.addr ∨ a = TST_DMUX.addr) : ∃ r, findSpec a = some r ∧ r.w1c = 0 := by
  rcases h with rfl | rfl
  · exact ⟨⟨0x1F00, 0, 1, 0x1F9F9F, 0, 0, 0, 0, 0⟩, by decide +kernel⟩
  · exact ⟨⟨0x1F04, 0, 1, 0xBFBFBFBF, 0, 0, 0, 0, 0⟩, by decide +kernel⟩

/-! ### Settling the statement -/

/-- The interrupt enables, each with the bits that a write stores. -/
theorem interruptEnable_row {a : Nat} {v : Word}
    (h : (a, v) ∈ [(BEM_IRQ_EN.addr, 0x7F#32), (JOB_IRQ_EN.addr, 0x3FF#32), (HIF_IRQ_EN.addr, 0x3FFF#32), (UPD_IRQ_EN.addr, 0x3FFF#32), (SEL_IRQ_EN.addr, 0xFFF#32)]) :
    a ∈ plainAddresses ∧ ∃ r, findSpec a = some r ∧ r.w1c = 0 ∧ BitVec.ofNat 32 r.rw = v := by
  have hall : ∀ p ∈ [(BEM_IRQ_EN.addr, 0x7F#32), (JOB_IRQ_EN.addr, 0x3FF#32), (HIF_IRQ_EN.addr, 0x3FFF#32), (UPD_IRQ_EN.addr, 0x3FFF#32), (SEL_IRQ_EN.addr, 0xFFF#32)],
      p.1 ∈ plainAddresses ∧ ((findSpec p.1).map (fun r => (r.w1c, BitVec.ofNat 32 r.rw))) = some (0, p.2) := by decide +kernel
  obtain ⟨h1, h2⟩ := hall _ h
  obtain ⟨r, hr, he⟩ := Option.map_eq_some_iff.1 h2
  exact ⟨h1, r, hr, congrArg Prod.fst he, congrArg Prod.snd he⟩

/-- A write of an interrupt enable stores its bits and no other. -/
theorem registerWrite_interruptEnable {s : State} {m : Master} {a : Nat} {v : Word} (hm : s.mayWrite m = true)
    (h : (a, v) ∈ [(BEM_IRQ_EN.addr, 0x7F#32), (JOB_IRQ_EN.addr, 0x3FF#32), (HIF_IRQ_EN.addr, 0x3FFF#32), (UPD_IRQ_EN.addr, 0x3FFF#32)] ∨
      (a, v) = (SEL_IRQ_EN.addr, 0xFFF#32) ∧ s.hasSel = true) (w : Word) :
    ∃ t, exec (.registerWrite m a w) s = .next t ∧ t.rd a &&& v = w &&& v ∧ t.rd a &&& ~~~v = s.rd a &&& ~~~v ∧ OnlyRegisters [a] s t := by
  obtain ⟨ha, r, hf, hc, rfl⟩ := interruptEnable_row (a := a) (v := v) (by
    rcases h with h | ⟨h, -⟩
    · exact List.mem_append_left [(SEL_IRQ_EN.addr, 0xFFF#32)] h
    · rw [h]; decide)
  have hp : s.absentAddr a = false := by
    rcases h with h | ⟨h, hs⟩
    · have : ∀ p ∈ [(BEM_IRQ_EN.addr, 0x7F#32), (JOB_IRQ_EN.addr, 0x3FF#32), (HIF_IRQ_EN.addr, 0x3FFF#32), (UPD_IRQ_EN.addr, 0x3FFF#32)],
        ¬ (0x1C00 ≤ p.1 ∧ p.1 < 0x1D00) ∧ ¬ (0x0600 ≤ p.1 ∧ p.1 < 0x1000) ∧ ¬ (0xC000 ≤ p.1 ∧ p.1 < 0xE000) := by decide
      exact State.absentAddr_elsewhere (this _ h) s
    · obtain rfl : a = SEL_IRQ_EN.addr := congrArg Prod.fst h
      simp [State.absentAddr, hs, SEL_IRQ_EN.addr]
  refine ⟨_, exec_registerWrite_eq (State.busWrite_rw hm ha hp hf hc w), ?_, ?_, State.wr_onlyRegisters _ _ _⟩
  · rw [State.rd_wr_self]
    ext i hi
    simp only [BitVec.getElem_and, BitVec.getElem_or, BitVec.getElem_not]
    cases (BitVec.ofNat 32 r.rw)[i] <;> simp
  · rw [State.rd_wr_self]
    ext i hi
    simp only [BitVec.getElem_and, BitVec.getElem_or, BitVec.getElem_not]
    cases (BitVec.ofNat 32 r.rw)[i] <;> simp

/-- A write of 1s clears event flags (R10); the pin `INT_N` may open its re-arm gap. -/
theorem registerWrite_eventFlags {s : State} {m : Master} (hm : s.mayWrite m = true) (w : Word) :
    ∃ t : State, exec (.registerWrite m BEM_FLAGS.addr w) s = .next t ∧ t.rd BEM_FLAGS.addr = s.rd BEM_FLAGS.addr &&& ~~~(w &&& 0x7F#32) ∧
      SameRegistersBut [BEM_FLAGS.addr] s t ∧ SameMemories s t := by
  have hf : findSpec BEM_FLAGS.addr = some ⟨BEM_FLAGS.addr, 0, 1, 0, 0x7F, 0, 0, 0, 0⟩ := by decide +kernel
  have hw := State.busWrite_plain hm (by decide) (State.absentAddr_elsewhere (by decide) s) hf w
  rw [RegSpec.apply_w1c rfl] at hw
  refine ⟨_, exec_registerWrite_eq hw, ?_⟩
  have hs := State.wr_onlyRegisters s BEM_FLAGS.addr (s.rd BEM_FLAGS.addr &&& ~~~(w &&& 0x7F#32))
  cases RegSpec.clears _ w
  · exact ⟨State.rd_wr_self _ _ _, hs.2, rfl, rfl, rfl, rfl⟩
  · obtain ⟨hr, hmem⟩ := State.rearm_frame (s.wr BEM_FLAGS.addr (s.rd BEM_FLAGS.addr &&& ~~~(w &&& 0x7F#32))) m.val
    refine ⟨?_, fun b hb => ?_, hmem⟩
    · exact (congrArg (WordMap.get · BEM_FLAGS.addr) hr).trans (State.rd_wr_self _ _ _)
    · exact (congrArg (WordMap.get · b) hr).trans (hs.2 b hb)

/-- A write of a register without a writable bit changes no register. -/
theorem registerWrite_readOnly {s : State} {m : Master} {a : Nat} (hm : s.mayWrite m = true)
    (h : a ∈ [GLB_FEAT.addr, GLB_REGION.addr, GLB_STRAP.addr, GLB_CLK.addr, BEM_STATUS.addr]) (w : Word) :
    ∃ t, exec (.registerWrite m a w) s = .next t ∧ OnlyRegisters [] s t := by
  have hall : ∀ b ∈ [GLB_FEAT.addr, GLB_REGION.addr, GLB_STRAP.addr, GLB_CLK.addr, BEM_STATUS.addr], b ∈ plainAddresses ∧
      (¬ (0x1C00 ≤ b ∧ b < 0x1D00) ∧ ¬ (0x0600 ≤ b ∧ b < 0x1000) ∧ ¬ (0xC000 ≤ b ∧ b < 0xE000)) ∧
      ((findSpec b).map (fun r => (r.w1c, r.rw))) = some (0, 0) := by decide +kernel
  obtain ⟨hpl, hp, hs⟩ := hall a h
  obtain ⟨r, hr, he⟩ := Option.map_eq_some_iff.1 hs
  have hkeep : (s.rd a &&& ~~~BitVec.ofNat 32 r.rw) ||| (w &&& BitVec.ofNat 32 r.rw) = s.rd a := by
    rw [show r.rw = 0 from congrArg Prod.snd he]
    simp only [BitVec.and_zero, BitVec.or_zero, BitVec.not_zero, BitVec.and_allOnes]
  refine ⟨_, exec_registerWrite_eq (State.busWrite_rw hm hpl (State.absentAddr_elsewhere hp s) hr (congrArg Prod.fst he) w), rfl, fun b _ => ?_⟩
  rw [hkeep]
  by_cases hb : a = b
  · rw [← hb, State.rd_wr_self]
  · exact State.rd_wr_ne _ _ hb

/-- A write of `TRK_CMD` enters one order for the rail (R116, R235). -/
theorem registerWrite_trkCmd {s : State} {m : Master} (hm : s.mayWrite m = true) (hl : s.peerLive = false) (w : Word) :
    ∃ t, exec (.registerWrite m TRK_CMD.addr w) s = .next t ∧ SameRegistersBut [] s t ∧ SameMemories s t ∧
      EntersOrder s t m.val .rail (clampZ 500 2800 (TRK_CMD.VOLT.of w)) (clampZ 1 1000 (if TRK_CMD.RATE.of w = 0 then s.get TRK_RATE.DEF_RATE else TRK_CMD.RATE.of w : Nat)) := by
  have hf : findSpec TRK_CMD.addr = some ⟨TRK_CMD.addr, 0, 1, 0, 0, 0, 0, 0, 0⟩ := by decide +kernel
  have hw := State.busWrite_served hm (by decide) (by decide) (State.absentAddr_elsewhere (by decide) s) (by decide) hf w
  rw [RegSpec.clears_eq_false rfl, State.onlyIf_false] at hw
  refine ⟨_, exec_registerWrite_eq hw, ?_⟩
  have he : s.writeRegister ⟨TRK_CMD.addr, 0, 1, 0, 0, 0, 0, 0, 0⟩ m TRK_CMD.addr w =
      s.queueOrder { s.railOrder (TRK_CMD.VOLT.of w) (TRK_CMD.RATE.of w) with master := m.val, at_ := s.time, tick := s.tickFor, fromB := s.roleB } := by
    change s.enter _ = _
    simp [State.enter, hl]
  rw [he]
  refine ⟨fun _ _ => rfl, ⟨rfl, rfl, rfl, rfl⟩, _, rfl, rfl, rfl, ?_, rfl, rfl, rfl⟩
  change clampZ 1 1000 (if (TRK_CMD.RATE.of w : Int) = 0 then (s.get TRK_RATE.DEF_RATE : Int) else (TRK_CMD.RATE.of w : Int)) = _
  by_cases hr : TRK_CMD.RATE.of w = 0
  · rw [if_pos hr, if_pos (Int.natCast_eq_zero.mpr hr)]
  · rw [if_neg hr, if_neg (mt Int.natCast_eq_zero.mp hr)]

/-- Without test access the test registers ignore writes and read zero (R442). -/
theorem testRegisters_closed {s : State} {a : Nat} (h : a = TST_AMUX.addr ∨ a = TST_DMUX.addr) (ht : s.is SAF_STATUS.TEST_ACT = false) (m : Master) (w : Word) :
    exec (.registerWrite m a w) s = .next s ∧ exec (.lowWordRead m a) s = .next { s with readData := 0 } := by
  have hk : a ∉ keyedRegisters ∧ a ∉ actingReads ∧ ¬ isJobStatus a := by
    unfold isJobStatus
    rcases h with rfl | rfl <;> decide
  obtain ⟨hkey, hq, hj⟩ := hk
  constructor
  · by_cases hm : s.mayWrite m
    · obtain ⟨r, hr, hc⟩ := findSpec_tst h
      refine exec_registerWrite_eq ?_
      rw [State.busWrite_served hm (by rcases h with rfl | rfl <;> decide) (by rcases h with rfl | rfl <;> decide)
        (State.absentAddr_elsewhere (by rcases h with rfl | rfl <;> decide) s) hkey hr, RegSpec.clears_eq_false hc, State.onlyIf_false,
        State.writeRegister_tst h, ht, State.onlyIf_false]
    · exact exec_registerWrite_eq (State.busWrite_unserved (by simpa using hm) hkey w)
  · rw [exec_lowWordRead_eq (State.busRead_quiet hq hj s m), State.readWord_tst h, ht]
    rfl

/-- With test access `TST_AMUX` stores its bits (R442). -/
theorem testRegister_open {s : State} {m : Master} (ht : s.is SAF_STATUS.TEST_ACT = true) (hm : s.mayWrite m = true) (w : Word) :
    ∃ t : State, exec (.registerWrite m TST_AMUX.addr w) s = .next t ∧ t.rd TST_AMUX.addr &&& 0x1F9F9F#32 = w &&& 0x1F9F9F#32 ∧ OnlyRegisters [TST_AMUX.addr] s t := by
  have hf : findSpec TST_AMUX.addr = some ⟨TST_AMUX.addr, 0, 1, 0x1F9F9F, 0, 0, 0, 0, 0⟩ := by decide +kernel
  have hw := State.busWrite_served hm (by decide) (by decide) (State.absentAddr_elsewhere (by decide) s) (by decide) hf w
  rw [RegSpec.clears_eq_false rfl, State.onlyIf_false, State.writeRegister_tst (.inl rfl), ht, State.onlyIf_true, State.storeWord_plain (by decide +kernel),
    RegSpec.apply_rw rfl] at hw
  refine ⟨_, exec_registerWrite_eq hw, ?_, State.wr_onlyRegisters _ _ _⟩
  rw [State.rd_wr_self]
  ext i hi
  simp only [BitVec.getElem_and, BitVec.getElem_or, BitVec.getElem_not]
  cases (0x1F9F9F#32)[i] <;> simp

/-- Settles O59: clause by clause from the lemmas on the kinds of addresses. -/
theorem busAccess : Obligations.BusAccess := by
  refine ⟨fun s m a w h => ⟨?_, ?_⟩, fun s m a w h4 hl hj hf => ⟨?_, ?_⟩, fun s m a w hm hk => ?_, fun s m a w v hm h => registerWrite_interruptEnable hm h w,
    fun s m w hm => registerWrite_eventFlags hm w, fun s m w a hm h => registerWrite_readOnly hm h w, fun s m w hm hl => registerWrite_trkCmd hm hl w,
    systime_latch, fun s m a h4 hf => ?_, fun s m a w hm h4 hl hu h => ?_, fun s m w a h ht => testRegisters_closed h ht m w, fun s m w ht hm => testRegister_open ht hm w⟩
  · exact exec_registerWrite_eq (State.busWrite_off_map (h.imp_right .inl) m w)
  · exact exec_lowWordRead_eq (State.busRead_off_map (h.imp_right .inl) s m)
  · have hk : a ∉ keyedRegisters := fun hk => by
      have : ∀ b ∈ keyedRegisters, findSpec b ≠ none := by decide +kernel
      exact this a hk hf
    exact exec_registerWrite_eq (State.busWrite_reserved hl hk hf m w)
  · exact exec_lowWordRead_eq (State.busRead_off_map (.inr (.inr ⟨hl, hj, hf⟩)) s m)
  · exact exec_registerWrite_eq (State.busWrite_unserved hm hk w)
  · obtain ⟨hpm, hring, hbuf⟩ := State.windowWord_served hf m.val a
    refine ⟨fun h1 h2 => ?_, fun h1 h2 => ?_, fun h1 h2 => ?_⟩ <;> rw [State.lowWordRead_window h4 (by omega) (by omega)]
    · rw [hpm h1 h2]
    · rw [hring h1 h2]
    · rw [hbuf h1 h2]
  · refine ⟨_, exec_registerWrite_eq (State.busWrite_ring hm h4 hl hu h w), WordMap.get_set_self _ _ _, fun b hb => ?_, rfl, rfl, rfl, fun _ _ => rfl⟩
    exact WordMap.get_set_ne _ _ (Ne.symm hb)


/-- As `each_induct`, where the change keeps the property for the elements of the list. -/
theorem State.each_induct_mem {α : Type} {P : State → Prop} {s : State} (l : List α) (g : α → State → State) (h : P s)
    (hg : ∀ x ∈ l, ∀ t, P t → P (g x t)) : P (s.each l g) := by
  induction l generalizing s with
  | nil => exact h
  | cons x l ih => exact ih (hg x List.mem_cons_self s h) fun y hy => hg y (List.mem_cons_of_mem x hy)

/-! ### What the units leave alone on the way to full service -/

/-- The fields that the boot sets itself and that no operation of a unit writes: the service level, the variant's Selvedge unit, the pin selection, the
rail's target, and COUNT_GAP. -/
def bootFields : List Field :=
  [GLB_REGION.SERVICE, GLB_FEAT.SEL_PRESENT, TRK_PIN.SEL, TRK_PIN.LIVE, TRK_REF.TARGET, MEA_FLAGS.COUNT_GAP]

/-- A field shares no bit with those of the boot. -/
def offBoot (f : Field) : Bool := bootFields.all f.apart

/-- Fields of different registers share no bit. -/
theorem Field.apart_of_addr_ne {f g : Field} (h : f.addr ≠ g.addr) : f.apart g = true := by
  simp only [Field.apart, Bool.or_eq_true, decide_eq_true_eq]
  exact .inl (.inl h)

/-- Registers of cells, tracks, weft tables and of the host side stand clear of the boot's fields. -/
theorem offBoot_of_addr {f : Field} (h : 0x0334 ≤ f.addr ∧ f.addr ≠ MEA_FLAGS.addr) : offBoot f = true := by
  obtain ⟨h1, h2⟩ := h
  simp only [offBoot, bootFields, List.all_cons, List.all_nil, Bool.and_true, Bool.and_eq_true]
  refine ⟨?_, ?_, ?_, ?_, ?_, ?_⟩ <;> refine Field.apart_of_addr_ne ?_
  case refine_6 => exact h2
  all_goals
    intro h
    rw [h] at h1
    revert h1
    decide

/-- What the boot has set and relies on. -/
def State.bootView (s : State) : Nat × Bool × Bool × List (Nat × Word × Word) × List Nat :=
  (s.time, s.mod.romTrunk, s.sel.idleTrunk, s.upd.settings, bootFields.map s.get)

/-- The second state stands where the boot had left the first. -/
def BootKept (s t : State) : Prop := t.bootView = s.bootView

namespace BootKept

variable {s t u : State}

theorem refl (s : State) : BootKept s s := rfl

theorem trans (h : BootKept s t) (h' : BootKept t u) : BootKept s u := Eq.trans h' h

theorem time (h : BootKept s t) : t.time = s.time := congrArg (·.1) h

theorem romTrunk (h : BootKept s t) : t.mod.romTrunk = s.mod.romTrunk := congrArg (·.2.1) h

theorem idleTrunk (h : BootKept s t) : t.sel.idleTrunk = s.sel.idleTrunk := congrArg (·.2.2.1) h

theorem settings (h : BootKept s t) : t.upd.settings = s.upd.settings := congrArg (·.2.2.2.1) h

theorem get (h : BootKept s t) {f : Field} (hf : f ∈ bootFields) : t.get f = s.get f :=
  List.map_inj_left.1 (congrArg (·.2.2.2.2) h) f hf

/-! Register writes. -/

theorem set (h : BootKept s t) {f : Field} {n : Nat} (hf : offBoot f = true := by decide) : BootKept s (t.set f n) := by
  have : bootFields.map (t.set f n).get = bootFields.map t.get :=
    List.map_inj_left.2 fun g hg => State.get_set_apart (List.all_eq_true.1 hf g hg) t n
  exact Eq.trans (congrArg (fun l => (t.time, t.mod.romTrunk, t.sel.idleTrunk, t.upd.settings, l)) this) h

theorem mark (h : BootKept s t) {f : Field} {b : Bool} (hf : offBoot f = true := by decide) : BootKept s (t.mark f b) := h.set hf

theorem raise (h : BootKept s t) {f : Field} (hf : offBoot f = true := by decide) : BootKept s (t.raise f) := h.set hf

theorem raiseBit (h : BootKept s t) {f : Field} {k : Nat} (hf : offBoot f = true := by decide) : BootKept s (t.raiseBit f k) := h.set hf

theorem wr (h : BootKept s t) {a : Nat} {v : Word} (ha : ∀ f ∈ bootFields, a ≠ f.addr := by decide) : BootKept s (t.wr a v) := by
  have : bootFields.map (t.wr a v).get = bootFields.map t.get := List.map_inj_left.2 fun g hg => State.get_wr_ne t v (ha g hg)
  exact Eq.trans (congrArg (fun l => (t.time, t.mod.romTrunk, t.sel.idleTrunk, t.upd.settings, l)) this) h

/-! Control flow. -/

theorem ite {c : Prop} [Decidable c] (h : BootKept s t) (h' : BootKept s u) : BootKept s (if c then t else u) := by
  split
  · exact h
  · exact h'

theorem onlyIf (h : BootKept s t) {b : Bool} {g : State → State} (hg : ∀ u, BootKept s u → BootKept s (g u)) : BootKept s (t.onlyIf b g) :=
  State.onlyIf_induct b g h (hg t)

theorem each {α : Type} (h : BootKept s t) {l : List α} {g : α → State → State} (hg : ∀ x u, BootKept s u → BootKept s (g x u)) : BootKept s (t.each l g) :=
  State.each_induct l g h hg

theorem eachMem {α : Type} (h : BootKept s t) {l : List α} {g : α → State → State} (hg : ∀ x ∈ l, ∀ u, BootKept s u → BootKept s (g x u)) :
    BootKept s (t.each l g) := State.each_induct_mem l g h hg

/-! The stores of the Loom, of jobs and of the link. -/

theorem setFleet (h : BootKept s t) {b : Block} {g : Fleet → Fleet} : BootKept s (t.setFleet b g) := by
  cases b <;> exact h

theorem setCell (h : BootKept s t) {n : Nat} {g : CellUnit → CellUnit} : BootKept s (t.setCell n g) := h

theorem setContext (h : BootKept s t) {c : Nat} {g : Context → Context} : BootKept s (t.setContext c g) := h

theorem cset (h : BootKept s t) {f : Field} {n : Nat} : BootKept s (t.cset f n) := h

theorem transmit (h : BootKept s t) {f : Frame} : BootKept s (t.transmit f) := .ite h h

theorem notify (h : BootKept s t) {cause kind : Nat} : BootKept s (t.notify cause kind) := .ite h h

theorem setJob (h : BootKept s t) {m r : Nat} {j : Job} : BootKept s (t.setJob m r j) := h

theorem tellPeer (h : BootKept s t) {m r : Nat} : BootKept s (t.tellPeer m r) := .ite h.transmit h

theorem post (h : BootKept s t) {m : Nat} {e : List Word} : BootKept s (t.post m e) := .ite h h

theorem jsnReport (h : BootKept s t) : BootKept s t.jsnReport := (((h.wr).wr).wr).wr

theorem journal (h : BootKept s t) {r : BeamRecord} : BootKept s (t.journal r) := by
  have numbered (b : Beam) : BootKept s ({ t with beam := b } : State).jsnReport := jsnReport (t := { t with beam := b }) h
  have sent {v : State} (hv : BootKept s v) {acks : Store BeamRecord} {f : Frame} :
      BootKept s (if v.peerLive then ({ v with sel := { v.sel with acks := acks } } : State).transmit f else v) :=
    .ite (transmit (t := { v with sel := { v.sel with acks := acks } }) hv) hv
  unfold State.journal
  split
  · exact h
  · exact sent (numbered _)

theorem saveJob (h : BootKept s t) {m r : Nat} : BootKept s (t.saveJob m r) := journal (t := t.keepJob m r) h

theorem endJobAs (h : BootKept s t) {m r code cause : Nat} {save : State → State} (hs : ∀ u, BootKept s u → BootKept s (save u)) :
    BootKept s (t.endJobAs m r code cause save) :=
  .ite h (hs _ (.ite h.setJob.tellPeer h.setJob.post))

theorem endJob (h : BootKept s t) {m r code cause : Nat} : BootKept s (t.endJob m r code cause) := h.endJobAs fun _ h => h.saveJob


/-! Contexts and their jobs. -/

theorem setG (h : BootKept s t) {c i : Nat} {v : Word} : BootKept s (t.setG c i v) := .ite h h

theorem park (h : BootKept s t) {c code : Nat} : BootKept s (t.park c code) := h

theorem freeSlot (h : BootKept s t) {i : Nat} : BootKept s (t.freeSlot i) := by
  unfold State.freeSlot
  split
  · exact h
  · exact h

theorem cancelWork (h : BootKept s t) {c : Nat} : BootKept s (t.cancelWork c) := h

theorem dropTx (h : BootKept s t) {c : Nat} : BootKept s (t.dropTx c) := h

theorem stopContext (h : BootKept s t) {c : Nat} : BootKept s (t.stopContext c) :=
  (cset (cset (setContext (park (cancelWork (dropTx h))))))

theorem endJobStop (h : BootKept s t) {m r code cause : Nat} : BootKept s (t.endJobStop m r code cause) := .ite h.endJob.stopContext h.endJob

theorem putResult (h : BootKept s t) {m r : Nat} {block : List Word} {progress : Option Nat} {save : Bool} :
    BootKept s (t.putResult m r block progress save) :=
  .ite (h.setJob.onlyIf fun _ h => h.saveJob).tellPeer h

theorem romEnd (h : BootKept s t) {m r code cause : Nat} {block : List Word} : BootKept s (t.romEnd m r code cause block) := h.putResult.endJobStop

theorem resolve (h : BootKept s t) {o : Order} {code : Nat} {own : Bool} : BootKept s (t.resolve o code own) := by
  have ends {v : State} (hv : BootKept s v) {m r : Nat} {a b c : Bool} {k : Nat} :
      BootKept s (if a then v.endJobStop m r 5 0 else if k = 3 then v.endJobStop m r 6 2 else if b then v.endJobStop m r 8 0 else
        if c then v.endJobStop m r 10 0 else v) :=
    .ite hv.endJobStop (.ite hv.endJobStop (.ite hv.endJobStop (.ite hv.endJobStop hv)))
  have act {v : State} (hv : BootKept s v) {e : Bool} {m r : Nat} {x : List Word} {p : Option Nat} :
      BootKept s (if e then v.putResult m r x p false else v) := .ite hv.putResult hv
  have slot : BootKept s (match o.slot with
      | some i => t.freeSlot i
      | none => t) := by
    split
    · exact h.freeSlot
    · exact h
  unfold State.resolve
  dsimp only
  split
  · split
    · split
      · exact .ite (ends (act h.freeSlot.setContext.setContext)) h.freeSlot
      · exact .ite (ends (act h.setContext.setContext)) h
    · exact slot
  · exact slot

theorem boundary (h : BootKept s t) {c : Nat} {atFence : Bool} : BootKept s (t.boundary c atFence) :=
  .ite (.ite h (.ite h h)) h

theorem freezeSoon (h : BootKept s t) {c : Nat} : BootKept s (t.freezeSoon c) := .ite h h.boundary

theorem freezeAll (h : BootKept s t) : BootKept s t.freezeAll :=
  h.each fun _ _ h => .ite h (freezeSoon h.setContext)

/-! Cells and blocks. -/

theorem cellField (n : Nat) : offBoot (CEL_STATUS.STATE n) = true ∧ offBoot (CEL_STATUS.DIR n) = true ∧ offBoot (CEL_STATUS.BURST n) = true ∧
    offBoot (CEL_STATUS.TRUNC n) = true ∧ offBoot (CEL_STATUS.CBC n) = true ∧ offBoot (CEL_FSW.PHASE n) = true ∧ offBoot (CEL_TON.TRIM n) = true := by
  refine ⟨?_, ?_, ?_, ?_, ?_, ?_, ?_⟩ <;> refine offBoot_of_addr ?_ <;>
    simp only [CEL_STATUS.STATE, CEL_STATUS.DIR, CEL_STATUS.BURST, CEL_STATUS.TRUNC, CEL_STATUS.CBC, CEL_FSW.PHASE, CEL_TON.TRIM, MEA_FLAGS.addr] <;> omega

theorem moveCell (h : BootKept s t) {n code : Nat} : BootKept s (t.moveCell n code) :=
  have h' := h.set (cellField n).1
  .ite h'.setCell (.ite h' h'.setCell)

theorem sleepCell (h : BootKept s t) {n : Nat} {why : Sleep} : BootKept s (t.sleepCell n why) := h.moveCell.setCell

theorem setDir (h : BootKept s t) {b : Block} {rev : Bool} : BootKept s (t.setDir b rev) := by
  have hc : BootKept s (t.each (t.cellsWhere b (fun _ => true)) (fun n u => u.mark (CEL_STATUS.DIR n) rev)) :=
    h.each fun n _ h => h.mark (cellField n).2.1
  cases b <;> exact hc.mark

theorem place (h : BootKept s t) {b : Block} : BootKept s (t.place b) := by
  refine .ite h (h.setFleet.each fun i u hu => ?_)
  split
  · next n _ =>
    obtain ⟨_, _, _, _, _, hp, _⟩ := cellField n
    exact hu.set hp
  · exact hu

theorem report (h : BootKept s t) {b : Block} : BootKept s (t.report b) := by
  cases b with
  | prt => exact h.place.mark
  | chb => exact (((((((((((((h.place (b := .chb)).set).set).set).set).mark).set).set).set).set).set).mark).mark).set
  | trk =>
    unfold State.report
    dsimp only [fleetRegs]
    have hr {v : State} (hv : BootKept s v) {a b c : Nat} : BootKept s (((v.set TRK_REENTRY.CELL a).set TRK_REENTRY.RETRY b).set TRK_REENTRY.PERIODS c) :=
      ((hv.set).set).set
    split <;> exact hr ((((((((((((((h.place (b := .trk)).set).set).set).set).mark).set).set).set).set).set).mark).mark).set)


/-! Blocks, the pack and the charge engine. -/

theorem restBlock (h : BootKept s t) {b : Block} : BootKept s (t.restBlock b) :=
  report (setFleet (h.each fun _ _ h => h.sleepCell))

theorem wakeBlock (h : BootKept s t) {b : Block} : BootKept s (t.wakeBlock b) :=
  report (setFleet (h.each fun _ _ h => h.moveCell))

theorem blockOff (h : BootKept s t) {b : Block} : BootKept s (t.blockOff b) := by
  have hc {v : State} (hv : BootKept s v) : BootKept s (v.each (blockCells b) (fun n u => ((u.mark (CEL_STATUS.BURST n) false).mark (CEL_STATUS.TRUNC n) false).mark (CEL_STATUS.CBC n) false)) :=
    hv.each fun n _ h => by
      obtain ⟨_, _, hb, ht, hc, _, _⟩ := cellField n
      exact ((h.mark hb).mark ht).mark hc
  unfold State.blockOff
  cases b with
  | prt => exact report (hc (setFleet (h.each fun n u hu => hu.moveCell.setCell)))
  | trk => exact report (mark (mark (hc (setFleet (h.each fun n u hu => hu.moveCell.setCell)))))
  | chb => exact report (mark (mark (hc (setFleet (h.each fun n u hu => hu.moveCell.setCell)))))

theorem portMode (h : BootKept s t) {mode : Nat} : BootKept s (t.portMode mode) := by
  have hm := (((h.set (f := PRT_STATUS.MODE) (n := mode)).setDir (b := .prt) (rev := mode != 4 && mode != 0)).mark (f := PRT_STATUS.VBUS_G_ON) (b := mode != 0)).mark
    (f := SRC_STATUS.VBUS_SINK) (b := mode == 3)
  exact .ite h (.ite hm.blockOff (report (hm.each fun _ _ h => .ite h.moveCell h)))

theorem chbMode (h : BootKept s t) {mode : Nat} : BootKept s (t.chbMode mode) :=
  have hc {v : State} (hv : BootKept s v) {g : Nat → CellUnit → CellUnit} : BootKept s (v.each (blockCells .chb) (fun n u => u.setCell n (g n))) :=
    hv.each fun _ _ h => h.setCell
  .ite h (.ite (hc (setDir h.set)).restBlock (hc (setDir h.set)).wakeBlock)

theorem refreshPack (h : BootKept s t) : BootKept s t.refreshPack := (((h.mark).mark).mark).mark

theorem chg (h : BootKept s t) {x : Chg} : BootKept s { t with chg := x } := h

theorem src (h : BootKept s t) {x : Src} : BootKept s { t with src := x } := h

theorem svc (h : BootKept s t) {x : Svc} : BootKept s { t with svc := x } := h

theorem saf (h : BootKept s t) {x : Saf} : BootKept s { t with saf := x } := h

theorem red (h : BootKept s t) {x : Red} : BootKept s { t with red := x } := h

theorem pm (h : BootKept s t) {x : WordMap} : BootKept s { t with pm := x } := h

theorem dm (h : BootKept s t) {x : WordMap} : BootKept s { t with dm := x } := h

theorem ctx (h : BootKept s t) {x : WordMap} : BootKept s { t with ctx := x } := h

theorem lom (h : BootKept s t) {x : Lom} : BootKept s { t with lom := x } := h

theorem openPack (h : BootKept s t) : BootKept s t.openPack :=
  refreshPack (chg (h.onlyIf fun _ h => (h.mark).raise))

theorem resetTimers (h : BootKept s t) : BootKept s t.resetTimers := wr (chg h)

theorem chargeJob (h : BootKept s t) {code : Nat} {p : Nat × Nat} : BootKept s (t.chargeJob code p) :=
  .ite h.romEnd (.ite h.romEnd (.ite h.romEnd (.ite h.romEnd h.putResult)))

theorem chgEnter (h : BootKept s t) {code : Nat} : BootKept s (t.chgEnter code) :=
  have h1 : BootKept s (((t.set CHG_STATUS.STATE code).mark CHG_STATUS.PACK_ABSENT (code == 10)).raise CHG_FLAGS.PHASE_CHG) := ((h.set).mark).raise
  .ite h (each (onlyIf (onlyIf (onlyIf (.ite h1 (chg h1)) fun _ h => h.set) fun _ h => chg h) fun _ h => chg h) fun _ _ h => h.chargeJob)

theorem pauseCharge (h : BootKept s t) : BootKept s t.pauseCharge :=
  .ite (set (chgEnter (chg h))) (.ite h.set h)

theorem qualify (h : BootKept s t) : BootKept s t.qualify :=
  refreshPack (chg (set (mark (resetTimers h.chgEnter))))

theorem chgOff (h : BootKept s t) : BootKept s t.chgOff := set (openPack h.chgEnter)

theorem chgConfig (h : BootKept s t) : BootKept s t.chgConfig :=
  have h1 : BootKept s (t.onlyIf t.chgBad (fun u => u.raise CHG_FLT.CFG_ERR)) := h.onlyIf fun _ h => h.raise
  .ite (.ite h1 h1.chgOff) (.ite h1.qualify (.ite h1.chgEnter.resetTimers (.ite h1.qualify h1)))

/-! Sources and transfers. -/

theorem trunkOff (h : BootKept s t) : BootKept s t.trunkOff := mark h.restBlock

theorem trunkOn (h : BootKept s t) {volt : Nat} : BootKept s (t.trunkOn volt) := set (setFleet (mark h.wakeBlock))

theorem enterBackup (h : BootKept s t) {volt : Nat} : BootKept s (t.enterBackup volt) :=
  pauseCharge (chg (setFleet (set h.chbMode)))

theorem leaveBackup (h : BootKept s t) : BootKept s t.leaveBackup := refreshPack (set h.chbMode)

theorem turnOn (h : BootKept s t) {code volt : Nat} : BootKept s (t.turnOn code volt) :=
  .ite h.trunkOn (.ite h.mark (.ite h.enterBackup (.ite (portMode h.setFleet) h)))

theorem turnOff (h : BootKept s t) {code : Nat} : BootKept s (t.turnOff code) :=
  .ite h.trunkOff (.ite h.mark (.ite h.leaveBackup (.ite (.ite h.portMode h.portMode) h)))

theorem dropXfer (h : BootKept s t) : BootKept s t.dropXfer := .ite (set (set (.ite h h.turnOff))) h

theorem stopReverse (h : BootKept s t) {cause : Nat} : BootKept s (t.stopReverse cause) :=
  have h1 := mark (mark (mark (setDir h.restBlock)))
  .ite (set (src (set (set (set (.ite h1 h)))))) (raise (set (src (set (set (set (.ite h1 h)))))))

theorem holdSearch (h : BootKept s t) : BootKept s t.holdSearch := by
  unfold State.holdSearch
  split
  · exact h
  · exact set (src h)

theorem abortTable (h : BootKept s t) {k cause : Nat} : BootKept s (t.abortTable k cause) := by
  have hf (f : Field) (hf : 0x0F00 ≤ f.addr) : offBoot f = true :=
    offBoot_of_addr ⟨by omega, by unfold MEA_FLAGS.addr; omega⟩
  refine .ite h (raise (set (set (set (set ?_ (hf _ ?_)) (hf _ ?_)) (hf _ ?_)) (hf _ ?_)))
  · exact h
  all_goals simp only [RED_W_CFG.LEARN, RED_W_STATUS.LSTATE, RED_W_STATUS.ACAUSE, RED_W_STATUS.REVS]; omega

theorem abortLearn (h : BootKept s t) {cause : Nat} : BootKept s (t.abortLearn cause) := h.each fun _ _ h => .ite h h.abortTable

theorem becamePrimary (h : BootKept s t) {code : Nat} : BootKept s (t.becamePrimary code) :=
  src (svc (h.set (f := SRC_STATUS.PRIMARY) (n := code)))

theorem voltageEvent (h : BootKept s t) : BootKept s t.voltageEvent := h

theorem recordXfer (h : BootKept s t) {src dst cause : Nat} : BootKept s (t.recordXfer src dst cause) := set (set (set (set h)))

theorem abandonXfer (h : BootKept s t) {cause : Nat} : BootKept s (t.abandonXfer cause) :=
  .ite h (set (recordXfer (src (raise h.dropXfer))))

theorem holdUp (h : BootKept s t) {cause : Nat} : BootKept s (t.holdUp cause) := by
  have h0 := holdSearch h.dropXfer
  have h1 {v : State} (hv : BootKept s v) : BootKept s (if v.is SRC_STATUS.REV_ACTIVE then v.stopReverse 5 else v) := .ite hv.stopReverse hv
  have h2 {v : State} (hv : BootKept s v) {lost : Nat} : BootKept s (if lost = 1 then (v.trunkOff).mark SRC_STATUS.G48_ON false
    else if lost = 2 then v.mark SRC_STATUS.GBYP_ON false else if lost = 4 then v.portMode 0 else v) :=
    .ite (mark hv.trunkOff) (.ite hv.mark (.ite hv.portMode hv))
  have h3 {x : Src} {lost : Nat} := refreshPack (abortLearn (cause := 2) (src (x := x) (h2 (lost := lost) (h1 h0))))
  exact voltageEvent (becamePrimary (set (set (set (set (onlyIf (.ite (chg (raise h3.enterBackup)) h3.turnOn) fun _ h => h.raise))))))

theorem stop48 (h : BootKept s t) {cause : Nat} : BootKept s (t.stop48 cause) :=
  have h1 := mark (mark h)
  have h2 := BootKept.ite h1.stopReverse h1
  .ite h2.holdUp (.ite h2.abandonXfer h2)

theorem stop12 (h : BootKept s t) {cause : Nat} : BootKept s (t.stop12 cause) :=
  have h1 := mark (mark (mark h))
  .ite h1.holdUp (.ite h1.abandonXfer h1)

theorem firstLook (h : BootKept s t) {v48 v12 : Nat} : BootKept s (t.firstLook v48 v12) := by
  have h48 {v : State} (hv : BootKept s v) : BootKept s v.fireUv48 ∧ BootKept s v.fireOv48 := ⟨stop48 (raise (mark hv)), stop48 (raise (mark hv))⟩
  have h12 {v : State} (hv : BootKept s v) : BootKept s v.fireUv12 ∧ BootKept s v.fireOv12 := ⟨stop12 (raise (mark hv)), stop12 (raise (mark hv))⟩
  have h1 : BootKept s (if t.src.evaluated48 then t else
      if v48 < 2000 then ({ t with src := { t.src with evaluated48 := true } } : State).fireUv48 else
      if 6200 < v48 then ({ t with src := { t.src with evaluated48 := true } } : State).fireOv48 else { t with src := { t.src with evaluated48 := true } }) :=
    .ite h (.ite (h48 (src h)).1 (.ite (h48 (src h)).2 (src h)))
  exact .ite h1 (.ite (h12 (src h1)).1 (.ite (h12 (src h1)).2 (src h1)))

theorem qualifyNet (h : BootKept s t) {code v : Nat} : BootKept s (t.qualifyNet code v) :=
  .ite (mark (mark (src h))) (mark (mark (src h)))

/-! Safe states. -/

theorem setFault (h : BootKept s t) {code : Nat} : BootKept s (t.setFault code) :=
  .ite h (raise (raiseBit (onlyIf h fun _ h => h.set)))

theorem regionField_offBoot (r : Region) : offBoot (regionField r) = true := by cases r <;> decide

theorem degrade (h : BootKept s t) {r : Region} : BootKept s (t.degrade r) :=
  setFault (onlyIf h fun _ h => h.set (regionField_offBoot r))

theorem swapFail (h : BootKept s t) {cause : Nat} : BootKept s (t.swapFail cause) := by
  unfold State.swapFail
  split
  · exact h
  · dsimp only
    split
    · exact romEnd (raise (svc h))
    · exact raise (svc h)

theorem endContract (h : BootKept s t) : BootKept s t.endContract := wr (set (set (set (svc h))))

theorem vbusLost (h : BootKept s t) : BootKept s t.vbusLost :=
  have h1 := wr (mark h)
  .ite h1.holdUp h1

theorem portStop (h : BootKept s t) : BootKept s t.portStop :=
  have h1 := mark (portMode (endContract h.swapFail))
  raise (svc (mark (set (set (.ite h1.vbusLost h1)))))

theorem southSafe (h : BootKept s t) : BootKept s t.southSafe := refreshPack (pauseCharge h.portStop)

theorem northSafe (h : BootKept s t) : BootKept s t.northSafe := by
  have h1 := h.holdSearch
  unfold State.northSafe
  dsimp only
  split
  · refine resolve ?_
    exact h1
  · exact h1

theorem trackField {f : Field} (hf : 0x0E00 ≤ f.addr) : offBoot f = true :=
  offBoot_of_addr ⟨by omega, by unfold MEA_FLAGS.addr; omega⟩

theorem weftReport (h : BootKept s t) : BootKept s t.weftReport :=
  set (set (each h fun k _ h => h.set (trackField (by unfold RED_W_STATUS.FADE; simp only; omega))))

theorem fadeWeft (h : BootKept s t) {k : Nat} {up : Bool} : BootKept s (t.fadeWeft k up) :=
  .ite h (weftReport (t := t.setWeft k _) h)

theorem controlSafe (h : BootKept s t) : BootKept s t.controlSafe := each (abortLearn h) fun _ _ h => h.fadeWeft

theorem allOff (h : BootKept s t) : BootKept s t.allOff :=
  have h1 := portMode (blockOff (blockOff h.dropXfer))
  set (openPack (eachMem (set h1.blockOff) fun f hf u h => h.mark (by revert f; decide)))

theorem safeChip (h : BootKept s t) {code : Nat} : BootKept s (t.safeChip code) :=
  .ite h.setFault (saf (allOff (set (set (notify h.setFault)))))

theorem safeRegion (h : BootKept s t) {r : Region} : BootKept s (t.safeRegion r) := by
  have h1 {x : Saf} := saf (x := x) (setFault (code := regionFault r) (h.set (n := 3) (regionField_offBoot r)))
  unfold State.safeRegion
  cases r with
  | north => exact .ite h (.ite (safeChip (northSafe h1)) (northSafe h1))
  | south => exact .ite h (.ite (safeChip (southSafe h1)) (southSafe h1))
  | control => exact .ite h (.ite (safeChip (controlSafe (freezeAll h1))) (controlSafe (freezeAll h1)))
  | interface => exact .ite h (.ite (safeChip h1) h1)


/-! Restored work (R232, R248). -/

theorem loadLib (h : BootKept s t) {first : Nat} {words : List Word} : BootKept s (t.loadLib first words) :=
  each (pm h) fun i u hu => by
    have hf (p : Prop) [Decidable p] : offBoot (if p then LOM_PMLOCK0.LOCK else LOM_PMLOCK1.LOCK) = true := by split <;> decide
    exact hu.set (hf _)

theorem loadLibPart (h : BootKept s t) : BootKept s t.loadLibPart := by
  unfold State.loadLibPart
  split
  · exact h.loadLib
  · exact h

theorem restorePages (h : BootKept s t) : BootKept s t.restorePages := wr (wr (pm h))

theorem putWin (h : BootKept s t) {a : Nat} {v : Word} : BootKept s (t.putWin a v) := h

theorem pickReport (h : BootKept s t) : BootKept s t.pickReport := h.set

theorem armPick (h : BootKept s t) {slot owner : Nat} {w0 w1 w2 w3 : Word} : BootKept s (t.armPick slot owner w0 w1 w2 w3) :=
  pickReport (red (putWin (putWin (putWin (putWin h)))))

theorem dropPlacement (h : BootKept s t) {slot : Nat} : BootKept s (t.dropPlacement slot) :=
  each h fun b u hu => by
    split
    · exact .ite (place hu.setFleet) hu
    · exact hu

theorem disarmPick (h : BootKept s t) {slot : Nat} : BootKept s (t.disarmPick slot) := pickReport (dropPlacement h.putWin)

theorem loadPicks (h : BootKept s t) {c : Nat} {x : Commit} : BootKept s (t.loadPicks c x) :=
  .ite h.setContext (each h.setContext fun _ _ h => .ite h.armPick h.armPick.disarmPick)

theorem makeReady (h : BootKept s t) {c : Nat} : BootKept s (t.makeReady c) :=
  setContext (park (t := t.nextSeq.2) h)

theorem trapContext (h : BootKept s t) {c cause arg : Nat} : BootKept s (t.trapContext c cause arg) := by
  have h1 : BootKept s ((((((((t.dropTx c).cancelWork c).park c 8).cset (CTX.CAUSE c) cause).cset (CTX.TRAPARG c) arg).cset (CTX.TRAPPC c) (t.cget (CTX.PC c))).cset (CTX.HELD c) 0).raise
      LOM_FLAGS.CTX_TRAP) := raise (cset (cset (cset (cset (park (cancelWork h.dropTx))))))
  have h2 {v : State} (hv : BootKept s v) : BootKept s (v.onlyIf (c == 0) (fun u => (u.degrade .control).setFault 18)) :=
    hv.onlyIf fun _ h => h.degrade.setFault
  unfold State.trapContext
  dsimp only
  split
  · exact h2 (setContext h1.endJob)
  · exact h2 (setContext h1)

theorem trap (h : BootKept s t) {c cause arg : Nat} : BootKept s (t.trap c cause arg) :=
  .ite (safeRegion (trapContext h)) (trapContext h)

theorem loadWords (h : BootKept s t) {c : Nat} {x : Commit} : BootKept s (t.loadWords c x) :=
  onlyIf (ctx h) fun _ h => h.cset

theorem restoreContext (h : BootKept s t) {c : Nat} {x : Commit} {pairOnly : Bool} : BootKept s (t.restoreContext c x pairOnly) := by
  have words {x : Commit} {g : Context → Context} : BootKept s ((((t.loadWords c x).setContext c g).loadPicks c x).cset (CTX.SHUTTLE c) 0xF) :=
    cset (loadPicks (setContext h.loadWords))
  have start {v : State} (hv : BootKept s v) {pc entry : Nat} {args : List Word} :
      BootKept s ((List.range 4).foldl (fun v k => v.setG c (k + 1) (args.getD k 0)) ((v.cset (CTX.PC c) pc).cset (CTX.ENTRY c) entry)) :=
    each (g := fun k v => v.setG c (k + 1) (args.getD k 0)) (cset (cset hv)) fun _ _ h => h.setG
  have ready {v : State} (hv : BootKept s v) := makeReady (c := c) (raise (f := LOM_FLAGS.RESUMED) (cset (f := CTX.RESUMED c) (n := 1) hv))
  have loaded {v : State} (hv : BootKept s v) {x : Commit} {p : Prop} [Decidable p] {l : Lom} :=
    lom (x := l) (.ite (c := p) (start hv (pc := x.entry) (entry := x.entry) (args := x.args)) hv)
  exact .ite (park (loaded words)) (.ite (trap (ready (loaded words))) (boundary (ready (loaded words))))

theorem restoreWork (h : BootKept s t) : BootKept s t.restoreWork := by
  have h1 : BootKept s (t.each t.beam.jobs (fun e u => u.restoreJob e.1 e.2)) := each h fun e u hu => hu
  exact each (dm (.ite h1 h1.raise)) fun _ _ h => h.restoreContext

/-! The units at the start of full service (R133, R417). -/

theorem peakReport (h : BootKept s t) {k : Nat} : BootKept s (t.peakReport k) :=
  h.set (trackField (by unfold RED_W_STATUS.PEAK; simp only; omega))

theorem restoreWefts (h : BootKept s t) : BootKept s t.restoreWefts := by
  refine each h fun e u hu => ?_
  have hs : offBoot (RED_W_STATUS.LSTATE e.1) = true := trackField (by unfold RED_W_STATUS.LSTATE; simp only; omega)
  have ha : offBoot (RED_W_CFG.ACT e.1) = true := trackField (by unfold RED_W_CFG.ACT; simp only; omega)
  exact peakReport (mark (set (each hu fun _ _ h => h.putWin) hs) ha)

theorem chargeCellsOn (h : BootKept s t) : BootKept s t.chargeCellsOn := by
  unfold State.chargeCellsOn
  exact report (each h fun _ _ h => .ite h (.ite h.sleepCell h.moveCell))

theorem startRamp (h : BootKept s t) {b : Block} {r : Ramp} : BootKept s (t.startRamp b r) :=
  have ⟨_, _, _, _, _, _, hf⟩ := cellField r.cell
  report (setFleet (setCell (set h.moveCell hf)))

theorem nextRamp (h : BootKept s t) {b : Block} : BootKept s (t.nextRamp b) := by
  unfold State.nextRamp
  dsimp only
  split
  · exact h
  · exact h
  · exact startRamp h.setFleet

theorem queueRamp (h : BootKept s t) {b : Block} {cell cls : Nat} : BootKept s (t.queueRamp b cell cls) := nextRamp h.setFleet

theorem reenterAll (h : BootKept s t) : BootKept s t.reenterAll :=
  each (setFleet (each h fun _ _ h => .ite h.moveCell h)) fun _ _ h => h.queueRamp

theorem fullRegions (h : BootKept s t) : BootKept s t.fullRegions :=
  each h fun r _ h => .ite h (.ite (h.set (regionField_offBoot r)) (h.set (regionField_offBoot r)))

theorem restartTrack (h : BootKept s t) {k : Nat} : BootKept s (t.restartTrack k) := by
  have hf : offBoot (WRP_T_STATE.LOCK k) = true := trackField (by unfold WRP_T_STATE.LOCK; simp only; omega)
  have ha : ∀ f ∈ bootFields, WRP_T_SPEED.addr k ≠ f.addr := by
    have : ∀ f ∈ bootFields, f.addr < 0x0E00 := by decide
    intro f hf
    have := this f hf
    unfold WRP_T_SPEED.addr
    omega
  exact wr (red (set (set (set h hf)))) ha

theorem startWarp (h : BootKept s t) : BootKept s t.startWarp := each h fun _ _ h => h.restartTrack

theorem sinkOn (h : BootKept s t) : BootKept s t.sinkOn := .ite h.portMode (.ite h.portMode h.portMode)

theorem sinkTypeC (h : BootKept s t) : BootKept s t.sinkTypeC := sinkOn (mark (set (set h)))

theorem sendSoftReset (h : BootKept s t) : BootKept s t.sendSoftReset := svc (svc h)

theorem upd (h : BootKept s t) {x : Upd} (hx : x.settings = t.upd.settings) : BootKept s { t with upd := x } :=
  Eq.trans (congrArg (fun l => (t.time, t.mod.romTrunk, t.sel.idleTrunk, l, bootFields.map t.get)) hx) h

theorem endSession (h : BootKept s t) : BootKept s t.endSession := upd (onlyIf (set (set h)) fun _ h => h.raise) rfl

theorem dropPartner (h : BootKept s t) : BootKept s t.dropPartner :=
  have h1 := onlyIf (b := (t.swapFail 0x09).endContract.get UPD_STATUS.OWNER == 2) (portMode (mode := 0) (endContract h.swapFail)) fun _ h => h.endSession
  svc (wr (mark (mark (mark (mark (mark (.ite h1.vbusLost h1)))))))

theorem portRole (h : BootKept s t) : BootKept s t.portRole := .ite h (svc (mark (set (set h))))

theorem portStart (h : BootKept s t) : BootKept s t.portStart :=
  have h1 {x : Svc} := svc (x := x) h
  .ite h (.ite (.ite (set (sendSoftReset (.ite h1.sinkOn h1.sinkTypeC))) (.ite h1.sinkOn h1.sinkTypeC)) (portRole (.ite h.dropPartner h)))

theorem loadChem (h : BootKept s t) {chem : Nat} : BootKept s (t.loadChem chem) :=
  have h1 := set (f := CHG_CTRL.CHEM) (n := chem) h
  have h2 {p : Prop} [Decidable p] {a b c d e f : Nat} := chgConfig (.ite (c := p) h1 ((((((h1.set (f := CHG_THRESH.V_DEEP) (n := a)).set (f := CHG_THRESH.V_PRE) (n := b)).set
    (f := CHG_CV.CV) (n := c)).set (f := CHG_CV.RECHG) (n := d)).set (f := CHG_AVAIL.REV_MIN) (n := e)).set (f := CHG_AVAIL.SHAVE_MIN) (n := f)))
  .ite h2 (qualify (openPack h2))

theorem linkStart (h : BootKept s t) : BootKept s t.linkStart :=
  .ite h (.ite (set (set (set h))) (mark (set (set (set h)))))

theorem dueFlags (h : BootKept s t) : BootKept s t.dueFlags :=
  upd (onlyIf (onlyIf (onlyIf h fun _ h => h.raise) fun _ h => h.raise) fun _ h => h.raise) rfl

theorem updReport (h : BootKept s t) : BootKept s t.updReport :=
  .ite h (set (set (set (set (set (set (set (wr (wr (wr (set (set (set (set (mark (set h))))))))))))))))

theorem fullReport (h : BootKept s t) : BootKept s t.fullReport := by
  have h1 : BootKept s t.draw.2.draw.2 := h
  exact updReport (jsnReport (set (set (set (set (onlyIf h1 fun _ h => set (set h)))))))

end BootKept

/-! ### Changes of registers alone -/

namespace OnlyRegisters

variable {l : List Nat} {s t u : State}

theorem refl (l : List Nat) (s : State) : OnlyRegisters l s s := ⟨rfl, fun _ _ => rfl⟩

theorem wr (h : OnlyRegisters l s t) {a : Nat} {v : Word} (ha : a ∈ l := by decide) : OnlyRegisters l s (t.wr a v) :=
  ⟨congrArg (fun x : State => { x with regs := t.regs.set a v }) h.1, 
    fun b hb => (t.rd_wr_ne v (fun e : a = b => hb (e ▸ ha))).trans (h.2 b hb)⟩

theorem set (h : OnlyRegisters l s t) {f : Field} {n : Nat} (hf : f.addr ∈ l := by decide) : OnlyRegisters l s (t.set f n) := h.wr hf

theorem mark (h : OnlyRegisters l s t) {f : Field} {b : Bool} (hf : f.addr ∈ l := by decide) : OnlyRegisters l s (t.mark f b) := h.wr hf

theorem raise (h : OnlyRegisters l s t) {f : Field} (hf : f.addr ∈ l := by decide) : OnlyRegisters l s (t.raise f) := h.wr hf

theorem ite {c : Prop} [Decidable c] (h : OnlyRegisters l s t) (h' : OnlyRegisters l s u) : OnlyRegisters l s (if c then t else u) := by
  split
  · exact h
  · exact h'

theorem onlyIf (h : OnlyRegisters l s t) {b : Bool} {g : State → State} (hg : ∀ u, OnlyRegisters l s u → OnlyRegisters l s (g u)) :
    OnlyRegisters l s (t.onlyIf b g) := State.onlyIf_induct b g h (hg t)

theorem each {α : Type} (h : OnlyRegisters l s t) {k : List α} {g : α → State → State} (hg : ∀ x u, OnlyRegisters l s u → OnlyRegisters l s (g x u)) :
    OnlyRegisters l s (t.each k g) := State.each_induct k g h hg

/-- Two changes of registers in a row. -/
theorem comp {l' : List Nat} (h : OnlyRegisters l s t) (h' : OnlyRegisters l' t u) : OnlyRegisters (l ++ l') s u := by
  refine ⟨?_, fun a ha => ?_⟩
  · rw [h'.1, h.1]
  · rw [List.mem_append, not_or] at ha
    rw [h'.2 a ha.2, h.2 a ha.1]

/-- A field of a register that does not change. -/
theorem get (h : OnlyRegisters l s t) {f : Field} (hf : f.addr ∉ l := by decide) : t.get f = s.get f := congrArg f.of (h.2 _ hf)

theorem is (h : OnlyRegisters l s t) {f : Field} (hf : f.addr ∉ l := by decide) : t.is f = s.is f := congrArg (· != 0) (h.get hf)

theorem memories (h : OnlyRegisters l s t) : SameMemories s t := by
  rw [h.1]
  exact ⟨rfl, rfl, rfl, rfl⟩

theorem time (h : OnlyRegisters l s t) : t.time = s.time := by rw [h.1]

theorem saf (h : OnlyRegisters l s t) : t.saf = s.saf := by rw [h.1]

theorem upd (h : OnlyRegisters l s t) : t.upd = s.upd := by rw [h.1]

theorem beam (h : OnlyRegisters l s t) : t.beam = s.beam := by rw [h.1]

theorem jobs (h : OnlyRegisters l s t) : t.jobs = s.jobs := by rw [h.1]

theorem keepReport (h : OnlyRegisters l s t) (ha : SRC_KA.addr ∈ l := by decide) : OnlyRegisters l s t.keepReport := mark (wr h ha) ha

theorem jsnReport (h : OnlyRegisters l s t) (ha : ∀ a ∈ [BEM_JSN_LO.addr, BEM_JSN_HI.addr, BEM_ACKED_LO.addr, BEM_PEER_LO.addr], a ∈ l := by decide) :
    OnlyRegisters l s t.jsnReport :=
  wr (wr (wr (wr h (ha _ (by decide))) (ha _ (by decide))) (ha _ (by decide))) (ha _ (by decide))

theorem linkStart (h : OnlyRegisters l s t) (ha : ∀ a ∈ [SEL_STATUS.addr, BEM_STATUS.addr], a ∈ l := by decide) : OnlyRegisters l s t.linkStart :=
  have hs : SEL_STATUS.addr ∈ l := ha _ (by decide)
  have hb : BEM_STATUS.addr ∈ l := ha _ (by decide)
  .ite h (.ite (set (set (set h hs) hs) hb) (mark (set (set (set h hs) hs) hb) hs))

theorem copyReport (h : OnlyRegisters l s t) (ha : UPD_ACTJ.addr ∈ l := by decide) : OnlyRegisters l s t.copyReport := by
  unfold State.copyReport
  split
  · exact set (set (set h ha) ha) ha
  · exact h

end OnlyRegisters

/-- The registers of the update report. -/
def updateReports : List Nat :=
  [UPD_STATUS.addr, UPD_NEXT.addr, UPD_VER_ACT.addr, UPD_VER_STG.addr, UPD_VER_FB.addr, UPD_SCHEMA.addr, UPD_ARB.addr, UPD_FLASH.addr]

namespace OnlyRegisters

theorem updReport {l : List Nat} {s t : State} (h : OnlyRegisters l s t) (ha : ∀ a ∈ updateReports, a ∈ l := by decide) : OnlyRegisters l s t.updReport := by
  obtain ⟨h1, h2, h3, h4, h5, h6, h7, h8⟩ : UPD_STATUS.addr ∈ l ∧ UPD_NEXT.addr ∈ l ∧ UPD_VER_ACT.addr ∈ l ∧ UPD_VER_STG.addr ∈ l ∧ UPD_VER_FB.addr ∈ l ∧
      UPD_SCHEMA.addr ∈ l ∧ UPD_ARB.addr ∈ l ∧ UPD_FLASH.addr ∈ l := by simpa [updateReports] using ha
  exact .ite h (set (set (set (set (set (set (set (wr (wr (wr (set (set (set (set (mark (set h h1) h1) h1) h1) h2) h2) h3) h4) h5) h6) h6) h7) h7) h7) h8) h8)

end OnlyRegisters

/-- The update report does not touch HOLD. -/
theorem State.updReport_hold (s : State) : s.updReport.is UPD_STATUS.HOLD = s.is UPD_STATUS.HOLD := by
  unfold State.updReport
  split
  · rfl
  · simp (disch := decide) only [State.is, State.mark, State.get_set_apart, State.get_wr_ne]

/-! ### From the release of reset (R37, R47, R400, R414) -/

/-- The machine at the release of reset before its straps are read. -/
def State.released (s : State) : State :=
  { s with saf := { s.saf with inReset := none, releasedAt := s.aon, wdgT0 := s.aon, clocksGood := some s.time } }

/-- The straps are read and the clocks stand. -/
def State.strapped (s : State) (n : Nat) : State :=
  ((s.wr GLB_STRAP.addr (BitVec.ofNat 32 (n % 4 + n / 8 * 8))).set GLB_STRAP.I2C_ADDR (0x48 + n % 4)).wr GLB_CLK.addr 0x1F

/-- The strap for the gate drive in every cell. -/
def State.drvModes (s : State) (b : Bool) : State := s.each (List.range 18) (fun c u => u.mark (CEL_CFG.DRVMODE c) b)

/-- The calibration area and the settings that the ROM needs. -/
def State.loadStored (s : State) : State :=
  let t := s.each s.calArea (fun e u => u.wr e.1 e.2)
  t.each (t.upd.settings.filterMap romSetting) (fun e u => u.loadSetting e)

/-- What the ROM reports at the release. -/
def State.releaseReports (s : State) (kind : Nat) : State :=
  let t := (s.set UPD_ARB.COUNTER s.upd.arb).keepReport
  t.onlyIf (kind == 1 && t.beam.run) (fun u => u.mark SAF_RST_CAUSE.BROWNOUT true)

theorem execResetRelease_eq {s : State} {k g : Nat} (n : BitVec 5) (hk : s.saf.inReset = some k) (hg : s.saf.keepGoodAt = some g) :
    execResetRelease n none s =
      let t := (((s.released.strapped n.toNat).drvModes (bitOf n.toNat 4)).loadStored).releaseReports k
      .next (t.onlyIf (t.is TRK_OVP.CROWBAR) (fun u => u.safeChip 4)) := by
  unfold execResetRelease
  rw [hk, hg]
  rfl

theorem State.loadStored_empty {s : State} (hc : s.calArea = []) (hs : s.upd.settings = []) : s.loadStored = s := by
  simp only [State.loadStored, hc, State.each_nil, hs, List.filterMap_nil]

/-- `DRVMODE` of every cell follows the strap. -/
theorem State.is_drvModes (s : State) (b : Bool) {c : Nat} (h : c < 18) : (s.drvModes b).is (CEL_CFG.DRVMODE c) = b := by
  have hf (k : Nat) : (CEL_CFG.DRVMODE k).fits = true := rfl
  have hstep (k : Nat) (u : State) (hu : u.is (CEL_CFG.DRVMODE c) = b) : (u.mark (CEL_CFG.DRVMODE k) b).is (CEL_CFG.DRVMODE c) = b := by
    by_cases hk : k = c
    · rw [hk]
      exact State.is_mark_self (hf c) Nat.one_pos u b
    · rw [State.is_mark_apart (Field.apart_of_addr_ne (by simp only [CEL_CFG.DRVMODE, ne_eq]; omega))]
      exact hu
  unfold State.drvModes
  generalize 18 = n at h
  induction n with
  | zero => omega
  | succ n ih =>
    unfold State.each at ih ⊢
    rw [List.range_succ, List.foldl_append]
    by_cases hc : c = n
    · subst hc
      exact State.is_mark_self (hf c) Nat.one_pos _ b
    · exact hstep n _ (ih (by omega))

/-- The registers that the straps and the reports of the release write. -/
def releaseRegisters : List Nat := [UPD_ARB.addr, SRC_KA.addr, SAF_RST_CAUSE.addr]

theorem State.releaseReports_onlyRegisters (s : State) (k : Nat) : OnlyRegisters releaseRegisters s (s.releaseReports k) :=
  .onlyIf (.keepReport (.set (.refl _ _))) fun _ h => h.mark

/-- After a power-on reset of a machine that ran, the release records a brownout (R400). -/
theorem State.releaseReports_brownout {s : State} (h : s.beam.run = true) : (s.releaseReports 1).is SAF_RST_CAUSE.BROWNOUT = true := by
  have hb : ((s.set UPD_ARB.COUNTER s.upd.arb).keepReport).beam.run = true := by
    rw [(OnlyRegisters.keepReport (l := releaseRegisters) (.set (.refl _ _))).beam]
    exact h
  unfold State.releaseReports
  dsimp only
  rw [hb]
  exact State.is_mark_self (by decide) (by decide) _ true

theorem State.drvModes_onlyRegisters (s : State) (b : Bool) : OnlyRegisters ((List.range 18).map CEL_CFG.addr) s (s.drvModes b) :=
  State.each_induct_mem _ _ (.refl _ _) fun _ hc _ h => h.mark (List.mem_map_of_mem hc)

theorem State.strapped_onlyRegisters (s : State) (n : Nat) : OnlyRegisters [GLB_STRAP.addr, GLB_CLK.addr] s (s.strapped n) :=
  .wr (.set (.wr (.refl _ _)))

/-- The release of reset where no calibration word and no setting is stored and the crowbar has not latched. -/
theorem resetRelease_plain {s : State} {k g : Nat} (n : BitVec 5) (hk : s.saf.inReset = some k) (hg : s.saf.keepGoodAt = some g) (hc : s.calArea = [])
    (hs : s.upd.settings = []) (hcb : s.is TRK_OVP.CROWBAR = false) :
    ∃ t : State, exec (.resetRelease n none) s = .next t ∧ t.saf.inReset = none ∧ t.saf.releasedAt = s.aon ∧ t.saf.wdgT0 = s.aon ∧
      t.get GLB_STRAP.I2C_ADDR = 0x48 + n.toNat % 4 ∧ t.rd GLB_CLK.addr = 0x1F ∧ (∀ c, c < 18 → t.is (CEL_CFG.DRVMODE c) = bitOf n.toNat 4) ∧
      (k = 1 → s.beam.run = true → t.is SAF_RST_CAUSE.BROWNOUT = true) ∧ t.time = s.time ∧ SameMemories s t := by
  let a := s.released.strapped n.toNat
  let b := a.drvModes (bitOf n.toNat 4)
  let t := b.releaseReports k
  have h1 : OnlyRegisters [GLB_STRAP.addr, GLB_CLK.addr] s.released a := State.strapped_onlyRegisters _ _
  have h2 : OnlyRegisters ((List.range 18).map CEL_CFG.addr) a b := State.drvModes_onlyRegisters _ _
  have h3 : OnlyRegisters releaseRegisters b t := State.releaseReports_onlyRegisters _ _
  have hall := (h1.comp h2).comp h3
  have hload : b.loadStored = b := by
    have hb := h1.comp h2
    exact State.loadStored_empty (by rw [hb.1]; exact hc) (by rw [hb.upd]; exact hs)
  have hcrow : t.is TRK_OVP.CROWBAR = false := (hall.is (by decide)).trans hcb
  refine ⟨t, ?_, ?_, ?_, ?_, ?_, ?_, fun c hlt => ?_, fun hk1 hrun => ?_, hall.time, hall.memories⟩
  · have he := execResetRelease_eq n hk hg
    rw [hload] at he
    change execResetRelease n none s = .next (t.onlyIf (t.is TRK_OVP.CROWBAR) (fun u => u.safeChip 4)) at he
    rw [hcrow] at he
    exact he
  · rw [hall.saf]; rfl
  · rw [hall.saf]; rfl
  · rw [hall.saf]; rfl
  · rw [(h2.comp h3).get (f := GLB_STRAP.I2C_ADDR) (by decide)]
    have hlt : 0x48 + n.toNat % 4 < 2 ^ 7 := by omega
    refine (State.get_wr_ne _ _ (by decide)).trans ((State.get_set_self (by decide) _ _).trans (Nat.mod_eq_of_lt hlt))
  · rw [(h2.comp h3).2 GLB_CLK.addr (by decide)]
    exact State.rd_wr_self _ _ _
  · rw [h3.is (by
      simp only [CEL_CFG.DRVMODE, releaseRegisters, UPD_ARB.addr, SRC_KA.addr, SAF_RST_CAUSE.addr, List.mem_cons, List.not_mem_nil, or_false]
      omega)]
    exact State.is_drvModes a _ hlt
  · rw [show t = b.releaseReports 1 from by rw [← hk1]]
    refine State.releaseReports_brownout ?_
    rw [(h1.comp h2).beam]
    exact hrun


/-! ### Reduced service (R132, R379, R414 to R416) -/

/-- The ROM runs the trunk. -/
def State.romOwnsTrunk (s : State) : State := { s with sel := { s.sel with idleTrunk := false }, mod := { s.mod with romTrunk := true } }

open BootKept in
/-- Starting the trunk changes nothing of the boot but who runs the trunk. -/
theorem BootKept.romTrunk_start (s : State) (rail : Nat) : BootKept s.romOwnsTrunk (s.romTrunk rail) := by
  have h1 {n : Nat} {g : Nat → State → State} (hg : ∀ n u, BootKept s.romOwnsTrunk u → BootKept s.romOwnsTrunk (g n u)) :=
    each (l := [0, 5]) (g := g) (set (f := GLB_REGION.NORTH) (n := n) (refl s.romOwnsTrunk)) hg
  have h2 := h1 (n := 1) (g := fun n u => if !u.fitted n then u else if u.causes n ≠ 0 then u.moveCell n 5 else u.sleepCell n .shed)
    fun n u hu => .ite hu (.ite hu.moveCell hu.sleepCell)
  have h3 {b : Bool} := onlyIf (b := b) (g := fun u => u.degrade .north) h2 fun u hu => hu.degrade
  unfold State.romTrunk
  dsimp only
  split
  · exact becamePrimary (turnOn h3)
  · exact .ite (safeRegion h3) h3

/-- The machine with the service level, the pins and the rail's target of reduced service. -/
def State.pinned (s : State) (p : Fin 8) : State :=
  let t := (s.set GLB_REGION.SERVICE 1).set TRK_PIN.SEL p.val
  (t.set TRK_PIN.LIVE p.val).set TRK_REF.TARGET (t.get (TRK_VSET.VOLT p.val))

theorem State.pinned_fields (s : State) (p : Fin 8) :
    (s.pinned p).get GLB_REGION.SERVICE = 1 ∧ (s.pinned p).get TRK_PIN.SEL = p.val ∧ (s.pinned p).get TRK_PIN.LIVE = p.val ∧
      (s.pinned p).get TRK_REF.TARGET = s.get (TRK_VSET.VOLT p.val) ∧ (s.pinned p).get GLB_FEAT.SEL_PRESENT = s.get GLB_FEAT.SEL_PRESENT := by
  have hp : p.val % 2 ^ 3 = p.val := Nat.mod_eq_of_lt p.isLt
  have hv : ((s.set GLB_REGION.SERVICE 1).set TRK_PIN.SEL p.val).get (TRK_VSET.VOLT p.val) = s.get (TRK_VSET.VOLT p.val) := by
    rw [State.get_set_apart (by revert p; decide), State.get_set_apart (by revert p; decide)]
  refine ⟨?_, ?_, ?_, ?_, ?_⟩ <;> unfold State.pinned <;> dsimp only
  · rw [State.get_set_apart (by decide), State.get_set_apart (by decide), State.get_set_apart (by decide), State.get_set_self (by decide)]
    rfl
  · rw [State.get_set_apart (by decide), State.get_set_apart (by decide), State.get_set_self (by decide)]
    exact hp
  · rw [State.get_set_apart (by decide), State.get_set_self (by decide)]
    exact hp
  · rw [State.get_set_self (by decide), hv]
    exact Nat.mod_eq_of_lt (Field.of_lt (TRK_VSET.VOLT p.val) _)
  · rw [State.get_set_apart (by decide), State.get_set_apart (by decide), State.get_set_apart (by decide), State.get_set_apart (by decide)]

/-- The first look at the nets. -/
def State.looked (s : State) (v48 v12 : Nat) : State :=
  let t := s.firstLook v48 v12
  let t := t.onlyIf (t.netInRange 1 v48 && !t.is SRC_STATUS.IN48_UVL && !t.is SRC_STATUS.IN48_OVL) (fun u => u.qualifyNet 1 v48)
  t.onlyIf (t.netInRange 2 v12 && !t.is SRC_STATUS.IN12_UVL && !t.is SRC_STATUS.IN12_OVL) (fun u => u.qualifyNet 2 v12)

theorem BootKept.looked (s : State) (v48 v12 : Nat) : BootKept s (s.looked v48 v12) :=
  onlyIf (onlyIf (firstLook (refl s)) fun _ h => h.qualifyNet) fun _ h => h.qualifyNet

theorem State.settingOf_congr {s t : State} (h : t.upd.settings = s.upd.settings) (a : Nat) : t.settingOf a = s.settingOf a := by
  unfold State.settingOf
  rw [h]

/-- Reduced service starts only after the keep-alive has stood, outside the reset, the chip safe state and lifecycle SCRAPPED (LC 4). -/
theorem reducedServiceStart_refused {s : State} (h : s.get GLB_REGION.SERVICE ≠ 0 ∨ s.chipSafe = true ∨ s.saf.inReset.isSome = true ∨ s.saf.keepGoodAt = none ∨
    s.get SAF_STATUS.LC = 4) (v w r n : Nat) (p : Fin 8) : exec (.reducedServiceStart v w r p n) s = .next s := by
  rcases h with h | h | h | h | h <;> simp [execReducedServiceStart, h]

/-- What starts reduced service: the trunk runs, or waits where a rail of the peer stands (R379). -/
theorem exec_reducedServiceStart_eq {s : State} {g : Nat} (hs : s.get GLB_REGION.SERVICE = 0) (hc : s.chipSafe = false) (hr : s.saf.inReset = none)
    (hk : s.saf.keepGoodAt = some g) (hg : g + 2000 ≤ s.aon) (ha : s.saf.releasedAt + 300 ≤ s.aon) (hl : s.get SAF_STATUS.LC ≠ 4) (v w r n : Nat) (p : Fin 8) :
    exec (.reducedServiceStart v w r p n) s =
      let t := (s.pinned p).looked v w
      let mode := SEL_CTRL.MODE.of (t.settingOf SEL_CTRL.addr)
      if t.hasSel && (mode = 1 || mode = 2) && 400 ≤ n then .next { t with sel := { t.sel with idleTrunk := true } } else .next (t.romTrunk r) := by
  simp only [exec_reducedServiceStart, execReducedServiceStart, hs, hc, hr, hk, hg, ha, hl]
  rfl

theorem reducedServiceStart_runs {s : State} {g : Nat} (hs : s.get GLB_REGION.SERVICE = 0) (hc : s.chipSafe = false) (hr : s.saf.inReset = none)
    (hk : s.saf.keepGoodAt = some g) (hg : g + 2000 ≤ s.aon) (ha : s.saf.releasedAt + 300 ≤ s.aon) (hl : s.get SAF_STATUS.LC ≠ 4) (v w r n : Nat) (p : Fin 8) :
    ∃ t, exec (.reducedServiceStart v w r p n) s = .next t ∧ t.get GLB_REGION.SERVICE = 1 ∧ t.get TRK_PIN.SEL = p.val ∧ t.get TRK_PIN.LIVE = p.val ∧
      (s.hasSel = true → (SEL_CTRL.MODE.of (s.settingOf SEL_CTRL.addr) = 1 ∨ SEL_CTRL.MODE.of (s.settingOf SEL_CTRL.addr) = 2) → 400 ≤ n →
        t.sel.idleTrunk = true ∧ t.get TRK_REF.TARGET = s.get (TRK_VSET.VOLT p.val) ∧ t.mod.romTrunk = s.mod.romTrunk) ∧
      ((s.hasSel = false ∨ n < 400) → t.sel.idleTrunk = false ∧ t.mod.romTrunk = true) := by
  have he := exec_reducedServiceStart_eq hs hc hr hk hg ha hl v w r n p
  have hl := BootKept.looked (s.pinned p) v w
  obtain ⟨hserv, hsel, hlive, htarget, hfeat⟩ := s.pinned_fields p
  have hset : ((s.pinned p).looked v w).settingOf SEL_CTRL.addr = s.settingOf SEL_CTRL.addr := State.settingOf_congr hl.settings _
  have hhas : ((s.pinned p).looked v w).hasSel = s.hasSel := congrArg (· != 0) ((hl.get (by decide)).trans hfeat)
  dsimp only at he
  rw [hset, hhas] at he
  by_cases hcond : (s.hasSel && (SEL_CTRL.MODE.of (s.settingOf SEL_CTRL.addr) = 1 || SEL_CTRL.MODE.of (s.settingOf SEL_CTRL.addr) = 2) && 400 ≤ n) = true
  · rw [if_pos hcond] at he
    refine ⟨_, he, (hl.get (by decide)).trans hserv, (hl.get (by decide)).trans hsel, (hl.get (by decide)).trans hlive,
      fun _ _ _ => ⟨rfl, (hl.get (by decide)).trans htarget, hl.romTrunk⟩, fun hno => ?_⟩
    simp only [Bool.and_eq_true, decide_eq_true_eq] at hcond
    rcases hno with hno | hno
    · exact absurd hcond.1.1 (by simp [hno])
    · omega
  · rw [if_neg hcond] at he
    have ht := BootKept.romTrunk_start ((s.pinned p).looked v w) r
    refine ⟨_, he, (ht.get (by decide)).trans ((hl.get (by decide)).trans hserv), (ht.get (by decide)).trans ((hl.get (by decide)).trans hsel),
      (ht.get (by decide)).trans ((hl.get (by decide)).trans hlive), fun h1 h2 h3 => (hcond ?_).elim, fun _ => ⟨ht.idleTrunk, ht.romTrunk⟩⟩
    simp only [h1, h2, h3, Bool.true_and, decide_true, Bool.and_true, Bool.or_eq_true, decide_eq_true_eq]


/-! ### The choice of the image (R414, R429, R437) -/

theorem firmwareStart_refused {s : State} (h : s.get GLB_REGION.SERVICE ≠ 1 ∨ s.saf.firmware = true ∨ s.chipSafe = true ∨ s.saf.inReset.isSome = true ∨
    s.is SAF_STATUS.LC_PENDING = true) : exec .firmwareStart s = .next s := by
  rcases h with h | h | h | h | h <;> simp [execFirmwareStart, h]

/-- The ROM may start firmware: reduced service runs, and nothing bars it. -/
structure MayStartFirmware (s : State) : Prop where
  service : s.get GLB_REGION.SERVICE = 1
  waits : s.saf.firmware = false
  noChip : s.chipSafe = false
  noReset : s.saf.inReset = none
  noPending : s.is SAF_STATUS.LC_PENDING = false

/-- The ROM's look at the update state, once pending work is done and no copy is open. -/
theorem MayStartFirmware.chooses {s : State} (h : MayStartFirmware s) (hc : s.upd.copy = none) (hu : s.beam.cleanup = false) (hn : s.saf.chosen = false) :
    exec .firmwareStart s = .next s.chooseImage := by
  obtain ⟨h1, h2, h3, h4, h5⟩ := h
  simp [execFirmwareStart, h1, h2, h3, h4, h5, hc, hu, hn]

/-- An open copy is resumed from its last marker. -/
theorem MayStartFirmware.resumesCopy {s : State} (h : MayStartFirmware s) (hc : s.upd.copy.isSome = true) :
    exec .firmwareStart s = .next (s.set UPD_STATUS.NVM_BUSY 1).copyReport := by
  obtain ⟨h1, h2, h3, h4, h5⟩ := h
  simp [execFirmwareStart, h1, h2, h3, h4, h5, hc]

/-- The copy's report and the flash being busy change registers alone. -/
theorem State.copyBusy (s : State) : OnlyRegisters [UPD_STATUS.addr, UPD_ACTJ.addr] s (s.set UPD_STATUS.NVM_BUSY 1).copyReport ∧
    (s.set UPD_STATUS.NVM_BUSY 1).copyReport.is UPD_STATUS.NVM_BUSY = true := by
  refine ⟨.copyReport (.set (.refl _ _)), ?_⟩
  rw [(OnlyRegisters.copyReport (l := [UPD_ACTJ.addr]) (.refl _ _)).is]
  exact congrArg (· != 0) (State.get_set_self (by decide) s 1)

/-- The ROM has looked at the update state in this boot. -/
def State.markChosen (s : State) : State := { s with saf := { s.saf with chosen := true } }

theorem State.chooseImage_active {s : State} (h3 : s.beam.stage ≠ 3) (ht : s.beam.trial = false) :
    s.chooseImage = s.markChosen.startImage := by
  simp [State.chooseImage, State.markChosen, h3, ht]

theorem State.startImage_active {s : State} (h : s.checkBank s.upd.active = 0) :
    s.startImage = { s with saf := { s.saf with firmware := true }, upd := { s.upd with activeOk := true } } := by
  simp [State.startImage, h]

theorem State.startImage_recovery {s : State} (hok : s.upd.activeOk = false) (ha : s.checkBank s.upd.active ≠ 0) (hf : s.checkBank s.upd.fallback ≠ 0) :
    s.startImage = s.enterRecovery := by
  simp [State.startImage, hok, ha, hf]

theorem firmwareStart_runs {s : State} (h : MayStartFirmware s) :
    (s.upd.copy.isSome = true → ∃ t, exec .firmwareStart s = .next t ∧ t.is UPD_STATUS.NVM_BUSY = true ∧ t.saf = s.saf ∧ t.upd = s.upd ∧ SameMemories s t) ∧
    (s.upd.copy = none → s.beam.cleanup = false → s.saf.chosen = false → s.beam.stage ≠ 3 → s.beam.trial = false → s.checkBank s.upd.active = 0 →
      exec .firmwareStart s = .next { s with saf := { s.saf with chosen := true, firmware := true }, upd := { s.upd with activeOk := true } }) ∧
    (s.upd.copy = none → s.beam.cleanup = false → s.saf.chosen = false → s.beam.stage ≠ 3 → s.beam.trial = true → s.beam.boots < 3 → s.checkBank s.upd.active = 0 →
      ∃ t, exec .firmwareStart s = .next t ∧ t.beam.boots = s.beam.boots + 1 ∧ t.saf.firmware = true ∧ SameRegistersBut [] s t ∧ SameMemories s t) ∧
    (s.upd.copy = none → s.beam.cleanup = false → s.saf.chosen = false → s.beam.stage = 3 → s.checkBank s.upd.staging = 0 →
      ∃ t, exec .firmwareStart s = .next t ∧ t.upd.copy.isSome = true ∧ t.saf.firmware = false ∧ t.is UPD_STATUS.NVM_BUSY = true ∧ SameMemories s t) ∧
    (s.upd.copy = none → s.beam.cleanup = false → s.saf.chosen = false → s.beam.stage ≠ 3 → s.beam.trial = false → s.upd.activeOk = false →
      s.checkBank s.upd.active ≠ 0 → s.checkBank s.upd.fallback ≠ 0 →
      ∃ t, exec .firmwareStart s = .next t ∧ t.get GLB_REGION.SERVICE = 3 ∧ t.is SVC_STATUS.DFU_MODE = true ∧ t.get SVC_DFU.STATE = 2 ∧ t.saf.firmware = false ∧
        SameMemories s t) := by
  refine ⟨fun hc => ?_, fun hc hu hn h3 ht ha => ?_, fun hc hu hn h3 ht hb ha => ?_, fun hc hu hn h3 hk => ?_, fun hc hu hn h3 ht hok ha hf => ?_⟩
  · obtain ⟨hr, hbusy⟩ := s.copyBusy
    exact ⟨_, h.resumesCopy hc, hbusy, hr.saf, hr.upd, hr.memories⟩
  · rw [h.chooses hc hu hn, State.chooseImage_active h3 ht, State.startImage_active (s := s.markChosen) ha]
    rfl
  · have he : s.chooseImage = (s.markChosen.setBeam (fun b => { b with boots := b.boots + 1 })).startImage := by
      have hne : s.beam.boots ≠ 3 := by omega
      simp [State.chooseImage, State.markChosen, h3, ht, hne]
    rw [h.chooses hc hu hn, he, State.startImage_active (s := s.markChosen.setBeam _) ha]
    exact ⟨_, rfl, rfl, rfl, fun _ _ => rfl, rfl, rfl, rfl, rfl⟩
  · have he : s.chooseImage = s.markChosen.startCopy false false := by
      change (if s.beam.stage = 3 then if s.checkBank s.upd.staging = 0 then _ else _ else _) = _
      rw [if_pos h3, if_pos hk]
      rfl
    rw [h.chooses hc hu hn, he]
    obtain ⟨hr, hbusy⟩ := State.copyBusy (s.markChosen.setUpd (fun v => { v with copy := some _ }))
    refine ⟨_, rfl, congrArg (·.copy.isSome) hr.upd, (congrArg (·.firmware) hr.saf).trans h.waits, hbusy, hr.memories⟩
  · rw [h.chooses hc hu hn, State.chooseImage_active h3 ht, State.startImage_recovery (s := s.markChosen) hok ha hf]
    refine ⟨_, rfl, ?_, ?_, ?_, h.waits, rfl, rfl, rfl, rfl⟩ <;> unfold State.enterRecovery
    · rw [State.get_set_apart (by decide), State.get_mark_apart (by decide), State.get_set_self (by decide)]
      rfl
    · rw [State.is_set_apart (by decide), State.is_mark_self (by decide) (by decide)]
    · rw [State.get_set_self (by decide)]
      rfl


/-! ### Full service (R417) -/

/-- The time and the service level stay. -/
def ServiceKept (s t : State) : Prop := t.time = s.time ∧ t.get GLB_REGION.SERVICE = s.get GLB_REGION.SERVICE

theorem BootKept.service {s t : State} (h : BootKept s t) : ServiceKept s t := ⟨h.time, h.get (by decide)⟩

theorem ServiceKept.trans {s t u : State} (h : ServiceKept s t) (h' : ServiceKept t u) : ServiceKept s u := ⟨h'.1.trans h.1, h'.2.trans h.2⟩

/-- A settings record sets no bit of `GLB_REGION`, which has none that software may write. -/
theorem ServiceKept.loadSetting {s t : State} (h : ServiceKept s t) (e : Nat × Word × Word) : ServiceKept s (t.loadSetting e) := by
  refine h.trans ?_
  unfold State.loadSetting
  split
  · next r hr =>
    refine ⟨rfl, ?_⟩
    by_cases ha : e.1 = GLB_REGION.addr
    · have hrow : (findSpec GLB_REGION.addr).map (·.rw) = some 0 := by decide +kernel
      have h0 : r.rw = 0 := by
        rw [ha] at hr
        simpa [hr] using hrow
      dsimp only
      rw [h0]
      simp only [BitVec.and_zero, BitVec.or_zero, BitVec.not_zero, BitVec.and_allOnes]
      rw [ha]
      exact State.get_wr_self _ _ rfl
    · exact State.get_wr_ne _ _ ha
  · exact ⟨rfl, rfl⟩

theorem ServiceKept.loadSettings (s : State) (d : List (Nat × Word × Word)) : ServiceKept s (s.loadSettings d) := by
  have hput {t : State} (ht : ServiceKept s t) (d l : List (Nat × Word × Word)) :
      ServiceKept s ((t.each d (fun e v => v.loadSetting e)).each l (fun e v => v.loadSetting e)) :=
    State.each_induct l _ (State.each_induct d _ ht fun e _ h => h.loadSetting e) fun e _ h => h.loadSetting e
  have h1 {l : List (Nat × Word × Word)} := hput ⟨rfl, rfl⟩ d l
  exact hput (h1.trans (BootKept.loadChem (BootKept.refl _)).service) d _

/-- Firmware's settings, memories and contexts, up to the count gap. -/
def State.restored (s : State) : State :=
  let t := (s.set GLB_REGION.SERVICE 2).migrate none
  let t := (t.loadSettings []).context0
  let t := (t.restorePages).loadLibPart
  let t := t.restoreWork
  let por := t.get SAF_RST_CAUSE.KIND = 1 || t.get SAF_RST_CAUSE.KIND = 7
  let t := t.onlyIf por (fun u => u.wr MEA_QCNT.addr u.beam.charge)
  let t := t.raise MEA_FLAGS.COUNT_GAP
  if t.hasWrp then t.restoreWefts else t

/-- The units taken over from the ROM. -/
def State.takenOver (s : State) : State := ((s.fullCells.fullRegions.chgConfig.refreshPack).portStart).startWarp

/-- The I2C interface is on. -/
def State.busOn (s : State) : State := (s.mark HIF_CTRL.I2C_EN true).mark GLB_CLK.I2C_OK true

/-- The I2C interface is on, and the pair's settings are taken. -/
def State.busOpen (s : State) : State :=
  { s.busOn with sel := { s.busOn.sel with split := s.busOn.get SEL_CTRL.SPLIT, pairId := s.busOn.rd SEL_PAIR_ID.addr } }

/-- The bus and the pair at the end of the start. -/
def State.opened (s : State) : State := (s.busOpen.linkStart.setBeam (fun b => { b with run := true })).dueFlags.fullReport

theorem fullServiceStart_refused {s : State} (h : s.saf.firmware = false ∨ s.get GLB_REGION.SERVICE ≠ 1 ∨ s.chipSafe = true ∨ s.saf.inReset.isSome = true ∨
    s.time % 100 ≠ 0) (d : List (Nat × Word × Word)) (l : Option (List (Nat × Word × Word))) : exec (.fullServiceStart d l) s = .next s := by
  rcases h with h | h | h | h | h <;> simp [execFullServiceStart, h]

theorem exec_fullServiceStart_eq {s : State} (hf : s.saf.firmware = true) (hs : s.get GLB_REGION.SERVICE = 1) (hc : s.chipSafe = false) (hr : s.saf.inReset = none)
    (ht : s.time % 100 = 0) : exec (.fullServiceStart [] none) s = .next s.restored.takenOver.opened := by
  simp only [exec_fullServiceStart, execFullServiceStart, hf, hs, hc, hr, ht]
  rfl

theorem BootKept.migrate (s : State) : BootKept s (s.migrate none) := .ite (.refl s) (.raise (.refl s))

theorem BootKept.context0 {s t : State} (h : BootKept s t) : BootKept s t.context0 := .ite (.ctx h) h

theorem State.restored_fields (s : State) : s.restored.time = s.time ∧ s.restored.get GLB_REGION.SERVICE = 2 ∧ s.restored.get MEA_FLAGS.COUNT_GAP = 1 := by
  have h0 : (s.set GLB_REGION.SERVICE 2).get GLB_REGION.SERVICE = 2 := State.get_set_self (by decide) s 2
  have hset := (BootKept.migrate (s.set GLB_REGION.SERVICE 2)).service.trans (ServiceKept.loadSettings _ [])
  have hwork := hset.trans (BootKept.restoreWork (BootKept.loadLibPart (BootKept.restorePages (BootKept.context0 (.refl _))))).service
  have hcount {b : Bool} := hwork.trans (BootKept.onlyIf (b := b) (g := fun u => u.wr MEA_QCNT.addr u.beam.charge) (.refl _) fun _ h => h.wr).service
  have hgap (t : State) : (t.raise MEA_FLAGS.COUNT_GAP).time = t.time ∧ (t.raise MEA_FLAGS.COUNT_GAP).get GLB_REGION.SERVICE = t.get GLB_REGION.SERVICE ∧
      (t.raise MEA_FLAGS.COUNT_GAP).get MEA_FLAGS.COUNT_GAP = 1 :=
    ⟨rfl, State.get_raise_apart (by decide) t, State.get_raise_self (by decide) (by decide) t⟩
  have hweft (t : State) : BootKept t (if t.hasWrp then t.restoreWefts else t) := .ite (.restoreWefts (.refl t)) (.refl t)
  obtain ⟨ht, hs, hg⟩ := hgap _
  refine ⟨(hweft _).time.trans (ht.trans hcount.1), ((hweft _).get (by decide)).trans (hs.trans (hcount.2.trans h0)), ((hweft _).get (by decide)).trans hg⟩

open BootKept in
/-- The cells at the first tick of full service are not the ROM's. -/
theorem BootKept.fullCells (s : State) : BootKept { s with mod := { s.mod with romTrunk := false } } s.fullCells := by
  unfold State.fullCells
  have h0 := refl { s with mod := { s.mod with romTrunk := false } }
  have h1 {l : List Nat} := each (l := l) (g := fun n u => u.moveCell n 0) h0 fun _ _ h => h.moveCell
  have h2 {l : List Nat} := each (l := [0, 5]) (g := fun n u => u.onlyIf (u.serves n) (fun v => v.setCell n (fun c => { c with target := some 2000000 })))
    (h1 (l := l)) fun _ _ h => h.onlyIf fun _ h => h.setCell
  have h3 {l : List Nat} := each (l := List.range 10) (g := fun n u =>
    if u.fitted n && u.cellState n = 0 && u.causes n = 0 && !(u.activeSet .trk).contains n then u.moveCell n 1 else u)
    (h2 (l := l)) fun _ _ h => .ite h.moveCell h
  have h4 {v : State} (hv : BootKept { s with mod := { s.mod with romTrunk := false } } v) :
      BootKept { s with mod := { s.mod with romTrunk := false } } (if v.blockEnabled .chb then v.chargeCellsOn else v) := .ite hv.chargeCellsOn hv
  have h5 {v : State} (hv : BootKept { s with mod := { s.mod with romTrunk := false } } v) :
      BootKept { s with mod := { s.mod with romTrunk := false } } (if v.sel.idleTrunk || !v.blockEnabled .trk then v else v.reenterAll) := .ite hv hv.reenterAll
  exact report (report (h5 (h4 h3)))

open BootKept in
/-- Taking the units over changes nothing of the boot but that the ROM no longer runs the trunk. -/
theorem BootKept.takenOver (s : State) : BootKept { s with mod := { s.mod with romTrunk := false } } s.takenOver :=
  startWarp (portStart (refreshPack (chgConfig (fullRegions (fullCells s)))))

/-- What waits for full service to be reported: flags, and no memory. -/
theorem State.dueFlags_frame (s : State) : SameRegistersBut [UPD_FLAGS.addr] s s.dueFlags ∧ s.dueFlags.beam = s.beam ∧ SameMemories s s.dueFlags ∧
    s.dueFlags.jobs = s.jobs := by
  have h : OnlyRegisters [UPD_FLAGS.addr] s (((s.onlyIf s.upd.rejected (fun u => u.raise UPD_FLAGS.REJECTED)).onlyIf s.upd.rolledBack
      (fun u => u.raise UPD_FLAGS.ROLLED_BACK)).onlyIf s.upd.activated (fun u => u.raise UPD_FLAGS.ACTIVATED)) :=
    .onlyIf (.onlyIf (.onlyIf (.refl _ _) fun _ h => h.raise) fun _ h => h.raise) fun _ h => h.raise
  exact ⟨h.2, h.beam, h.memories, h.jobs⟩

/-- The registers of the full report. -/
def fullReports : List Nat := [SEL_VER.addr, BEM_STATUS.addr, BEM_WEAR.addr, BEM_JSN_LO.addr, BEM_JSN_HI.addr, BEM_ACKED_LO.addr, BEM_PEER_LO.addr] ++ updateReports

theorem State.fullReport_frame (s : State) : SameRegistersBut fullReports s s.fullReport ∧ s.fullReport.beam = s.beam := by
  have h : OnlyRegisters fullReports s.draw.2.draw.2 s.fullReport :=
    .updReport (.jsnReport (.set (.set (.set (.set (.onlyIf (.refl _ _) fun _ h => .set (.set h)))))))
  exact ⟨h.2, h.beam⟩

theorem State.busOn_fields (s : State) : BootKept s s.busOn ∧ s.busOn.is HIF_CTRL.I2C_EN = true ∧ s.busOn.is GLB_CLK.I2C_OK = true :=
  ⟨.mark (.mark (.refl s)), (State.is_mark_apart (by decide) _ _).trans (State.is_mark_self (by decide) (by decide) s true),
    State.is_mark_self (by decide) (by decide) _ true⟩

theorem State.busOpen_fields (s : State) : BootKept s s.busOpen ∧ s.busOpen.is HIF_CTRL.I2C_EN = true ∧ s.busOpen.is GLB_CLK.I2C_OK = true :=
  s.busOn_fields

/-- The bus is open at the end of the start, and the Beam knows that the machine runs. -/
theorem State.opened_fields (s : State) : BootKept s s.opened ∧ s.opened.is HIF_CTRL.I2C_EN = true ∧ s.opened.is GLB_CLK.I2C_OK = true ∧ s.opened.beam.run = true := by
  obtain ⟨hopen, hi2c, hok⟩ := s.busOpen_fields
  have hrun : BootKept s (s.busOpen.linkStart.setBeam (fun b => { b with run := true })) := .linkStart hopen
  have hlink : OnlyRegisters [SEL_STATUS.addr, BEM_STATUS.addr] s.busOpen s.busOpen.linkStart := .linkStart (.refl _ _)
  obtain ⟨hdue, hdueBeam, -, -⟩ := (s.busOpen.linkStart.setBeam (fun b => { b with run := true })).dueFlags_frame
  obtain ⟨hrep, hrepBeam⟩ := (s.busOpen.linkStart.setBeam (fun b => { b with run := true })).dueFlags.fullReport_frame
  have hkeep (r : Nat) (hr : r ∉ [SEL_STATUS.addr, BEM_STATUS.addr] ++ [UPD_FLAGS.addr] ++ fullReports) : s.opened.rd r = s.busOpen.rd r := by
    simp only [List.mem_append, not_or] at hr
    obtain ⟨⟨h1, h2⟩, h3⟩ := hr
    exact (hrep r h3).trans ((hdue r h2).trans (hlink.2 r h1))
  exact ⟨.fullReport (.dueFlags hrun), (congrArg (fun w => HIF_CTRL.I2C_EN.of w != 0) (hkeep HIF_CTRL.addr (by decide))).trans hi2c,
    (congrArg (fun w => GLB_CLK.I2C_OK.of w != 0) (hkeep GLB_CLK.addr (by decide))).trans hok, congrArg (·.run) (hrepBeam.trans hdueBeam)⟩

theorem fullServiceStart_runs {s : State} (hf : s.saf.firmware = true) (hs : s.get GLB_REGION.SERVICE = 1) (hc : s.chipSafe = false) (hr : s.saf.inReset = none)
    (ht : s.time % 100 = 0) :
    ∃ t, exec (.fullServiceStart [] none) s = .next t ∧ t.fullService = true ∧ t.is HIF_CTRL.I2C_EN = true ∧ t.is GLB_CLK.I2C_OK = true ∧
      t.is MEA_FLAGS.COUNT_GAP = true ∧ t.beam.run = true ∧ t.mod.romTrunk = false ∧ t.time = s.time := by
  obtain ⟨htime, hserv, hgap⟩ := s.restored_fields
  obtain ⟨hopen, hi2c, hok, hrun⟩ := s.restored.takenOver.opened_fields
  have hk := (BootKept.takenOver s.restored).trans hopen
  refine ⟨_, exec_fullServiceStart_eq hf hs hc hr ht, ?_, hi2c, hok, ?_, hrun, hk.romTrunk, hk.time.trans htime⟩
  · exact congrArg (· == 2) ((hk.get (by decide)).trans hserv)
  · exact congrArg (· != 0) ((hk.get (by decide)).trans hgap)


/-! ### The end of a held restart (R434) -/

theorem heldRestartResume_refused {s : State} (h : s.is UPD_STATUS.HOLD = false ∨ s.upd.copy.isSome = true) (l : Option (List (Nat × Word × Word))) :
    exec (.heldRestartResume l) s = .next s := by
  rcases h with h | h <;> simp [execHeldRestartResume, h]

/-- The library part of the image goes into program memory and its pages' locks. -/
theorem State.loadLibPart_frame (s : State) : ∃ m, OnlyRegisters [LOM_PMLOCK0.addr, LOM_PMLOCK1.addr] { s with pm := m } s.loadLibPart := by
  have hlock (p : Prop) [Decidable p] : (if p then LOM_PMLOCK0.LOCK else LOM_PMLOCK1.LOCK).addr ∈ [LOM_PMLOCK0.addr, LOM_PMLOCK1.addr] := by
    split <;> decide
  unfold State.loadLibPart
  split
  · exact ⟨_, .each (.refl _ _) fun _ _ h => h.set (hlock _)⟩
  · exact ⟨s.pm, .refl _ _⟩

/-- The Loom starts anew from the Beam: pages, library and committed data, and no context. -/
def State.loomAnew (s : State) : State :=
  let t := (s.zeroLoom.restorePages).loadLibPart
  { t with dm := t.beam.dm }

theorem State.loomAnew_frame (s : State) : s.loomAnew.dm = s.beam.dm ∧ s.loomAnew.ctx = [] ∧ s.loomAnew.jobs = s.jobs ∧ s.loomAnew.win = s.win ∧
    s.loomAnew.beam = s.beam := by
  obtain ⟨m, h⟩ := (s.zeroLoom.restorePages).loadLibPart_frame
  obtain ⟨-, -, hctx, hwin⟩ := h.memories
  exact ⟨congrArg (·.dm) h.beam, hctx, h.jobs, hwin, h.beam⟩

/-- The device works again, and the update unit reports it. -/
def State.resumed (s : State) : State :=
  let t := ((s.set UPD_STATUS.HOLD 0).setUpd (fun u => { u with holdCopied := false, healthy := 0 })).set UPD_TRIAL.HEALTHY 0
  (t.dueFlags.raise UPD_FLAGS.HOLD_DONE).updReport

theorem State.resumed_frame (s : State) : SameMemories s s.resumed ∧ s.resumed.jobs = s.jobs ∧ s.resumed.is UPD_STATUS.HOLD = false ∧
    s.resumed.is UPD_FLAGS.HOLD_DONE = true := by
  let t := ((s.set UPD_STATUS.HOLD 0).setUpd (fun u => { u with holdCopied := false, healthy := 0 })).set UPD_TRIAL.HEALTHY 0
  let u := t.dueFlags.raise UPD_FLAGS.HOLD_DONE
  obtain ⟨hdue, -, ⟨hpm, hdm, hctx, hwin⟩, hjobs⟩ := t.dueFlags_frame
  have hrep : OnlyRegisters updateReports u s.resumed := .updReport (.refl _ _)
  obtain ⟨rpm, rdm, rctx, rwin⟩ := hrep.memories
  refine ⟨⟨rpm.trans hpm, rdm.trans hdm, rctx.trans hctx, rwin.trans hwin⟩, hrep.jobs.trans hjobs, ?_, ?_⟩
  · have ht : t.is UPD_STATUS.HOLD = false := by
      refine (State.is_set_apart (by decide) _ 0).trans ?_
      exact congrArg (· != 0) (State.get_set_self (by decide) s 0)
    have hd : t.dueFlags.is UPD_STATUS.HOLD = t.is UPD_STATUS.HOLD :=
      congrArg (fun w => UPD_STATUS.HOLD.of w != 0) (hdue UPD_STATUS.addr (by decide))
    exact u.updReport_hold.trans ((State.is_raise_apart (by decide) _).trans (hd.trans ht))
  · rw [hrep.is]
    exact State.is_raise_self (by decide) (by decide) t.dueFlags

theorem execHeldRestartResume_eq {s : State} (hh : s.is UPD_STATUS.HOLD = true) (hc : s.upd.copy = none) (hn : s.upd.holdCopied = false) (hb : s.beam.commits = []) :
    execHeldRestartResume none s = .next s.loomAnew.resumed := by
  have hl : (s.loomAnew.set UPD_STATUS.HOLD 0).beam.commits = [] := by
    obtain ⟨-, -, -, -, hbeam⟩ := s.loomAnew_frame
    exact (congrArg (·.commits) hbeam).trans hb
  have he : execHeldRestartResume none s =
      let t := s.loomAnew.set UPD_STATUS.HOLD 0
      let t := t.each t.beam.commits (fun e u => u.restoreContext e.1 e.2 false)
      let t := (t.setUpd (fun u => { u with holdCopied := false, healthy := 0 })).set UPD_TRIAL.HEALTHY 0
      .next ((t.dueFlags.raise UPD_FLAGS.HOLD_DONE).updReport) := by
    unfold execHeldRestartResume
    rw [hh, hc, hn]
    rfl
  dsimp only at he
  rw [hl] at he
  exact he

theorem heldRestartResume_runs {s : State} (hh : s.is UPD_STATUS.HOLD = true) (hc : s.upd.copy = none) (hn : s.upd.holdCopied = false) (hb : s.beam.commits = []) :
    ∃ t, exec (.heldRestartResume none) s = .next t ∧ t.is UPD_STATUS.HOLD = false ∧ t.is UPD_FLAGS.HOLD_DONE = true ∧ t.dm = s.beam.dm ∧ t.ctx = [] ∧
      t.jobs = s.jobs ∧ t.win = s.win := by
  obtain ⟨hdm, hctx, hjobs, hwin, -⟩ := s.loomAnew_frame
  obtain ⟨⟨-, rdm, rctx, rwin⟩, rjobs, hhold, hdone⟩ := s.loomAnew.resumed_frame
  exact ⟨_, execHeldRestartResume_eq hh hc hn hb, hhold, hdone, rdm.trans hdm, rctx.trans hctx, rjobs.trans hjobs, rwin.trans hwin⟩

theorem resetRelease_refused {s : State} (h : s.saf.inReset = none ∨ s.saf.keepGoodAt = none) (n : BitVec 5) (l : Option (Nat × List (Nat × Word × Word))) :
    exec (.resetRelease n l) s = .next s := by
  change execResetRelease n l s = .next s
  unfold execResetRelease
  rcases h with h | h
  · rw [h]
  · rw [h]
    cases s.saf.inReset <;> rfl

/-- Settles O56: each command of the boot has no effect where its condition fails, and otherwise leads to the state of its own lemma. -/
theorem bootSequence : Obligations.BootSequence :=
  ⟨fun _ n l h => resetRelease_refused h n l, fun _ n _ _ hk hg hc hs hb => resetRelease_plain n hk hg hc hs hb,
    fun _ v w r n p h => reducedServiceStart_refused h v w r n p,
    fun _ v w r n _ p hs hc hr hk hg ha hl => reducedServiceStart_runs hs hc hr hk hg ha hl v w r n p,
    fun _ h => firmwareStart_refused h, fun _ hs hf hc hr hl => firmwareStart_runs ⟨hs, hf, hc, hr, hl⟩,
    fun _ d l h => fullServiceStart_refused h d l, fun _ hf hs hc hr ht => fullServiceStart_runs hf hs hc hr ht,
    fun _ l h => heldRestartResume_refused h l, fun _ hh hc hn hb => heldRestartResume_runs hh hc hn hb⟩

end Sys2Proof.Machine
end

section
/-!
PROOFS. The statements of 04_phase_cells.md: pulses of a cell (R89 to R97, R187), and its faults, the gate-drive supply and its dissipation
(R105 to R109, R449).
-/

namespace Sys2Proof.Machine

-- One theorem at a time, as in Tests/Slice0.lean: elaborated side by side, they would hold one waiting thread each.
set_option Elab.async false

/-! ### Working values of a cell and of a block -/

@[simp] theorem State.cell_setCell_self (s : State) (n : Nat) (g : CellUnit → CellUnit) : (s.setCell n g).cell n = g (s.cell n) :=
  congrArg (·.getD {}) (Store.find_put_self s.mod.cells n (g (s.cell n)))

theorem State.cell_setCell_ne (s : State) {n m : Nat} (g : CellUnit → CellUnit) (h : n ≠ m) : (s.setCell n g).cell m = s.cell m :=
  congrArg (·.getD {}) ((Store.find_put s.mod.cells n m (g (s.cell n))).trans (if_neg h))

@[simp] theorem State.cell_set (s : State) (f : Field) (v n : Nat) : (s.set f v).cell n = s.cell n := rfl

@[simp] theorem State.cell_mark (s : State) (f : Field) (b : Bool) (n : Nat) : (s.mark f b).cell n = s.cell n := rfl

@[simp] theorem State.cell_setFleet (s : State) (b : Block) (g : Fleet → Fleet) (n : Nat) : (s.setFleet b g).cell n = s.cell n := by
  cases b <;> rfl

theorem State.fleet_setFleet (s : State) (b c : Block) (g : Fleet → Fleet) :
    (s.setFleet b g).fleet c = if b = c then g (s.fleet c) else s.fleet c := by
  cases b <;> cases c <;> rfl

@[simp] theorem State.fleet_setFleet_self (s : State) (b : Block) (g : Fleet → Fleet) : (s.setFleet b g).fleet b = g (s.fleet b) := by
  rw [s.fleet_setFleet, if_pos rfl]

@[simp] theorem State.regs_setFleet (s : State) (b : Block) (g : Fleet → Fleet) : (s.setFleet b g).regs = s.regs := by
  cases b <;> rfl

@[simp] theorem State.is_setFleet (s : State) (b : Block) (g : Fleet → Fleet) (f : Field) : (s.setFleet b g).is f = s.is f := by
  cases b <;> rfl

@[simp] theorem State.vdrvLow_setFleet (s : State) (b : Block) (g : Fleet → Fleet) : (s.setFleet b g).mod.vdrvLow = s.mod.vdrvLow := by
  cases b <;> rfl

@[simp] theorem State.fleet_setCell (s : State) (n : Nat) (g : CellUnit → CellUnit) (b : Block) : (s.setCell n g).fleet b = s.fleet b := by
  cases b <;> rfl

@[simp] theorem State.fleet_set (s : State) (f : Field) (v : Nat) (b : Block) : (s.set f v).fleet b = s.fleet b := by
  cases b <;> rfl

theorem State.regs_moveCell (s : State) (n code : Nat) : (s.moveCell n code).regs = (s.set (CEL_STATUS.STATE n) code).regs := by
  unfold State.moveCell
  dsimp only
  split
  · rfl
  · split <;> rfl

@[simp] theorem State.fleet_moveCell (s : State) (n code : Nat) (b : Block) : (s.moveCell n code).fleet b = s.fleet b := by
  unfold State.moveCell
  dsimp only
  split
  · simp
  · split <;> simp

/-- What one element of a list brings about, and every element keeps, holds after a repeated change; `I` holds throughout. -/
theorem State.each_establishes {α : Type} {I P : State → Prop} {s : State} {l : List α} {x : α} {g : α → State → State} (hx : x ∈ l) (h : I s)
    (hi : ∀ y t, I t → I (g y t)) (hg : ∀ t, I t → P (g x t)) (hk : ∀ y t, I t → P t → P (g y t)) : P (s.each l g) := by
  induction l generalizing s with
  | nil => exact absurd hx List.not_mem_nil
  | cons y l ih =>
    rcases List.mem_cons.1 hx with rfl | hx
    · exact (State.each_induct (P := fun t => I t ∧ P t) l g ⟨hi x s h, hg s h⟩ fun y t ht => ⟨hi y t ht.1, hk y t ht.1 ht.2⟩).2
    · exact ih hx (hi y s h)

/-! ### Frames of changes to cells and blocks -/

/-- What holds of a state and is kept by register writes and by a change of the block's placement holds after the block's report. -/
theorem State.report_induct {P : State → Prop} {s : State} {b : Block} (h : P s) (hset : ∀ u f v, P u → P (u.set f v))
    (hplace : ∀ u p k, P u → P (u.setFleet b fun f => { f with placement := p, placedFor := k })) : P (s.report b) := by
  have hmark (u : State) (f : Field) (v : Bool) (hu : P u) : P (u.mark f v) := hset u f _ hu
  have hp : P (s.place b) := by
    unfold State.place
    dsimp only
    split
    · exact h
    · refine State.each_induct _ _ (hplace _ _ _ h) fun i u hu => ?_
      split
      · exact hset _ _ _ hu
      · exact hu
  have hr {v : State} {r : FleetRegs} {a₁ a₂ a₃ a₄ a₆ a₇ a₈ a₉ a₁₀ : Nat} {a₅ a₁₁ a₁₂ : Bool} (hv : P v) :
      P ((((((((((((v.set r.nSw a₁).set r.nAvail a₂).set r.nSet a₃).set r.spares a₄).mark r.ramping a₅).set r.parked a₆).set r.spare a₇).set
        r.serving a₈).set r.cont a₉).set r.short a₁₀).mark r.overload a₁₁).mark r.burst a₁₂) := by
    apply_rules [hset, hmark]
  cases b with
  | prt => exact hmark _ _ _ hp
  | chb => exact hset _ _ _ (hr hp)
  | trk =>
    unfold State.report
    dsimp only [fleetRegs]
    split <;> exact hset _ _ _ (hset _ _ _ (hset _ _ _ (hset _ _ _ (hr (r := trkRegs) hp))))

namespace OnlyCells

variable {s t u : State}

theorem refl (s : State) : OnlyCells s s := rfl

theorem trans (h : OnlyCells s t) (h' : OnlyCells t u) : OnlyCells s u := by
  rw [OnlyCells, h', h]

theorem set (h : OnlyCells s t) {f : Field} {n : Nat} : OnlyCells s (t.set f n) := h.trans rfl

theorem mark (h : OnlyCells s t) {f : Field} {b : Bool} : OnlyCells s (t.mark f b) := h.set

theorem raise (h : OnlyCells s t) {f : Field} : OnlyCells s (t.raise f) := h.set

theorem setCell (h : OnlyCells s t) {n : Nat} {g : CellUnit → CellUnit} : OnlyCells s (t.setCell n g) := h.trans rfl

theorem setFleet (h : OnlyCells s t) {b : Block} {g : Fleet → Fleet} : OnlyCells s (t.setFleet b g) :=
  h.trans (by cases b <;> rfl)

theorem each (h : OnlyCells s t) {α : Type} {l : List α} {g : α → State → State} (hg : ∀ x u, OnlyCells s u → OnlyCells s (g x u)) :
    OnlyCells s (t.each l g) := State.each_induct l g h hg

theorem moveCell (h : OnlyCells s t) {n code : Nat} : OnlyCells s (t.moveCell n code) := by
  unfold State.moveCell
  dsimp only
  split
  · exact h.set.setCell
  · split
    · exact h.set
    · exact h.set.setCell

theorem sleepCell (h : OnlyCells s t) {n : Nat} {why : Sleep} : OnlyCells s (t.sleepCell n why) := h.moveCell.setCell

theorem report (h : OnlyCells s t) {b : Block} : OnlyCells s (t.report b) :=
  State.report_induct h (fun _ _ _ h => h.set) fun _ _ _ h => h.setFleet

theorem dropRamp (h : OnlyCells s t) {b : Block} : OnlyCells s (t.dropRamp b) := by
  unfold State.dropRamp
  split
  · exact h
  · exact h.sleepCell.setFleet.report

theorem parkCell (h : OnlyCells s t) {n : Nat} : OnlyCells s (t.parkCell n) := h.sleepCell.setFleet.report

theorem memories (h : OnlyCells s t) : SameMemories s t := by
  rw [h]
  exact ⟨rfl, rfl, rfl, rfl⟩

theorem red (h : OnlyCells s t) : t.red = s.red := by rw [h]

end OnlyCells

namespace SameRegistersBut

variable {l : List Nat} {s t u : State}

/-- A change that leaves the registers alone. -/
theorem of_regs (h : t.regs = s.regs) : SameRegistersBut l s t := fun a _ => congrArg (·.get a) h

theorem refl (l : List Nat) (s : State) : SameRegistersBut l s s := .of_regs rfl

theorem trans (h : SameRegistersBut l s t) (h' : SameRegistersBut l t u) : SameRegistersBut l s u := fun a ha => (h' a ha).trans (h a ha)

theorem set (h : SameRegistersBut l s t) {f : Field} {n : Nat} (hf : f.addr ∈ l) : SameRegistersBut l s (t.set f n) :=
  fun a ha => (t.rd_set_ne n (fun e : f.addr = a => ha (e ▸ hf))).trans (h a ha)

theorem mark (h : SameRegistersBut l s t) {f : Field} {b : Bool} (hf : f.addr ∈ l) : SameRegistersBut l s (t.mark f b) := h.set hf

theorem raise (h : SameRegistersBut l s t) {f : Field} (hf : f.addr ∈ l) : SameRegistersBut l s (t.raise f) := h.set hf

theorem moveCell (h : SameRegistersBut l s t) {n code : Nat} (hn : CEL_STATUS.addr n ∈ l) : SameRegistersBut l s (t.moveCell n code) :=
  fun a ha => (congrArg (·.get a) (t.regs_moveCell n code)).trans (h.set (f := CEL_STATUS.STATE n) hn a ha)

theorem setCell (h : SameRegistersBut l s t) {n : Nat} {g : CellUnit → CellUnit} : SameRegistersBut l s (t.setCell n g) := h

theorem setFleet (h : SameRegistersBut l s t) {b : Block} {g : Fleet → Fleet} : SameRegistersBut l s (t.setFleet b g) :=
  fun a ha => (congrArg (·.get a) (t.regs_setFleet b g)).trans (h a ha)

end SameRegistersBut

theorem SameMemories.trans {s t u : State} (h : SameMemories s t) (h' : SameMemories t u) : SameMemories s u := by
  obtain ⟨hpm, hdm, hctx, hwin⟩ := h
  obtain ⟨hpm', hdm', hctx', hwin'⟩ := h'
  exact ⟨hpm'.trans hpm, hdm'.trans hdm, hctx'.trans hctx, hwin'.trans hwin⟩

/-! ### The dealer (R92, R187) -/

/-- The pulse that is due goes to the dealt cell; without one it waits (R92). -/
def State.dealPulse (s : State) (b : Block) (vi vo boot : Nat) : State :=
  match s.dealt b with
  | none => s.setFleet b (fun g => { g with waits := true })
  | some n => s.firePulse n vi vo boot

theorem State.dealPulse_dealt {s : State} {b : Block} {n : Nat} (h : s.dealt b = some n) (vi vo boot : Nat) :
    s.dealPulse b vi vo boot = s.firePulse n vi vo boot := by
  rw [State.dealPulse, h]

theorem State.dealPulse_none {s : State} {b : Block} (h : s.dealt b = none) (vi vo boot : Nat) :
    s.dealPulse b vi vo boot = s.setFleet b (fun g => { g with waits := true }) := by
  rw [State.dealPulse, h]

/-- Outside burst mode a pulse is due: one waits, or the feedback, without a ripple term before the first pulse, is at the reference (R92). -/
def State.pulseDue (s : State) (b : Block) (vfb : Int) : Prop :=
  (s.fleet b).waits = true ∨ (s.fleet b).last = none ∧ vfb ≤ s.refOf b

theorem execLoopComparatorFire_eq {s : State} {b : Block} {vfb : Int} (hb : b ≠ .prt) (hp : (s.fleet b).packet = none) (hd : s.pulseDue b vfb)
    (hk : s.keptOut b = false) (iac : Int) (vi vo boot : Nat) :
    execLoopComparatorFire b vfb iac vi vo boot s = .next (s.dealPulse b vi vo boot) := by
  have hb : (b == .prt) = false := beq_eq_false_iff_ne.2 hb
  unfold execLoopComparatorFire State.dealPulse
  rcases hd with hw | ⟨hl, hv⟩
  · simp only [hp, hw, hb, hk, Option.isSome_none, Bool.true_or, Bool.not_true, Bool.false_eq_true, if_false]
    cases s.dealt b <;> rfl
  · simp only [hp, hl, hv, hb, hk, Option.isSome_none, Int.zero_mul, Int.add_zero, decide_true, Bool.or_true, Bool.not_true, Bool.false_eq_true, if_false]
    cases s.dealt b <;> rfl

theorem execLoopComparatorFire_not_due {s : State} {b : Block} {vfb : Int} (hp : (s.fleet b).packet = none) (hw : (s.fleet b).waits = false)
    (hl : (s.fleet b).last = none) (hv : s.refOf b < vfb) (iac : Int) (vi vo boot : Nat) :
    execLoopComparatorFire b vfb iac vi vo boot s = .next s := by
  unfold execLoopComparatorFire
  simp [hp, hw, hl, Int.not_le.2 hv]

/-- An open keep-out window counts a pulse that is due as held (R187). -/
theorem execLoopComparatorFire_held {s : State} {b : Block} {k : KeepOut} (hb : b ≠ .prt) (hp : (s.fleet b).packet = none)
    (hw : (s.fleet b).waits = true) (hf : s.red.keep.find (blockNum b) = some k) (ho : k.isOpen = true) (ht : s.time < k.ends) (vfb iac : Int) (vi vo boot : Nat) :
    execLoopComparatorFire b vfb iac vi vo boot s =
      .next { s with red := { s.red with keep := s.red.keep.put (blockNum b) { k with held := k.held + 1 } } } := by
  have hb : (b == .prt) = false := beq_eq_false_iff_ne.2 hb
  have hk : s.keptOut b = true := by simp [State.keptOut, hf, ho, ht]
  unfold execLoopComparatorFire
  simp [hp, hw, hb, hk, hf]

theorem loopComparator_waits {s : State} {b : Block} {vfb : Int} (hb : b ≠ .prt) (hp : (s.fleet b).packet = none) (hd : s.pulseDue b vfb)
    (hk : s.keptOut b = false) (h : s.dealt b = none) (iac : Int) (vi vo boot : Nat) :
    ∃ t, exec (.loopComparatorFire b vfb iac vi vo boot) s = .next t ∧ (t.fleet b).waits = true ∧ SameRegistersBut [] s t ∧ OnlyCells s t := by
  rw [exec_loopComparatorFire, execLoopComparatorFire_eq hb hp hd hk, s.dealPulse_none h]
  exact ⟨_, rfl, congrArg (·.waits) (s.fleet_setFleet_self b _), .setFleet (.refl _ _), .setFleet (.refl s)⟩

/-! ### The pulse (R89, R93) -/

theorem State.onTime_le (s : State) (n vi vo : Nat) : s.onTime n vi vo ≤ 32000 := Nat.min_le_right _ _

/-- The state after a high-side pulse of a cell has begun. -/
def State.pulseBegun (s : State) (n vi vo : Nat) : State :=
  (((s.setFleet (blockOf n) fun f => { f with last := some n, waits := false }).setCell n fun c =>
    { c with skips := 0, needRefresh := false, pulse := some s.time, refresh := 0, rect := false, ilim := s.rd (CEL_ILIM.addr n) }).set
      (CEL_TON.TON n) (s.onTime n vi vo)).mark (CEL_STATUS.CBC n) false

theorem State.firePulse_buffered {s : State} {n : Nat} (hd : s.direct n = false) (hb : s.burst (blockOf n) = false) (vi vo boot : Nat) :
    s.firePulse n vi vo boot = s.pulseBegun n vi vo := by
  unfold State.firePulse State.pulseBegun
  simp [hd, hb]

theorem State.pulseBegun_fields (s : State) (n vi vo : Nat) :
    ((s.pulseBegun n vi vo).cell n).pulse = some s.time ∧ ((s.pulseBegun n vi vo).cell n).refresh = 0 ∧
      (s.pulseBegun n vi vo).get (CEL_TON.TON n) = s.onTime n vi vo ∧ (s.pulseBegun n vi vo).is (CEL_STATUS.CBC n) = false ∧
      SameRegistersBut [CEL_TON.addr n, CEL_STATUS.addr n] s (s.pulseBegun n vi vo) ∧ OnlyCells s (s.pulseBegun n vi vo) := by
  unfold State.pulseBegun
  refine ⟨by simp, by simp, ?_, State.is_mark_self rfl Nat.one_pos _ false, ?_, ?_⟩
  · have hlt : s.onTime n vi vo < 2 ^ (CEL_TON.TON n).width := Nat.lt_of_le_of_lt (s.onTime_le n vi vo) (by simp [CEL_TON.TON])
    rw [State.get_mark_apart (Field.apart_of_addr_ne (by simp only [CEL_STATUS.CBC, CEL_TON.TON]; omega)), State.get_set_self rfl, Nat.mod_eq_of_lt hlt]
  · exact .mark (f := CEL_STATUS.CBC n) (.set (f := CEL_TON.TON n) (.setCell (.setFleet (.refl _ s))) (.head _)) (.tail _ (.head _))
  · exact (OnlyCells.refl s).setFleet.setCell.set.mark

/-! ### The end of a pulse (R92, R94, R96, R125) -/

/-- The state after a high-side pulse of a cell has ended and its period has been counted. -/
def State.periodCounted (s : State) (n : Nat) : State :=
  let t := (s.setCell n fun c => { c with pulse := none, refresh := 0, offAt := some s.time, rect := true, pulses := c.pulses + 1 }).setFleet (blockOf n) fun f =>
    { f with packetLeft := if f.packet = some n then f.packetLeft - 1 else f.packetLeft, ramp := f.ramp.map (fun r => if r.cell = n then { r with periods := r.periods + 1 } else r), leaving := f.leaving.map (fun e => if e.1 = n then (e.1, e.2.1, e.2.2 + 1) else e) }
  match blockOf n, (t.fleet (blockOf n)).ramp with
  | .trk, some r => t.set TRK_REENTRY.PERIODS (min r.periods 255)
  | _, _ => t

theorem State.periodCounted_frame (s : State) (n : Nat) : OnlyCells s (s.periodCounted n) ∧
    SameRegistersBut [TRK_REENTRY.PERIODS.addr] s (s.periodCounted n) ∧
    (s.periodCounted n).cell n = { s.cell n with pulse := none, refresh := 0, offAt := some s.time, rect := true, pulses := (s.cell n).pulses + 1 } := by
  unfold State.periodCounted
  dsimp only
  split
  · exact ⟨(OnlyCells.refl s).setCell.setFleet.set, .set (.setFleet (.setCell (.refl _ s))) (.head _), by simp⟩
  · exact ⟨(OnlyCells.refl s).setCell.setFleet, (SameRegistersBut.refl _ s).setCell.setFleet, by simp⟩

theorem State.endPulse_eq (s : State) (n : Nat) : s.endPulse n =
    let t := s.periodCounted n
    if (s.cell n).refresh = 0 then
      if t.thm.toPark.contains n && !(t.cell n).latched then
        ({ t with thm := { t.thm with toPark := t.thm.toPark.filter (fun k => k != n) } } : State).parkCell n
      else t
    else s.setCell n fun c => { c with pulse := none, refresh := 0, offAt := some s.time, rect := false } := by
  unfold State.endPulse State.periodCounted
  by_cases h : (s.cell n).refresh = 0
  · simp only [h, decide_true, Bool.not_true, Bool.false_eq_true, if_false, if_true] <;> rfl
  · simp [h]

theorem State.endPulse_unparked {s : State} {n : Nat} (hr : (s.cell n).refresh = 0) (hp : s.thm.toPark.contains n = false) :
    s.endPulse n = s.periodCounted n := by
  have ht : (s.periodCounted n).thm = s.thm := by rw [(s.periodCounted_frame n).1]
  rw [s.endPulse_eq]
  dsimp only
  rw [if_pos hr, ht, hp]
  rfl

theorem State.endPulse_memories (s : State) (n : Nat) : SameMemories s (s.endPulse n) := by
  obtain ⟨hc, -⟩ := s.periodCounted_frame n
  have hpark (t : State) (x : List Nat) : SameMemories t (({ t with thm := { t.thm with toPark := x } } : State).parkCell n) :=
    have h := OnlyCells.memories (.parkCell (n := n) (.refl ({ t with thm := { t.thm with toPark := x } } : State)))
    h
  rw [s.endPulse_eq]
  dsimp only
  split
  · split
    · exact hc.memories.trans (hpark _ _)
    · exact hc.memories
  · exact OnlyCells.memories (.setCell (.refl s))

theorem onTimeEnd_runs {s : State} {n : Cell} {t0 : Nat} (hp : (s.cell n.val).pulse = some t0) (hr : (s.cell n.val).refresh = 0)
    (ht : 64 * t0 + s.get (CEL_TON.TON n.val) ≤ 64 * s.time) (hq : s.thm.toPark.contains n.val = false) :
    exec (.onTimeEnd n) s = .next (s.periodCounted n.val) := by
  rw [exec_onTimeEnd, ← State.endPulse_unparked hr hq]
  simp [execOnTimeEnd, hp, hr, ht]

theorem onTimeEnd_early {s : State} {n : Cell} {t0 : Nat} (hp : (s.cell n.val).pulse = some t0) (hr : (s.cell n.val).refresh = 0)
    (ht : 64 * s.time < 64 * t0 + s.get (CEL_TON.TON n.val)) : exec (.onTimeEnd n) s = .next s := by
  rw [exec_onTimeEnd]
  simp [execOnTimeEnd, hp, hr, Nat.not_le.2 ht]

/-! ### The frequency loop (R94) -/

/-- A byte field holds a signed value of its range. -/
theorem State.getZ_setZ_byte {f : Field} (h : f.fits = true) (hw : f.width = 8) (s : State) {v : Int} (hl : -128 ≤ v) (hu : v ≤ 127) :
    (s.setZ f v).getZ f = v := by
  rw [State.getZ, State.setZ, State.get_set_self h, hw]
  unfold Sys2Proof.signed unsigned
  split <;> omega

/-- The state in which 64 pulses of a cell have been measured. -/
def State.measured (s : State) (n f : Nat) : State := s.setCell n fun c => { c with pulses := 0, fmeas := f }

/-- `CF` after an update. -/
def State.nextCf (s : State) (n f : Nat) : Int :=
  clampZ (-128) 127 (s.getZ (CEL_TON.CF n) + quot (128 * ((f : Int) - s.fset n)) (s.fset n))

theorem State.nextCf_range (s : State) (n f : Nat) : -128 ≤ s.nextCf n f ∧ s.nextCf n f ≤ 127 := by
  unfold State.nextCf clampZ
  omega

theorem freqLoopUpdate_free {s : State} {n : Cell} (hp : 64 ≤ (s.cell n.val).pulses) (hb : s.burst (blockOf n.val) = false)
    (hh : (s.fleet (blockOf n.val)).holdOff = false) (hc : s.is (CEL_STATUS.CBC n.val) = false) (f : Nat) :
    exec (.freqLoopUpdate n f) s = .next ((s.measured n.val f).setZ (CEL_TON.CF n.val) (s.nextCf n.val f)) := by
  rw [exec_freqLoopUpdate]
  simp [execFreqLoopUpdate, Nat.not_lt.2 hp, hb, hh, hc, State.measured, State.nextCf]

theorem freqLoopUpdate_frozen {s : State} {n : Cell} (hp : 64 ≤ (s.cell n.val).pulses) (hc : s.is (CEL_STATUS.CBC n.val) = true) (f : Nat) :
    exec (.freqLoopUpdate n f) s = .next (s.measured n.val f) := by
  rw [exec_freqLoopUpdate]
  simp [execFreqLoopUpdate, Nat.not_lt.2 hp, hc, State.measured]

theorem freqLoopUpdate_runs {s : State} {n : Cell} (hp : 64 ≤ (s.cell n.val).pulses) (hb : s.burst (blockOf n.val) = false)
    (hh : (s.fleet (blockOf n.val)).holdOff = false) (hc : s.is (CEL_STATUS.CBC n.val) = false) (f : Nat) :
    ∃ t, exec (.freqLoopUpdate n f) s = .next t ∧ (t.cell n.val).pulses = 0 ∧ (t.cell n.val).fmeas = f ∧
      t.getZ (CEL_TON.CF n.val) = s.nextCf n.val f ∧ SameRegistersBut [CEL_TON.addr n.val] s t ∧ OnlyCells s t := by
  obtain ⟨hl, hu⟩ := s.nextCf_range n.val f
  have hcell : (s.measured n.val f).cell n.val = { s.cell n.val with pulses := 0, fmeas := f } := s.cell_setCell_self _ _
  refine ⟨_, freqLoopUpdate_free hp hb hh hc f, congrArg (·.pulses) hcell, congrArg (·.fmeas) hcell, State.getZ_setZ_byte rfl rfl _ hl hu, ?_, ?_⟩
  · exact .set (.setCell (.refl _ s)) (.head _)
  · exact (OnlyCells.refl s).setCell.set

/-! ### Limits and zero crossing (R91, R96) -/

/-- The state after a pulse of a cell has ended at its limit. -/
def State.limited (s : State) (n : Nat) : State := ((s.endPulse n).count (CEL_CNT.CBC_CNT n)).mark (CEL_STATUS.CBC n) true

theorem cbcLimit_reached {s : State} {n : Cell} {i : Int} {t0 : Nat} (hl : (s.cell n.val).latched = false) (hp : (s.cell n.val).pulse = some t0)
    (hr : (s.cell n.val).refresh = 0) (hd : s.reverse (blockOf n.val) = false) (hi : (s.limits n.val).1 ≤ i) :
    exec (.cbcLimit n i) s = .next (s.limited n.val) := by
  rw [exec_cbcLimit]
  simp [execCbcLimit, hl, hp, hr, hd, hi, State.limited]

theorem cbcLimit_below {s : State} {n : Cell} {i : Int} {t0 : Nat} (hl : (s.cell n.val).latched = false) (hp : (s.cell n.val).pulse = some t0)
    (hr : (s.cell n.val).refresh = 0) (hd : s.reverse (blockOf n.val) = false) (hi : i < (s.limits n.val).1) : exec (.cbcLimit n i) s = .next s := by
  rw [exec_cbcLimit]
  simp [execCbcLimit, hl, hp, hr, hd, Int.not_le.2 hi]

theorem zeroCross_runs {s : State} {n : Cell} {i : Int} (hi : i ≤ 0) (hd : s.reverse (blockOf n.val) = false)
    (hz : s.is (CEL_CFG.ZCD_EN n.val) = true) (hr : (s.cell n.val).rect = true) :
    exec (.zeroCrossDetect n i) s = .next (s.setCell n.val fun c => { c with rect := false }) := by
  rw [exec_zeroCrossDetect]
  simp [execZeroCrossDetect, hi, hd, hz, hr]

/-! ### Truncation (R97) -/

theorem truncation_runs {s : State} {b : Block} {vfb : Int} (hh : (s.fleet b).holdOff = false)
    (hv : s.refOf b * (400 + (clampN 4 40 (s.get (blockField b TRK_MODCFG.TRUNC)) : Int)) < 400 * vfb) :
    ∃ t, exec (.truncation b vfb) s = .next t ∧ (t.fleet b).holdOff = true ∧ (t.fleet b).packetLeft = 0 ∧ SameMemories s t := by
  rw [exec_truncation]
  unfold execTruncation
  dsimp only
  rw [if_pos (by simp [hv, hh])]
  refine ⟨_, rfl, by rw [State.fleet_setFleet_self], by rw [State.fleet_setFleet_self], ?_⟩
  refine SameMemories.trans ?_ (OnlyCells.memories (.setFleet (.each (.refl _) fun _ _ h => h.mark)))
  exact State.each_induct _ _ ⟨rfl, rfl, rfl, rfl⟩ fun n u h => h.trans (u.endPulse_memories n)

/-- The state after the truncation hold-off of a block has ended. -/
def State.truncationReleased (s : State) (b : Block) : State :=
  (s.each (blockCells b) fun n u => u.mark (CEL_STATUS.TRUNC n) false).setFleet b fun g => { g with holdOff := false }

theorem truncationRelease_runs {s : State} {b : Block} {vfb : Int} (hh : (s.fleet b).holdOff = true)
    (hv : 800 * vfb < s.refOf b * (800 + (clampN 4 40 (s.get (blockField b TRK_MODCFG.TRUNC)) : Int))) :
    exec (.truncationRelease b vfb) s = .next (s.truncationReleased b) := by
  rw [exec_truncationRelease]
  simp [execTruncationRelease, hv, hh, State.truncationReleased]

theorem State.truncationReleased_trunc (s : State) (b : Block) {n : Nat} (hn : n ∈ blockCells b) :
    (s.truncationReleased b).is (CEL_STATUS.TRUNC n) = false := by
  have hself (u : State) : (u.mark (CEL_STATUS.TRUNC n) false).is (CEL_STATUS.TRUNC n) = false := State.is_mark_self rfl Nat.one_pos u false
  rw [State.truncationReleased, State.is_setFleet]
  refine State.each_establishes (I := fun _ => True) (P := fun u => u.is (CEL_STATUS.TRUNC n) = false) hn trivial (fun _ _ _ => trivial)
    (fun u _ => hself u) fun m u _ hu => ?_
  by_cases hm : m = n
  · rw [hm]
    exact hself u
  · rw [State.is_mark_apart (Field.apart_of_addr_ne (by simp only [CEL_STATUS.TRUNC, ne_eq]; omega))]
    exact hu

/-! ### Settling the statement of pulses -/

/-- Settles O17: each command of a pulse leads to the state of its own lemma. -/
theorem pulses : Obligations.Pulses := by
  unfold Obligations.Pulses
  refine ⟨?dealt, ?fires, ?waits, ?notDue, ?held, ?ends, ?early, ?loop, ?frozen, ?limited, ?below, ?crosses, ?truncates, ?released⟩
  case dealt =>
    intro s b vfb iac vi vo boot n hb hp hw hk hn
    rw [exec_loopComparatorFire, execLoopComparatorFire_eq hb hp (.inl hw) hk, s.dealPulse_dealt hn]
  case fires =>
    intro s n vi vo boot _ hd hb
    rw [State.firePulse_buffered hd hb]
    exact s.pulseBegun_fields n vi vo
  case waits => exact fun s b vfb iac vi vo boot hb hp hv hl hk hn => loopComparator_waits hb hp (.inr ⟨hl, hv⟩) hk hn iac vi vo boot
  case notDue => exact fun s b vfb iac vi vo boot hp hw hl hv => execLoopComparatorFire_not_due hp hw hl hv iac vi vo boot
  case held =>
    intro s b vfb iac vi vo boot k hb hp hw hf ho ht
    exact ⟨_, execLoopComparatorFire_held hb hp hw hf ho ht vfb iac vi vo boot, Store.find_put_self _ _ _, .of_regs rfl, ⟨rfl, rfl, rfl, rfl⟩, rfl⟩
  case ends =>
    intro s n t0 hp hr ht hq
    obtain ⟨hc, hregs, hcell⟩ := s.periodCounted_frame n.val
    refine ⟨_, onTimeEnd_runs hp hr ht hq, ?_, ?_, ?_, ?_, hregs, hc⟩ <;> rw [hcell]
  case early => exact fun s n t0 hp hr ht => onTimeEnd_early hp hr ht
  case loop => exact fun s n f hp hb hh hc => freqLoopUpdate_runs hp hb hh hc f
  case frozen =>
    intro s n f hp hc
    exact ⟨_, freqLoopUpdate_frozen hp hc f, congrArg (·.fmeas) (s.cell_setCell_self _ _), .of_regs rfl, rfl⟩
  case limited =>
    intro s n i t0 hl hp hr hd hi
    exact ⟨_, cbcLimit_reached hl hp hr hd hi, State.is_mark_self rfl Nat.one_pos _ true, rfl⟩
  case below => exact fun s n i t0 hl hp hr hd hi => cbcLimit_below hl hp hr hd hi
  case crosses =>
    intro s n i hi hd hz hr
    exact ⟨_, zeroCross_runs hi hd hz hr, congrArg (·.rect) (s.cell_setCell_self _ _), .of_regs rfl, rfl⟩
  case truncates => exact fun s b vfb hh hv => truncation_runs hh hv
  case released =>
    intro s b vfb hh hv
    exact ⟨_, truncationRelease_runs hh hv, congrArg (·.holdOff) (State.fleet_setFleet_self _ b _), fun n => s.truncationReleased_trunc b,
      .setFleet (.each (.refl s) fun _ _ h => h.mark)⟩

/-! ### Isolation of a cell (R105, R106) -/

/-- A cell in TEST that fails goes to ISOLATED with its flag and cause, and no block hears of it (R106). -/
theorem State.isolate_inTest {s : State} {n : Nat} (h : s.cellState n = 6) (code : Nat) :
    s.isolate n code = ((s.moveCell n 5).raise (CEL_FAULT.ISO n)).set (CEL_STATUS.CAUSE n) code := by
  unfold State.isolate
  simp [h]

theorem State.get_moveCell (s : State) (n code : Nat) (f : Field) : (s.moveCell n code).get f = (s.set (CEL_STATUS.STATE n) code).get f :=
  congrArg (fun r : WordMap => f.of (r.get f.addr)) (s.regs_moveCell n code)

/-- What the isolation of a cell in TEST leaves in its registers. -/
theorem State.isolate_inTest_fields {s : State} {n code : Nat} (h : s.cellState n = 6) (hc : code < 16) :
    (s.isolate n code).cellState n = 5 ∧ (s.isolate n code).get (CEL_STATUS.CAUSE n) = code ∧ (s.isolate n code).is (CEL_FAULT.ISO n) = true ∧
      (s.isolate n code).is (CEL_FAULT.DESAT_HS n) = s.is (CEL_FAULT.DESAT_HS n) := by
  have hcs : (CEL_STATUS.CAUSE n).apart (CEL_STATUS.STATE n) = true := by simp [Field.apart, CEL_STATUS.CAUSE, CEL_STATUS.STATE]
  have hdi : (CEL_FAULT.ISO n).apart (CEL_FAULT.DESAT_HS n) = true := by simp [Field.apart, CEL_FAULT.ISO, CEL_FAULT.DESAT_HS]
  have hreg : CEL_STATUS.addr n ≠ CEL_FAULT.addr n := by simp only [CEL_STATUS.addr, CEL_FAULT.addr]; omega
  rw [State.isolate_inTest h]
  refine ⟨?state, ?cause, ?iso, ?desat⟩
  case state =>
    rw [State.cellState, State.get_set_apart hcs, State.get_raise_apart (Field.apart_of_addr_ne hreg.symm), State.get_moveCell]
    exact State.get_set_self rfl s 5
  case cause => rw [State.get_set_self rfl, Nat.mod_eq_of_lt (show code < 2 ^ (CEL_STATUS.CAUSE n).width from hc)]
  case iso =>
    rw [State.is_set_apart (Field.apart_of_addr_ne hreg)]
    exact State.is_raise_self rfl Nat.one_pos _
  case desat =>
    rw [State.is_set_apart (Field.apart_of_addr_ne hreg), State.is_raise_apart hdi, State.is, State.get_moveCell]
    exact State.is_set_apart (Field.apart_of_addr_ne hreg) s 5

theorem State.isolate_inTest_frame {s : State} {n : Nat} (h : s.cellState n = 6) (code : Nat) :
    SameRegistersBut [CEL_STATUS.addr n, CEL_FAULT.addr n] s (s.isolate n code) ∧ OnlyCells s (s.isolate n code) := by
  rw [State.isolate_inTest h]
  exact ⟨.set (f := CEL_STATUS.CAUSE n) (.raise (f := CEL_FAULT.ISO n) (.moveCell (.refl _ s) (.head _)) (.tail _ (.head _))) (.head _),
    .set (.raise (.moveCell (.refl s)))⟩

/-- A cell that is checked and shows a cause other than DESAT_LS is isolated: each cause sets its flag, the first by precedence is `CAUSE` (R105). -/
theorem cellFault_isolates {s : State} {n : Cell} (hst : s.cellState n.val = 3 ∨ s.cellState n.val = 2 ∨ s.cellState n.val = 6)
    (hv : s.mod.vdrvLow = false) {hs sense opened : Bool} (hf : (hs || sense || opened) = true) :
    exec (.cellFaultIsolate n hs false sense opened) s =
      .next ((((s.onlyIf hs fun u => u.raise (CEL_FAULT.DESAT_HS n.val)).onlyIf sense fun u => u.raise (CEL_FAULT.SENSE_FAIL n.val)).onlyIf opened fun u =>
        u.raise (CEL_FAULT.OPEN_PHASE n.val)).isolate n.val (if hs then 3 else if sense then 2 else 1)) := by
  have hst : (decide (s.cellState n.val = 3) || decide (s.cellState n.val = 2) || decide (s.cellState n.val = 6)) = true := by
    simpa [or_assoc] using hst
  rw [exec_cellFaultIsolate]
  unfold execCellFaultIsolate
  simp only [hst, hv, Bool.false_and, Bool.or_false, hf, Bool.not_false, Bool.and_self, if_true]
  rw [State.onlyIf_false]

/-- DESAT of the high side in TEST (R106, R107). -/
theorem cellFault_inTest {s : State} {n : Cell} (h : s.cellState n.val = 6) (hv : s.mod.vdrvLow = false) :
    ∃ t, exec (.cellFaultIsolate n true false false false) s = .next t ∧ t.cellState n.val = 5 ∧ t.get (CEL_STATUS.CAUSE n.val) = 3 ∧
      t.is (CEL_FAULT.DESAT_HS n.val) = true ∧ t.is (CEL_FAULT.ISO n.val) = true ∧
      SameRegistersBut [CEL_STATUS.addr n.val, CEL_FAULT.addr n.val] s t ∧ OnlyCells s t := by
  have hstate : (s.raise (CEL_FAULT.DESAT_HS n.val)).cellState n.val = 6 :=
    (State.get_raise_apart (Field.apart_of_addr_ne (by simp only [CEL_FAULT.DESAT_HS, CEL_STATUS.STATE]; omega)) s).trans h
  obtain ⟨h5, hcause, hiso, hdesat⟩ := State.isolate_inTest_fields hstate (code := 3) (by decide)
  obtain ⟨hregs, hcells⟩ := State.isolate_inTest_frame hstate 3
  refine ⟨_, cellFault_isolates (.inr (.inr h)) hv rfl, h5, hcause, hdesat.trans (State.is_raise_self rfl Nat.one_pos s), hiso, ?_,
    .trans (.raise (.refl s)) hcells⟩
  exact .trans (.raise (f := CEL_FAULT.DESAT_HS n.val) (.refl _ s) (.tail _ (.head _))) hregs

theorem cellFault_suspended {s : State} (hv : s.mod.vdrvLow = true) (n : Cell) (hs ls sense opened : Bool) :
    exec (.cellFaultIsolate n hs ls sense opened) s = .next s := by
  rw [exec_cellFaultIsolate]
  simp [execCellFaultIsolate, hv]

/-! ### The gate-drive supply (R449) -/

/-- A cell's gates after a change that turns none on and leaves the crowbar's latch. -/
def CellUnit.Quieter (c d : CellUnit) : Prop := d.latched = c.latched ∧ (c.pulse = none → d.pulse = none) ∧ (c.rect = false → d.rect = false)

/-- No gate turns on, and the crowbar's latches and the state of `VDRV` stay. -/
def GatesKept (s t : State) : Prop := t.mod.vdrvLow = s.mod.vdrvLow ∧ ∀ n, (s.cell n).Quieter (t.cell n)

namespace GatesKept

variable {s t u : State}

/-- A change that leaves the cells and `VDRV` alone. -/
theorem of_cells (hv : t.mod.vdrvLow = s.mod.vdrvLow) (hc : ∀ n, t.cell n = s.cell n) : GatesKept s t :=
  ⟨hv, fun n => by rw [hc n]; exact ⟨rfl, id, id⟩⟩

theorem refl (s : State) : GatesKept s s := .of_cells rfl fun _ => rfl

theorem trans (h : GatesKept s t) (h' : GatesKept t u) : GatesKept s u := by
  obtain ⟨hv, hc⟩ := h
  obtain ⟨hv', hc'⟩ := h'
  refine ⟨hv'.trans hv, fun n => ?_⟩
  obtain ⟨hl, hp, hr⟩ := hc n
  obtain ⟨hl', hp', hr'⟩ := hc' n
  exact ⟨hl'.trans hl, hp' ∘ hp, hr' ∘ hr⟩

theorem set (h : GatesKept s t) {f : Field} {n : Nat} : GatesKept s (t.set f n) := h

theorem setFleet (h : GatesKept s t) {b : Block} {g : Fleet → Fleet} : GatesKept s (t.setFleet b g) :=
  h.trans (.of_cells (t.vdrvLow_setFleet b g) (t.cell_setFleet b g))

theorem setCell (h : GatesKept s t) {n : Nat} {g : CellUnit → CellUnit} (hg : (t.cell n).Quieter (g (t.cell n))) : GatesKept s (t.setCell n g) := by
  refine h.trans ⟨rfl, fun m => ?_⟩
  by_cases hm : n = m
  · subst hm
    rw [State.cell_setCell_self]
    exact hg
  · rw [State.cell_setCell_ne t g hm]
    exact ⟨rfl, id, id⟩

theorem moveCell (h : GatesKept s t) {n code : Nat} : GatesKept s (t.moveCell n code) := by
  unfold State.moveCell
  dsimp only
  split
  · exact setCell h.set ⟨rfl, id, id⟩
  · split
    · exact h.set
    · exact setCell h.set ⟨rfl, fun _ => rfl, fun _ => rfl⟩

theorem sleepCell (h : GatesKept s t) {n : Nat} {why : Sleep} : GatesKept s (t.sleepCell n why) := setCell h.moveCell ⟨rfl, id, id⟩

theorem report (h : GatesKept s t) {b : Block} : GatesKept s (t.report b) :=
  State.report_induct h (fun _ _ _ h => h.set) fun _ _ _ h => h.setFleet

theorem dropRamp (h : GatesKept s t) {b : Block} : GatesKept s (t.dropRamp b) := by
  unfold State.dropRamp
  split
  · exact h
  · exact h.sleepCell.setFleet.report

end GatesKept

theorem State.ramp_report (s : State) (b c : Block) : ((s.report b).fleet c).ramp = (s.fleet c).ramp := by
  refine State.report_induct (P := fun u => (u.fleet c).ramp = (s.fleet c).ramp) rfl (fun u f v hu => by rw [State.fleet_set]; exact hu) fun u p k hu => ?_
  rw [State.fleet_setFleet]
  split <;> exact hu

/-- A dropped ramp is gone, and another block's stays. -/
theorem State.ramp_dropRamp (s : State) (b c : Block) : ((s.dropRamp b).fleet c).ramp = if b = c then none else (s.fleet c).ramp := by
  unfold State.dropRamp
  split
  · next h =>
    split
    · next hbc => exact hbc ▸ h
    · rfl
  · rw [State.ramp_report, State.fleet_setFleet]
    split
    · rfl
    · rw [State.sleepCell, State.fleet_setCell, State.fleet_moveCell]

/-- The state in which `VDRV` is low and every gate but the latched low sides is off. -/
def State.gatesOff (s : State) : State :=
  ({ s with mod := { s.mod with vdrvLow := true } } : State).each (List.range 18) fun n u =>
    u.setCell n fun c => { c with pulse := none, refresh := 0, rect := false }

theorem State.gatesOff_fields (s : State) : s.gatesOff.mod.vdrvLow = true ∧ (∀ n, (s.gatesOff.cell n).latched = (s.cell n).latched) ∧
    (∀ n, n < 18 → (s.gatesOff.cell n).pulse = none ∧ (s.gatesOff.cell n).rect = false) ∧ OnlyCells s s.gatesOff := by
  have hoff (n : Nat) (t : State) : GatesKept t (t.setCell n fun c => { c with pulse := none, refresh := 0, rect := false }) :=
    .setCell (.refl t) ⟨rfl, fun _ => rfl, fun _ => rfl⟩
  obtain ⟨hv, hc⟩ : GatesKept { s with mod := { s.mod with vdrvLow := true } } s.gatesOff :=
    State.each_induct _ _ (.refl _) fun n t ht => ht.trans (hoff n t)
  refine ⟨hv, fun n => (hc n).1, fun n hn => ?_, .each (.trans (t := { s with mod := { s.mod with vdrvLow := true } }) rfl (.refl _)) fun _ _ h => h.setCell⟩
  refine State.each_establishes (I := fun _ => True) (P := fun t => (t.cell n).pulse = none ∧ (t.cell n).rect = false) (List.mem_range.2 hn) trivial
    (fun _ _ _ => trivial) (fun t _ => ?_) fun m t _ ht => ?_
  · rw [State.cell_setCell_self]
    exact ⟨rfl, rfl⟩
  · obtain ⟨-, hp, hr⟩ := (hoff m t).2 n
    exact ⟨hp ht.1, hr ht.2⟩

theorem vdrvUndervoltage_runs {s : State} {mv : Nat} (hm : mv < 8500) (hv : s.mod.vdrvLow = false) :
    exec (.vdrvUndervoltage mv) s = .next ((s.gatesOff.dropRamp .trk).dropRamp .chb) := by
  rw [exec_vdrvUndervoltage, execVdrvUndervoltage, if_pos (by simp [hm, hv])]
  rfl

theorem vdrvUndervoltage_fields {s : State} {mv : Nat} (hm : mv < 8500) (hv : s.mod.vdrvLow = false) :
    ∃ t, exec (.vdrvUndervoltage mv) s = .next t ∧ t.mod.vdrvLow = true ∧ (t.fleet .trk).ramp = none ∧ (t.fleet .chb).ramp = none ∧
      (∀ n, n < 18 → (t.cell n).pulse = none ∧ (t.cell n).rect = false) ∧ (∀ n, (t.cell n).latched = (s.cell n).latched) ∧ OnlyCells s t := by
  obtain ⟨hlow, hlatch, hoff, hcells⟩ := s.gatesOff_fields
  obtain ⟨hv', hc⟩ : GatesKept s.gatesOff ((s.gatesOff.dropRamp .trk).dropRamp .chb) := .dropRamp (.dropRamp (.refl _))
  refine ⟨_, vdrvUndervoltage_runs hm hv, hv'.trans hlow, ?_, ?_, fun n hn => ?_, fun n => (hc n).1.trans (hlatch n), hcells.dropRamp.dropRamp⟩
  · rw [State.ramp_dropRamp, State.ramp_dropRamp]
    rfl
  · rw [State.ramp_dropRamp]
    rfl
  · obtain ⟨-, hp, hr⟩ := hc n
    obtain ⟨hpulse, hrect⟩ := hoff n hn
    exact ⟨hp hpulse, hr hrect⟩

/-! ### Gate-drive dissipation (R109) -/

/-- The gate-drive power of the DIRECT cells, as measured. -/
def State.drivePower (s : State) : Nat := s.gatePower (fun _ => true) (fun n => (s.cell n).fmeas)

/-- The lifting of the lowered goals (R109). -/
def State.goalsLifted (s : State) : State := s.each (List.range 18) fun n u => u.setCell n fun c => { c with gdGoal := none }

theorem State.goalsLifted_frame (s : State) : s.goalsLifted.mod.driveUsed = s.mod.driveUsed ∧ s.goalsLifted.mod.overDriveSince = s.mod.overDriveSince ∧
    s.goalsLifted.regs = s.regs ∧ OnlyCells s s.goalsLifted :=
  State.each_induct (P := fun t => t.mod.driveUsed = s.mod.driveUsed ∧ t.mod.overDriveSince = s.mod.overDriveSince ∧ t.regs = s.regs ∧ OnlyCells s t) _ _
    ⟨rfl, rfl, rfl, .refl s⟩ fun _ _ ⟨hused, hsince, hregs, hcells⟩ => ⟨hused, hsince, hregs, hcells.setCell⟩

/-- The state in which a gate-drive power has been measured, and since when it exceeds the budget. -/
def State.driveMeasured (s : State) (p : Nat) (o : Option Nat) : State := { s with mod := { s.mod with driveUsed := p, overDriveSince := o } }

/-- A measurement keeps its two values whether or not the goals are lifted, and changes no register. -/
theorem State.driveMeasured_frame (s : State) (p : Nat) (o : Option Nat) (c : Prop) [Decidable c] {t : State}
    (ht : t = if c then (s.driveMeasured p o).goalsLifted else s.driveMeasured p o) :
    t.mod.driveUsed = p ∧ t.mod.overDriveSince = o ∧ SameRegistersBut [] s t ∧ OnlyCells s t := by
  obtain ⟨hused, hsince, hregs, hcells⟩ := (s.driveMeasured p o).goalsLifted_frame
  rw [ht]
  split
  · exact ⟨hused, hsince, .of_regs hregs, .trans (t := s.driveMeasured p o) rfl hcells⟩
  · exact ⟨rfl, rfl, .of_regs rfl, rfl⟩

theorem gateDriveCheck_runs (s : State) :
    ∃ t, exec .gateDriveCheck s = .next t ∧ t.mod.driveUsed = s.drivePower ∧
      t.mod.overDriveSince = (if decide (s.gateBudget < s.drivePower) then some (s.mod.overDriveSince.getD s.time) else none) ∧
      SameRegistersBut [] s t ∧ OnlyCells s t :=
  ⟨_, exec_gateDriveCheck s, State.driveMeasured_frame s _ _ _ rfl⟩

/-- The frequency goal that R109 gives a DIRECT cell: its target by the common factor, at least 150 kHz. -/
def State.driveGoal (s : State) (n : Nat) : Nat := max 1500000 (quot (s.target n * s.gateBudget : Nat) s.mod.driveUsed).toNat

/-- The limit of one cell, by the budget and the power of the state before. -/
def State.limitCell (s : State) (n : Nat) (u : State) : State :=
  let g := max 1500000 (quot (u.target n * s.gateBudget : Nat) s.mod.driveUsed).toNat
  (u.setCell n (fun c => { c with gdGoal := some g })).mark (CEL_STATUS.FLIM n) true

/-- No target moves when a cell is limited. -/
theorem State.target_limitCell (s : State) (n : Nat) (u : State) (m : Nat) : (s.limitCell n u).target m = u.target m := by
  have hcell : ((s.limitCell n u).cell m).target = (u.cell m).target := by
    rw [State.limitCell, State.cell_mark]
    by_cases h : n = m
    · subst h
      rw [State.cell_setCell_self]
    · rw [State.cell_setCell_ne _ _ h]
  have hfsw : (s.limitCell n u).fswOf m = u.fswOf m :=
    congrArg (fun f => 10000 * clampN 150 1000 f)
      (State.get_mark_apart (Field.apart_of_addr_ne (by simp only [CEL_STATUS.FLIM, CEL_FSW.FSW]; omega)) (u.setCell n _) true)
  rw [State.target, State.target, hcell, hfsw]

/-- A cell's goal and flag after its own limit, and after another cell's. -/
theorem State.limitCell_sets {s u : State} {n : Nat} (ht : u.target n = s.target n) :
    ((s.limitCell n u).cell n).gdGoal = some (s.driveGoal n) ∧ (s.limitCell n u).is (CEL_STATUS.FLIM n) = true := by
  refine ⟨?_, State.is_mark_self rfl Nat.one_pos _ true⟩
  rw [State.limitCell, State.cell_mark, State.cell_setCell_self, ht]
  rfl

theorem State.limitCell_keeps {s u : State} {n m : Nat} (h : n ≠ m) (hu : (u.cell m).gdGoal = some (s.driveGoal m) ∧ u.is (CEL_STATUS.FLIM m) = true) :
    ((s.limitCell n u).cell m).gdGoal = some (s.driveGoal m) ∧ (s.limitCell n u).is (CEL_STATUS.FLIM m) = true := by
  obtain ⟨hgoal, hflag⟩ := hu
  rw [State.limitCell, State.cell_mark, State.cell_setCell_ne _ _ h,
    State.is_mark_apart (Field.apart_of_addr_ne (by simp only [CEL_STATUS.FLIM, ne_eq]; omega))]
  exact ⟨hgoal, hflag⟩

/-- The state after every switching DIRECT cell has been limited. -/
def State.driveLimited (s : State) : State :=
  s.each ((List.range 18).filter fun n => s.cellPresent n && s.direct n && s.switching n) s.limitCell

theorem State.driveLimited_sets {s : State} {n : Nat} (hn : n < 18) (hp : s.cellPresent n = true) (hd : s.direct n = true) (hs : s.switching n = true) :
    (s.driveLimited.cell n).gdGoal = some (s.driveGoal n) ∧ s.driveLimited.is (CEL_STATUS.FLIM n) = true := by
  have hmem : n ∈ (List.range 18).filter fun n => s.cellPresent n && s.direct n && s.switching n :=
    List.mem_filter.2 ⟨List.mem_range.2 hn, by simp [hp, hd, hs]⟩
  refine State.each_establishes (I := fun u => u.target n = s.target n)
    (P := fun u => (u.cell n).gdGoal = some (s.driveGoal n) ∧ u.is (CEL_STATUS.FLIM n) = true) hmem rfl
    (fun m u hu => (s.target_limitCell m u n).trans hu) (fun u hu => State.limitCell_sets hu) fun m u hu h => ?_
  by_cases hm : m = n
  · subst hm
    exact State.limitCell_sets hu
  · exact State.limitCell_keeps hm h

theorem gateDriveLimit_runs {s : State} {t0 : Nat} (h : s.mod.overDriveSince = some t0) (ht : t0 + ms 1 ≤ s.time) (hu : 0 < s.mod.driveUsed) :
    exec .gateDriveLimit s = .next { s.driveLimited with mod := { s.driveLimited.mod with overDriveSince := some s.time } } := by
  rw [exec_gateDriveLimit, execGateDriveLimit, if_pos (by simp [h, State.due, ht, hu])]
  rfl

/-! ### The end of a keep-out window (R187) -/

theorem keepOutEnd_closes {s : State} {b : Block} {k : KeepOut} (hf : s.red.keep.find (blockNum b) = some k) (ht : k.ends ≤ s.time) (hh : k.held = 0)
    (vi vo boot : Nat) :
    exec (.keepOutEnd b vi vo boot) s = .next { s with red := { s.red with keep := s.red.keep.erase (blockNum b) } } := by
  rw [exec_keepOutEnd]
  simp [execKeepOutEnd, hf, Nat.not_lt.2 ht, hh]

/-- The state in which the closed window `k` of a block has released a held pulse. -/
def State.heldReleased (s : State) (b : Block) (k : KeepOut) : State :=
  { s with red := { s.red with keep := s.red.keep.put (blockNum b) { k with isOpen := false, held := k.held - 1, released := some s.time } } }

theorem keepOutEnd_releases {s : State} {b : Block} {k : KeepOut} (hf : s.red.keep.find (blockNum b) = some k) (ht : k.ends ≤ s.time) (hh : 0 < k.held)
    (hr : k.released = none) (vi vo boot : Nat) :
    exec (.keepOutEnd b vi vo boot) s = .next ((s.heldReleased b k).dealPulse b vi vo boot) := by
  rw [exec_keepOutEnd]
  unfold execKeepOutEnd State.dealPulse
  simp only [hf, Nat.not_lt.2 ht, Nat.ne_of_gt hh, hr, Bool.not_true, Bool.false_eq_true, if_false]
  change (match (s.heldReleased b k).dealt b with
    | some n => Host.Outcome.next ((s.heldReleased b k).firePulse n vi vo boot)
    | none => .next ((s.heldReleased b k).setFleet b fun g => { g with waits := true })) = _
  cases (s.heldReleased b k).dealt b <;> rfl

/-- A held pulse that finds no eligible cell waits for one (R92, R187). -/
theorem keepOutEnd_waits {s : State} {b : Block} {k : KeepOut} (hf : s.red.keep.find (blockNum b) = some k) (ht : k.ends ≤ s.time) (hh : 0 < k.held)
    (hr : k.released = none) (hd : s.dealt b = none) (vi vo boot : Nat) :
    ∃ t, exec (.keepOutEnd b vi vo boot) s = .next t ∧
      t.red.keep.find (blockNum b) = some { k with isOpen := false, held := k.held - 1, released := some s.time } ∧
      (t.fleet b).waits = true ∧ SameRegistersBut [] s t := by
  have hd : (s.heldReleased b k).dealt b = none := hd
  have hred : ((s.heldReleased b k).setFleet b fun g => { g with waits := true }).red = (s.heldReleased b k).red := OnlyCells.red (.setFleet (.refl _))
  rw [keepOutEnd_releases hf ht hh hr, State.dealPulse_none hd]
  refine ⟨_, rfl, ?_, by rw [State.fleet_setFleet_self], .setFleet (.of_regs rfl)⟩
  rw [hred]
  exact Store.find_put_self _ _ _

/-! ### Settling the statement of faults -/

/-- Settles O19: each command of a fault, of the gate-drive supply and of the end of a window leads to the state of its own lemma. -/
theorem cellFaults : Obligations.CellFaults := by
  unfold Obligations.CellFaults
  refine ⟨?inTest, ?sense, ?opened, ?suspended, ?low, ?good, ?recovers, ?above, ?within, ?limits, ?closes, ?releases⟩
  case inTest => exact fun s n h hv => cellFault_inTest h hv
  case sense => exact fun s n hst hv => cellFault_isolates hst hv rfl
  case opened => exact fun s n hst hv => cellFault_isolates hst hv rfl
  case suspended => exact fun s n hs ls sense opened hv => cellFault_suspended hv n hs ls sense opened
  case low => exact fun s mv hm hv => vdrvUndervoltage_fields hm hv
  case good =>
    intro s mv hm
    rw [exec_vdrvUndervoltage, execVdrvUndervoltage, if_neg (by simp [Nat.not_lt.2 hm])]
  case recovers =>
    intro s mv hm
    exact ⟨_, if_pos hm, rfl, .of_regs rfl, rfl⟩
  case above =>
    intro s hb hn
    obtain ⟨t, ht, hused, hsince, hregs, hcells⟩ := gateDriveCheck_runs s
    refine ⟨t, ht, hused, hsince.trans ?_, hregs, hcells⟩
    rw [if_pos (decide_eq_true (show s.gateBudget < s.drivePower from hb)), hn]
    rfl
  case within =>
    intro s hb
    obtain ⟨t, ht, -, hsince, hregs, hcells⟩ := gateDriveCheck_runs s
    exact ⟨t, ht, hsince.trans (if_neg (by rw [decide_eq_true_eq]; exact Nat.not_lt.2 hb)), hregs, hcells⟩
  case limits =>
    intro s t0 h ht hu
    have hcells : OnlyCells s s.driveLimited := .each (.refl s) fun _ _ h => h.setCell.mark
    exact ⟨_, gateDriveLimit_runs h ht hu, rfl, fun n hn hp hd hs => State.driveLimited_sets hn hp hd hs, hcells.trans rfl⟩
  case closes =>
    intro s b vi vo boot k hf ht hh
    refine ⟨_, keepOutEnd_closes hf ht hh vi vo boot, ?_, .of_regs rfl, ⟨rfl, rfl, rfl, rfl⟩, rfl⟩
    exact (Store.find_erase _ _ _).trans (if_pos rfl)
  case releases => exact fun s b vi vo boot k hf ht hh hr hd => keepOutEnd_waits hf ht hh hr hd vi vo boot

end Sys2Proof.Machine
end

section
/-!
PROOFS. The statements of 06_charge_and_backup.md: the charge loop, the pack switch and the headroom rule (R142 to R147, R165), and the charge
timers, the charge watchdog and pack presence (R152 to R160, R186, R394).
-/

namespace Sys2Proof.Machine

-- One theorem at a time, as in Tests/Slice0.lean: elaborated side by side, they would hold one waiting thread each.
set_option Elab.async false

/-! ### Fields, bits and frames -/

theorem State.is_of_get {s t : State} {f : Field} (h : t.get f = s.get f) : t.is f = s.is f := congrArg (· != 0) h

theorem State.is_set_zero {f : Field} (h : f.fits = true) (s : State) : (s.set f 0).is f = false := by
  rw [State.is, State.get_set_self h, Nat.zero_mod]
  rfl

/-- A bit reads what was put there. -/
theorem bitOf_setBitTo_self (n k : Nat) (b : Bool) : bitOf (setBitTo n k b) k = b := by
  unfold bitOf setBitTo
  cases b with
  | true => simp
  | false =>
    by_cases h : n.testBit k = true
    · have hsum : 2 ^ k + (n - 2 ^ k) = n := Nat.add_sub_cancel' (Nat.ge_two_pow_of_testBit h)
      have hflip := Nat.testBit_two_pow_add_eq (n - 2 ^ k) k
      rw [hsum, h] at hflip
      simpa [h] using hflip.symm
    · simp [h]

/-- A bit of a field reads what was put there. -/
theorem State.bitOf_get_set {f : Field} (h : f.fits = true) {k : Nat} (hk : k < f.width) (s : State) (n : Nat) (b : Bool) :
    bitOf ((s.set f (setBitTo n k b)).get f) k = b := by
  rw [State.get_set_self h, bitOf, Nat.testBit_mod_two_pow, decide_eq_true hk, Bool.true_and]
  exact bitOf_setBitTo_self n k b

/-- A frame with more exceptions is weaker. -/
theorem SameRegistersBut.mono {l l' : List Nat} {s t : State} (h : SameRegistersBut l s t) (hl : ∀ a ∈ l, a ∈ l') : SameRegistersBut l' s t :=
  fun a ha => h a fun hm => ha (hl a hm)

/-! ### Orders of one twin -/

/-- An order on a target that a pair does not share waits for its tick, and nothing else changes (R33, R235). -/
theorem State.enter_single {o : Order} (h : pairWide o.target = false) (s : State) :
    EntersOrder s (s.enter o) o.master o.target o.val o.aux ∧ SameRegistersBut [] s (s.enter o) ∧ SameMemories s (s.enter o) := by
  rw [State.enter, h, Bool.false_and, if_neg Bool.false_ne_true]
  exact ⟨⟨_, rfl, rfl, rfl, rfl, rfl, rfl, rfl⟩, .refl _ s, rfl, rfl, rfl, rfl⟩

/-! ### Faults of the collector (R395) -/

theorem OnlyRegisters.setFault {l : List Nat} {s t : State} (h : OnlyRegisters l s t) {code : Nat}
    (ha : ∀ a ∈ [SAF_FAULT.addr, SAF_STATUS.addr, SAF_FLAGS.addr], a ∈ l := by decide) : OnlyRegisters l s (t.setFault code) := by
  obtain ⟨hfault, hstatus, hflags⟩ : SAF_FAULT.addr ∈ l ∧ SAF_STATUS.addr ∈ l ∧ SAF_FLAGS.addr ∈ l := by simpa using ha
  exact .ite h (.raise (.set (.onlyIf h fun _ h => h.set hstatus) hfault) hflags)

theorem State.setFault_sets (s : State) {code : Nat} (h : code < 22) : bitOf ((s.setFault code).get SAF_FAULT.FAULT) code = true := by
  unfold State.setFault
  split
  · assumption
  · rw [State.get_raise_apart (by decide)]
    exact State.bitOf_get_set rfl h _ _ true

/-! ### The pack's availability (R161, R162) -/

/-- The fields that report the pack's availability. -/
def availFields : List Field := [CHG_STATUS.REV_AVAIL, CHG_STATUS.SHAVE_AVAIL, SRC_STATUS.PACK_AVAIL, SRC_STATUS.PACK_QUAL]

theorem OnlyRegisters.refreshPack {l : List Nat} {s t : State} (h : OnlyRegisters l s t) (hc : CHG_STATUS.addr ∈ l := by decide)
    (hs : SRC_STATUS.addr ∈ l := by decide) : OnlyRegisters l s t.refreshPack := .mark (.mark (.mark (.mark h hc) hc) hs) hs

theorem State.get_refreshPack {f : Field} (h : availFields.all (·.apart f) = true) (s : State) : s.refreshPack.get f = s.get f := by
  obtain ⟨hrev, hshave, havail, hqual⟩ : CHG_STATUS.REV_AVAIL.apart f = true ∧ CHG_STATUS.SHAVE_AVAIL.apart f = true ∧
      SRC_STATUS.PACK_AVAIL.apart f = true ∧ SRC_STATUS.PACK_QUAL.apart f = true := by simpa [availFields] using h
  unfold State.refreshPack
  simp only [State.get_mark_apart, hrev, hshave, havail, hqual]

theorem State.is_refreshPack {f : Field} (h : availFields.all (·.apart f) = true) (s : State) : s.refreshPack.is f = s.is f :=
  State.is_of_get (s.get_refreshPack h)

theorem State.rev_refreshPack (s : State) : s.refreshPack.is CHG_STATUS.REV_AVAIL = s.revAvail := by
  unfold State.refreshPack
  simp (disch := decide) only [State.is_mark_apart, State.is_mark_self]

/-- The pack carries no rail through an open switch. -/
theorem State.revAvail_open {s : State} (h : s.is CHB_STATUS.PACK_G_ON = false) : s.revAvail = false := by
  simp [State.revAvail, h]

theorem State.revAvail_absent {s : State} (h : s.chgState = 10) : s.revAvail = false := by
  simp [State.revAvail, h]

/-- The watchdog overlay bars shaving (R156, R162). -/
theorem State.shave_refreshPack {s : State} (h : s.is CHG_STATUS.WDG_SAFE = true) : s.refreshPack.is CHG_STATUS.SHAVE_AVAIL = false := by
  unfold State.refreshPack
  simp (disch := decide) only [State.is_mark_apart, State.is_mark_self]
  simp [h]

/-! ### The pack switch (R144) -/

/-- The registers that the opening of `PACK_G` writes. -/
def packReports : List Nat := [CHB_STATUS.addr, CHB_FLAGS.addr, CHG_STATUS.addr, SRC_STATUS.addr]

/-- `PACK_G` off, with its flag where it was on. -/
def State.packSwitchOff (s : State) : State :=
  s.onlyIf (s.is CHB_STATUS.PACK_G_ON) fun u => (u.mark CHB_STATUS.PACK_G_ON false).raise CHB_FLAGS.PACK_G_OPEN

theorem State.packSwitchOff_frame (s : State) : OnlyRegisters packReports s s.packSwitchOff :=
  .onlyIf (.refl _ s) fun _ h => (h.mark).raise

theorem State.packSwitchOff_open (s : State) : s.packSwitchOff.is CHB_STATUS.PACK_G_ON = false := by
  unfold State.packSwitchOff
  cases h : s.is CHB_STATUS.PACK_G_ON with
  | false => exact h
  | true =>
    rw [State.onlyIf_true, State.is_raise_apart (by decide)]
    exact State.is_mark_self rfl Nat.one_pos s false

theorem State.openPack_open (s : State) : s.openPack.is CHB_STATUS.PACK_G_ON = false :=
  (State.is_refreshPack (by decide) _).trans s.packSwitchOff_open

theorem State.openPack_flag {s : State} (h : s.is CHB_STATUS.PACK_G_ON = true) : s.openPack.is CHB_FLAGS.PACK_G_OPEN = true := by
  refine (State.is_refreshPack (by decide) _).trans (?_ : s.packSwitchOff.is CHB_FLAGS.PACK_G_OPEN = true)
  rw [State.packSwitchOff, h]
  exact State.is_raise_self rfl Nat.one_pos _

theorem State.openPack_frame (s : State) : SameRegistersBut packReports s s.openPack ∧ SameMemories s s.openPack := by
  have hswitch := s.packSwitchOff_frame
  have hreports : OnlyRegisters packReports { s.packSwitchOff with chg := { s.packSwitchOff.chg with nodeAt := none, rampAt := none } } s.openPack :=
    .refreshPack (.refl _ _)
  exact ⟨hswitch.2.trans hreports.2, hswitch.memories.trans hreports.memories⟩

/-! ### What a change of the engine's state does to jobs (R471) -/

/-- The registers that report the journal. -/
def journalReports : List Nat := [BEM_JSN_LO.addr, BEM_JSN_HI.addr, BEM_ACKED_LO.addr, BEM_PEER_LO.addr]

/-- Nothing changes but job records, their copies in the Beam and on the link, the contexts that run them with their orders, and the report of
the journal. -/
def JobsOnly (s t : State) : Prop :=
  t = { s with regs := t.regs, jobs := t.jobs, beam := t.beam, sel := t.sel, lom := t.lom, mod := t.mod, ctx := t.ctx } ∧ SameRegistersBut journalReports s t

namespace JobsOnly

variable {s t u : State}

theorem refl (s : State) : JobsOnly s s := ⟨rfl, .refl _ s⟩

theorem trans (h : JobsOnly s t) (h' : JobsOnly t u) : JobsOnly s u := by
  obtain ⟨heq, hregs⟩ := h
  obtain ⟨heq', hregs'⟩ := h'
  exact ⟨by rw [heq', heq], hregs.trans hregs'⟩

/-- A change that touches no register. -/
theorem stores (h : JobsOnly s t) (hu : u = { t with jobs := u.jobs, beam := u.beam, sel := u.sel, lom := u.lom, mod := u.mod, ctx := u.ctx }) : JobsOnly s u := by
  have hr : u.regs = t.regs := by rw [hu]
  exact h.trans ⟨by rw [hr]; exact hu, .of_regs hr⟩

theorem ite {c : Prop} [Decidable c] (h : JobsOnly s t) (h' : JobsOnly s u) : JobsOnly s (if c then t else u) := by
  split
  · exact h
  · exact h'

theorem each {α : Type} (h : JobsOnly s t) {l : List α} {g : α → State → State} (hg : ∀ x u, JobsOnly s u → JobsOnly s (g x u)) :
    JobsOnly s (t.each l g) := State.each_induct l g h hg

theorem get (h : JobsOnly s t) {f : Field} (hf : f.addr ∉ journalReports) : t.get f = s.get f := congrArg f.of (h.2 _ hf)

theorem time (h : JobsOnly s t) : t.time = s.time := by rw [h.1]

theorem chg (h : JobsOnly s t) : t.chg = s.chg := by rw [h.1]

theorem transmit (h : JobsOnly s t) {f : Frame} : JobsOnly s (t.transmit f) := .ite (h.stores rfl) (h.stores rfl)

theorem tellPeer (h : JobsOnly s t) {m r : Nat} : JobsOnly s (t.tellPeer m r) := .ite h.transmit h

theorem jsnReport (h : JobsOnly s t) : JobsOnly s t.jsnReport :=
  have hr : OnlyRegisters journalReports t t.jsnReport := .jsnReport (.refl _ t)
  h.trans ⟨by rw [hr.1], hr.2⟩

theorem journal (h : JobsOnly s t) {r : BeamRecord} : JobsOnly s (t.journal r) := by
  unfold State.journal
  split
  · exact h
  · exact .ite (.transmit (.stores (.jsnReport (h.stores rfl)) rfl)) (.jsnReport (h.stores rfl))

theorem saveJob (h : JobsOnly s t) {m r : Nat} : JobsOnly s (t.saveJob m r) := .journal (t := t.keepJob m r) (h.stores rfl)

theorem endJob (h : JobsOnly s t) {m r code cause : Nat} : JobsOnly s (t.endJob m r code cause) :=
  .ite h (.saveJob (.ite (.tellPeer (h.stores rfl)) (.ite (h.stores rfl) (h.stores rfl))))

theorem setContext (h : JobsOnly s t) {c : Nat} {g : Context → Context} : JobsOnly s (t.setContext c g) := h.stores rfl

theorem cset (h : JobsOnly s t) {f : Field} {n : Nat} : JobsOnly s (t.cset f n) := h.stores rfl

theorem park (h : JobsOnly s t) {c code : Nat} : JobsOnly s (t.park c code) := .cset (h.stores rfl)

theorem dropTx (h : JobsOnly s t) {c : Nat} : JobsOnly s (t.dropTx c) := h.setContext.cset.cset.cset

theorem cancelWork (h : JobsOnly s t) {c : Nat} : JobsOnly s (t.cancelWork c) := .setContext (h.stores rfl)

theorem stopContext (h : JobsOnly s t) {c : Nat} : JobsOnly s (t.stopContext c) := h.dropTx.cancelWork.park.setContext.cset.cset

theorem endJobStop (h : JobsOnly s t) {m r code cause : Nat} : JobsOnly s (t.endJobStop m r code cause) := .ite h.endJob.stopContext h.endJob

theorem putResult (h : JobsOnly s t) {m r : Nat} {block : List Word} {progress : Option Nat} : JobsOnly s (t.putResult m r block progress false) :=
  .ite (.tellPeer (h.stores rfl)) h

theorem romEnd (h : JobsOnly s t) {m r code cause : Nat} {block : List Word} : JobsOnly s (t.romEnd m r code cause block) :=
  h.putResult.endJobStop

theorem chargeJob (h : JobsOnly s t) {code : Nat} {p : Nat × Nat} : JobsOnly s (t.chargeJob code p) :=
  .ite h.romEnd (.ite h.romEnd (.ite h.romEnd (.ite h.romEnd h.putResult)))

end JobsOnly
/-! ### Changes of the engine's state (R148) -/

/-- The fields that a change of the engine's state writes. -/
def phaseFields : List Field := [CHG_STATUS.STATE, CHG_STATUS.PACK_ABSENT, CHG_STATUS.PAUSE, CHG_FLAGS.PHASE_CHG]

/-- A field that shares no bit with those, nor with the report of the journal. -/
def offPhase (f : Field) : Bool := phaseFields.all (·.apart f) && decide (f.addr ∉ journalReports)

/-- Only what a change of the engine's state writes has changed, as far as time, the engine and the registers go. -/
def PhaseOnly (s t : State) : Prop :=
  t.time = s.time ∧ t.chg = { s.chg with iPhase := t.chg.iPhase, termSince := t.chg.termSince, ccSince := t.chg.ccSince } ∧
    ∀ f, offPhase f = true → t.get f = s.get f

namespace PhaseOnly

variable {s t u : State}

theorem refl (s : State) : PhaseOnly s s := ⟨rfl, rfl, fun _ _ => rfl⟩

theorem trans (h : PhaseOnly s t) (h' : PhaseOnly t u) : PhaseOnly s u := by
  obtain ⟨htime, hchg, hget⟩ := h
  obtain ⟨htime', hchg', hget'⟩ := h'
  exact ⟨htime'.trans htime, by rw [hchg', hchg], fun f hf => (hget' f hf).trans (hget f hf)⟩

theorem set (h : PhaseOnly s t) {f : Field} {n : Nat} (hf : f ∈ phaseFields := by decide) : PhaseOnly s (t.set f n) := by
  refine h.trans ⟨rfl, rfl, fun g hg => ?_⟩
  obtain ⟨hoff, -⟩ := Bool.and_eq_true_iff.1 hg
  exact State.get_set_apart (List.all_eq_true.1 hoff f hf) t n

theorem engine (h : PhaseOnly s t) {x : Int} {a b : Option Nat} :
    PhaseOnly s { t with chg := { t.chg with iPhase := x, termSince := a, ccSince := b } } := h.trans ⟨rfl, rfl, fun _ _ => rfl⟩

theorem jobs (h : PhaseOnly s t) (hu : JobsOnly t u) : PhaseOnly s u :=
  h.trans ⟨hu.time, by rw [hu.chg], fun _ hg => hu.get (of_decide_eq_true (Bool.and_eq_true_iff.1 hg).2)⟩

theorem time (h : PhaseOnly s t) : t.time = s.time := h.1

theorem chg (h : PhaseOnly s t) : t.chg = { s.chg with iPhase := t.chg.iPhase, termSince := t.chg.termSince, ccSince := t.chg.ccSince } := h.2.1

theorem get (h : PhaseOnly s t) {f : Field} (hf : offPhase f = true := by decide) : t.get f = s.get f := h.2.2 f hf

theorem is (h : PhaseOnly s t) {f : Field} (hf : offPhase f = true := by decide) : t.is f = s.is f := State.is_of_get (h.get hf)

theorem kept (h : PhaseOnly s t) : t.chg.kept = s.chg.kept := by rw [h.chg]

theorem headPause (h : PhaseOnly s t) : t.chg.headPause = s.chg.headPause := by rw [h.chg]

end PhaseOnly

/-- A change of the engine's state before jobs hear of it. -/
def State.phaseSet (s : State) (code : Nat) : State :=
  let t := ((s.set CHG_STATUS.STATE code).mark CHG_STATUS.PACK_ABSENT (code == 10)).raise CHG_FLAGS.PHASE_CHG
  let t := if chargingState code || code == 6 then t else { t with chg := { t.chg with iPhase := 0 } }
  let t := t.onlyIf (code != 8) (fun u => u.set CHG_STATUS.PAUSE 0)
  let t := t.onlyIf (code == 5) (fun u => { u with chg := { u.chg with termSince := none } })
  t.onlyIf (code == 4) (fun u => { u with chg := { u.chg with ccSince := some (u.chg.ccSince.getD u.time) } })

/-- What holds once state, flag and absence are set, and is kept by the change's other steps, holds after `phaseSet`. -/
theorem State.phaseSet_induct {P : State → Prop} {s : State} {code : Nat}
    (h : P (((s.set CHG_STATUS.STATE code).mark CHG_STATUS.PACK_ABSENT (code == 10)).raise CHG_FLAGS.PHASE_CHG))
    (hpause : ∀ u, P u → P (u.set CHG_STATUS.PAUSE 0))
    (hengine : ∀ u x a b, P u → P { u with chg := { u.chg with iPhase := x, termSince := a, ccSince := b } }) : P (s.phaseSet code) := by
  unfold State.phaseSet
  dsimp only
  refine State.onlyIf_induct (P := P) _ _ (State.onlyIf_induct (P := P) _ _ (State.onlyIf_induct (P := P) _ _ ?_ ?pause) ?cv) ?cc
  case pause => exact hpause _
  case cv => exact hengine _ _ _ _
  case cc => exact hengine _ _ _ _
  split
  · exact h
  · exact hengine _ _ _ _ h

theorem State.phaseSet_only (s : State) (code : Nat) : PhaseOnly s (s.phaseSet code) :=
  State.phaseSet_induct (.set (.set (.set (.refl s)))) (fun _ h => h.set) fun _ _ _ _ h => h.engine

theorem State.chgState_phaseSet (s : State) {code : Nat} (hc : code < 16) : (s.phaseSet code).chgState = code := by
  refine State.phaseSet_induct (P := fun u => u.chgState = code) ?_ (fun u h => (State.get_set_apart (by decide) u 0).trans h) fun _ _ _ _ h => h
  unfold State.chgState
  rw [State.get_raise_apart (by decide), State.get_mark_apart (by decide), State.get_set_self rfl]
  exact Nat.mod_eq_of_lt hc

theorem State.chgEnter_jobs {s : State} {code : Nat} (h : s.chgState ≠ code) : JobsOnly (s.phaseSet code) (s.chgEnter code) := by
  rw [State.chgEnter, if_neg h]
  exact .each (.refl _) fun _ _ h => h.chargeJob

theorem State.chgEnter_only (s : State) (code : Nat) : PhaseOnly s (s.chgEnter code) := by
  by_cases h : s.chgState = code
  · rw [State.chgEnter, if_pos h]
    exact .refl s
  · exact (s.phaseSet_only code).jobs (State.chgEnter_jobs h)

/-- The engine stands in the state that it enters. -/
theorem State.chgState_chgEnter (s : State) {code : Nat} (hc : code < 16) : (s.chgEnter code).chgState = code := by
  by_cases h : s.chgState = code
  · rw [State.chgEnter, if_pos h, h]
  · exact ((State.chgEnter_jobs h).get (by decide)).trans (s.chgState_phaseSet hc)

/-! ### QUALIFY -/

theorem State.elapsed_resetTimers (s : State) : s.resetTimers.rd CHG_ELAPSED.addr = 0 := State.rd_wr_self _ _ _

/-- Resetting the timers changes no field outside `CHG_ELAPSED`. -/
theorem State.get_resetTimers {f : Field} (h : CHG_ELAPSED.addr ≠ f.addr) (s : State) : s.resetTimers.get f = s.get f :=
  State.get_wr_ne { s with chg := { s.chg with tPre := 0, tFast := 0, tTotal := 0 } } 0 h

theorem State.elapsed_refreshPack (s : State) : s.refreshPack.rd CHG_ELAPSED.addr = s.rd CHG_ELAPSED.addr :=
  (OnlyRegisters.refreshPack (l := [CHG_STATUS.addr, SRC_STATUS.addr]) (.refl _ s)).2 _ (by decide)

/-- The timers are reset and `ARM` is used up. -/
def State.qualifyReset (s : State) : State := (s.resetTimers.mark CHG_STATUS.THERMAL_LIMITED_AT_EXPIRY false).set CHG_CTRL.ARM 0

/-- The 10 ms measurement of QUALIFY starts. -/
def State.measurePack (s : State) : State :=
  ({ s.qualifyReset with chg := { s.qualifyReset.chg with qualifyAt := some s.time, absentSeen := false, nodeAt := none, rampAt := none, retryAt := none, ccSince := none, vPeak := 0 } } : State).refreshPack

theorem State.qualify_eq (s : State) : s.qualify = (s.chgEnter 1).measurePack := rfl

theorem State.get_measurePack {f : Field} (h : availFields.all (·.apart f) = true) (he : CHG_ELAPSED.addr ≠ f.addr)
    (ht : CHG_STATUS.THERMAL_LIMITED_AT_EXPIRY.apart f = true) (ha : CHG_CTRL.ARM.apart f = true) (s : State) : s.measurePack.get f = s.get f := by
  refine (State.get_refreshPack h _).trans ((State.get_set_apart ha _ 0).trans ((State.get_mark_apart ht _ false).trans ?_))
  exact State.get_resetTimers he s

theorem State.measurePack_fields (s : State) : s.measurePack.is CHG_CTRL.ARM = false ∧ s.measurePack.rd CHG_ELAPSED.addr = 0 ∧
    s.measurePack.chg.qualifyAt = some s.time ∧ s.measurePack.chg.retryAt = none := by
  have harm : s.qualifyReset.is CHG_CTRL.ARM = false := State.is_set_zero rfl _
  have htimers : s.qualifyReset.rd CHG_ELAPSED.addr = 0 :=
    (State.rd_set_ne _ 0 (by decide)).trans ((State.rd_set_ne _ _ (by decide)).trans s.elapsed_resetTimers)
  exact ⟨(State.is_refreshPack (by decide) _).trans harm, (State.elapsed_refreshPack _).trans htimers, rfl, rfl⟩

theorem State.qualify_fields (s : State) : s.qualify.chgState = 1 ∧ s.qualify.is CHG_CTRL.ARM = false ∧ s.qualify.rd CHG_ELAPSED.addr = 0 ∧
    s.qualify.chg.qualifyAt = some s.time ∧ s.qualify.chg.retryAt = none ∧ s.qualify.is CHG_FLAGS.PACK_INSERTED = s.is CHG_FLAGS.PACK_INSERTED := by
  have hp := s.chgEnter_only 1
  obtain ⟨harm, htimers, hat, hretry⟩ := (s.chgEnter 1).measurePack_fields
  rw [State.qualify_eq]
  refine ⟨?state, harm, htimers, hat.trans (congrArg some hp.time), hretry, ?inserted⟩
  case state => exact (State.get_measurePack (by decide) (by decide) (by decide) (by decide) _).trans (s.chgState_chgEnter (by decide))
  case inserted => exact (State.is_of_get (State.get_measurePack (by decide) (by decide) (by decide) (by decide) _)).trans hp.is

/-! ### Pauses (R148) -/

theorem State.pauseCause_headPause {s : State} (h : s.chg.headPause = true) : s.pauseCause ≠ 0 := by
  unfold State.pauseCause
  dsimp only
  split
  · decide
  split
  · decide
  split
  · decide
  · decide

/-- A pause changes the kept state and what a change of the engine's state writes. -/
theorem State.pauseCharge_frame (s : State) : s.pauseCharge.chg.headPause = s.chg.headPause ∧ ∀ f, offPhase f = true → s.pauseCharge.get f = s.get f := by
  have hset {k : Chg} {c : Nat} (hk : k.headPause = s.chg.headPause) {t : State} (h : PhaseOnly { s with chg := k } t) :
      (t.set CHG_STATUS.PAUSE c).chg.headPause = s.chg.headPause ∧ ∀ f, offPhase f = true → (t.set CHG_STATUS.PAUSE c).get f = s.get f :=
    ⟨h.headPause.trans hk, fun _ hf => (h.set (f := CHG_STATUS.PAUSE)).get hf⟩
  unfold State.pauseCharge
  dsimp only
  split
  · exact hset (k := { s.chg with kept := s.chgState, termSince := none }) rfl (State.chgEnter_only _ 8)
  · split
    · exact hset rfl (.refl s)
    · exact ⟨rfl, fun _ _ => rfl⟩

/-- A cause pauses a charging engine and keeps its state. -/
theorem State.pauseCharge_charging {s : State} (h : chargingState s.chgState = true) (hc : s.pauseCause ≠ 0) :
    s.pauseCharge.chgState = 8 ∧ s.pauseCharge.chg.kept = s.chgState := by
  unfold State.pauseCharge
  dsimp only
  rw [if_pos (by simp [h, hc])]
  exact ⟨(State.get_set_apart (by decide) _ _).trans (State.chgState_chgEnter _ (by decide)), (State.chgEnter_only _ 8).kept⟩

/-! ### The outer loop and the node pre-charge (R142, R144) -/

theorem execCvLoopUpdate_over {s : State} {v : Nat} (hs : s.chgState = 5 ∨ s.chgState = 6) (hm : s.get CHB_STATUS.MODE = 1) (hv : s.cvEffPack < v) :
    execCvLoopUpdate v s = .next { s with chg := { s.chg with iLoop := 0 } } := by
  simp [execCvLoopUpdate, hs, hm, hv]

theorem execCvLoopUpdate_within {s : State} {v : Nat} (hs : s.chgState = 5 ∨ s.chgState = 6) (hm : s.get CHB_STATUS.MODE = 1) (hv : v ≤ s.cvEffPack) :
    execCvLoopUpdate v s = .next { s.draw.2 with chg := { s.chg with iLoop := (s.draw.1.toNat % (s.programmed 4 / 10 + 1) : Nat) } } := by
  simp [execCvLoopUpdate, hs, hm, Nat.not_lt.2 hv]

theorem State.due_some {s : State} {d : Option Nat} {t0 k : Nat} (h : d = some t0) : s.due (d.map fun t => t + k) = decide (t0 + k ≤ s.time) := by
  rw [h]
  rfl

theorem packNodeReady_runs {s : State} {vn vp : Nat} (hn : s.chg.nodeAt.isSome = true) (hv : ((vn : Int) - vp).natAbs ≤ 20) :
    exec (.packNodeReady vn vp) s = .next { s with chg := { s.chg with nodeAt := none, rampAt := some s.time } } :=
  if_pos (by rw [hn, decide_eq_true hv]; rfl)

theorem packNodeTimeout_late {s : State} {t0 : Nat} (hn : s.chg.nodeAt = some t0) (ht : t0 + ms 20 ≤ s.time) :
    exec .packNodeTimeout s = .next { s with chg := { s.chg with nodeAt := none, retryAt := some (s.time + ms 1000) } } :=
  if_pos (by rw [State.due_some hn, decide_eq_true ht])

theorem packNodeTimeout_early {s : State} {t0 : Nat} (hn : s.chg.nodeAt = some t0) (ht : s.time < t0 + ms 20) : exec .packNodeTimeout s = .next s :=
  if_neg (by rw [State.due_some hn, decide_eq_true_iff]; exact Nat.not_le.2 ht)

theorem qualifyRetry_runs {s : State} {t0 : Nat} (hr : s.chg.retryAt = some t0) (ht : t0 ≤ s.time) : exec .qualifyRetry s = .next s.qualify :=
  if_pos (by rw [hr]; exact decide_eq_true ht)

/-- The state in which `PACK_G` has ramped on. -/
def State.packSwitchOn (s : State) : State :=
  ({ s with chg := { s.chg with rampAt := none, headOpen := false } } : State).mark CHB_STATUS.PACK_G_ON true

/-- Outside QUALIFY the end of the ramp closes `PACK_G` and no more. -/
theorem packGRampDone_runs {s : State} {t0 : Nat} (hr : s.chg.rampAt = some t0) (ht : t0 + ms 1 ≤ s.time) (hs : s.chgState ≠ 1) :
    exec .packGRampDone s = .next s.packSwitchOn.refreshPack := by
  have hs : s.packSwitchOn.chgState ≠ 1 := fun h => hs ((State.get_mark_apart (by decide) _ true).symm.trans h)
  rw [exec_packGRampDone, execPackGRampDone, if_pos (by rw [State.due_some hr, decide_eq_true ht])]
  exact congrArg (fun t : State => Host.Outcome.next t.refreshPack) (if_neg hs)

/-! ### The headroom rule (R145) -/

/-- The state in which condition (b) has been reported. -/
def State.headroomReported (s : State) : State :=
  (({ s with chg := { s.chg with headPause := true } } : State).raise CHG_FLAGS.HEADROOM).mark CHG_STATUS.HEADROOM true

theorem State.chgState_headroomReported (s : State) : s.headroomReported.chgState = s.chgState :=
  (State.get_mark_apart (by decide) _ true).trans (State.get_raise_apart (by decide) _)

theorem headroomPause_runs {s : State} {vp rail : Nat} (hc : s.chemValid = true) (hv : 10 * (s.railRefV rail : Int) - 1000 < vp)
    (hp : s.chg.headPause = false) : exec (.headroomPause vp rail) s = .next s.headroomReported.pauseCharge :=
  if_pos (by rw [hc, decide_eq_true hv, hp]; rfl)

theorem headroomPause_again {s : State} (hp : s.chg.headPause = true) (vp rail : Nat) : exec (.headroomPause vp rail) s = .next s :=
  if_neg (by simp [hp])

theorem headroomPause_fields {s : State} {vp rail : Nat} (hc : s.chemValid = true) (hv : 10 * (s.railRefV rail : Int) - 1000 < vp)
    (hp : s.chg.headPause = false) :
    ∃ t, exec (.headroomPause vp rail) s = .next t ∧ t.chg.headPause = true ∧ t.is CHG_FLAGS.HEADROOM = true ∧ t.is CHG_STATUS.HEADROOM = true ∧
      (chargingState s.chgState = true → t.chgState = 8 ∧ t.chg.kept = s.chgState) := by
  obtain ⟨hpause, hget⟩ := s.headroomReported.pauseCharge_frame
  refine ⟨_, headroomPause_runs hc hv hp, hpause, ?flag, ?status, fun hs => ?_⟩
  case flag =>
    refine (State.is_of_get (hget _ (by decide))).trans ((State.is_mark_apart (by decide) _ true).trans ?_)
    exact State.is_raise_self rfl Nat.one_pos _
  case status => exact (State.is_of_get (hget _ (by decide))).trans (State.is_mark_self rfl Nat.one_pos _ true)
  rw [← s.chgState_headroomReported] at hs ⊢
  exact State.pauseCharge_charging hs (State.pauseCause_headPause rfl)

theorem headroomResume_fields {s : State} {vp rail : Nat} (hp : s.chg.headPause = true) (hv : (vp : Int) ≤ 10 * (s.railRefV rail : Int) - 1100) :
    ∃ t, exec (.headroomResume vp rail) s = .next t ∧ t.chg.headPause = false ∧ t.is CHG_STATUS.HEADROOM = (s.chg.headOpen || s.headroomClamps) := by
  obtain ⟨hpause, hget⟩ := State.pauseCharge_frame
    (({ s with chg := { s.chg with headPause := false } } : State).mark CHG_STATUS.HEADROOM (s.chg.headOpen || s.headroomClamps))
  refine ⟨_, if_pos (by rw [hp, decide_eq_true hv]; rfl), hpause, ?_⟩
  exact (State.is_of_get (hget _ (by decide))).trans (State.is_mark_self rfl Nat.one_pos _ _)

/-- Condition (c) is reported, with the availability that the switch leaves. -/
def State.headroomOpened (s : State) : State :=
  ((({ s with chg := { s.chg with headOpen := true } } : State).raise CHG_FLAGS.HEADROOM).mark CHG_STATUS.HEADROOM true).refreshPack

theorem State.headroomOpened_frame (s : State) : SameRegistersBut [CHG_FLAGS.addr, CHG_STATUS.addr, SRC_STATUS.addr] s s.headroomOpened ∧
    SameMemories s s.headroomOpened := by
  have hreports : OnlyRegisters [CHG_FLAGS.addr, CHG_STATUS.addr, SRC_STATUS.addr] { s with chg := { s.chg with headOpen := true } } s.headroomOpened :=
    .refreshPack (.mark (.raise (.refl _ _)))
  exact ⟨hreports.2, hreports.memories⟩

theorem State.headroomOpened_flag (s : State) : s.headroomOpened.is CHG_FLAGS.HEADROOM = true :=
  (State.is_refreshPack (by decide) _).trans ((State.is_mark_apart (by decide) _ true).trans (State.is_raise_self rfl Nat.one_pos _))

/-- Through an open switch the pack is not available for reverse. -/
theorem State.headroomOpened_rev {s : State} (h : s.is CHB_STATUS.PACK_G_ON = false) : s.headroomOpened.is CHG_STATUS.REV_AVAIL = false :=
  (State.rev_refreshPack _).trans (State.revAvail_open ((State.is_mark_apart (by decide) _ true).trans ((State.is_raise_apart (by decide) _).trans h)))

/-- Outside backup and its start, a closed switch opens (R145 (c)). -/
theorem headroomDisconnect_runs {s : State} {vp rail : Nat} (hm : s.get CHB_STATUS.MODE ≠ 3) (hh : s.chg.holdupAt = none)
    (hg : s.is CHB_STATUS.PACK_G_ON = true) (hv : 10 * (rail : Int) - 500 < vp) :
    exec (.headroomDisconnect vp rail) s = .next s.openPack.headroomOpened := by
  rw [exec_headroomDisconnect, execHeadroomDisconnect, hh]
  exact if_pos (by simp [hm, hg, hv])

theorem headroomDisconnect_backup {s : State} (hm : s.get CHB_STATUS.MODE = 3) (vp rail : Nat) : exec (.headroomDisconnect vp rail) s = .next s :=
  if_neg (by simp [hm])

theorem headroomDisconnect_fields {s : State} {vp rail : Nat} (hm : s.get CHB_STATUS.MODE ≠ 3) (hh : s.chg.holdupAt = none)
    (hg : s.is CHB_STATUS.PACK_G_ON = true) (hv : 10 * (rail : Int) - 500 < vp) :
    ∃ t, exec (.headroomDisconnect vp rail) s = .next t ∧ t.is CHB_STATUS.PACK_G_ON = false ∧ t.is CHB_FLAGS.PACK_G_OPEN = true ∧
      t.is CHG_FLAGS.HEADROOM = true ∧ t.chg.headOpen = true ∧ t.is CHG_STATUS.REV_AVAIL = false ∧
      SameRegistersBut [CHB_STATUS.addr, CHB_FLAGS.addr, CHG_FLAGS.addr, CHG_STATUS.addr, SRC_STATUS.addr] s t ∧ SameMemories s t := by
  obtain ⟨hregs, hmem⟩ := s.openPack_frame
  obtain ⟨hregs', hmem'⟩ := s.openPack.headroomOpened_frame
  have hkeep {f : Field} (hf : f.addr ∉ [CHG_FLAGS.addr, CHG_STATUS.addr, SRC_STATUS.addr]) : s.openPack.headroomOpened.is f = s.openPack.is f :=
    State.is_of_get (congrArg f.of (hregs' _ hf))
  refine ⟨_, headroomDisconnect_runs hm hh hg hv, (hkeep (by decide)).trans s.openPack_open, (hkeep (by decide)).trans (State.openPack_flag hg),
    State.headroomOpened_flag _, rfl, State.headroomOpened_rev s.openPack_open, (hregs.mono (by decide)).trans (hregs'.mono (by decide)), hmem.trans hmem'⟩

theorem headroomReconnect_runs {s : State} {vp rail : Nat} (ho : s.chg.headOpen = true) (hn : s.chg.nodeAt = none)
    (hv : (vp : Int) ≤ 10 * (rail : Int) - 1000) (h0 : s.chgState ≠ 0) (h10 : s.chgState ≠ 10) :
    exec (.headroomReconnect vp rail) s = .next { s with chg := { s.chg with nodeAt := some s.time } } :=
  if_pos (by simp [ho, hn, hv, h0, h10])

/-! ### Orders that the configuration enters (R147, R148, R169) -/

theorem chemWrite_runs {s : State} {m : Master} {c : BitVec 3} (hm : s.mayWrite m = true) (hc : c.toNat ≠ s.get CHG_CTRL.CHEM) :
    exec (.chemWrite m c) s = .next (s.enter { target := .field 0x0C CHG_CTRL.CHEM, master := m.val, val := c.toNat }) :=
  if_pos (by simp [hm, hc])

theorem chgArm_runs {s : State} {m : Master} (hm : s.mayWrite m = true) (ha : s.is CHG_CTRL.ARM = false) :
    exec (.chgArm m) s = .next (s.enter { target := .field 0x0C CHG_CTRL.ARM, master := m.val, val := 1 }) :=
  if_pos (by simp [hm, ha])

/-! ### Settling the statement of the charge loop -/

/-- Settles O22: each command of the outer loop, of the pack switch and of the headroom rule leads to the state of its own lemma. -/
theorem chargeLoop : Obligations.ChargeLoop := by
  unfold Obligations.ChargeLoop
  refine ⟨?above, ?within, ?ready, ?late, ?early, ?ramp, ?retry, ?pause, ?again, ?resume, ?disconnect, ?backup, ?reconnect, ?chem, ?arm⟩
  case above => exact fun s v hs hm hv => ⟨_, execCvLoopUpdate_over hs hm hv, rfl, rfl⟩
  case within =>
    intro s v hs hm hv
    refine ⟨_, execCvLoopUpdate_within hs hm hv, Int.natCast_nonneg _, ?_, rfl⟩
    exact Int.ofNat_le.2 (Nat.le_of_lt_succ (Nat.mod_lt _ (Nat.succ_pos _)))
  case ready => exact fun s vn vp hn hv => ⟨_, packNodeReady_runs hn hv, rfl, rfl, rfl⟩
  case late => exact fun s t0 hn ht => ⟨_, packNodeTimeout_late hn ht, rfl, rfl, rfl⟩
  case early => exact fun s t0 hn ht => packNodeTimeout_early hn ht
  case ramp =>
    intro s t0 hr ht hs
    have hreports : OnlyRegisters [CHB_STATUS.addr, CHG_STATUS.addr, SRC_STATUS.addr] { s with chg := { s.chg with rampAt := none, headOpen := false } }
        s.packSwitchOn.refreshPack := .refreshPack (.mark (.refl _ _))
    refine ⟨_, packGRampDone_runs hr ht hs, ?_, rfl, rfl, hreports.2, hreports.memories⟩
    exact (State.is_refreshPack (by decide) _).trans (State.is_mark_self rfl Nat.one_pos _ true)
  case retry =>
    intro s t0 hr ht
    obtain ⟨hstate, harm, htimers, hat, hretry, -⟩ := s.qualify_fields
    exact ⟨_, qualifyRetry_runs hr ht, hstate, harm, htimers, hat, hretry⟩
  case pause => exact fun s vp rail hc hv hp => headroomPause_fields hc hv hp
  case again => exact fun s vp rail hp => headroomPause_again hp vp rail
  case resume => exact fun s vp rail hp hv => headroomResume_fields hp hv
  case disconnect => exact fun s vp rail hm hh hg hv => headroomDisconnect_fields hm hh hg hv
  case backup => exact fun s vp rail hm => headroomDisconnect_backup hm vp rail
  case reconnect => exact fun s vp rail ho hn hv h0 h10 => ⟨_, headroomReconnect_runs ho hn hv h0 h10, rfl, rfl⟩
  case chem => exact fun s m c hm hc => ⟨_, chemWrite_runs hm hc, State.enter_single rfl s⟩
  case arm => exact fun s m hm ha => ⟨_, chgArm_runs hm ha, State.enter_single rfl s⟩

/-! ### Safety timers (R152 to R154) -/

/-- The code of an expired timer fits `TIMER_SRC`. -/
theorem State.timerExpired_lt {s : State} {src : Nat} (h : s.timerExpired = some src) : src < 4 := by
  unfold State.timerExpired at h
  dsimp only at h
  split at h
  · cases h
    decide
  split at h
  · cases h
    decide
  -- The total timer is the overlay's or the charge's; both report 2.
  split at h <;> split at h
  all_goals
    cases h <;> decide

/-- The state in which an expired timer has been reported. -/
def State.timerReported (s : State) (src : Nat) : State :=
  ((s.raise CHG_FLT.TIMER).set CHG_FLT.TIMER_SRC src).onlyIf (s.get CHG_STATUS.LIM_CAUSE == 1) fun u => u.mark CHG_STATUS.THERMAL_LIMITED_AT_EXPIRY true

theorem State.timerReported_fields (s : State) {src : Nat} (h : src < 4) :
    (s.timerReported src).is CHG_FLT.TIMER = true ∧ (s.timerReported src).get CHG_FLT.TIMER_SRC = src := by
  refine State.onlyIf_induct (P := fun t => t.is CHG_FLT.TIMER = true ∧ t.get CHG_FLT.TIMER_SRC = src) _ _ ⟨?_, ?_⟩ fun ⟨hset, hsrc⟩ => ⟨?_, ?_⟩
  · exact (State.is_set_apart (by decide) _ src).trans (State.is_raise_self rfl Nat.one_pos s)
  · exact (State.get_set_self rfl _ src).trans (Nat.mod_eq_of_lt h)
  · exact (State.is_mark_apart (by decide) _ true).trans hset
  · exact (State.get_mark_apart (by decide) _ true).trans hsrc

theorem safetyTimerExpiry_runs {s : State} {src : Nat} (hs : chargingState s.chgState = true) (ht : s.timerExpired = some src)
    (hd : s.currentDone = false) : exec .safetyTimerExpiry s = .next ((s.timerReported src).chgEnter 9) := by
  rw [exec_safetyTimerExpiry, execSafetyTimerExpiry, hs, ht, hd]
  rfl

theorem safetyTimerExpiry_fields {s : State} {src : Nat} (hs : chargingState s.chgState = true) (ht : s.timerExpired = some src)
    (hd : s.currentDone = false) :
    ∃ t, exec .safetyTimerExpiry s = .next t ∧ t.chgState = 9 ∧ t.is CHG_FLT.TIMER = true ∧ t.get CHG_FLT.TIMER_SRC = src := by
  obtain ⟨hset, hsrc⟩ := s.timerReported_fields (State.timerExpired_lt ht)
  have hp := (s.timerReported src).chgEnter_only 9
  exact ⟨_, safetyTimerExpiry_runs hs ht hd, State.chgState_chgEnter _ (by decide), hp.is.trans hset, hp.get.trans hsrc⟩

theorem safetyTimerExpiry_none {s : State} (h : s.timerExpired = none) : exec .safetyTimerExpiry s = .next s := by
  rw [exec_safetyTimerExpiry, execSafetyTimerExpiry, h]
  exact ite_self _

/-! ### The charge watchdog (R155 to R157, R394) -/

/-- The count restarts with `PERIOD` (R155). -/
def State.wdgServed (s : State) : State :=
  ({ s with chg := { s.chg with wdgLeft := 1000000 * clampN 10 160 (s.get CHG_WDG.PERIOD), served := true } } : State).set CHG_WDG.REMAIN
    (1000000 * clampN 10 160 (s.get CHG_WDG.PERIOD) / 10000)

theorem State.wdgServed_remain (s : State) : s.wdgServed.get CHG_WDG.REMAIN = 100 * clampN 10 160 (s.get CHG_WDG.PERIOD) := by
  have hmax : clampN 10 160 (s.get CHG_WDG.PERIOD) ≤ 160 := Nat.min_le_right _ _
  have hwidth : 2 ^ CHG_WDG.REMAIN.width = 65536 := rfl
  refine (State.get_set_self rfl _ _).trans ?_
  rw [hwidth]
  omega

theorem chgWdgKick_serves {s : State} {m : Master} {w : Word} (hm : s.mayWrite m = true) (hw : w.toNat % 65536 = 0x6B29) :
    exec (.chgWdgKick m w) s = .next s.wdgServed := by
  rw [exec_chgWdgKick, execChgWdgKick, hm, if_neg (by decide), if_pos hw]
  rfl

theorem chgWdgKick_wrongKey {s : State} {m : Master} {w : Word} (hm : s.mayWrite m = true) (hw : w.toNat % 65536 ≠ 0x6B29) :
    exec (.chgWdgKick m w) s = .next (s.countSat CHG_WDG.KICK_ERR) := by
  rw [exec_chgWdgKick, execChgWdgKick, hm, if_neg (by decide), if_neg hw]

theorem State.get_countSat_self {f : Field} (h : f.fits = true) (s : State) : (s.countSat f).get f = min (s.get f + 1) (2 ^ f.width - 1) := by
  have hpos : 0 < 2 ^ f.width := Nat.two_pow_pos _
  exact (State.get_set_self h s _).trans (Nat.mod_eq_of_lt (by omega))

/-- The state in which the watchdog's count has run out and its fault has been reported. -/
def State.wdgExpired (s : State) : State :=
  ((({ s with chg := { s.chg with tOverlay := 0, served := false } } : State).raise CHG_FLAGS.WDG_EXP).mark CHG_STATUS.WDG_SAFE true).setFault 16

theorem State.wdgExpired_frame (s : State) : OnlyRegisters [CHG_FLAGS.addr, CHG_STATUS.addr, SAF_FAULT.addr, SAF_STATUS.addr, SAF_FLAGS.addr, SRC_STATUS.addr]
    { s with chg := { s.chg with tOverlay := 0, served := false } } s.wdgExpired := .setFault (.mark (.raise (.refl _ _)))

/-- The fault collector does not touch the engine's registers. -/
theorem State.is_setFault {f : Field} (h : f.addr ∉ [SAF_FAULT.addr, SAF_STATUS.addr, SAF_FLAGS.addr]) (s : State) (code : Nat) :
    (s.setFault code).is f = s.is f := (OnlyRegisters.setFault (.refl _ s)).is h

theorem State.wdgExpired_fields (s : State) : s.wdgExpired.is CHG_FLAGS.WDG_EXP = true ∧ s.wdgExpired.is CHG_STATUS.WDG_SAFE = true ∧
    bitOf (s.wdgExpired.get SAF_FAULT.FAULT) 16 = true := by
  refine ⟨?_, ?_, State.setFault_sets _ (by decide)⟩
  · exact (State.is_setFault (by decide) _ 16).trans ((State.is_mark_apart (by decide) _ true).trans (State.is_raise_self rfl Nat.one_pos _))
  · exact (State.is_setFault (by decide) _ 16).trans (State.is_mark_self rfl Nat.one_pos _ true)

theorem chgWdgExpiry_runs {s : State} (hf : s.fullService = true) (hc : s.chemValid = true) (hl : s.chg.wdgLeft = 0)
    (hw : s.is CHG_STATUS.WDG_SAFE = false) : exec .chgWdgExpiry s = .next s.wdgExpired.refreshPack :=
  if_pos (by rw [hf, hc, hl, hw]; rfl)

theorem chgWdgExpiry_counting {s : State} (hl : 0 < s.chg.wdgLeft) : exec .chgWdgExpiry s = .next s :=
  if_neg (by simp [Nat.ne_of_gt hl])

theorem chgWdgExpiry_fields {s : State} (hf : s.fullService = true) (hc : s.chemValid = true) (hl : s.chg.wdgLeft = 0)
    (hw : s.is CHG_STATUS.WDG_SAFE = false) :
    ∃ t, exec .chgWdgExpiry s = .next t ∧ t.is CHG_FLAGS.WDG_EXP = true ∧ t.is CHG_STATUS.WDG_SAFE = true ∧ bitOf (t.get SAF_FAULT.FAULT) 16 = true ∧
      t.is CHG_STATUS.SHAVE_AVAIL = false ∧ t.chg.tOverlay = 0 ∧ t.chg.served = false ∧
      SameRegistersBut [CHG_FLAGS.addr, CHG_STATUS.addr, SAF_FAULT.addr, SAF_STATUS.addr, SAF_FLAGS.addr, SRC_STATUS.addr] s t ∧ SameMemories s t := by
  obtain ⟨hexp, hsafe, hfault⟩ := s.wdgExpired_fields
  have hframe := s.wdgExpired_frame.refreshPack
  have hchg : s.wdgExpired.refreshPack.chg = { s.chg with tOverlay := 0, served := false } := by rw [hframe.1]
  refine ⟨_, chgWdgExpiry_runs hf hc hl hw, (State.is_refreshPack (by decide) _).trans hexp, (State.is_refreshPack (by decide) _).trans hsafe, ?_,
    State.shave_refreshPack hsafe, by rw [hchg], by rw [hchg], hframe.2, hframe.memories⟩
  rw [State.get_refreshPack (by decide)]
  exact hfault

/-- The overlay and its fault are taken back. -/
def State.overlayCleared (s : State) : State :=
  let t := (s.set CHG_FLAGS.WDG_EXP 0).mark CHG_STATUS.WDG_SAFE false
  t.set SAF_FAULT.FAULT (setBitTo (t.get SAF_FAULT.FAULT) 16 false)

theorem State.overlayCleared_fields (s : State) : s.overlayCleared.is CHG_FLAGS.WDG_EXP = false ∧ s.overlayCleared.is CHG_STATUS.WDG_SAFE = false ∧
    bitOf (s.overlayCleared.get SAF_FAULT.FAULT) 16 = false := by
  refine ⟨?_, ?_, State.bitOf_get_set rfl (by decide) _ _ false⟩
  · exact (State.is_set_apart (by decide) _ _).trans ((State.is_mark_apart (by decide) _ false).trans (State.is_set_zero rfl s))
  · exact (State.is_set_apart (by decide) _ _).trans (State.is_mark_self rfl Nat.one_pos _ false)

/-- What follows the clear writes none of the cleared fields. -/
theorem State.get_endOverlay {f : Field} (h : availFields.all (·.apart f) = true) (hf : SAF_STATUS.FIRST_FAULT.apart f = true) (s : State) :
    s.endOverlay.get f = s.overlayCleared.get f :=
  (State.get_refreshPack h _).trans
    (State.onlyIf_induct (P := fun t => t.get f = s.overlayCleared.get f) _ _ rfl fun _ => State.get_set_apart hf _ _)

theorem State.endOverlay_frame (s : State) :
    OnlyRegisters [CHG_FLAGS.addr, CHG_STATUS.addr, SAF_FAULT.addr, SAF_STATUS.addr, SRC_STATUS.addr] s s.endOverlay :=
  .refreshPack (.onlyIf (.set (.mark (.set (.refl _ s)))) fun _ h => h.set)

theorem chgWdgExpClear_runs {s : State} {m : Master} (hm : s.mayWrite m = true) (he : s.is CHG_FLAGS.WDG_EXP = true) (hs : s.chg.served = true) :
    exec (.chgWdgExpClear m) s = .next s.endOverlay :=
  if_pos (by rw [hm, he, hs]; rfl)

theorem chgWdgExpClear_refused {s : State} (hs : s.chg.served = false) (m : Master) : exec (.chgWdgExpClear m) s = .next s :=
  if_neg (by simp [hs])

theorem chgWdgExpClear_fields {s : State} {m : Master} (hm : s.mayWrite m = true) (he : s.is CHG_FLAGS.WDG_EXP = true) (hs : s.chg.served = true) :
    ∃ t, exec (.chgWdgExpClear m) s = .next t ∧ t.is CHG_FLAGS.WDG_EXP = false ∧ t.is CHG_STATUS.WDG_SAFE = false ∧
      bitOf (t.get SAF_FAULT.FAULT) 16 = false ∧
      SameRegistersBut [CHG_FLAGS.addr, CHG_STATUS.addr, SAF_FAULT.addr, SAF_STATUS.addr, SRC_STATUS.addr] s t ∧ SameMemories s t := by
  obtain ⟨hexp, hsafe, hfault⟩ := s.overlayCleared_fields
  refine ⟨_, chgWdgExpClear_runs hm he hs, (State.is_of_get (s.get_endOverlay (by decide) (by decide))).trans hexp,
    (State.is_of_get (s.get_endOverlay (by decide) (by decide))).trans hsafe, ?_, s.endOverlay_frame.2, s.endOverlay_frame.memories⟩
  rw [State.get_endOverlay (by decide) (by decide)]
  exact hfault

/-! ### Removal and insertion of the pack (R158 to R160) -/

/-- The removal is reported: flag, timers and presence count. -/
def State.removalReported (s : State) : State :=
  let t := (s.raise CHG_FLAGS.PACK_REMOVED).resetTimers
  ({ t with chg := { t.chg with failing := 0, presentSince := none, qualifyAt := none, retryAt := none } } : State).refreshPack

/-- The state in which the pack is gone, before another source takes the rail. -/
def State.packRemoved (s : State) : State := (((s.chbMode 0).openPack).chgEnter 10).removalReported

theorem State.get_removalReported {f : Field} (h : availFields.all (·.apart f) = true) (he : CHG_ELAPSED.addr ≠ f.addr)
    (hr : CHG_FLAGS.PACK_REMOVED.apart f = true) (s : State) : s.removalReported.get f = s.get f :=
  (State.get_refreshPack h _).trans ((State.get_resetTimers he _).trans (State.get_raise_apart hr s))

theorem State.removalReported_fields {s : State} (h : s.chgState = 10) : s.removalReported.is CHG_FLAGS.PACK_REMOVED = true ∧
    s.removalReported.is CHG_STATUS.REV_AVAIL = false ∧ s.removalReported.rd CHG_ELAPSED.addr = 0 ∧ s.removalReported.chg.failing = 0 := by
  have hflag : (s.raise CHG_FLAGS.PACK_REMOVED).resetTimers.is CHG_FLAGS.PACK_REMOVED = true :=
    (State.is_of_get (State.get_resetTimers (by decide) _)).trans (State.is_raise_self rfl Nat.one_pos s)
  have hstate : (s.raise CHG_FLAGS.PACK_REMOVED).resetTimers.chgState = 10 :=
    (State.get_resetTimers (by decide) _).trans ((State.get_raise_apart (by decide) s).trans h)
  have htimers : (s.raise CHG_FLAGS.PACK_REMOVED).resetTimers.rd CHG_ELAPSED.addr = 0 := State.elapsed_resetTimers _
  exact ⟨(State.is_refreshPack (by decide) _).trans hflag, (State.rev_refreshPack _).trans (State.revAvail_absent hstate),
    (State.elapsed_refreshPack _).trans htimers, rfl⟩

theorem State.packRemoved_fields (s : State) : s.packRemoved.chgState = 10 ∧ s.packRemoved.is CHG_FLAGS.PACK_REMOVED = true ∧
    s.packRemoved.is CHB_STATUS.PACK_G_ON = false ∧ s.packRemoved.is CHG_STATUS.REV_AVAIL = false ∧ s.packRemoved.rd CHG_ELAPSED.addr = 0 ∧
    s.packRemoved.chg.failing = 0 := by
  have habsent : (((s.chbMode 0).openPack).chgEnter 10).chgState = 10 := State.chgState_chgEnter _ (by decide)
  obtain ⟨hflag, hrev, htimers, hfailing⟩ := State.removalReported_fields habsent
  refine ⟨(State.get_removalReported (by decide) (by decide) (by decide) _).trans habsent, hflag, ?_, hrev, htimers, hfailing⟩
  refine (State.is_of_get (State.get_removalReported (by decide) (by decide) (by decide) _)).trans ?_
  exact (State.chgEnter_only _ 10).is.trans (State.openPack_open _)

/-- Two failing samples remove the pack; as the primary it hands the rail over (R159). -/
theorem packRemoval_runs {s : State} (hf : 2 ≤ s.chg.failing) (h0 : s.chgState ≠ 0) (h10 : s.chgState ≠ 10) :
    exec .packRemoval s = .next (if s.get SRC_STATUS.PRIMARY = 3 then s.packRemoved.holdUp 2 else s.packRemoved) :=
  if_neg (by simp [Nat.not_lt.2 hf, h0, h10])

theorem packRemoval_absent {s : State} (h : s.chgState = 10) : exec .packRemoval s = .next s :=
  if_pos (by simp [h])

theorem packInserted_runs {s : State} {t0 : Nat} (hs : s.chgState = 10) (hp : s.chg.presentSince = some t0) (ht : t0 + ms 500 ≤ s.time) :
    exec .packInserted s = .next (s.raise CHG_FLAGS.PACK_INSERTED).qualify :=
  if_pos (by rw [hs, State.due_some hp, decide_eq_true ht]; rfl)

/-! ### Settling the statement of charge safety -/

/-- Settles O24: each command of the timers, of the charge watchdog and of pack presence leads to the state of its own lemma. -/
theorem chargeSafety : Obligations.ChargeSafety := by
  unfold Obligations.ChargeSafety
  refine ⟨?expiry, ?running, ?serves, ?wrongKey, ?wdgExpiry, ?counting, ?cleared, ?refused, ?removal, ?primary, ?absent, ?inserted, ?refAdd⟩
  case expiry => exact fun s src hs ht hd => safetyTimerExpiry_fields hs ht hd
  case running => exact fun s h => safetyTimerExpiry_none h
  case serves =>
    intro s m w hm hw
    have hregs : SameRegistersBut [CHG_WDG.REMAIN.addr] s s.wdgServed := .set (f := CHG_WDG.REMAIN) (.of_regs rfl) (.head _)
    exact ⟨_, chgWdgKick_serves hm hw, rfl, rfl, s.wdgServed_remain, hregs, rfl, rfl, rfl, rfl⟩
  case wrongKey =>
    exact fun s m w hm hw => ⟨_, chgWdgKick_wrongKey hm hw, State.get_countSat_self rfl s, (OnlyRegisters.refl _ s).set⟩
  case wdgExpiry => exact fun s hf hc hl hw => chgWdgExpiry_fields hf hc hl hw
  case counting => exact fun s hl => chgWdgExpiry_counting hl
  case cleared => exact fun s m hm he hs => chgWdgExpClear_fields hm he hs
  case refused => exact fun s m hs => chgWdgExpClear_refused hs m
  case removal =>
    intro s hf h0 h10 hp
    exact ⟨_, (packRemoval_runs hf h0 h10).trans (by rw [if_neg hp]), s.packRemoved_fields⟩
  case primary =>
    intro s hf h0 h10 hp
    obtain ⟨hstate, hflag, hopen, -⟩ := s.packRemoved_fields
    exact ⟨_, (packRemoval_runs hf h0 h10).trans (by rw [if_pos hp]), hstate, hflag, hopen⟩
  case absent => exact fun s h => packRemoval_absent h
  case inserted =>
    intro s t0 hs hp ht
    obtain ⟨hstate, -, -, hat, -, hflag⟩ := (s.raise CHG_FLAGS.PACK_INSERTED).qualify_fields
    exact ⟨_, packInserted_runs hs hp ht, hstate, hflag.trans (State.is_raise_self rfl Nat.one_pos s), hat⟩
  case refAdd => exact fun s => ⟨_, rfl, rfl, .of_regs rfl, ⟨rfl, rfl, rfl, rfl⟩, rfl⟩

end Sys2Proof.Machine
end
